-- ==== Sys2Proof/Word.lean ====
section
/-!
DEFINITION. The word types of the manual (R12, R13) and their plainest arithmetic: bit fields, sign extension,
little-endian and big-endian byte lists. Nothing here knows the machine.
-/

namespace Sys2Proof

/-- A byte. -/
abbrev Byte := BitVec 8

/-- A 64-bit control-space register or memory word (R15). -/
abbrev Word := BitVec 64

/-- A 32-bit lane register (R200). -/
abbrev Half := BitVec 32

/-- Bits `hi` to `lo` of a word, as a number (R12: bit 0 is the least significant). -/
def fieldNat {w : Nat} (x : BitVec w) (hi lo : Nat) : Nat :=
  (x.toNat >>> lo) % 2 ^ (hi + 1 - lo)

/-- Bit `i` of a word. -/
def bitAt {w : Nat} (x : BitVec w) (i : Nat) : Bool := x.getLsbD i

/-- A flag as a one-bit number. -/
def flagNat (b : Bool) : Nat := if b then 1 else 0

/-- A field value placed at bit `lo`. -/
def placed (v lo : Nat) : Nat := v <<< lo

/-- The signed reading of a number of `w` bits. -/
def signedNat (w n : Nat) : Int :=
  if n % 2 ^ w < 2 ^ (w - 1) then Int.ofNat (n % 2 ^ w) else Int.ofNat (n % 2 ^ w) - Int.ofNat (2 ^ w)

/-- The `n` low bytes of a number, least significant first (R13). -/
def leBytes : Nat → Nat → List Byte
  | 0, _ => []
  | n + 1, v => BitVec.ofNat 8 v :: leBytes n (v / 256)

/-- The number that a byte list spells, least significant byte first (R13). -/
def leNat : List Byte → Nat
  | [] => 0
  | b :: bs => b.toNat + 256 * leNat bs

/-- The `n` low bytes of a number, most significant first: the fabric's order (R13). -/
def beBytes (n v : Nat) : List Byte := (leBytes n v).reverse

/-- The number that a byte list spells, most significant byte first (R13). -/
def beNat (bs : List Byte) : Nat := leNat bs.reverse

/-- Element `i` of a list that a rule indexes, or the default beyond its end. -/
def nth {α : Type} (l : List α) (i : Nat) (d : α) : α := (l[i]?).getD d

/-- A number rounded up to a multiple of `m`. -/
def roundUp (n m : Nat) : Nat := (n + m - 1) / m * m

end Sys2Proof
end

