-- ==== Sys2Proof/Syntax.lean ====
section
/-!
DEFINITION. The commands and events of the block (spec/opcode_table.json), with the operands that each carries from
outside, and the operand types.
-/

namespace Sys2Proof

/-- A sub-group of a resident block's group: the thing that issues an instruction (R210). -/
structure SubRef where
  /-- Resident block (the model's own number). -/
  blk : Nat
  /-- Group of the block. -/
  grp : Nat
  /-- Sub-group of the group. -/
  sub : Nat
deriving DecidableEq, Repr

/-- A frame of the Glolys Transport: its header words as they lie on the wire, and its payload bytes. -/
structure Frame where
  w0 : Word
  w1 : Word
  w2 : Word
  w3 : Word
  payload : List Byte
deriving DecidableEq, Repr

/-- One control-space access: hart, offset, size in bytes, and whether it writes (R44). -/
structure CtrlAccess where
  hart : Nat
  offset : Nat
  size : Nat
  write : Bool
deriving DecidableEq, Repr

/-- A PTP time: seconds since 1970-01-01 TAI, nanoseconds, and ticks within the nanosecond (R61). -/
structure PtpTime where
  seconds : Nat
  nanos : Nat
  ticks : Nat
deriving DecidableEq, Repr

/-- The transports over which the device hears PTP (R60): Ethernet, UDP over IPv4 and UDP over IPv6. -/
inductive PtpTransport where
  | ethernet
  | ipv4
  | ipv6
deriving DecidableEq, Repr

/-- A PTP message from the management Ethernet, with its sequence ID (R60). -/
inductive PtpBody where
  /-- Sync of a one-step master carries its own time; that of a two-step master leaves it to the Follow_Up. -/
  | sync (seq : Nat) (origin : Option PtpTime)
  | followUp (seq : Nat) (origin : PtpTime)
  | delayResp (seq : Nat) (received : PtpTime)
  /-- Any other message: peer delay, management and announce messages among them, which set no time. -/
  | other
deriving DecidableEq, Repr

/-- A PTP message: transport, domain number, and what it says (R60). -/
structure PtpMessage where
  transport : PtpTransport
  domain : Nat
  body : PtpBody
deriving DecidableEq, Repr

/-- The symbols in error of the two codewords of a sector, numbered 0 to 35 (R549). -/
structure SymbolErrors where
  first : List Nat
  second : List Nat
deriving DecidableEq, Repr

/-- The symbols in error of the two codewords of a sector as its stack returns it, numbered 0 to 35 (R549). -/
structure SectorErrors where
  sector : Nat
  first : List Nat
  second : List Nat
deriving DecidableEq, Repr

/-- The copy of a row that a repair moves: the errors of the sectors as they are read, and whether the spare row reads back the same
(R556). -/
structure RowCopy where
  compareOk : Bool
  errors : List SectorErrors
deriving DecidableEq, Repr

/-- A compute die that is switched on again: whether its stacked interface trained, and the MT at which its clocks had stopped (R124,
R796). -/
structure DieReturn where
  linkOk : Bool
  stop : Nat
deriving DecidableEq, Repr

/-- The rails (R715): those of tile d serve its base die, its two stacks and its compute die. -/
inductive Rail where
  | standby
  | hub
  | base (d : Nat)
  | memory (d : Nat)
  | compute (d : Nat)
  | proc (p : Nat)
  | optical (k : Nat)
  | flash
deriving DecidableEq, Repr

/-- What one power stage reports over PMBus (R718): its rail, voltage in mV, current in mA, temperature in °C. -/
structure StageReading where
  rail : Rail
  millivolts : Nat
  milliamps : Nat
  celsius : Int
deriving DecidableEq, Repr

/-- A coherence message at a home or an agent: the agent, the line (physical address divided by 256), the sectors that a
request names, the context it counts to, the age that a fill is inserted at (R493, R498, R509, R704), and whether it is a hart's
cbo.zero, which asks for the line with ownership and no data (R502). -/
structure CohReq where
  agent : Nat
  line : Nat
  sectors : BitVec 4
  ctx : Option Nat
  age : Nat
  zero : Bool
deriving DecidableEq, Repr

/-- An atomic request at a home: agent, physical address, operation and width as R582 numbers them, operand and compare
value (R509, R525), and the context it counts to (R704). -/
structure AtomReq where
  agent : Nat
  addr : Nat
  ctx : Option Nat
  op : Nat
  width : Nat
  a : Nat
  c : Nat
deriving DecidableEq, Repr

/-- A management endpoint (R843 to R848): on I3C, or an address and port of the management Ethernet. -/
inductive Agent where
  | i3c (eid : Nat)
  | ether (addr : Nat) (port : Nat)
deriving DecidableEq, Repr

/-- What answers the traverse at a port of a die (R778 to R780): the asking die's code and port, the code that the die there
reads from its straps, and its port at which the query arrived. -/
structure TraverseAnswer where
  die : Nat
  port : Nat
  code : Nat
  back : Nat
deriving DecidableEq, Repr

/-- Lanes of a bundle, at port p of base die d, that training or a retrain finds bad, outbound and inbound (R788, R790). -/
structure LaneFaults where
  tile : Nat
  port : Nat
  bundle : Nat
  out : BitVec 68
  inn : BitVec 68
deriving DecidableEq, Repr

/-- What start-up finds in the package, none of which the spec lets the state decide (R753, R773, R781, R788, R840, R51). -/
structure StartInputs where
  /-- The firmware slot does not read without a flash error (R752). -/
  flashError : Bool
  /-- Answers to the traverse. Where none is listed nothing answers. -/
  answers : List TraverseAnswer
  /-- Lanes that fail training. -/
  lanes : List LaneFaults
  /-- Bundles, as tile, port and number, whose near-end loopback test of that tile fails (R791). -/
  loopFails : List (Nat × Nat × Nat)
  /-- Stacks that train. -/
  trained : BitVec 16
  /-- Compute dies whose stacked interface trains. -/
  computes : BitVec 8
  /-- Clusters of each tile that work. -/
  clusters : List (BitVec 24)
  /-- Firmware version that each optical engine reports (R773). -/
  optics : List Nat
deriving DecidableEq, Repr

/-- What one context met in a saturation window (R707, R708): the cycles in which a request of it waited at a shared point that
served another partition, those of them at pseudo-channels, at die links and at fabric ports, and by partition served. -/
structure Clash where
  ctx : Nat
  cycles : Nat
  kinds : List Nat
  others : List Nat
deriving DecidableEq, Repr

/-- One command or event of the opcode table per constructor, in the table's order. -/
inductive Instr where
  /-- POWER_ON (R840). Input power reaches 42 V for 10 ms; VSTBY comes up, SLOT_ID is latched and start-up begins. -/
  | powerOn (slot : Nat) (found : StartInputs)
  /-- POWER_LOSS (R769). Input power and VSTBY fall, so the next boot is an unclean reset. -/
  | powerLoss
  /-- TIME_WAIT_EXPIRY (R62). The hub's wait of up to 10 s for PTP, PPS and reference ends; the processor dies are released in state HALL or FREE. -/
  | timeWaitExpiry
  /-- RESET_ASSERT (R832). RESET_N held low for at least 1 ms causes a module reset: lasers dark, FAULT_N asserted, rails off and last-gasp SRAMs frozen. -/
  | resetAssert
  /-- RESET_RELEASE (R832). RESET_N rises and start-up resumes at step 2. -/
  | resetRelease (found : StartInputs)
  /-- INPUT_UNDERVOLTAGE (R719). The input stays below 46 V for 10 µs; the power manager gates to 4,200 W and sets REASON.INPUT. -/
  | inputUndervoltage
  /-- INPUT_FAULT_RESET (R719). The input stays below 42 V for 100 µs or above 60 V for 1 µs, and a module reset follows. -/
  | inputFaultReset
  /-- RAIL_FAULT (R719). A power stage reports a fault; the die, stacks, processor die or optical engine leaves service, or the module resets. -/
  | railFault (rail : Rail)
  /-- THERMAL_TRIP (R837). A die or stack reaches 115 °C; THERM_TRIP_N asserts and every rail but VSTBY is switched off. -/
  | thermalTrip
  /-- POWER_SAMPLE (R722). Each microsecond the input monitor samples voltage and current and adds the energy to PWR_ENERGY. -/
  | powerSample (vin : Nat) (watts : Nat) (load : Nat) (busy : Bool) (cycles : Nat)
  /-- PMBUS_POLL (R718). Every 100 µs the hub reads voltage, current and temperature of every power stage. -/
  | pmbusPoll (readings : List StageReading)
  /-- ENERGY_APPORTION (R745). At each whole millisecond of MT the measured energy is divided among contexts by engine-time weight, and the remainder goes to PWR_UNAPP. -/
  | energyApportion
  /-- TARGET_RESTORE (R732). Ten milliseconds after the required clock last lay lower, TARGET returns to the highest clock that the required clock allows. -/
  | targetRestore
  /-- THROTTLE_ORIGINATE (R731). While the required clock lies below 1,400 MHz, a group member originates a THROTTLE notice every 4 ms. -/
  | throttleOriginate
  /-- THROTTLE_EXPIRY (R643). A THROTTLE notice becomes inactive 10 ms after its stake, and the group target is recomputed. -/
  | throttleExpiry (origin : Nat) (nseq : Nat)
  /-- CLOCK_STEP (R645). Every 100 µs the plumb clock moves by at most 100 MHz toward its target. -/
  | clockStep
  /-- HEAVY_HANDOVER_TIMEOUT (R739). Real work has not raised the draw to TARGET_W within 1 ms of the phase time, so levelling ramps down. -/
  | heavyHandoverTimeout
  /-- PPS_EDGE (R116). A rising edge on MT_PPS_IN either steers time or serves as a trace trigger. -/
  | ppsEdge (stamp : Nat)
  /-- PPS_OUT (R838). At each whole second of MT the device drives MT_PPS_OUT while it is enabled and the state allows. -/
  | ppsOut
  /-- PTP_MESSAGE (R855). A PTP message on the management Ethernet updates PTP_LOCK and hall-time steering. -/
  | ptpMessage (message : PtpMessage) (stamp : Nat)
  /-- REF_LOSS (R63). MT_REF has been absent for more than 1 ms; the device counts from its oscillator and enters HOLDOVER. -/
  | refLoss
  /-- REF_RETURN (R64). The reference returns; the hub relocks, enters HALL or FREE and reruns backsight when a datum is recorded. -/
  | refReturn
  /-- FORWARD_STEP (R83). A pending forward step of more than 1 µs is applied once no comparator is armed. -/
  | forwardStep
  /-- SLEW_END (R85). A correction finishes slewing; SLEWING clears and the device enters ALIGNED. -/
  | slewEnd
  /-- BACKSIGHT_REPEAT (R96). Every 100 ms a non-datum device repeats 16 exchanges with its parent and slews the correction it finds. -/
  | backsightRepeat
  /-- ALIGNED_NOTICE_REPEAT (R93). Every 1 ms an ALIGNED device repeats its ALIGNED notice on every live DIRECT port. -/
  | alignedNoticeRepeat
  /-- HALL_CORRECTION (R97). Once per second the datum sends its hall correction down the tree with a stake at least 10 ms ahead;
  `ahead` is by how many ticks more. -/
  | hallCorrection (ahead : Nat)
  /-- PARENT_REMEASURE_TIMEOUT (R98). A retrained parent port is not re-measured within 10 ms, and the device enters UNALIGNED. -/
  | parentRemeasureTimeout
  /-- COMPARATOR_FIRE (R103). An armed comparator's replica reaches its stake, and the comparator fires its event with the stake as stamp. -/
  | comparatorFire (location : Nat) (index : Nat)
  /-- TIMER_QUEUE_EXPIRY (R106). An entry of the firmware timer queue falls due: a mailbox timeout, a staked start or a stake held without a comparator. -/
  | timerQueueExpiry
  /-- STAKE_ALLOC_PASS (R109). The control processor serves pending comparator allocations by rank and arrival, granting, displacing or refusing them. -/
  | stakeAllocPass
  /-- COMMAND_TAKE (R143). The hub takes a posted command, sets STATE to BUSY and copies the header and arguments. -/
  | commandTake
  /-- COMMAND_TIMEOUT (R147). A command reaches its time limit and ends with TIMEOUT. -/
  | commandTimeout (mbx : Nat)
  /-- MBX_POST (R141). A write of MBX_HDR with STATE POSTED from IDLE or DONE posts a command, or replaces a posted one. -/
  | mbxPost (mbx : Nat) (hdr : Word)
  /-- MBX_WITHDRAW (R857). A write of MBX_HDR with STATE IDLE while POSTED withdraws the command. -/
  | mbxWithdraw (mbx : Nat) (hdr : Word)
  /-- MBX_RETURN_IDLE (R144). A write of MBX_HDR with STATE IDLE while DONE returns the mailbox to IDLE. -/
  | mbxReturnIdle (mbx : Nat) (hdr : Word)
  /-- MBX_IRQ_WRITE (R858). A write to MBX_IRQ sets the interrupt routing; a HART above 143 is ignored. -/
  | mbxIrqWrite (mbx : Nat) (value : Word)
  /-- CLAIM (R193). A write of CLAIM to MBX_BEAT starts a new host instance, ending the previous one with the host-loss reset. -/
  | claim (value : Word) (stamp : Nat)
  /-- BEAT (R195). A heartbeat write renews the loss deadline, or increments STALE. -/
  | beat (value : Word) (stamp : Nat)
  /-- HOST_LOSS_DEADLINE (R198). The loss deadline passes; LIVE clears, the instance's contexts are torn down and HOST_LOST is posted. -/
  | hostLossDeadline
  /-- IDENTIFY (R184). Returns ID_DEVICE, protocol and firmware versions, node ID and epoch, and PLAT_POS. -/
  | identify (mbx : Nat)
  /-- QUERY_CAPS (R184). Returns ID_TOPO, ID_STACK, the cluster live sets and the free contexts and watcher entries. -/
  | queryCaps (mbx : Nat)
  /-- CTX_OPEN (R681). Opens the lowest CLOSED context with its tables, partition, mailbox, quota and interrupt routing. -/
  | ctxOpen (mbx : Nat)
  /-- CTX_CLOSE (R689). Tears down an OPEN context with cause OK, or waits for a teardown, then unbinds it and sets it CLOSED. -/
  | ctxClose (mbx : Nat)
  /-- CTX_QUERY (R864). Returns a context's state, mailbox, partition and teardown cause. -/
  | ctxQuery (mbx : Nat)
  /-- LIST_REGISTER (R188). Registers an easement buffer's header line with the flag watcher. -/
  | listRegister (mbx : Nat)
  /-- WATCH_FLAG (R188). Registers a flag line with the flag watcher. -/
  | watchFlag (mbx : Nat)
  /-- UNWATCH_FLAG (R186). Removes a watcher registration. -/
  | unwatchFlag (mbx : Nat)
  /-- TLB_INVALIDATE (R462). Drops a context's translations of a range and waits for accesses that used them. -/
  | tlbInvalidate (mbx : Nat)
  /-- FAULT_REPLAY (R474). Clears a pending replayable fault record and restarts a walk for every access waiting on it. -/
  | faultReplay (mbx : Nat)
  /-- MT_QUERY (R184). Returns MT_NOW, MT_STATUS, MT_OFFSET and MT_DATUM. -/
  | mtQuery (mbx : Nat)
  /-- STAKE_ALLOC (R110). Requests a comparator allocation at a location and class for a stake. -/
  | stakeAlloc (mbx : Nat)
  /-- STAKE_FREE (R856). Frees a comparator allocation that belongs to the caller. -/
  | stakeFree (mbx : Nat)
  /-- BACKSIGHT_RUN (R92). Runs a full backsight to the named datum: exchanges, parent choice, notices, then slew or step to ALIGNED. -/
  | backsightRun (mbx : Nat)
  /-- ROUTE_SET (R575). Writes route words for a run of nodes and clears their unreachable marks. -/
  | routeSet (mbx : Nat)
  /-- TIE_SET (R481). Opens, replaces or closes a tie window atomically. -/
  | tieSet (mbx : Nat)
  /-- EPOCH_SET (R611). Sets the epoch that this device knows for a node at once and resets its flows. -/
  | epochSet (mbx : Nat)
  /-- WITNESS_BIND (R606). Schedules a binding of a logical ID to a PLAT_POS with a new epoch at a stake. -/
  | witnessBind (mbx : Nat)
  /-- LAUNCH_OFFER (R622). The root checks the descriptor and sends the launch offer down the tree, completing with the acknowledgement outcome. -/
  | launchOffer (mbx : Nat)
  /-- LAUNCH_COMMIT (R623). Commits an acknowledged launch attempt with a start stake. -/
  | launchCommit (mbx : Nat)
  /-- LAUNCH_ABORT (R623). Aborts a launch attempt at an abort stake. -/
  | launchAbort (mbx : Nat)
  /-- LAUNCH_DEADLINE (R622). The acknowledgement deadline passes at the root, and LAUNCH_OFFER ends with DEST_LOST. -/
  | launchDeadline
  /-- PLUMB_JOIN (R640). Joins a plumb group, and at the stake sets the group clock. -/
  | plumbJoin (mbx : Nat)
  /-- PLUMB_LEAVE (R640). Ends plumb-group membership at once. -/
  | plumbLeave (mbx : Nat)
  /-- MONUMENT_START (R659). Validates a manifest and schedules a monument at its stake. -/
  | monumentStart (mbx : Nat)
  /-- MONUMENT_QUERY (R666). Returns the state, status and bytes per layer of a monument or restore. -/
  | monumentQuery (mbx : Nat)
  /-- RESTORE (R667). Schedules a restore of a monument image from a layer at a stake. -/
  | restore (mbx : Nat)
  /-- MONUMENT_SEAL (R657). A layer's image has been fully acknowledged or written; its seal is written and the state advances. -/
  | monumentSeal (id : Nat) (layer : Nat)
  /-- LAYER_FAILURE (R664). A layer's write fails; its FAILED bit sets and capture or drain moves on. -/
  | layerFailure (id : Nat) (layer : Nat) (status : Nat)
  /-- RESTORE_COMPLETE (R669). The image has been read; the digest is checked, and cursor and streams are written and the state becomes RESTORED. -/
  | restoreComplete (id : Nat)
  /-- PART_SET (R693). Sets the partition map and records the interleave setting for the next reset. -/
  | partSet (mbx : Nat)
  /-- REG_SET (R695). Sets the rate and burst of a partition's stack or port bucket and fills it. -/
  | regSet (mbx : Nat)
  /-- ACCT_READ (R700). Latches and returns a context's accounting record. -/
  | acctRead (mbx : Nat)
  /-- PWR_SET_LIMIT (R726). Sets the sustained and peak limits for the issuing mailbox. -/
  | pwrSetLimit (mbx : Nat)
  /-- PWR_HINT (R736). Registers a PHASE_HEAVY or PHASE_LIGHT hint at a phase time. -/
  | pwrHint (mbx : Nat)
  /-- PWR_MODE (R742). Selects plumb or critical-path mode and sets the critical mark. -/
  | pwrMode (mbx : Nat)
  /-- ATTEST (R771). Signs and writes an attestation report with the next state index. -/
  | attest (mbx : Nat)
  /-- FW_BEGIN (R764). Opens a firmware update session and clears the staging buffer. -/
  | fwBegin (mbx : Nat)
  /-- FW_CHUNK (R765). Copies image bytes into the staging buffer. -/
  | fwChunk (mbx : Nat)
  /-- FW_COMMIT (R765). Checks, programs and verifies the staged image, and activates it live where allowed. -/
  | fwCommit (mbx : Nat) (verified : Bool)
  /-- FW_SESSION_TIMEOUT (R764). An update session ends after 10 s without an FW_ command from its holder. -/
  | fwSessionTimeout
  /-- TRACE_SET (R819). Sets a trace unit's buffer, mode, categories, quota and sampling. -/
  | traceSet (mbx : Nat)
  /-- TRACE_ENABLE (R819). Starts a trace unit at slot 0 and clears WRAPPED. -/
  | traceEnable (mbx : Nat)
  /-- TRACE_DISABLE (R819). Stops a trace unit once its FIFO has drained to the buffer. -/
  | traceDisable (mbx : Nat)
  /-- TRACE_DUMP (R823). Copies a unit's last-gasp SRAM to HBM as a closing write. -/
  | traceDump (mbx : Nat)
  /-- TRACE_RELEASE (R823). Unfreezes a unit's last-gasp SRAM. -/
  | traceRelease (mbx : Nat)
  /-- TRACE_ARM (R821). Arms, replaces or disarms the package trace trigger. -/
  | traceArm (mbx : Nat)
  /-- COUNTER_CONFIG (R807). Selects, clears or releases a programmable counter of a partition's clusters. -/
  | counterConfig (mbx : Nat)
  /-- DIE_SERVICE (R796). Drains a compute die, switches it off and on, retests its clusters and returns it. -/
  | dieService (mbx : Nat)
  /-- DIE_SERVICE_DRAINED (R796). The last resident block of the serviced die ends, and power-off and retest proceed. -/
  | dieServiceDrained (passed : Nat) (back : DieReturn)
  /-- DIE_SERVICE_TIMEOUT (R797). The drain has not ended 12 s after the take; the die is restored and the command ends with TIMEOUT. -/
  | dieServiceTimeout
  /-- STACK_REPAIR (R556). Pauses a channel and replaces a row with a spare row by soft repair. -/
  | stackRepair (mbx : Nat)
  /-- STACK_REPAIR_DRAINED (R556). The paused channel's tracked requests and writes complete, and the row is copied and substituted. -/
  | stackRepairDrained (moved : RowCopy)
  /-- BAD_ACCESS (R44). A control-space access of the wrong size or to a reserved offset is refused, faults the hart and is captured in ID_BADACC. -/
  | badAccess (accesses : List CtrlAccess) (clearing : Bool)
  /-- HOST_RESERVED_ACCESS (R38). A host access to a reserved address or to HBM beyond HBM_GIB raises an access fault. -/
  | hostReservedAccess (hart : Nat) (addr : Nat)
  /-- PPS_TIME_WRITE (R118). A write of MT_CTRL.PPS_TIME assigns MT_PPS_IN to time, revoking a trigger, or releases it. -/
  | ppsTimeWrite (value : Word)
  /-- NONCRIT_WRITE (R724). A write to PWR_CTRL.NONCRIT sets it, or is ignored when out of range. -/
  | noncritWrite (value : Word)
  /-- QUAR_RELEASE (R600). Writing 1 to FAB_PORTp.QUAR releases a quarantined port and clears its violation count. -/
  | quarRelease (port : Nat)
  /-- FROZEN_CLEAR (R823). Writing 1 to TRC_STATUSu.FROZEN unfreezes the last-gasp SRAM. -/
  | frozenClear (unit : Nat)
  /-- REGISTER_WRITE (R16). A write to a register without a row of its own acts by the access codes of its fields. -/
  | registerWrite (hart : Nat) (offset : Nat) (value : Word)
  /-- FLAG_WAKE (R163). A registered flag line is invalidated; the watcher retakes and re-reads it and acts on the value. -/
  | flagWake (watch : Nat)
  /-- STAKED_DISPATCH (R129). The timer queue releases a staked entry 50 µs before its stake for block placement. -/
  | stakedDispatch (watch : Nat) (entry : Nat)
  /-- NOP_ENTRY (R168). A NOP entry starts and completes. -/
  | nopEntry (watch : Nat) (entry : Nat)
  /-- DISPATCH (R202). A DISPATCH entry checks its kernel header and limits and places its blocks. -/
  | dispatch (watch : Nat) (entry : Nat)
  /-- COPY (R383). A COPY entry moves and converts bytes between addresses. -/
  | copy (watch : Nat) (entry : Nat)
  /-- WRITE (R171). A WRITE entry stores a value as a closing write. -/
  | write (watch : Nat) (entry : Nat)
  /-- WAIT (R172). A WAIT entry evaluates a watched word against its comparison. -/
  | wait (watch : Nat) (entry : Nat)
  /-- WAIT_DEADLINE (R172). A WAIT entry's deadline passes first and it completes with TIMEOUT. -/
  | waitDeadline (watch : Nat) (entry : Nat)
  /-- FENCE_ENTRY (R173). A FENCE entry completes when every earlier entry has completed. -/
  | fenceEntry (watch : Nat) (entry : Nat)
  /-- MARK (R809). A MARK entry produces a mark record in the hub trace unit. -/
  | mark (watch : Nat) (entry : Nat)
  /-- HINT (R736). A HINT entry registers a power hint at its start plus its lead time. -/
  | hint (watch : Nat) (entry : Nat)
  /-- ENTRY_COMPLETE (R181). An entry's last data write is visible; its record is written as a closing write and later entries may start. -/
  | entryComplete (watch : Nat) (entry : Nat)
  /-- BLOCK_PLACE (R27). A cluster with room for all groups and block memory starts a block. -/
  | blockPlace (watch : Nat) (entry : Nat) (cluster : Nat)
  /-- BLOCK_STAKE_RELEASE (R130). A placed block of a staked command starts its first issue when the replica reaches the stake. -/
  | blockStakeRelease (blk : Nat)
  /-- BLOCK_END (R237). A block ends once all its groups have ended and its copies have landed. -/
  | blockEnd (blk : Nat)
  /-- EXCEPTION (R307). An instruction raises an exception; the group stops, records are written and the context is torn down. -/
  | exception (r : SubRef)
  /-- CONTEXT_TEARDOWN (R686). A context is torn down: groups are discarded, resources released, records written, translations dropped and a notice posted. -/
  | contextTeardown (ctx : Nat) (cause : Nat)
  /-- ADD (R269). Integer add. -/
  | add (r : SubRef)
  /-- SUB (R269). Integer subtract. -/
  | sub (r : SubRef)
  /-- MUL_LO (R269). Integer multiply, low half. -/
  | mulLo (r : SubRef)
  /-- MUL_HI (R271). Integer multiply, high half, signed or unsigned. -/
  | mulHi (r : SubRef)
  /-- DIV (R272). Integer divide, with defined results for zero and overflow. -/
  | div (r : SubRef)
  /-- REM (R272). Integer remainder. -/
  | rem (r : SubRef)
  /-- AND (R269). Bitwise and. -/
  | and (r : SubRef)
  /-- OR (R269). Bitwise or. -/
  | or (r : SubRef)
  /-- XOR (R269). Bitwise exclusive or. -/
  | xor (r : SubRef)
  /-- SHL (R272). Shift left by a count modulo the width. -/
  | shl (r : SubRef)
  /-- SHR (R271). Logical or arithmetic shift right. -/
  | shr (r : SubRef)
  /-- MIN (R271). Integer minimum. -/
  | min (r : SubRef)
  /-- MAX (R271). Integer maximum. -/
  | max (r : SubRef)
  /-- CMP (R271). Integer comparison writing 1 or 0. -/
  | cmp (r : SubRef)
  /-- SEL (R271). Selects SRC1 or the second operand by a condition operand. -/
  | sel (r : SubRef)
  /-- MOV (R269). Integer move. -/
  | mov (r : SubRef)
  /-- LANE_ID (R271). Writes the lane number to a lane register. -/
  | laneId (r : SubRef)
  /-- RDLANE (R270). Copies the lowest active lane's value into a scalar register. -/
  | rdlane (r : SubRef)
  /-- POPC (R269). Population count. -/
  | popc (r : SubRef)
  /-- CLZ (R269). Count of leading zeros. -/
  | clz (r : SubRef)
  /-- FADD (R273). Floating-point add. -/
  | fadd (r : SubRef)
  /-- FSUB (R273). Floating-point subtract. -/
  | fsub (r : SubRef)
  /-- FMUL (R273). Floating-point multiply. -/
  | fmul (r : SubRef)
  /-- FFMA (R273). Fused multiply-add. -/
  | ffma (r : SubRef)
  /-- FDIV (R274). Correctly rounded floating-point divide. -/
  | fdiv (r : SubRef)
  /-- FSQRT (R274). Correctly rounded square root. -/
  | fsqrt (r : SubRef)
  /-- FMIN (R273). minimumNumber. -/
  | fmin (r : SubRef)
  /-- FMAX (R273). maximumNumber. -/
  | fmax (r : SubRef)
  /-- FCMP (R273). Floating-point comparison with quiet or signalling conditions. -/
  | fcmp (r : SubRef)
  /-- FCVT (R865). Converts between floating-point types, including packed pairs. -/
  | fcvt (r : SubRef)
  /-- FCVT_I (R393). Converts a float to a saturating signed integer. -/
  | fcvtI (r : SubRef)
  /-- FCVT_F (R394). Converts a signed integer to a float. -/
  | fcvtF (r : SubRef)
  /-- BR (R276). Relative branch. -/
  | br (r : SubRef)
  /-- BR_C (R277). Conditional branch that splits the sub-group on a lane condition. -/
  | brC (r : SubRef)
  /-- BR_R (R276). Branch to an absolute address in a scalar register. -/
  | brR (r : SubRef)
  /-- CALL (R279). Relative call, within the call-depth limit. -/
  | call (r : SubRef)
  /-- CALL_R (R279). Call to an address in a scalar register. -/
  | callR (r : SubRef)
  /-- RET (R279). Return from a call. -/
  | ret (r : SubRef)
  /-- EXIT (R214). Ends the active lanes, passing the issuer role where needed. -/
  | exit (r : SubRef)
  /-- TRAP (R280). Raises TRAP with the IMM code. -/
  | trap (r : SubRef)
  /-- NOP (R280). Does nothing. -/
  | nop (r : SubRef)
  /-- LD_B8 (R283). Loads 8 bits per lane. -/
  | ldB8 (r : SubRef)
  /-- LD_B16 (R283). Loads 16 bits per lane. -/
  | ldB16 (r : SubRef)
  /-- LD_B32 (R283). Loads 32 bits per lane. -/
  | ldB32 (r : SubRef)
  /-- LD_B64 (R287). Loads 64 bits per lane into a pair. -/
  | ldB64 (r : SubRef)
  /-- LD_B128 (R287). Loads 128 bits per lane into a quad. -/
  | ldB128 (r : SubRef)
  /-- LD_S8 (R287). Loads 8 bits sign-extended. -/
  | ldS8 (r : SubRef)
  /-- LD_S16 (R287). Loads 16 bits sign-extended. -/
  | ldS16 (r : SubRef)
  /-- ST_B8 (R287). Stores 8 bits per lane. -/
  | stB8 (r : SubRef)
  /-- ST_B16 (R287). Stores 16 bits per lane. -/
  | stB16 (r : SubRef)
  /-- ST_B32 (R287). Stores 32 bits per lane. -/
  | stB32 (r : SubRef)
  /-- ST_B64 (R287). Stores 64 bits per lane from a pair. -/
  | stB64 (r : SubRef)
  /-- ST_B128 (R287). Stores 128 bits per lane from a quad. -/
  | stB128 (r : SubRef)
  /-- ATOM_ADD (R288). Atomic integer add. -/
  | atomAdd (r : SubRef)
  /-- ATOM_MIN_U (R288). Atomic unsigned minimum. -/
  | atomMinU (r : SubRef)
  /-- ATOM_MAX_U (R288). Atomic unsigned maximum. -/
  | atomMaxU (r : SubRef)
  /-- ATOM_MIN_S (R288). Atomic signed minimum. -/
  | atomMinS (r : SubRef)
  /-- ATOM_MAX_S (R288). Atomic signed maximum. -/
  | atomMaxS (r : SubRef)
  /-- ATOM_AND (R288). Atomic and. -/
  | atomAnd (r : SubRef)
  /-- ATOM_OR (R288). Atomic or. -/
  | atomOr (r : SubRef)
  /-- ATOM_XOR (R288). Atomic exclusive or. -/
  | atomXor (r : SubRef)
  /-- ATOM_EXCH (R288). Atomic exchange. -/
  | atomExch (r : SubRef)
  /-- ATOM_CAS (R288). Atomic compare-and-swap. -/
  | atomCas (r : SubRef)
  /-- ATOM_FADD (R289). Atomic floating-point add rounded to nearest even. -/
  | atomFadd (r : SubRef)
  /-- ATOM_XADD (R290). Adds an anchored accumulator tile into anchored cells in memory. -/
  | atomXadd (r : SubRef)
  /-- FENCE (R248). Orders the thread's earlier accesses before its later ones at the named scope. -/
  | fence (r : SubRef)
  /-- BAR_GROUP (R216). A lane arrives at a group barrier. -/
  | barGroup (r : SubRef)
  /-- BAR_GROUP_RELEASE (R217). Every live lane has arrived and earlier collectives have completed; all are released in one cycle. -/
  | barGroupRelease (blk : Nat) (grp : Nat)
  /-- BAR_BLOCK (R218). A group arrives at a block barrier. -/
  | barBlock (r : SubRef)
  /-- BAR_BLOCK_RELEASE (R218). Every live group of the block has arrived and the block barrier releases. -/
  | barBlockRelease (blk : Nat)
  /-- ARR_WAIT (R231). Holds the sub-group until an arrival counter reaches a value. -/
  | arrWait (r : SubRef)
  /-- ARR_WAIT_RELEASE (R232). The counter reaches the value, and the sub-group is released with acquire at block scope. -/
  | arrWaitRelease (r : SubRef)
  /-- XFER_CV (R293). Hands the copy engine one transfer with optional conversion and arrival counter. -/
  | xferCv (r : SubRef)
  /-- COPY_LAND (R229). Destination bytes of a copy land, and the arrival counter is incremented by their count. -/
  | copyLand (blk : Nat) (copy : Nat) (lo : Nat) (count : Nat)
  /-- STAKE_WAIT (R132). Holds a group until its cluster's replica reaches the operand. -/
  | stakeWait (r : SubRef)
  /-- STAKE_WAIT_RELEASE (R132). The replica reaches the operand, and the group is released within one plumb cycle. -/
  | stakeWaitRelease (r : SubRef)
  /-- MT_READ (R295). Reads the cluster's replica into a scalar register. -/
  | mtRead (r : SubRef)
  /-- MARK_BEGIN (R809). Produces a begin mark record in the tile's trace unit. -/
  | markBegin (r : SubRef)
  /-- MARK_END (R809). Produces an end mark record in the tile's trace unit. -/
  | markEnd (r : SubRef)
  /-- SR_READ (R297). Reads a group status register into a scalar register. -/
  | srRead (r : SubRef)
  /-- SR_WRITE (R297). Writes a group status register. -/
  | srWrite (r : SubRef)
  /-- SR_CLR (R297). Clears W1C bits of a group status register. -/
  | srClr (r : SubRef)
  /-- MMA_MX8 (R312). MXFP8 matrix multiply-accumulate. -/
  | mmaMx8 (r : SubRef)
  /-- MMA_MX6 (R312). MXFP6 matrix multiply-accumulate. -/
  | mmaMx6 (r : SubRef)
  /-- MMA_MX4 (R312). MXFP4 matrix multiply-accumulate. -/
  | mmaMx4 (r : SubRef)
  /-- MMA_XI8 (R312). MXINT8 matrix multiply-accumulate. -/
  | mmaXi8 (r : SubRef)
  /-- MMA_SF32 (R357). FP32 matrix product from 8-bit slices into an anchored tile. -/
  | mmaSf32 (r : SubRef)
  /-- MMA_SF64 (R358). FP64 matrix product from 8-bit slices into an anchored tile. -/
  | mmaSf64 (r : SubRef)
  /-- ACC_ANCHOR (R343). Sets an accumulator tile to the anchored form with an anchor, or a pending one. -/
  | accAnchor (r : SubRef)
  /-- ACC_READ (R352). Writes an accumulator tile to block memory as FP32, FP64 or raw. -/
  | accRead (r : SubRef)
  /-- ACC_ZERO (R335). Sets an accumulator tile to the FP32 form with every element zero. -/
  | accZero (r : SubRef)
  /-- MATRIX_OP_COMPLETE (R315). A matrix instruction finishes its last step and its results become readable. -/
  | matrixOpComplete (blk : Nat) (grp : Nat)
  /-- ACCUMULATOR_GRANT (R320). The accumulator pair is free and passes to the longest-resident waiting group. -/
  | accumulatorGrant (cluster : Nat) (core : Nat)
  /-- VEP_LOAD (R411). Loads an element program into a slot. -/
  | vepLoad (r : SubRef)
  /-- VEP_RUN (R422). Runs an element program over a stream of operands. -/
  | vepRun (r : SubRef)
  /-- VPERM (R440). Permutes tile elements by an index tile. -/
  | vperm (r : SubRef)
  /-- VLD_T (R407). Loads a tile register from memory by rows. -/
  | vldT (r : SubRef)
  /-- VST_T (R409). Stores a tile register to memory by rows. -/
  | vstT (r : SubRef)
  /-- VSUM_ANY (R443). Writes 1 when any element is non-zero. -/
  | vsumAny (r : SubRef)
  /-- VSUM_ALL (R443). Writes 1 when every element is non-zero. -/
  | vsumAll (r : SubRef)
  /-- VSUM_COUNT (R443). Writes the count of non-zero elements. -/
  | vsumCount (r : SubRef)
  /-- VSUM_MIN (R444). Writes the minimum of the elements. -/
  | vsumMin (r : SubRef)
  /-- VSUM_MAX (R444). Writes the maximum of the elements. -/
  | vsumMax (r : SubRef)
  /-- VSUM_FIRST (R443). Writes the index of the first non-zero element. -/
  | vsumFirst (r : SubRef)
  /-- VECTOR_OP_COMPLETE (R431). A tile-vector instruction finishes its last beat and its results become readable. -/
  | vectorOpComplete (blk : Nat) (grp : Nat)
  /-- WALK (R448). The walker completes a page-table walk into a TLB entry or a fault. -/
  | walk (request : Nat)
  /-- GETS (R505). A home takes a request for a shared copy and grants E, P or S. -/
  | gets (req : CohReq)
  /-- GETX (R509). A home takes a request for data with ownership. -/
  | getx (req : CohReq)
  /-- COHERENCE_CLAIM (R516). A home takes a Claim of ownership of a line held in S or P. -/
  | coherenceClaim (req : CohReq)
  /-- GLANCE (R509). A home takes a non-caching read. -/
  | glance (req : CohReq)
  /-- PLACE (R509). A home takes a non-caching write. -/
  | place (req : CohReq) (offset : Nat) (bytes : List Byte)
  /-- ATOM (R525). A home takes an atomic and performs it at its L2 or forwards it to the memory ALU. -/
  | atom (req : AtomReq)
  /-- VACATE (R512). A home takes a clean eviction notice. -/
  | vacate (req : CohReq)
  /-- SPILL (R512). A home takes a dirty eviction. -/
  | spill (req : CohReq)
  /-- PROBE_GIVE (R509). A holder takes a probe to supply sectors and keep the line as R505 gives. -/
  | probeGive (req : CohReq)
  /-- PROBE_KILL (R509). A holder takes a probe to invalidate, returning dirty sectors. -/
  | probeKill (req : CohReq)
  /-- REPLY (R516). A home takes a probe reply. -/
  | reply (req : CohReq)
  /-- GRANT (R509). A requester takes a grant or an atomic's old value. -/
  | grant (req : CohReq)
  /-- SEATED (R511). A home takes a Seated message and frees the line, serving reserved requests. -/
  | seated (req : CohReq)
  /-- RETRY (R513). A requester takes a Retry, possibly RESERVED. -/
  | retry (req : CohReq)
  /-- RETRY_RESEND (R513). The backoff after a Retry expires and the request is sent again. -/
  | retryResend (req : CohReq)
  /-- CARGO (R509). A requester takes sector data. -/
  | cargo (req : CohReq)
  /-- SPILL_CARGO (R516). A home takes dirty sectors. -/
  | spillCargo (req : CohReq)
  /-- PREDICTOR_DECAY (R528). Every 65,536 plumb cycles each home decrements every non-zero contention count. -/
  | predictorDecay
  /-- READ_AGE_PROMOTE (R539). A BULK or BACKGROUND read waiting 8 µs is served as CRIT. -/
  | readAgePromote (req : Nat)
  /-- PATROL_SCRUB (R552). The patrol scrubber reads each sector once every 24 h, correcting or poisoning. -/
  | patrolScrub (sector : Nat) (errors : SymbolErrors)
  /-- REFRESH (R553). The controller issues per-bank refresh and refresh management. -/
  | refresh (stack : Nat) (channel : Nat) (pseudo : Nat) (bank : Nat) (manage : Bool)
  /-- SATURATION_WINDOW (R561). Every 1,024 plumb cycles saturation counters for stacks and die-link ports are judged. -/
  | saturationWindow (full : List Nat) (empty : List Nat) (clashes : List Clash)
  /-- RX_WRITE (R593). The destination checks and performs a WRITE frame. -/
  | rxWrite (port : Nat) (frame : Frame) (stamp : Nat)
  /-- RX_READ_REQ (R593). The destination checks a READ_REQ and returns READ_RSP. -/
  | rxReadReq (port : Nat) (frame : Frame) (stamp : Nat)
  /-- RX_READ_RSP (R585). A requester takes read data on the reverse flow. -/
  | rxReadRsp (port : Nat) (frame : Frame) (stamp : Nat)
  /-- RX_ATOMIC (R593). The destination checks and performs an ATOMIC frame. -/
  | rxAtomic (port : Nat) (frame : Frame) (stamp : Nat)
  /-- RX_ATOMIC_RSP (R585). A requester takes an atomic's old value. -/
  | rxAtomicRsp (port : Nat) (frame : Frame) (stamp : Nat)
  /-- RX_XADD (R582). The destination passes each cell of an XADD frame to the memory ALU. -/
  | rxXadd (port : Nat) (frame : Frame) (stamp : Nat)
  /-- RX_ACK (R587). A sender takes an ACK and retires acknowledged frames. -/
  | rxAck (port : Nat) (frame : Frame) (stamp : Nat)
  /-- RX_NAK (R597). A sender takes a NAK and acts by its reason, including entering FENCED. -/
  | rxNak (port : Nat) (frame : Frame) (stamp : Nat)
  /-- RX_HEARTBEAT (R602). A port takes a HEARTBEAT and records its peer. -/
  | rxHeartbeat (port : Nat) (frame : Frame) (stamp : Nat)
  /-- RX_BSX (R93). A device takes a backsight exchange frame and answers it. -/
  | rxBsx (port : Nat) (frame : Frame) (stamp : Nat)
  /-- RX_ALIGNED_NOTICE (R100). A device takes an ALIGNED notice on its parent port and computes its total correction. -/
  | rxAlignedNotice (port : Nat) (frame : Frame) (stamp : Nat)
  /-- RX_HALL_CORRECTION (R101). A device takes a hall correction, forwards its first copy and stakes the slew. -/
  | rxHallCorrection (port : Nat) (frame : Frame) (stamp : Nat)
  /-- RX_LAUNCH_OFFER (R617). A device takes its launch offer, checks it and forwards it to its children. -/
  | rxLaunchOffer (port : Nat) (frame : Frame) (stamp : Nat)
  /-- RX_LAUNCH_ACK (R619). A parent takes a child's acknowledgement and acknowledges upward. -/
  | rxLaunchAck (port : Nat) (frame : Frame) (stamp : Nat)
  /-- RX_LAUNCH_COMMIT (R625). A device takes COMMIT, forwards it and writes its launch record. -/
  | rxLaunchCommit (port : Nat) (frame : Frame) (stamp : Nat)
  /-- RX_LAUNCH_ABORT (R625). A device takes ABORT, forwards it and re-arms at the abort stake. -/
  | rxLaunchAbort (port : Nat) (frame : Frame) (stamp : Nat)
  /-- RX_THROTTLE (R642). A device takes a THROTTLE notice and floods its first copy. -/
  | rxThrottle (port : Nat) (frame : Frame) (stamp : Nat)
  /-- RX_CLAIM (R672). A holder takes a fill CLAIM and grants or queues it. -/
  | rxClaim (port : Nat) (frame : Frame) (stamp : Nat)
  /-- RX_GRANT (R672). A restorer takes a fill GRANT and begins reading. -/
  | rxGrant (port : Nat) (frame : Frame) (stamp : Nat)
  /-- RX_RELEASE (R672). A holder takes RELEASE and grants the next queued claim. -/
  | rxRelease (port : Nat) (frame : Frame) (stamp : Nat)
  /-- RX_STAGE (R673). A holder takes STAGE and copies its flash image into the staging window. -/
  | rxStage (port : Nat) (frame : Frame) (stamp : Nat)
  /-- RX_PROGRESS (R673). A restorer takes PROGRESS and may read up to the staged bytes. -/
  | rxProgress (port : Nat) (frame : Frame) (stamp : Nat)
  /-- RX_FAIL (R673). A restorer takes a fill FAIL and ends its restore. -/
  | rxFail (port : Nat) (frame : Frame) (stamp : Nat)
  /-- RX_COLL_UP (R636). A parent takes an UP chunk and combines it. -/
  | rxCollUp (port : Nat) (frame : Frame) (stamp : Nat)
  /-- RX_COLL_DOWN (R630). A child takes a DOWN chunk, writes output and passes it on. -/
  | rxCollDown (port : Nat) (frame : Frame) (stamp : Nat)
  /-- RX_COLL_CREDIT (R636). A child takes a credit grant for UP chunks. -/
  | rxCollCredit (port : Nat) (frame : Frame) (stamp : Nat)
  /-- RX_COLL_FAIL (R637). A device takes FAIL, ends the collective and passes FAIL on. -/
  | rxCollFail (port : Nat) (frame : Frame) (stamp : Nat)
  /-- COLLECTIVE_DEADLINE (R637). A collective's deadline passes and it ends with TIMEOUT. -/
  | collectiveDeadline (ctx : Nat) (slot : Nat)
  /-- VIOLATION_MS_TICK (R600). At each whole millisecond of MT the per-port violation counts restart. -/
  | violationMsTick
  /-- HEARTBEAT_SEND (R602). A DIRECT port idle for 500 ns sends a HEARTBEAT. -/
  | heartbeatSend (port : Nat)
  /-- ACK_SEND (R587). The receiver sends ACK within 2 µs of performing a frame, or at 32 unacknowledged frames. -/
  | ackSend (flow : Nat)
  /-- RETRANSMIT_TIMEOUT (R589). The oldest frame sees no ACK progress for 20 µs and the flow is retransmitted; eight rounds mark the node unreachable. -/
  | retransmitTimeout (flow : Nat)
  /-- BUSY_RESEND (R592). Two microseconds after BUSY the frame is sent again. -/
  | busyResend (flow : Nat)
  /-- FLOW_STATE_EXPIRY (R591). Flow state is dropped after its idle interval. -/
  | flowStateExpiry (flow : Nat)
  /-- FLOW_RESET_RESUME (R861). After 2 ms of silence a reset flow restarts with FIRST and SEQ 0. -/
  | flowResetResume (flow : Nat)
  /-- PORT_LOSS (R604). No good frame arrives before the 4 µs deadline; the port is LOST, nodes are marked unreachable and NODE_LOST is posted. -/
  | portLoss (port : Nat)
  /-- PORT_UP (R605). A trained port receives its first good frame and returns to UP. -/
  | portUp (port : Nat)
  /-- NEIGHBOR_SOLICITATION (R569). A Neighbor Solicitation for the device's address is answered. -/
  | neighborSolicitation (port : Nat) (target : Nat)
  /-- ROUTER_ADVERTISEMENT (R569). A Router Advertisement sets a ROUTED port's default router. -/
  | routerAdvertisement (port : Nat) (mac : Nat) (router : Nat) (pfx : Option Nat)
  /-- ARP_REQUEST (R844). An ARP request for the IPv4 link-local address is answered. -/
  | arpRequest (target : Nat)
  /-- FLIT_REPLAY (R789). A flit fails its CRC and is replayed. -/
  | flitReplay (tile : Nat) (port : Nat) (bundle : Nat)
  /-- BUNDLE_RETRAIN (R790). More than 64 replays within 1 ms retrain a bundle, rechoosing its mode and map or fencing a die. -/
  | bundleRetrain (faults : LaneFaults) (ownFails : Bool) (farFails : Bool)
  /-- RECOVERY_FETCH (R759). Sixty seconds into recovery with no session open, the image is fetched from each listed source in turn. -/
  | recoveryFetch
  /-- FETCH_RETRY (R762). A recovery fetch request unanswered for 1 ms is sent again, or the next source is tried. -/
  | fetchRetry
  /-- RECOVERY_FETCH_REQUEST (R763). A running device serves a fetch request from its slot image. -/
  | recoveryFetchRequest (addr : Nat) (port : Nat) (bytes : List Byte)
  /-- BYPASS (R775). TAP bypass instruction. -/
  | bypass (code : Nat)
  /-- IDCODE (R775). TAP instruction that shifts out IDCODE. -/
  | idcode
  /-- AUTH_CHAL (R775). TAP instruction that shifts out a fresh debug challenge. -/
  | authChal
  /-- AUTH_RESP (R777). TAP instruction that shifts in a debug token, which is checked and may open a scope. -/
  | authResp (token : List Byte)
  /-- SAMPLE_PRELOAD (R775). Boundary-scan sample and preload while SCAN or INVASIVE is open. -/
  | samplePreload (levels : List Bool) (cells : List Bool)
  /-- EXTEST (R775). Boundary-scan external test while SCAN or INVASIVE is open. -/
  | extest (levels : List Bool) (cells : List Bool)
  /-- VENDOR_DEBUG (R775). Vendor debug instructions while INVASIVE is open. -/
  | vendorDebug (code : Nat)
  /-- TRACE_SAMPLE (R813). At each whole sampling interval every cluster latches its counters into SAMPLE records. -/
  | traceSample
  /-- TRACE_BUFFER_WRITE (R815). A unit writes accepted records from its FIFO to its buffer, first any pending DROP record. -/
  | traceBufferWrite (unit : Nat)
  /-- TRACE_TRIGGER (R821). The armed trigger fires and each unit writes a TRIGGER record. -/
  | traceTrigger
  /-- MBX_READ (R847). A management agent reads mailbox 63 words. -/
  | mbxRead (agent : Agent) (tag : Nat) (offset : Nat) (count : Nat)
  /-- MBX_WRITE (R848). A management agent writes mailbox 63 words as one message. -/
  | mbxWrite (agent : Agent) (tag : Nat) (offset : Nat) (count : Nat) (words : List Word)
  /-- SVC_MOVE (R489). A management agent moves the service window. -/
  | svcMove (agent : Agent) (tag : Nat) (base : Nat)
  /-- SVC_READ (R490). A management agent reads HBM through the service window. -/
  | svcRead (agent : Agent) (tag : Nat) (offset : Nat) (length : Nat)
  /-- SVC_WRITE (R490). A management agent writes HBM through the service window. -/
  | svcWrite (agent : Agent) (tag : Nat) (offset : Nat) (length : Nat) (bytes : List Byte)
  /-- POS_SET (R849). Sets HALL, ROW, RACK and DEVICE of PLAT_POS while no logical ID is held. -/
  | posSet (agent : Agent) (tag : Nat) (hall : Nat) (row : Nat) (rack : Nat) (device : Nat)
  /-- SET_ENDPOINT_ID (R847). MCTP control command that sets the endpoint ID. -/
  | setEndpointId (agent : Agent) (eid : Nat)
  /-- GET_ENDPOINT_ID (R847). MCTP control command that returns the endpoint ID. -/
  | getEndpointId (agent : Agent)
  /-- GET_MCTP_VERSION_SUPPORT (R847). MCTP control command that returns version support. -/
  | getMctpVersionSupport (agent : Agent) (kind : Nat)
  /-- GET_MESSAGE_TYPE_SUPPORT (R847). MCTP control command that returns message types. -/
  | getMessageTypeSupport (agent : Agent)
  /-- GET_VENDOR_DEFINED_MESSAGE_SUPPORT (R847). MCTP control command that returns vendor-defined support. -/
  | getVendorDefinedMessageSupport (agent : Agent) (selector : Nat)
  /-- DYNAMIC_ADDRESS_ASSIGNMENT (R843). The I3C target takes a dynamic address by ENTDAA. -/
  | dynamicAddressAssignment (addr : Nat) (ibi : Bool)
  /-- GET_TID (R850). PLDM command that returns the terminus ID. -/
  | getTid (agent : Agent)
  /-- GET_PLDM_VERSION (R850). PLDM command that returns the PLDM version. -/
  | getPldmVersion (agent : Agent) (kind : Nat)
  /-- GET_PLDM_TYPES (R850). PLDM command that returns the supported types. -/
  | getPldmTypes (agent : Agent)
  /-- GET_PLDM_COMMANDS (R850). PLDM command that returns the supported commands. -/
  | getPldmCommands (agent : Agent) (kind : Nat)
  /-- GET_PDR (R850). PLDM command that returns platform descriptor records. -/
  | getPdr (agent : Agent) (record : Nat)
  /-- GET_SENSOR_READING (R850). PLDM command that returns a numeric sensor reading. -/
  | getSensorReading (agent : Agent) (sensor : Nat)
  /-- GET_STATE_SENSOR_READINGS (R850). PLDM command that returns state sensor readings. -/
  | getStateSensorReadings (agent : Agent) (sensor : Nat)
  /-- SET_EVENT_RECEIVER (R850). PLDM command that sets the event receiver. -/
  | setEventReceiver (agent : Agent) (receiver : Option Agent)
  /-- SENSOR_UPDATE (R850). A sensor updates at its interval and raises an event on a threshold crossing. -/
  | sensorUpdate (sensor : Nat) (value : Int)
  /-- PTP_LOCK_LOSS (R855). The PTP master stops being tracked; PTP_LOCK clears and hall-time correction stops while the count runs on. -/
  | ptpLockLoss
  /-- PPS_SEEN_EXPIRY (R68). No MT_PPS_IN edge arrives for 1.1 s, so PPS_SEEN clears and R64 can no longer enter HALL. -/
  | ppsSeenExpiry
  /-- BACKSIGHT_EXCHANGE (R92). At each 1 µs interval the hub sends the next BSX exchange on every live port, and after the last it computes medians, chooses its parent and sets MT_DATUM.VALID. -/
  | backsightExchange
  /-- MEMORY_REQUEST_COMPLETE (R535). A stack returns a request's data or completes its write; its tracker entry and credit are freed and the home answers the requester. -/
  | memoryRequestComplete (req : Nat) (errors : List SectorErrors) (held : List Nat)
  /-- BUCKET_ADMISSION (R698). A regulated request or frame waiting for tokens is admitted once the bucket level rises to its size. -/
  | bucketAdmission (partition : Nat) (bucket : Nat)
  /-- RX_UNSUPPORTED_OPCODE (R593). A frame with a reserved OPCODE, or a CTRL message of unknown TYPE, is refused with UNSUPPORTED_OPCODE and recorded as a violation. -/
  | rxUnsupportedOpcode (port : Nat) (frame : Frame) (stamp : Nat)
  /-- RX_LINK_ERROR (R565). A received frame whose FCS fails, or whose length is out of range, or a ROUTED packet failing R569, is discarded and counted as a link error. -/
  | rxLinkError (port : Nat)
  /-- IDENTITY_STATE_REBUILT (R753). The security engine finishes rebuilding the identity signing state and opening an index block, releasing any waiting ATTEST. -/
  | identityStateRebuilt
  /-- NEIGHBOUR_FETCH_REPLY (R762). A recovery fetch reply with OP 2 arrives and its bytes are placed in the staging image. -/
  | neighbourFetchReply (addr : Nat) (bytes : List Byte) (verified : Bool)
  /-- PLDM_EVENT_ACKNOWLEDGEMENT (R836). The event receiver acknowledges a PlatformEventMessage, clearing that condition of ALERT_N. -/
  | pldmEventAcknowledgement (agent : Agent) (event : Nat)
  /-- FIREWALL_DROP (R774). Traffic from an optical engine that the hub firewall does not pass is dropped and counted in OPT_DROPS. -/
  | firewallDrop (engine : Nat)
  /-- CLUSTER_FAULT (R24). A fault makes a core unusable; its cluster is fenced, leaves ID_CLUSTER_LIVE and contexts with resident blocks are torn down with HW_FAULT. -/
  | clusterFault (cluster : Nat)
  /-- PORT_TRAINING_DEADLINE (R840). Three seconds after the CLAIM, port training ends, untrained ports stay DOWN, and the link-delay exchanges and Ready follow. -/
  | portTrainingDeadline
deriving DecidableEq, Repr

end Sys2Proof
end

