-- ==== Sys2Proof/WellFormed.lean ====
section
/-!
DEFINITION. Which commands are well formed: every operand in the range that the spec gives what it names.
-/

namespace Sys2Proof

/-- A mailbox (R43). -/
def mailboxOk (n : Nat) : Bool := decide (n < 64)

/-- A fabric port (R20). -/
def portOk (n : Nat) : Bool := decide (n < 32)

/-- A fabric port, or 32 for the management Ethernet. -/
def ethernetOk (n : Nat) : Bool := decide (n ≤ 32)

/-- A die-link port (R562). -/
def diePortOk (n : Nat) : Bool := decide (n < 5)

/-- A bundle of a die link (R793). -/
def bundleOk (n : Nat) : Bool := decide (n < 8)

/-- A host hart (R21). -/
def hartOk (n : Nat) : Bool := decide (n < 144)

/-- A tile (R19). -/
def tileOk (n : Nat) : Bool := decide (n < 8)

/-- A stack (R19). -/
def stackOk (n : Nat) : Bool := decide (n < 16)

/-- A cluster by its global number (R23). -/
def clusterOk (n : Nat) : Bool := decide (n < 192)

/-- A context (R680). -/
def contextOk (n : Nat) : Bool := decide (n < 64)

/-- A trace unit (R811). -/
def unitOk (n : Nat) : Bool := decide (n < 9)

/-- A layer of a monument (R648). -/
def layerOk (n : Nat) : Bool := decide (n < 3)

/-- A 64-bit number. -/
def wordOk (n : Nat) : Bool := decide (n < 2 ^ 64)

/-- An 8-bit number. -/
def byteOk (n : Nat) : Bool := decide (n < 2 ^ 8)

/-- A 16-bit number. -/
def statusOk (n : Nat) : Bool := decide (n < 2 ^ 16)

/-- A logical node ID (R572). -/
def nodeOk (n : Nat) : Bool := decide (n < 2 ^ 14)

/-- A 32-bit sequence number. -/
def seqOk (n : Nat) : Bool := decide (n < 2 ^ 32)

/-- A channel of a stack, or a bank (R533). -/
def channelOk (n : Nat) : Bool := decide (n < 32)

/-- A pseudo-channel (R533). -/
def bitOk (n : Nat) : Bool := decide (n < 2)

/-- A partition, or 8 for the host (R691). -/
def partitionOk (n : Nat) : Bool := decide (n ≤ 8)

/-- A bucket of a partition: 16 stacks, then 32 ports (R695). -/
def bucketOk (n : Nat) : Bool := decide (n < 48)

/-- A base die, or 8 for the hub (R102). -/
def locationOk (n : Nat) : Bool := decide (n ≤ 8)

/-- A core of a cluster, or an optical engine (R19). -/
def coreOk (n : Nat) : Bool := decide (n < 4)

/-- A set of clusters of a tile (R54). -/
def clustersOk (n : Nat) : Bool := decide (n < 2 ^ 24)

/-- A watch ID (R161). -/
def watchOk (n : Nat) : Bool := decide (n < 4096)

/-- A sub-group: at most 128 groups in a block (R26) and 32 lanes in a group. -/
def subOk (r : SubRef) : Bool := decide (r.grp < 128) && decide (r.sub < 32)

/-- A frame's payload: at most 4,096 bytes (R563, R570). -/
def frameOk (f : Frame) : Bool := decide (f.payload.length ≤ 4096)

/-- A caching agent of the package, or the hub (R491). -/
def requestOk (q : CohReq) : Bool := decide (q.agent ≤ 10) && decide (q.line < 2 ^ 44)

/-- An atomic's operation and width (R582). -/
def atomOk (q : AtomReq) : Bool := decide (q.agent ≤ 10) && decide (q.addr < 2 ^ 52) && decide (q.a < 2 ^ 64) && decide (q.c < 2 ^ 64)

/-- An endpoint ID, or an IPv6 address and a UDP port (R843 to R845). -/
def agentOk : Agent → Bool
  | .i3c e => decide (e < 2 ^ 8)
  | .ether a p => decide (a < 2 ^ 128) && decide (p < 2 ^ 16)

/-- A rail of R715. -/
def railOk : Rail → Bool
  | .standby | .hub | .flash => true
  | .base d | .memory d | .compute d => decide (d < 8)
  | .proc p => decide (p < 2)
  | .optical k => decide (k < 4)

/-- What start-up finds names dies, ports and bundles that exist. -/
def startOk (f : StartInputs) : Bool :=
  f.answers.all (fun a => decide (a.die < 16) && decide (a.code < 16) && decide (a.port < 8) && decide (a.back < 8))
    && f.lanes.all (fun l => tileOk l.tile && diePortOk l.port && bundleOk l.bundle)
    && decide (f.clusters.length ≤ 8) && decide (f.optics.length ≤ 4)

/-- Lanes of a bundle that exists. -/
def lanesOk (f : LaneFaults) : Bool := tileOk f.tile && diePortOk f.port && bundleOk f.bundle

/-- A PTP time fits its fields (R61). -/
def ptpTimeOk (t : PtpTime) : Bool := decide (t.seconds < 2 ^ 48) && decide (t.nanos < 10 ^ 9) && decide (t.ticks < 8)

/-- A PTP message's domain number and sequence ID fit their fields (R60). -/
def ptpOk (m : PtpMessage) : Bool :=
  decide (m.domain < 256) && match m.body with
    | .sync seq t => decide (seq < 2 ^ 16) && (t.map ptpTimeOk).getD true
    | .followUp seq t => decide (seq < 2 ^ 16) && ptpTimeOk t
    | .delayResp seq t => decide (seq < 2 ^ 16) && ptpTimeOk t
    | .other => true

/-- The symbols of a codeword are 36 (R549). -/
def errorsOk (e : SectorErrors) : Bool := e.first.all (fun k => decide (k < 36)) && e.second.all fun k => decide (k < 36)

/-- An access of a host hart to the control space (R36). -/
def accessOk (a : CtrlAccess) : Bool := hartOk a.hart && decide (a.offset < 2 ^ 32)

/-- A reading of a rail that exists. -/
def readingOk (r : StageReading) : Bool := railOk r.rail

/-- Cycles of a window of 1,024 plumb cycles, for at most so many stacks or ports (R561). -/
def windowOk (k : Nat) (l : List Nat) : Bool := decide (l.length ≤ k) && l.all fun n => decide (n ≤ 1024)

/-- What one context met. -/
def clashOk (c : Clash) : Bool := contextOk c.ctx

/-- The command's operands are well formed. -/
def Instr.wf : Instr → Bool
  | .powerOn slot found => byteOk slot && startOk found
  | .powerLoss => true
  | .timeWaitExpiry => true
  | .resetAssert => true
  | .resetRelease found => startOk found
  | .inputUndervoltage => true
  | .inputFaultReset => true
  | .railFault rail => railOk rail
  | .thermalTrip => true
  | .powerSample vin watts _ _ _ => statusOk vin && statusOk watts
  | .pmbusPoll readings => readings.all readingOk
  | .energyApportion => true
  | .targetRestore => true
  | .throttleOriginate => true
  | .throttleExpiry origin nseq => nodeOk origin && seqOk nseq
  | .clockStep => true
  | .heavyHandoverTimeout => true
  | .ppsEdge stamp => wordOk stamp
  | .ppsOut => true
  | .ptpMessage message stamp => ptpOk message && wordOk stamp
  | .refLoss => true
  | .refReturn => true
  | .forwardStep => true
  | .slewEnd => true
  | .backsightRepeat => true
  | .alignedNoticeRepeat => true
  | .hallCorrection ahead => wordOk ahead
  | .parentRemeasureTimeout => true
  | .comparatorFire location _ => locationOk location
  | .timerQueueExpiry => true
  | .stakeAllocPass => true
  | .commandTake => true
  | .commandTimeout mbx => mailboxOk mbx
  | .mbxPost mbx _ => mailboxOk mbx
  | .mbxWithdraw mbx _ => mailboxOk mbx
  | .mbxReturnIdle mbx _ => mailboxOk mbx
  | .mbxIrqWrite mbx _ => mailboxOk mbx
  | .claim _ stamp => wordOk stamp
  | .beat _ stamp => wordOk stamp
  | .hostLossDeadline => true
  | .identify mbx => mailboxOk mbx
  | .queryCaps mbx => mailboxOk mbx
  | .ctxOpen mbx => mailboxOk mbx
  | .ctxClose mbx => mailboxOk mbx
  | .ctxQuery mbx => mailboxOk mbx
  | .listRegister mbx => mailboxOk mbx
  | .watchFlag mbx => mailboxOk mbx
  | .unwatchFlag mbx => mailboxOk mbx
  | .tlbInvalidate mbx => mailboxOk mbx
  | .faultReplay mbx => mailboxOk mbx
  | .mtQuery mbx => mailboxOk mbx
  | .stakeAlloc mbx => mailboxOk mbx
  | .stakeFree mbx => mailboxOk mbx
  | .backsightRun mbx => mailboxOk mbx
  | .routeSet mbx => mailboxOk mbx
  | .tieSet mbx => mailboxOk mbx
  | .epochSet mbx => mailboxOk mbx
  | .witnessBind mbx => mailboxOk mbx
  | .launchOffer mbx => mailboxOk mbx
  | .launchCommit mbx => mailboxOk mbx
  | .launchAbort mbx => mailboxOk mbx
  | .launchDeadline => true
  | .plumbJoin mbx => mailboxOk mbx
  | .plumbLeave mbx => mailboxOk mbx
  | .monumentStart mbx => mailboxOk mbx
  | .monumentQuery mbx => mailboxOk mbx
  | .restore mbx => mailboxOk mbx
  | .monumentSeal id layer => statusOk id && layerOk layer
  | .layerFailure id layer status => statusOk id && layerOk layer && statusOk status
  | .restoreComplete id => statusOk id
  | .partSet mbx => mailboxOk mbx
  | .regSet mbx => mailboxOk mbx
  | .acctRead mbx => mailboxOk mbx
  | .pwrSetLimit mbx => mailboxOk mbx
  | .pwrHint mbx => mailboxOk mbx
  | .pwrMode mbx => mailboxOk mbx
  | .attest mbx => mailboxOk mbx
  | .fwBegin mbx => mailboxOk mbx
  | .fwChunk mbx => mailboxOk mbx
  | .fwCommit mbx _ => mailboxOk mbx
  | .fwSessionTimeout => true
  | .traceSet mbx => mailboxOk mbx
  | .traceEnable mbx => mailboxOk mbx
  | .traceDisable mbx => mailboxOk mbx
  | .traceDump mbx => mailboxOk mbx
  | .traceRelease mbx => mailboxOk mbx
  | .traceArm mbx => mailboxOk mbx
  | .counterConfig mbx => mailboxOk mbx
  | .dieService mbx => mailboxOk mbx
  | .dieServiceDrained passed back => clustersOk passed && wordOk back.stop
  | .dieServiceTimeout => true
  | .stackRepair mbx => mailboxOk mbx
  | .stackRepairDrained moved => moved.errors.all errorsOk
  | .badAccess accesses _ => accesses.all accessOk
  | .hostReservedAccess hart _ => hartOk hart
  | .ppsTimeWrite _ => true
  | .noncritWrite _ => true
  | .quarRelease port => portOk port
  | .frozenClear unit => unitOk unit
  | .registerWrite hart _ _ => hartOk hart
  | .flagWake watch => watchOk watch
  | .stakedDispatch watch _ => watchOk watch
  | .nopEntry watch _ => watchOk watch
  | .dispatch watch _ => watchOk watch
  | .copy watch _ => watchOk watch
  | .write watch _ => watchOk watch
  | .wait watch _ => watchOk watch
  | .waitDeadline watch _ => watchOk watch
  | .fenceEntry watch _ => watchOk watch
  | .mark watch _ => watchOk watch
  | .hint watch _ => watchOk watch
  | .entryComplete watch _ => watchOk watch
  | .blockPlace watch _ cluster => watchOk watch && clusterOk cluster
  | .blockStakeRelease _ => true
  | .blockEnd _ => true
  | .exception r => subOk r
  | .contextTeardown ctx cause => contextOk ctx && statusOk cause
  | .add r => subOk r
  | .sub r => subOk r
  | .mulLo r => subOk r
  | .mulHi r => subOk r
  | .div r => subOk r
  | .rem r => subOk r
  | .and r => subOk r
  | .or r => subOk r
  | .xor r => subOk r
  | .shl r => subOk r
  | .shr r => subOk r
  | .min r => subOk r
  | .max r => subOk r
  | .cmp r => subOk r
  | .sel r => subOk r
  | .mov r => subOk r
  | .laneId r => subOk r
  | .rdlane r => subOk r
  | .popc r => subOk r
  | .clz r => subOk r
  | .fadd r => subOk r
  | .fsub r => subOk r
  | .fmul r => subOk r
  | .ffma r => subOk r
  | .fdiv r => subOk r
  | .fsqrt r => subOk r
  | .fmin r => subOk r
  | .fmax r => subOk r
  | .fcmp r => subOk r
  | .fcvt r => subOk r
  | .fcvtI r => subOk r
  | .fcvtF r => subOk r
  | .br r => subOk r
  | .brC r => subOk r
  | .brR r => subOk r
  | .call r => subOk r
  | .callR r => subOk r
  | .ret r => subOk r
  | .exit r => subOk r
  | .trap r => subOk r
  | .nop r => subOk r
  | .ldB8 r => subOk r
  | .ldB16 r => subOk r
  | .ldB32 r => subOk r
  | .ldB64 r => subOk r
  | .ldB128 r => subOk r
  | .ldS8 r => subOk r
  | .ldS16 r => subOk r
  | .stB8 r => subOk r
  | .stB16 r => subOk r
  | .stB32 r => subOk r
  | .stB64 r => subOk r
  | .stB128 r => subOk r
  | .atomAdd r => subOk r
  | .atomMinU r => subOk r
  | .atomMaxU r => subOk r
  | .atomMinS r => subOk r
  | .atomMaxS r => subOk r
  | .atomAnd r => subOk r
  | .atomOr r => subOk r
  | .atomXor r => subOk r
  | .atomExch r => subOk r
  | .atomCas r => subOk r
  | .atomFadd r => subOk r
  | .atomXadd r => subOk r
  | .fence r => subOk r
  | .barGroup r => subOk r
  | .barGroupRelease _ _ => true
  | .barBlock r => subOk r
  | .barBlockRelease _ => true
  | .arrWait r => subOk r
  | .arrWaitRelease r => subOk r
  | .xferCv r => subOk r
  | .copyLand _ _ _ count => byteOk count
  | .stakeWait r => subOk r
  | .stakeWaitRelease r => subOk r
  | .mtRead r => subOk r
  | .markBegin r => subOk r
  | .markEnd r => subOk r
  | .srRead r => subOk r
  | .srWrite r => subOk r
  | .srClr r => subOk r
  | .mmaMx8 r => subOk r
  | .mmaMx6 r => subOk r
  | .mmaMx4 r => subOk r
  | .mmaXi8 r => subOk r
  | .mmaSf32 r => subOk r
  | .mmaSf64 r => subOk r
  | .accAnchor r => subOk r
  | .accRead r => subOk r
  | .accZero r => subOk r
  | .matrixOpComplete _ _ => true
  | .accumulatorGrant cluster core => clusterOk cluster && coreOk core
  | .vepLoad r => subOk r
  | .vepRun r => subOk r
  | .vperm r => subOk r
  | .vldT r => subOk r
  | .vstT r => subOk r
  | .vsumAny r => subOk r
  | .vsumAll r => subOk r
  | .vsumCount r => subOk r
  | .vsumMin r => subOk r
  | .vsumMax r => subOk r
  | .vsumFirst r => subOk r
  | .vectorOpComplete _ _ => true
  | .walk _ => true
  | .gets req => requestOk req
  | .getx req => requestOk req
  | .coherenceClaim req => requestOk req
  | .glance req => requestOk req
  | .place req _ _ => requestOk req
  | .atom req => atomOk req
  | .vacate req => requestOk req
  | .spill req => requestOk req
  | .probeGive req => requestOk req
  | .probeKill req => requestOk req
  | .reply req => requestOk req
  | .grant req => requestOk req
  | .seated req => requestOk req
  | .retry req => requestOk req
  | .retryResend req => requestOk req
  | .cargo req => requestOk req
  | .spillCargo req => requestOk req
  | .predictorDecay => true
  | .readAgePromote _ => true
  | .patrolScrub sector errors => errorsOk ⟨sector, errors.first, errors.second⟩
  | .refresh stack channel pseudo bank _ => stackOk stack && channelOk channel && bitOk pseudo && channelOk bank
  | .saturationWindow full empty clashes => windowOk 16 full && windowOk 40 empty && clashes.all clashOk
  | .rxWrite port frame stamp => portOk port && frameOk frame && wordOk stamp
  | .rxReadReq port frame stamp => portOk port && frameOk frame && wordOk stamp
  | .rxReadRsp port frame stamp => portOk port && frameOk frame && wordOk stamp
  | .rxAtomic port frame stamp => portOk port && frameOk frame && wordOk stamp
  | .rxAtomicRsp port frame stamp => portOk port && frameOk frame && wordOk stamp
  | .rxXadd port frame stamp => portOk port && frameOk frame && wordOk stamp
  | .rxAck port frame stamp => portOk port && frameOk frame && wordOk stamp
  | .rxNak port frame stamp => portOk port && frameOk frame && wordOk stamp
  | .rxHeartbeat port frame stamp => portOk port && frameOk frame && wordOk stamp
  | .rxBsx port frame stamp => portOk port && frameOk frame && wordOk stamp
  | .rxAlignedNotice port frame stamp => portOk port && frameOk frame && wordOk stamp
  | .rxHallCorrection port frame stamp => portOk port && frameOk frame && wordOk stamp
  | .rxLaunchOffer port frame stamp => portOk port && frameOk frame && wordOk stamp
  | .rxLaunchAck port frame stamp => portOk port && frameOk frame && wordOk stamp
  | .rxLaunchCommit port frame stamp => portOk port && frameOk frame && wordOk stamp
  | .rxLaunchAbort port frame stamp => portOk port && frameOk frame && wordOk stamp
  | .rxThrottle port frame stamp => portOk port && frameOk frame && wordOk stamp
  | .rxClaim port frame stamp => portOk port && frameOk frame && wordOk stamp
  | .rxGrant port frame stamp => portOk port && frameOk frame && wordOk stamp
  | .rxRelease port frame stamp => portOk port && frameOk frame && wordOk stamp
  | .rxStage port frame stamp => portOk port && frameOk frame && wordOk stamp
  | .rxProgress port frame stamp => portOk port && frameOk frame && wordOk stamp
  | .rxFail port frame stamp => portOk port && frameOk frame && wordOk stamp
  | .rxCollUp port frame stamp => portOk port && frameOk frame && wordOk stamp
  | .rxCollDown port frame stamp => portOk port && frameOk frame && wordOk stamp
  | .rxCollCredit port frame stamp => portOk port && frameOk frame && wordOk stamp
  | .rxCollFail port frame stamp => portOk port && frameOk frame && wordOk stamp
  | .collectiveDeadline ctx _ => contextOk ctx
  | .violationMsTick => true
  | .heartbeatSend port => portOk port
  | .ackSend _ => true
  | .retransmitTimeout _ => true
  | .busyResend _ => true
  | .flowStateExpiry _ => true
  | .flowResetResume _ => true
  | .portLoss port => portOk port
  | .portUp port => portOk port
  | .neighborSolicitation port _ => ethernetOk port
  | .routerAdvertisement port _ _ pfx => ethernetOk port && (pfx.map wordOk).getD true
  | .arpRequest _ => true
  | .flitReplay tile port bundle => tileOk tile && diePortOk port && bundleOk bundle
  | .bundleRetrain faults _ _ => lanesOk faults
  | .recoveryFetch => true
  | .fetchRetry => true
  | .recoveryFetchRequest _ port _ => statusOk port
  | .bypass code => byteOk code
  | .idcode => true
  | .authChal => true
  | .authResp _ => true
  | .samplePreload _ _ => true
  | .extest _ _ => true
  | .vendorDebug code => byteOk code
  | .traceSample => true
  | .traceBufferWrite unit => unitOk unit
  | .traceTrigger => true
  | .mbxRead agent tag _ count => agentOk agent && byteOk tag && byteOk count
  | .mbxWrite agent tag _ count _ => agentOk agent && byteOk tag && byteOk count
  | .svcMove agent tag _ => agentOk agent && byteOk tag
  | .svcRead agent tag _ _ => agentOk agent && byteOk tag
  | .svcWrite agent tag _ _ _ => agentOk agent && byteOk tag
  | .posSet agent tag hall row rack device => agentOk agent && byteOk tag && byteOk hall && byteOk row && byteOk rack && byteOk device
  | .setEndpointId agent eid => agentOk agent && byteOk eid
  | .getEndpointId agent => agentOk agent
  | .getMctpVersionSupport agent _ => agentOk agent
  | .getMessageTypeSupport agent => agentOk agent
  | .getVendorDefinedMessageSupport agent _ => agentOk agent
  | .dynamicAddressAssignment _ _ => true
  | .getTid agent => agentOk agent
  | .getPldmVersion agent _ => agentOk agent
  | .getPldmTypes agent => agentOk agent
  | .getPldmCommands agent _ => agentOk agent
  | .getPdr agent _ => agentOk agent
  | .getSensorReading agent _ => agentOk agent
  | .getStateSensorReadings agent _ => agentOk agent
  | .setEventReceiver agent receiver => agentOk agent && (receiver.map agentOk).getD true
  | .sensorUpdate _ _ => true
  | .ptpLockLoss => true
  | .ppsSeenExpiry => true
  | .backsightExchange => true
  | .memoryRequestComplete _ errors _ => errors.all errorsOk
  | .bucketAdmission partition bucket => partitionOk partition && bucketOk bucket
  | .rxUnsupportedOpcode port frame stamp => portOk port && frameOk frame && wordOk stamp
  | .rxLinkError port => portOk port
  | .identityStateRebuilt => true
  | .neighbourFetchReply _ _ _ => true
  | .pldmEventAcknowledgement agent _ => agentOk agent
  | .firewallDrop engine => coreOk engine
  | .clusterFault cluster => clusterOk cluster
  | .portTrainingDeadline => true

end Sys2Proof
end

