-- ==== Sys2Proof/Decode.lean ====
section
/-!
DEFINITION. The command that a word of the opcode table spells. No row of spec/opcode_table.json gives bits: the commands come
from pins, buses and the block's own sequencers, and no word spells one of them.
-/

namespace Sys2Proof

/-- The command that `nbits` bits `w` spell by the opcode table, whose rows give none. -/
def decodeTableWord (_nbits _w : Nat) : Option Instr := none

end Sys2Proof
end

