-- ==== Sys2Proof/Machine/Keccak.lean ====
section
/-!
DEFINITION. SHAKE256 (FIPS 202), the digest that the manual names for seals, measurements, keys and the measurement chain
(R656, R748, R751, R754).
-/

namespace Sys2Proof.Machine

/-- The 1,600-bit state: five planes (sheets y = 0 to 4), each of five 64-bit lanes. -/
abbrev Planes := List (List Word)

/-- Lane by lane exclusive or. -/
def xorPlane (p q : List Word) : List Word := List.zipWith (· ^^^ ·) p q

/-- What θ adds to every plane, from the parity of the columns. -/
def columnMix (parity : List Word) : List Word :=
  xorPlane (parity.rotateRight 1) ((parity.rotateLeft 1).map (·.rotateLeft 1))

/-- θ. -/
def thetaStep (a : Planes) : Planes :=
  let mix := columnMix (a.foldl xorPlane (List.replicate 5 0))
  a.map (xorPlane mix)

/-- The walk that FIPS 202 defines ρ by: from (x, y) on to (y, 2x + 3y), rotating by the sum of the steps done, modulo 64. -/
def rhoWalk : Nat → Nat → Nat → Nat → List ((Nat × Nat) × Nat)
  | 0, _, _, _ => []
  | n + 1, x, y, r =>
    let t := 24 - n
    ((x, y), (r + t) % 64) :: rhoWalk n y ((2 * x + 3 * y) % 5) (r + t)

/-- How far ρ rotates each lane of each plane. -/
def rhoTurns : List (List Nat) :=
  let walk := rhoWalk 24 1 0 0
  (List.range 5).map fun y => (List.range 5).map fun x =>
    match walk.find? (fun e => e.1 == (x, y)) with
    | some e => e.2
    | none => 0

/-- ρ. -/
def rhoStep (a : Planes) : Planes := List.zipWith (List.zipWith fun w n => w.rotateLeft n) a rhoTurns

/-- π: plane y takes one lane of every plane, plane x giving its lane x + 3y. -/
def piStep (a : Planes) : Planes :=
  (List.range 5).map fun y => a.mapIdx fun x p => nth p ((x + 3 * y) % 5) 0

/-- χ, on one plane. -/
def chiPlane (p : List Word) : List Word :=
  xorPlane p (List.zipWith (fun v w => ~~~v &&& w) (p.rotateLeft 1) (p.rotateLeft 2))

/-- One step of the shift register whose bit 0 is rc(t) (FIPS 202, its polynomial 0x171). -/
def rcShift (r : Nat) : Nat := if 128 ≤ r then (2 * r) ^^^ 0x171 else 2 * r

/-- The register n steps on. -/
def rcSteps : Nat → Nat → Nat
  | 0, r => r
  | n + 1, r => rcSteps n (rcShift r)

/-- The constant a round adds when the register holds r at its start: rc(j) stands at bit 2^j - 1. -/
def roundConst (r : Nat) : Word :=
  BitVec.ofNat 64 (((List.range 7).map fun j => (rcSteps j r % 2) * 2 ^ (2 ^ j - 1)).foldl (· + ·) 0)

/-- The n rounds left, the register holding r. -/
def keccakRounds : Nat → Nat → Planes → Planes
  | 0, _, a => a
  | n + 1, r, a =>
    let b := (piStep (rhoStep (thetaStep a))).map chiPlane
    keccakRounds n (rcSteps 7 r) (b.modify 0 fun p => p.modify 0 (· ^^^ roundConst r))

/-- The permutation of 24 rounds. -/
def keccakF (a : Planes) : Planes := keccakRounds 24 1 a

/-- Bytes of a block that SHAKE256 takes in or gives out. -/
def shakeRate : Nat := 136

/-- One block taken in, eight bytes to a lane, lane x of plane y at 5y + x. -/
def absorb (a : Planes) (block : List Byte) : Planes :=
  keccakF (a.mapIdx fun y p => p.mapIdx fun x w =>
    w ^^^ BitVec.ofNat 64 (leNat ((block.drop (8 * (5 * y + x))).take 8)))

/-- A message cut into blocks, the last padded with the suffix 1111 and the pad of FIPS 202. -/
def shakeBlocks : Nat → List Byte → List (List Byte)
  | 0, _ => []
  | fuel + 1, m =>
    if shakeRate ≤ m.length then m.take shakeRate :: shakeBlocks fuel (m.drop shakeRate)
    else
      let zeros := shakeRate - m.length
      if zeros = 1 then [m ++ [0x9F]] else [m ++ (0x1F :: List.replicate (zeros - 2) 0) ++ [0x80]]

/-- SHAKE256 with 256-bit output. -/
def shake256 (m : List Byte) : List Byte :=
  let a := (shakeBlocks (m.length / shakeRate + 1) m).foldl absorb (List.replicate 5 (List.replicate 5 0))
  ((nth a 0 []).take 4).flatMap fun w => leBytes 8 w.toNat

end Sys2Proof.Machine
end

