-- ==== Sys2Proof/Machine/TimeState.lean ====
section
/-!
DEFINITION. State of meridian time, the comparators and the firmware timer queue (02_meridian_time.md), and of the
register blocks ID (01_five_levels.md).
-/

namespace Sys2Proof.Machine

/-- The MT states (R65). -/
inductive MtState where
  | free
  | hall
  | aligned
  | holdover
  | unaligned
deriving DecidableEq, Repr

/-- Its value in MT_STATUS.STATE (R65). -/
def MtState.code : MtState → Nat
  | .free => 0
  | .hall => 1
  | .aligned => 2
  | .holdover => 3
  | .unaligned => 4

/-- The four stamps of one backsight exchange (R89). -/
structure BsSample where
  port : Nat
  t1 : Nat
  t2 : Nat
  t3 : Nat
  t4 : Nat
deriving DecidableEq, Repr

/-- Where a full backsight stands (R92); a measurement is always exchanging (R96, R98, R99). -/
inductive BsPhase where
  | exchanging
  | awaitNotice
  | applying
  /-- Its correction is applied, and the reference is absent (R63, R64; log 120). -/
  | held
deriving DecidableEq, Repr

/-- MT_LINKDLYp (R75). -/
structure LinkDelay where
  valid : Bool
  delay : Nat
deriving DecidableEq, Repr

/-- The datum and the link delays as they stood when BACKSIGHT_RUN began (R147). -/
structure DatumSave where
  valid : Bool
  port : Nat
  node : Nat
  delays : List LinkDelay
deriving DecidableEq, Repr

/-- A full backsight (R92), or a measurement of ports outside one (R96, R98, R99, R840). -/
structure BsRun where
  /-- The mailbox whose BACKSIGHT_RUN waits on it (R92). -/
  mbx : Option Nat
  /-- BACKSIGHT_RUN started it: its total correction is applied whatever its size (R85). -/
  posted : Bool
  /-- What BACKSIGHT_RUN found, for a TIMEOUT that leaves no effect (R147). -/
  saved : Option DatumSave
  /-- The ports measured. -/
  ports : List Nat
  /-- Exchanges sent so far on each port. -/
  sent : Nat
  /-- Exchanges wanted: 64, or 16 for a repeat. -/
  want : Nat
  samples : List BsSample
  phase : BsPhase
  /-- MT at which it began. -/
  start : Nat
  /-- MT by which a retrained parent port must be measured (R98). -/
  limit : Option Nat
  /-- Measured offset to the parent in 1/16 tick (R91). -/
  offset : Int
  /-- DEPTH that the device takes on entering ALIGNED (R92, R100). -/
  depth : Nat
deriving DecidableEq, Repr

/-- The exchange with the PTP master (R60): the delay request-response mechanism of an ordinary clock. -/
structure PtpSlave where
  /-- The domain followed: that of the first Sync since lock was last lost (log 121). -/
  domain : Option Nat
  /-- SEQUENCE ID of the last Sync, and the MT at which it arrived. -/
  syncSeq : Nat
  t2 : Nat
  /-- Hall time at which the master sent that Sync, in ticks, once known: from a one-step Sync or a Follow_Up. -/
  t1 : Option Nat
  /-- SEQUENCE ID of the last Delay_Req sent, and its MT. -/
  reqSeq : Nat
  t3 : Option Nat
deriving DecidableEq, Repr

/-- Meridian time: the replicas, the correction in progress and the registers of the MT block. -/
structure TimeState where
  /-- Hub replica, the device's MT (R67, R78): 64 bits; reset 0. -/
  mt : Nat
  /-- Reference cycle of five that comes next (R77): 0 to 4; reset 0. -/
  cyc : Nat
  /-- Reference cycles since the slew last moved the count (R82); reset 0. -/
  slewCyc : Nat
  /-- MT_STATUS.STATE (R68): 4 bits; reset FREE. -/
  st : MtState
  /-- MT_STATUS.REF_PRESENT (R68): 1 bit; reset 0. -/
  refPresent : Bool
  /-- MT_STATUS.PTP_LOCK (R68): 1 bit; reset 0. -/
  ptpLock : Bool
  /-- The exchange with the PTP master (R60). -/
  ptp : PtpSlave
  /-- Hall time less the count, in 1/16 tick, as last measured and less what the count has moved since (R60, R855). -/
  hallDiff : Int
  /-- MT_STATUS.PPS_SEEN (R68): 1 bit; reset 0. -/
  ppsSeen : Bool
  /-- MT of the last PPS edge (R68). -/
  ppsLast : Nat
  /-- Forward correction held for every comparator to be disarmed, in 1/16 tick: MT_STATUS.STEP_PENDING (R68, R83). -/
  stepPending : Option Int
  /-- MT_STATUS.SLEWING (R68): 1 bit; reset 0. -/
  slewing : Bool
  /-- Correction not yet slewed, in 1/16 tick (R81, R82); reset 0. -/
  slewLeft : Int
  /-- MT_STATUS.DEPTH (R68): 8 bits; reset 0xFF. -/
  depth : Nat
  /-- MT_OFFSET (R69): signed 1/16 tick; reset 0. -/
  offset : Int
  /-- MT_DATUM.VALID (R70): 1 bit; reset 0. -/
  datumValid : Bool
  /-- MT_DATUM.PARENT_PORT (R70): 8 bits; reset 0xFF. -/
  parentPort : Nat
  /-- MT_DATUM.NODE (R70): 14 bits; reset 0. -/
  datumNode : Nat
  /-- MT_CTRL.TRIG_REVOKED (R71): W1C; reset 0. -/
  trigRevoked : Bool
  /-- MT_CTRL.TRIG_HELD (R71); reset 0. -/
  trigHeld : Bool
  /-- MT_CTRL.PPS_OUT_EN (R71): RW; reset 1. -/
  ppsOutEn : Bool
  /-- MT_CTRL.PPS_TIME (R71): RW; reset 1. -/
  ppsTime : Bool
  /-- The count has reached a whole second whose edge at MT_PPS_OUT is due (R71, R838); reset false. -/
  ppsDue : Bool
  /-- MT_NEARMISS (R72): 64 bits; reset 0. -/
  nearMiss : Nat
  /-- MT_LINKDLY0 to 31 (R75): reset invalid, 0. -/
  linkDly : List LinkDelay
  /-- The device's total correction (R91), in 1/16 tick; reset 0. -/
  totalCorr : Int
  /-- MT at which the device entered ALIGNED (R100 word 3). -/
  alignedMt : Nat
  /-- Full backsight in progress (R92). -/
  run : Option BsRun
  /-- Measurement of ports in progress (R96, R98, R99, R840). -/
  meas : Option BsRun
  /-- Backsight has completed since it last began (R855); reset false. -/
  bsDone : Bool
  /-- Hall corrections already taken, the datum and its sequence number as one number (R101). -/
  hallSeen : List Nat
  /-- Next NSEQ as datum (R101): 32 bits. -/
  hallNseq : Nat
  /-- MT of the last repeat measurement (R96). -/
  lastRepeat : Nat
  /-- MT of the last ALIGNED notice (R93). -/
  lastNotice : Nat
  /-- MT of the last hall correction as datum (R97). -/
  lastHall : Nat
deriving DecidableEq, Repr

/-- What happens when a comparator or a timer-queue entry fires (R103, R106, R107). -/
inductive StakeEvent where
  /-- STAKE_ALLOC of a mailbox: a STAKE_FIRED notice (R151). -/
  | notice
  /-- A hall correction of so many ticks begins to slew (R101). -/
  | hallSlew (corr : Int)
  /-- A witness binding takes effect (R606). -/
  | bind (node epoch : Nat) (plat : Nat)
  /-- A launch offer expires (R625). -/
  | offerExpiry (job : Nat)
  /-- The abort stake of an offer (R625). -/
  | abortStake (job : Nat)
  /-- The start stake of a launch (R626). -/
  | launchStart (job : Nat)
  /-- A joined device sets its group clock (R640). -/
  | plumbJoin (group : Nat)
  /-- A batch of THROTTLE notices applies (R644). -/
  | throttleBatch (stake : Nat)
  /-- The plumb clock takes its next step (R645). -/
  | clockStep
  /-- A hint reaches its phase time (R739). -/
  | hintPhase (hint : Nat)
  /-- A monument begins its capture (R661). -/
  | capture (id : Nat)
  /-- A restore begins (R669). -/
  | restore (id : Nat)
  /-- A trace trigger at a stake (R821). -/
  | traceTrigger
deriving DecidableEq, Repr

/-- Whose an allocation is (R856). -/
inductive Owner where
  | mailbox (n : Nat)
  | context (c : Nat)
  | device
deriving DecidableEq, Repr

/-- An allocation of comparators (R107 to R111). -/
structure Alloc where
  /-- Allocation ID. -/
  id : Nat
  /-- The comparators held: location (0 to 7 base die, 8 hub) and number. -/
  places : List (Nat × Nat)
  /-- Class (R107): 0 LAUNCH, 1 RESILIENCE, 2 POWER, 3 TRACE. -/
  cls : Nat
  stake : Nat
  owner : Owner
  event : StakeEvent
  /-- Those of `places` that are armed: not fired yet (R103, R105). -/
  armed : List (Nat × Nat)
  /-- It was armed at or after its stake (R104). -/
  late : Bool
deriving DecidableEq, Repr

/-- A STAKE_ALLOC that waits for the next allocation pass (R109). -/
structure AllocReq where
  mbx : Nat
  location : Nat
  cls : Nat
  stake : Nat
  /-- Arrival order (R109). -/
  arrival : Nat
deriving DecidableEq, Repr

/-- An entry of the firmware timer queue (R106). -/
structure Timer where
  due : Nat
  event : StakeEvent
  /-- It was set at or after its time, or a forward step passed over that (R106). -/
  late : Bool
deriving DecidableEq, Repr

/-- The comparators and the timer queue. MT_CMP_HUB and MT_CMP_TILEd (R73, R74) are computed from the allocations. -/
structure StakeState where
  allocs : List Alloc
  reqs : List AllocReq
  timers : List Timer
  /-- Next allocation ID. -/
  nextId : Nat
  /-- The firmware runs, so hub comparators 0 and 1 are held (R106); reset false. -/
  fwRuns : Bool
deriving DecidableEq, Repr

/-- The ID block (R46 to R56) and the route tables of the base dies (R33). -/
structure IdState where
  /-- ID_TOPO.TRAVERSE_DONE (R49); reset 0. -/
  traverseDone : Bool
  /-- ID_TOPO.PROC_LIVE (R49): 2 bits; reset 0. -/
  procLive : BitVec 2
  /-- ID_TOPO.OPT_LIVE (R49): 4 bits; reset 0. -/
  optLive : BitVec 4
  /-- ID_TOPO.BASE_LIVE (R49): 8 bits; reset 0. -/
  baseLive : BitVec 8
  /-- ID_TOPO.COMPUTE_LIVE (R49): 8 bits; reset 0. -/
  computeLive : BitVec 8
  /-- ID_STACK.STACK_LIVE (R52): 16 bits; reset 0. -/
  stackLive : BitVec 16
  /-- ID_STACK.HBM_GIB (R52): 16 bits; reset 0. -/
  hbmGib : Nat
  /-- ID_CLUSTER_LIVE0 to 7 (R54): 24 bits each; reset 0. -/
  clusterLive : List (BitVec 24)
  /-- The route tables of base dies 0 to 7, loaded after the traverse: by destination die, the die to send on to (R33, R34); empty
  until they are loaded. -/
  routes : List (List (Option Nat))
  /-- The W1C bits, by control-space offset and bit, that the hardware set since the last reference cycle (R18): the model's
  own. -/
  hot : List (Nat × Nat)
  /-- The bad accesses since the last reference cycle, KIND, HART and OFFSET (R58, R59): the model's own. -/
  badNow : List (Nat × Nat × Nat)
  /-- ID_BADACC.VALID (R56): W1C; reset 0. -/
  badValid : Bool
  /-- ID_BADACC.OVERRUN (R56): W1C; reset 0. -/
  badOverrun : Bool
  /-- ID_BADACC.KIND (R56): 2 bits; reset 0. -/
  badKind : Nat
  /-- ID_BADACC.HART (R56): 16 bits; reset 0. -/
  badHart : Nat
  /-- ID_BADACC.OFFSET (R56): 32 bits; reset 0. -/
  badOffset : Nat
deriving DecidableEq, Repr

/-- Meridian time after a module reset (R62, R66 to R75). -/
def TimeState.reset : TimeState where
  mt := 0
  cyc := 0
  slewCyc := 0
  st := .free
  refPresent := false
  ptpLock := false
  ptp := ⟨none, 0, 0, none, 0, none⟩
  hallDiff := 0
  ppsSeen := false
  ppsLast := 0
  stepPending := none
  slewing := false
  slewLeft := 0
  depth := 0xFF
  offset := 0
  datumValid := false
  parentPort := 0xFF
  datumNode := 0
  trigRevoked := false
  trigHeld := false
  ppsOutEn := true
  ppsTime := true
  ppsDue := false
  nearMiss := 0
  linkDly := List.replicate 32 ⟨false, 0⟩
  totalCorr := 0
  alignedMt := 0
  run := none
  meas := none
  bsDone := false
  hallSeen := []
  hallNseq := 0
  lastRepeat := 0
  lastNotice := 0
  lastHall := 0

/-- The comparators after a module reset: none allocated (R73, R74). -/
def StakeState.reset : StakeState where
  allocs := []
  reqs := []
  timers := []
  nextId := 1
  fwRuns := false

/-- The ID block after a module reset (R49 to R56). -/
def IdState.reset : IdState where
  traverseDone := false
  procLive := 0
  optLive := 0
  baseLive := 0
  computeLive := 0
  stackLive := 0
  hbmGib := 0
  clusterLive := List.replicate 8 0
  routes := []
  hot := []
  badNow := []
  badValid := false
  badOverrun := false
  badKind := 0
  badHart := 0
  badOffset := 0

end Sys2Proof.Machine
end

