-- ==== Sys2Proof/Machine/HostState.lean ====
section
/-!
DEFINITION. State of the Abaom control interface (03_abaom_interface.md): mailboxes, heartbeat, flag watcher, lists;
and of contexts, partitions and regulators (15_sharing.md).
-/

namespace Sys2Proof.Machine

/-- MBX_HDR.STATE (R138). -/
inductive MbxState where
  | idle
  | posted
  | busy
  | done
deriving DecidableEq, Repr

/-- Its value (R138). -/
def MbxState.code : MbxState → Nat
  | .idle => 0
  | .posted => 1
  | .busy => 2
  | .done => 3

/-- The command a mailbox has in hand: its header and arguments as the take copied them (R143). -/
structure TakenCmd where
  opcode : Nat
  tag : Nat
  irq : Bool
  /-- The copied argument words. -/
  args : List Word
  /-- MT at which STATE became BUSY (R147). -/
  busyMt : Nat
  /-- The command's own event has been performed and its completing event is awaited. -/
  begun : Bool
  /-- Its place in the order of the takes (R146). -/
  order : Nat
deriving DecidableEq, Repr

/-- A mailbox page (R137 to R152). -/
structure Mailbox where
  /-- MBX_HDR.STATE (R138): 2 bits; reset 0. -/
  st : MbxState
  /-- MBX_HDR.IRQ (R138); reset 0. -/
  irq : Bool
  /-- MBX_HDR.ARG_WORDS (R138): 8 bits; reset 0. -/
  argWords : Nat
  /-- MBX_HDR.OPCODE (R138): 16 bits; reset 0. -/
  opcode : Nat
  /-- MBX_HDR.TAG (R138): 16 bits; reset 0. -/
  tag : Nat
  /-- MBX_STATUS.STATUS (R139): 16 bits; reset 0. -/
  status : Nat
  /-- MBX_STATUS.RES_WORDS (R139): 8 bits; reset 0. -/
  resWords : Nat
  /-- MBX_STATUS.TAG (R139): 16 bits; reset 0. -/
  statusTag : Nat
  /-- MBX_NOTE.LOST (R149): 16 bits; reset 0. -/
  lost : Nat
  /-- MBX_NOTE.HEAD (R149): 4 bits; reset 0. -/
  head : Nat
  /-- MBX_NOTE.TAIL (R149): 4 bits; reset 0. -/
  tail : Nat
  /-- MBX_IRQ.DONE_EN (R152); reset 0. -/
  doneEn : Bool
  /-- MBX_IRQ.NOTE_EN (R152); reset 0. -/
  noteEn : Bool
  /-- MBX_IRQ.EIID (R152): 11 bits; reset 0. -/
  eiid : Nat
  /-- MBX_IRQ.HART (R152): 8 bits; reset 0. -/
  hart : Nat
  /-- MBX_DONE_MT (R140): 64 bits; reset 0. -/
  doneMt : Nat
  /-- MBX_ARG0 to 223 (R137): 64 bits each. -/
  args : List Word
  /-- MBX_RES0 to 127 (R137): 64 bits each. -/
  res : List Word
  /-- Notice slots 0 to 15 of eight words (R151). -/
  slots : List (List Word)
  /-- The command taken and not yet completed (R143). -/
  cmd : Option TakenCmd
  /-- The reference cycle in which the posted header was written, as `AbaomState.posts` counts them (R146). -/
  postOrder : Nat
deriving DecidableEq, Repr

/-- The host's heartbeat (R192 to R198). -/
structure BeatState where
  /-- MBX_BEAT.EPOCH (R192): 16 bits; reset 0. -/
  epoch : Nat
  /-- MBX_BEAT.LIVE (R192): 1 bit; reset 0. -/
  live : Bool
  /-- MBX_BEAT.STALE (R192): 8 bits; reset 0. -/
  stale : Nat
  /-- Loss deadline (R196). -/
  deadline : Nat
  /-- Host epochs whose deadline has fallen due are lost once: the stamp of the last effective claim or beat (R196). -/
  last : Nat
deriving DecidableEq, Repr

/-- What a watcher registration is for (R161). -/
inductive WatchKind where
  | list (size : Nat)
  | flag
deriving DecidableEq, Repr

/-- A registered flag line (R161 to R164, R188). -/
structure Watch where
  /-- Watch ID: 12 bits. -/
  id : Nat
  kind : WatchKind
  ctx : Nat
  /-- Virtual address registered. -/
  va : Nat
  /-- The physical line the watcher translated at registration (R188, R189). -/
  line : Nat
  /-- The watcher holds the line in S (R161). -/
  held : Bool
  /-- A wake is pending (R164). -/
  wake : Bool
deriving DecidableEq, Repr

/-- What a list entry is doing (R169, R181). -/
inductive EntryPhase where
  | waiting
  /-- Started, and held in the timer queue for its stake (R129). -/
  | staked
  | running
  /-- Its last data write is visible and its record is to be written (R181). -/
  | ended
  | recorded
deriving DecidableEq, Repr

/-- A kernel that a DISPATCH entry has checked (R168, R202, R259, R260). -/
structure Kernel where
  regs : Nat
  ftz : Bool
  /-- Address of the first instruction. -/
  start : Nat
  /-- The code region: its first byte and the byte after its last (R261). -/
  codeLo : Nat
  codeHi : Nat
  excPtr : Nat
  args : Nat
  blocks : Nat
  groups : Nat
  /-- Bytes of block memory. -/
  memory : Nat
deriving DecidableEq, Repr

/-- A list entry of a pass. -/
structure Entry where
  /-- The eight words, as read when it was reached (R167). -/
  words : List Word
  phase : EntryPhase
  status : Nat
  startMt : Nat
  startFlags : Nat
  endMt : Nat
  endFlags : Nat
  detail : Nat
  /-- The 64 always-on counters at START_MT (R180). -/
  latch : List Nat
  /-- The 64 always-on counters at END_MT (R180). -/
  latchEnd : List Nat
  /-- Blocks not yet placed (DISPATCH): the next index. -/
  nextBlock : Nat
  /-- Blocks ended (DISPATCH). -/
  blocksDone : Nat
  /-- An access of the control processor for it waits on a replayable fault (R178, R466). -/
  held : Bool
  /-- The kernel of a DISPATCH whose checks are over. -/
  kernel : Option Kernel
  /-- Physical address of the word that a WAIT watches (R172). -/
  watched : Nat
  /-- What was written there before the deadline meets the comparison (R125, R172). -/
  met : Bool
  /-- A forward step passed over its stake while it was held for that (R106, R170). -/
  late : Bool
  /-- START_MT and the counters of it have been taken (R130, R180): a DISPATCH released ahead of its stake starts there. -/
  begun : Bool
deriving DecidableEq, Repr

/-- A pass over a command list (R159, R165, R182). -/
structure Pass where
  watch : Nat
  ctx : Nat
  gen : Nat
  stop : Bool
  full : Bool
  complBase : Nat
  entries : List Entry
  takeMt : Nat
  /-- Index of the first failed entry and its status (R182). -/
  firstErr : Option (Nat × Nat)
  /-- Line and virtual address of the header (R154, R189). -/
  line : Nat
  va : Nat
  /-- The entry whose record could not be written, and the status of that (R178): the pass ends there. -/
  lost : Option (Nat × Nat)
deriving DecidableEq, Repr

/-- Life of a context (R680). -/
inductive CtxState where
  | closed
  | opened
  | tornDown
deriving DecidableEq, Repr

/-- Its value (R680). -/
def CtxState.code : CtxState → Nat
  | .closed => 0
  | .opened => 1
  | .tornDown => 2

/-- The counters of an accounting record (R702 words 5 to 18 and 20 to 28). -/
structure Account where
  matrix : Nat
  vector : Nat
  aluHalf : Nat
  copy : Nat
  hbmRd : Nat
  hbmWr : Nat
  fabTx : Nat
  fabRx : Nat
  energyUj : Nat
  active : Nat
  contended : Nat
  contHbm : Nat
  contLink : Nat
  contFab : Nat
  contBy : List Nat
deriving DecidableEq, Repr

/-- How far the control processor is with an exception (R307). -/
inductive ExcPhase where
  /-- Captured: its record is still to be written. -/
  | captured
  /-- Its record has been written, as far as R311 allows. -/
  | recorded
deriving DecidableEq, Repr

/-- The exception of a context that the control processor has in hand (R307, R310), or the fault that ends a list entry (R465). -/
structure PendingExc where
  /-- Status of the entry that it ends. -/
  status : Nat
  /-- Cause of the teardown: the lowest of those of one cycle (R685). -/
  cause : Nat
  /-- The reference cycle of its capture, as `AbaomState.posts` counts them. -/
  cycle : Nat
  /-- Its place among those of one cycle: 0 for the control processor, else cluster + 1, block, group and code (R310, R467). -/
  rank : List Nat
  /-- Words 0 to 8 of the exception record, MORE clear (R309). -/
  words : List Nat
  /-- EXC_PTR, or 0 (R260). -/
  ptr : Nat
  /-- The list and entry that it ends. -/
  entry : Nat × Nat
  /-- DETAIL of that entry's record (R179). -/
  detail : Nat
  /-- Tie writes of the entry that were outstanding at the capture (R181), by the model's names. -/
  waits : List Nat
  phase : ExcPhase
deriving DecidableEq, Repr

/-- A context (R680 to R690). -/
structure Context where
  st : CtxState
  /-- Mailbox bound, 0 for none. -/
  mbx : Nat
  partition : Nat
  /-- Cause of the teardown (R685). -/
  cause : Nat
  /-- Level-4 table address (R184 CTX_OPEN ARG1). -/
  root : Nat
  quota : Nat
  hostEpoch : Nat
  openMt : Nat
  endMt : Nat
  acct : Account
  /-- Further exceptions after the recorded one (R310). -/
  more : Nat
  /-- Physical address of the exception record written, if one was (R309). -/
  excRecord : Option Nat
  /-- An exception of the context has been recorded (R310). -/
  excTaken : Bool
  /-- That exception (R307). -/
  exc : Option PendingExc
  /-- The reference cycle in which it was torn down (R685). -/
  tearCycle : Nat
  /-- Its teardown is in progress: steps 4 to 6 are still to come (R686). -/
  ending : Bool
deriving DecidableEq, Repr

/-- A token bucket (R695). -/
structure Bucket where
  /-- Level in fifths of a byte, so that one reference cycle adds a whole number; may be negative (R698). -/
  level : Int
  /-- Rate in GB/s; 0 is unlimited (R696). -/
  rate : Nat
  burst : Nat
deriving DecidableEq, Repr

/-- A regulated request or frame that waits for tokens (R541, R698, R699). -/
structure BucketWait where
  partition : Nat
  /-- Stack 0 to 15, or 16 + port. -/
  point : Nat
  size : Nat
  /-- The frame that waits in the port queue, or none for a request at a stack, named by `req` (R541, R699). -/
  frame : Option Frame
  req : Nat
deriving DecidableEq, Repr

/-- Partitions and regulators (R691 to R699). -/
structure ShareState where
  /-- Partition of each tile (R691); reset from flash. -/
  tiles : List Nat
  /-- LOCAL recorded in flash for the next module reset (R693). -/
  localNext : Nat
  /-- Nine partitions of 48 buckets: 16 stacks, then 32 ports (R695). -/
  buckets : List (List Bucket)
  /-- Requests and frames that wait at a bucket, oldest first. -/
  waits : List BucketWait
  /-- Contexts that had a block resident in the present saturation window and have it no longer (R707). -/
  resident : List Nat
deriving DecidableEq, Repr

/-- A host instance that has been lost, while contexts of it are torn down (R710). -/
structure HostLoss where
  epoch : Nat
  /-- MT of the loss, with its STAMP_FLAGS (R151). -/
  mt : Nat
  flags : Nat
deriving DecidableEq, Repr

/-- The control interface besides the mailboxes. -/
structure AbaomState where
  beat : BeatState
  watches : List Watch
  passes : List Pass
  /-- FLAGW_EVENT.ACTED (R166): 32 bits; reset 0. -/
  acted : Nat
  /-- FLAGW_EVENT.SPURIOUS (R166): 32 bits; reset 0. -/
  spurious : Nat
  /-- Reference cycles so far, by which header writes are ordered (R146; the model's own count). -/
  posts : Nat
  /-- Takes so far (R146; the model's own count). -/
  takes : Nat
  /-- Lost host instances whose teardowns are not all complete, oldest first (R710). -/
  losses : List HostLoss
deriving DecidableEq, Repr

/-- A mailbox after a module reset (R138 to R152). -/
def Mailbox.reset : Mailbox where
  st := .idle
  irq := false
  argWords := 0
  opcode := 0
  tag := 0
  status := 0
  resWords := 0
  statusTag := 0
  lost := 0
  head := 0
  tail := 0
  doneEn := false
  noteEn := false
  eiid := 0
  hart := 0
  doneMt := 0
  args := List.replicate 224 0
  res := List.replicate 128 0
  slots := List.replicate 16 (List.replicate 8 0)
  cmd := none
  postOrder := 0

/-- An accounting record at the open (R682). -/
def Account.zero : Account where
  matrix := 0
  vector := 0
  aluHalf := 0
  copy := 0
  hbmRd := 0
  hbmWr := 0
  fabTx := 0
  fabRx := 0
  energyUj := 0
  active := 0
  contended := 0
  contHbm := 0
  contLink := 0
  contFab := 0
  contBy := List.replicate 9 0

/-- A context that has not been opened since the module reset (R864). -/
def Context.reset : Context where
  st := .closed
  mbx := 0
  partition := 0
  cause := 0
  root := 0
  quota := 0
  hostEpoch := 0
  openMt := 0
  endMt := 0
  acct := Account.zero
  more := 0
  excRecord := none
  excTaken := false
  exc := none
  tearCycle := 0
  ending := false

/-- An unlimited bucket (R696). -/
def Bucket.unlimited : Bucket where
  level := 0
  rate := 0
  burst := 0

/-- Partitions and regulators at a module reset (R691, R696), the flash holding the factory map. -/
def ShareState.reset : ShareState where
  tiles := [0, 1, 2, 3, 4, 5, 6, 7]
  localNext := 0
  buckets := List.replicate 9 (List.replicate 48 Bucket.unlimited)
  waits := []
  resident := []

/-- The heartbeat, watcher and lists after a module reset (R166, R192). -/
def AbaomState.reset : AbaomState where
  beat := ⟨0, false, 0, 0, 0⟩
  watches := []
  passes := []
  acted := 0
  spurious := 0
  posts := 0
  takes := 0
  losses := []

end Sys2Proof.Machine
end

