-- ==== Sys2Proof/Config.lean ====
section
/-!
DEFINITION. What the spec leaves open, and what is fixed per part at manufacture: free values and functions. Each is
opaque, so nothing can be proved of its value, and a statement about it holds whatever it is. Each is named in a row of
the assumption log.
-/

namespace Sys2Proof.Config

/-- A fresh unconstrained word for every index: the model's free values (log 2). -/
opaque freeWord : Nat → Word

/-- Whether a fused multiply-add of infinity, zero and a quiet NaN sets NV: IEEE 754 leaves it to the implementation (log 3). -/
opaque fmaQuietNanInvalid : Bool

/-- FAB_MAC.BASE (R565): 48 bits, per part (log 6). -/
opaque fabMacBase : Nat

/-- DUS (R748): 32 bytes, per part (log 6). -/
opaque dus : List Byte

/-- SERIAL (R748): 64 bits, per part (log 6). -/
opaque serial : Word

/-- FW_KEYk (R748): 32 bytes, per part (log 6). -/
opaque fwKey : Nat → List Byte

/-- DBG_KEY (R748): 32 bytes, per part (log 6). -/
opaque dbgKey : List Byte

/-- DBG_POLICY (R748): 2 bits, per part (log 6). -/
opaque dbgPolicy : BitVec 2

/-- Whether an XMSS signature verifies: public key, message, signature (R752, R777; log 9). -/
opaque xmssVerify : List Byte → List Byte → List Byte → Bool

/-- The XMSS^MT signature of a message at a state index under the identity key (R767, R772; log 9). -/
opaque xmssSign : Nat → List Byte → List Byte

/-- The 68-byte XMSS^MT identity public key (R767; log 9). -/
opaque identityKey : List Byte

/-- The hash of a flow that picks its port, flow label and UDP port (R568, R577; log 10): source, destination, kind, context. -/
opaque flowHash : Nat → Nat → Nat → Nat → Nat

/-- The power manager's projections of the next 1 ms average and of the 100 ms average from the samples (R729; log 11). -/
opaque projectMs : List Nat → Nat
opaque project100Ms : List Nat → Nat

/-- The power manager's estimate of the required clock from the samples and the effective limit (R730; log 11). -/
opaque requiredClock : List Nat → Nat → Nat

/-- Transmit and receive latency difference of each port, in 1/16 tick, calibrated at manufacture (R90; log 6). -/
opaque portLatency : Nat → Int

/-- How far each base die's replica lies from the hub's, in ticks, before the bound of R78 is applied (log 23). -/
opaque replicaSkew : Nat → Int

/-- How much longer than its own length the plumb clock's cycle is stretched in a region (a tile, or 8 for the hub) at an MT,
before the bound of R122 is applied; 0 for no stretch (log 122). -/
opaque stretch : Nat → Nat → Nat

/-- The set that a line, group or detector falls into: structure (0 L1, 1 an L2, 2 a last-level cache, 3 the hub cache, 4 a
directory, 5 a contention predictor) and index; the spec leaves the hashes open (R494, R496, R507, R528; log 26). -/
opaque cacheSet : Nat → Nat → Nat

/-- The set of a cluster TLB that an entry falls into, of its context, first address and bytes covered; the spec gives 8 ways
and no hash (R458; log 110). -/
opaque tlbSet : Nat → Nat → Nat → Nat

/-- What the spec leaves to the standards of the management protocols (R844, R847, R850; log 29): the IPv4 link-local address
of the management port, the MCTP versions of a message type, the PLDM versions of a type, and the PLDM terminus ID. -/
opaque linkLocal4 : Nat
opaque mctpVersion : Nat → Nat
opaque pldmVersion : Nat → Nat
opaque pldmTid : Nat

end Sys2Proof.Config
end

