-- ==== Sys2Proof/Machine/Float.lean ====
section
/-!
DEFINITION. Binary floating point as the lane and tile-vector instructions use it (07_number_formats.md R366, R367,
R392 to R394, R852; 05_instruction_set.md R273, R274; 08_vector_engine.md R417). Values are exact; each operation
computes exactly, or far beyond the result's precision with a sticky bit, and rounds once.
-/

namespace Sys2Proof.Machine

/-- A binary format: exponent and fraction widths (R366). -/
structure Fmt where
  eb : Nat
  mb : Nat
deriving DecidableEq, Repr

def Fmt.fp64 : Fmt := ⟨11, 52⟩
def Fmt.fp32 : Fmt := ⟨8, 23⟩
def Fmt.fp16 : Fmt := ⟨5, 10⟩
def Fmt.bf16 : Fmt := ⟨8, 7⟩

/-- Width in bits. -/
def Fmt.width (f : Fmt) : Nat := f.eb + f.mb + 1

/-- Exponent of the least significant bit of a subnormal. -/
def Fmt.qmin (f : Fmt) : Int := 2 - 2 ^ (f.eb - 1) - f.mb

/-- Encoding of +infinity. -/
def Fmt.infBits (f : Fmt) : Nat := (2 ^ f.eb - 1) * 2 ^ f.mb

/-- The canonical NaN (R366, R367). -/
def Fmt.nanBits (f : Fmt) : Nat := f.infBits + 2 ^ (f.mb - 1)

/-- The sign bit. -/
def Fmt.signBit (f : Fmt) : Nat := 2 ^ (f.eb + f.mb)

/-- Rounding directions (R273). -/
inductive Rm where
  | nearest
  | zero
  | down
  | up
deriving DecidableEq, Repr

/-- The rounding that a two-bit field names (R273, R413). -/
def Rm.ofField (n : Nat) : Rm :=
  match n % 4 with
  | 0 => .nearest
  | 1 => .zero
  | 2 => .down
  | _ => .up

/-- A value of a format, exactly: `(-1)^neg * m * 2^e` when finite. -/
inductive FVal where
  | nan (signalling : Bool)
  | inf (neg : Bool)
  | fin (neg : Bool) (m : Nat) (e : Int)
deriving DecidableEq, Repr

/-- The sticky flags, NV DZ OF UF NX in bits 4 to 0 (R300). -/
abbrev Flags := BitVec 5

def Flags.nv : Flags := 16
def Flags.dz : Flags := 8
def Flags.of : Flags := 4
def Flags.uf : Flags := 2
def Flags.nx : Flags := 1

/-- The value of an encoding (R366). -/
def decodeF (f : Fmt) (bits : Nat) : FVal :=
  let neg := decide (bits / f.signBit % 2 = 1)
  let ex := bits / 2 ^ f.mb % 2 ^ f.eb
  let fr := bits % 2 ^ f.mb
  if ex = 2 ^ f.eb - 1 then
    if fr = 0 then .inf neg else .nan (decide (fr < 2 ^ (f.mb - 1)))
  else if ex = 0 then .fin neg fr f.qmin
  else .fin neg (2 ^ f.mb + fr) (f.qmin + (ex - 1 : Nat))

def signed (f : Fmt) (neg : Bool) (bits : Nat) : Nat := if neg then bits + f.signBit else bits

/-- Whether a magnitude rounds away from zero, given its last kept bit and the part dropped. -/
def roundsUp (rm : Rm) (neg : Bool) (odd : Bool) (rem half : Nat) : Bool :=
  match rm with
  | .nearest => decide (half < rem) || (decide (rem = half) && odd)
  | .zero => false
  | .down => neg && decide (0 < rem)
  | .up => !neg && decide (0 < rem)

/-- `m * 2^e`, dropped to a multiple of `2^q` and rounded: the multiple and whether it is inexact. -/
def roundAt (rm : Rm) (neg : Bool) (m : Nat) (e q : Int) : Nat × Bool :=
  if q ≤ e then (m * 2 ^ (e - q).toNat, false)
  else
    let sh := (q - e).toNat
    let k := m / 2 ^ sh
    let rem := m % 2 ^ sh
    if rem = 0 then (k, false)
    else (if roundsUp rm neg (decide (k % 2 = 1)) rem (2 ^ (sh - 1)) then k + 1 else k, true)

/-- Overflow: infinity, or the largest finite value, as the rounding direction gives (IEEE 754-2019). -/
def overflowBits (f : Fmt) (rm : Rm) (neg : Bool) : Nat :=
  match rm with
  | .nearest => f.infBits
  | .zero => f.infBits - 1
  | .down => if neg then f.infBits else f.infBits - 1
  | .up => if neg then f.infBits - 1 else f.infBits

/-- Rounds the exact magnitude `m * 2^e` into a format, with tininess after rounding (R852). -/
def roundF (f : Fmt) (rm : Rm) (neg : Bool) (m : Nat) (e : Int) : Nat × Flags :=
  if m = 0 then (signed f neg 0, 0)
  else
    let top : Int := e + Nat.log2 m
    let q := max (top - f.mb) f.qmin
    let r := roundAt rm neg m e q
    let bits := (q - f.qmin).toNat * 2 ^ f.mb + r.1
    if f.infBits ≤ bits then (signed f neg (overflowBits f rm neg), Flags.of ||| Flags.nx)
    else
      let emin : Int := f.qmin + f.mb
      let unbounded := (roundAt rm neg m e (top - f.mb)).1
      let tiny := decide (top < emin) && !(decide (top = emin - 1) && decide (unbounded = 2 ^ (f.mb + 1)))
      let fl : Flags := if r.2 then (if tiny then Flags.uf ||| Flags.nx else Flags.nx) else 0
      (signed f neg bits, fl)

/-- A special or finite value put into a format (R367). -/
def encodeF (f : Fmt) (rm : Rm) : FVal → Nat × Flags
  | .nan s => (f.nanBits, if s then Flags.nv else 0)
  | .inf neg => (signed f neg f.infBits, 0)
  | .fin neg m e => roundF f rm neg m e

/-- Signed mantissa of a finite value. -/
def sm (neg : Bool) (m : Nat) : Int := if neg then -(m : Int) else m

/-- Exact sum of two finite values, with the sign IEEE 754 gives an exact zero. -/
def addFin (rm : Rm) (n1 : Bool) (m1 : Nat) (e1 : Int) (n2 : Bool) (m2 : Nat) (e2 : Int) : FVal :=
  let e := min e1 e2
  let v := sm n1 m1 * 2 ^ (e1 - e).toNat + sm n2 m2 * 2 ^ (e2 - e).toNat
  if v = 0 then
    .fin (if n1 = n2 then n1 else decide (rm = .down)) 0 e
  else .fin (decide (v < 0)) v.natAbs e

/-- Exact sum of two values, and whether it is an invalid operation. -/
def addV (rm : Rm) (a b : FVal) : FVal × Flags :=
  match a, b with
  | .nan s, .nan t => (.nan false, if s || t then Flags.nv else 0)
  | .nan s, _ => (.nan false, if s then Flags.nv else 0)
  | _, .nan t => (.nan false, if t then Flags.nv else 0)
  | .inf n, .inf k => if n = k then (.inf n, 0) else (.nan false, Flags.nv)
  | .inf n, .fin _ _ _ => (.inf n, 0)
  | .fin _ _ _, .inf k => (.inf k, 0)
  | .fin n1 m1 e1, .fin n2 m2 e2 => (addFin rm n1 m1 e1 n2 m2 e2, 0)

/-- Exact product of two values. -/
def mulV (a b : FVal) : FVal × Flags :=
  match a, b with
  | .nan s, .nan t => (.nan false, if s || t then Flags.nv else 0)
  | .nan s, _ => (.nan false, if s then Flags.nv else 0)
  | _, .nan t => (.nan false, if t then Flags.nv else 0)
  | .inf n, .inf k => (.inf (n != k), 0)
  | .inf n, .fin k m _ => if m = 0 then (.nan false, Flags.nv) else (.inf (n != k), 0)
  | .fin n m _, .inf k => if m = 0 then (.nan false, Flags.nv) else (.inf (n != k), 0)
  | .fin n1 m1 e1, .fin n2 m2 e2 => (.fin (n1 != n2) (m1 * m2) (e1 + e2), 0)

def negV : FVal → FVal
  | .nan s => .nan s
  | .inf n => .inf (!n)
  | .fin n m e => .fin (!n) m e

/-- Newton's iteration for a square root, downward from above. -/
def isqrtFrom : Nat → Nat → Nat → Nat
  | 0, _, x => x
  | k + 1, n, x =>
    let y := (x + n / x) / 2
    if y < x then isqrtFrom k n y else x

/-- The floor of the square root. -/
def isqrt (n : Nat) : Nat := if n = 0 then 0 else isqrtFrom (Nat.log2 n + 8) n (2 ^ (Nat.log2 n / 2 + 1))

/-- Bits beyond any result's precision that division and roots compute before the sticky bit. -/
def guardBits : Nat := 64

/-- A quotient of magnitudes with a sticky bit, as mantissa and exponent. -/
def divMag (m1 : Nat) (e1 : Int) (m2 : Nat) (e2 : Int) : Nat × Int :=
  let k := guardBits + Nat.log2 m2 + 2
  let q := (m1 * 2 ^ k) / m2
  let s := if (m1 * 2 ^ k) % m2 = 0 then 0 else 1
  (2 * q + s, e1 - e2 - k - 1)

/-- Quotient of two values (R274); division of a finite non-zero value by zero raises DZ. -/
def divV (a b : FVal) : FVal × Flags :=
  match a, b with
  | .nan s, .nan t => (.nan false, if s || t then Flags.nv else 0)
  | .nan s, _ => (.nan false, if s then Flags.nv else 0)
  | _, .nan t => (.nan false, if t then Flags.nv else 0)
  | .inf _, .inf _ => (.nan false, Flags.nv)
  | .inf n, .fin k _ _ => (.inf (n != k), 0)
  | .fin n _ e, .inf k => (.fin (n != k) 0 e, 0)
  | .fin n m1 e1, .fin k m2 e2 =>
    if m2 = 0 then
      if m1 = 0 then (.nan false, Flags.nv) else (.inf (n != k), Flags.dz)
    else
      let q := divMag m1 e1 m2 e2
      (.fin (n != k) q.1 q.2, 0)

/-- Magnitude of a square root with a sticky bit. -/
def sqrtMag (m : Nat) (e : Int) : Nat × Int :=
  let k : Nat := 2 * guardBits + (if e % 2 = 0 then 0 else 1)
  let v := m * 2 ^ k
  let r := isqrt v
  let s := if r * r = v then 0 else 1
  (2 * r + s, (e - k) / 2 - 1)

/-- Square root (R274). -/
def sqrtV (a : FVal) : FVal × Flags :=
  match a with
  | .nan s => (.nan false, if s then Flags.nv else 0)
  | .inf n => if n then (.nan false, Flags.nv) else (.inf false, 0)
  | .fin n m e =>
    if m = 0 then (.fin n 0 e, 0)
    else if n then (.nan false, Flags.nv)
    else
      let r := sqrtMag m e
      (.fin false r.1 r.2, 0)

/-- Reciprocal square root (R415): 1 / sqrt(A), a zero giving an infinity of its sign and DZ. -/
def rsqrtV (a : FVal) : FVal × Flags :=
  match a with
  | .nan s => (.nan false, if s then Flags.nv else 0)
  | .inf n => if n then (.nan false, Flags.nv) else (.fin false 0 0, 0)
  | .fin n m e =>
    if m = 0 then (.inf n, Flags.dz)
    else if n then (.nan false, Flags.nv)
    else
      let m' := if e % 2 = 0 then m else 2 * m
      let e' := if e % 2 = 0 then e else e - 1
      let k := guardBits + Nat.log2 m' + 2
      let v := 2 ^ (2 * k) / m'
      let r := isqrt v
      let s := if r * r * m' = 2 ^ (2 * k) then 0 else 1
      (.fin false (2 * r + s) (-(e' / 2) - k - 1), 0)

/-- Fraction bits that the power and logarithm carry. -/
def powBits : Nat := 1216

/-- `2^(0.b1 b2 ... bn)` in fixed point: one square root per fraction bit, from the last bit to the first. -/
def powFrac : Nat → Nat → Nat → Nat
  | 0, _, r => r
  | n + 1, f, r =>
    let r' := if f % 2 = 1 then 2 * r else r
    powFrac n (f / 2) (isqrt (r' * 2 ^ powBits))

/-- 2^A (R415), correctly rounded by the digits it carries and a sticky bit. -/
def exp2V (a : FVal) : FVal × Flags :=
  match a with
  | .nan s => (.nan false, if s then Flags.nv else 0)
  | .inf n => (if n then .fin false 0 0 else .inf false, 0)
  | .fin n m e =>
    if m = 0 then (.fin false 1 0, 0)
    else
      let v := sm n m
      if 0 ≤ e then
        let x := v * 2 ^ (min e 64).toNat
        (.fin false 1 (max (-100000) (min 100000 x)), 0)
      else
        let d := (-e).toNat
        let i := v.fdiv (2 ^ d)
        let f := (v.fmod (2 ^ d)).toNat
        let i' := max (-100000) (min 100000 i)
        if f = 0 then (.fin false 1 i', 0)
        else (.fin false (2 * powFrac d f (2 ^ powBits) + 1) (i' - powBits - 1), 0)

/-- Binary digits of log2 of a number in [1, 2), by repeated squaring. -/
def logDigits : Nat → Nat → Nat → Nat
  | 0, _, acc => acc
  | n + 1, x, acc =>
    let y := x * x / 2 ^ powBits
    if 2 * 2 ^ powBits ≤ y then logDigits n (y / 2) (2 * acc + 1) else logDigits n y (2 * acc)

/-- Base-2 logarithm (R415): zero gives -infinity and DZ, a negative operand is invalid. -/
def log2V (a : FVal) : FVal × Flags :=
  match a with
  | .nan s => (.nan false, if s then Flags.nv else 0)
  | .inf n => if n then (.nan false, Flags.nv) else (.inf false, 0)
  | .fin n m e =>
    if m = 0 then (.inf true, Flags.dz)
    else if n then (.nan false, Flags.nv)
    else
      let t : Int := e + Nat.log2 m
      let x := m * 2 ^ (powBits - Nat.log2 m)
      if m = 2 ^ Nat.log2 m then (.fin (decide (t < 0)) t.natAbs 0, 0)
      else
        let d := 256
        let v : Int := 2 * (t * 2 ^ d + logDigits d x 0) + 1
        (.fin (decide (v < 0)) v.natAbs (-(d : Int) - 1), 0)

/-- Exact comparison of finite values. -/
def finLt (n1 : Bool) (m1 : Nat) (e1 : Int) (n2 : Bool) (m2 : Nat) (e2 : Int) : Bool :=
  let e := min e1 e2
  decide (sm n1 m1 * 2 ^ (e1 - e).toNat < sm n2 m2 * 2 ^ (e2 - e).toNat)

/-- Less than, for values that are no NaN. -/
def ltV (a b : FVal) : Bool :=
  match a, b with
  | .nan _, _ => false
  | _, .nan _ => false
  | .inf n, .inf k => n && !k
  | .inf n, .fin _ _ _ => n
  | .fin _ _ _, .inf k => !k
  | .fin n1 m1 e1, .fin n2 m2 e2 => finLt n1 m1 e1 n2 m2 e2

def eqV (a b : FVal) : Bool :=
  match a, b with
  | .nan _, _ => false
  | _, .nan _ => false
  | .inf n, .inf k => n == k
  | .inf _, .fin _ _ _ => false
  | .fin _ _ _, .inf _ => false
  | .fin n1 m1 e1, .fin n2 m2 e2 => !finLt n1 m1 e1 n2 m2 e2 && !finLt n2 m2 e2 n1 m1 e1

def FVal.isNan : FVal → Bool
  | .nan _ => true
  | .inf _ => false
  | .fin _ _ _ => false

def FVal.isSnan : FVal → Bool
  | .nan s => s
  | .inf _ => false
  | .fin _ _ _ => false

def FVal.isNeg : FVal → Bool
  | .nan _ => false
  | .inf n => n
  | .fin n _ _ => n

/-- minimumNumber and maximumNumber of IEEE 754-2019 (R273): a NaN gives way to a number, and -0 lies below +0. -/
def minMaxV (wantMax : Bool) (a b : FVal) : FVal × Flags :=
  let fl : Flags := if a.isSnan || b.isSnan then Flags.nv else 0
  if a.isNan && b.isNan then (.nan false, fl)
  else if a.isNan then (b, fl)
  else if b.isNan then (a, fl)
  else
    let aFirst := ltV a b || (eqV a b && a.isNeg)
    (if aFirst != wantMax then a else b, fl)

/-- The comparison conditions (R271, R273): 0 equal, 1 not equal, 2 less, 3 less or equal, 4 greater, 5 greater or equal. -/
def cmpV (cond : Nat) (a b : FVal) : Bool × Flags :=
  if a.isNan || b.isNan then
    (decide (cond = 1), if decide (2 ≤ cond) || a.isSnan || b.isSnan then Flags.nv else 0)
  else
    (match cond with
     | 0 => eqV a b
     | 1 => !eqV a b
     | 2 => ltV a b
     | 3 => !ltV b a
     | 4 => ltV b a
     | _ => !ltV a b, 0)

/-- A binary or unary operation on encodings: exact result, then one rounding; flags joined. -/
def finish (f : Fmt) (rm : Rm) (r : FVal × Flags) : Nat × Flags :=
  let e := encodeF f rm r.1
  (e.1, e.2 ||| r.2)

def fAdd (f : Fmt) (rm : Rm) (a b : Nat) : Nat × Flags := finish f rm (addV rm (decodeF f a) (decodeF f b))
def fSub (f : Fmt) (rm : Rm) (a b : Nat) : Nat × Flags := finish f rm (addV rm (decodeF f a) (negV (decodeF f b)))
def fMul (f : Fmt) (rm : Rm) (a b : Nat) : Nat × Flags := finish f rm (mulV (decodeF f a) (decodeF f b))
def fDiv (f : Fmt) (rm : Rm) (a b : Nat) : Nat × Flags := finish f rm (divV (decodeF f a) (decodeF f b))
def fSqrt (f : Fmt) (rm : Rm) (a : Nat) : Nat × Flags := finish f rm (sqrtV (decodeF f a))

/-- Fused multiply-add, rounded once (R273). Whether infinity times zero is invalid beside a quiet NaN addend is free. -/
def fmaV (rm : Rm) (a b c : FVal) : FVal × Flags :=
  let p := mulV a b
  let s := addV rm p.1 c
  let pf := if c.isNan && !c.isSnan && !Config.fmaQuietNanInvalid then 0 else p.2
  (s.1, s.2 ||| pf ||| (if a.isSnan || b.isSnan || c.isSnan then Flags.nv else 0))

def fFma (f : Fmt) (rm : Rm) (a b c : Nat) : Nat × Flags :=
  finish f rm (fmaV rm (decodeF f a) (decodeF f b) (decodeF f c))

def fMin (f : Fmt) (a b : Nat) : Nat × Flags := finish f .nearest (minMaxV false (decodeF f a) (decodeF f b))
def fMax (f : Fmt) (a b : Nat) : Nat × Flags := finish f .nearest (minMaxV true (decodeF f a) (decodeF f b))
def fCmp (f : Fmt) (cond : Nat) (a b : Nat) : Nat × Flags :=
  let r := cmpV cond (decodeF f a) (decodeF f b)
  (flagNat r.1, r.2)

/-- convertFormat (R392). -/
def fCvt (src dst : Fmt) (rm : Rm) (a : Nat) : Nat × Flags := encodeF dst rm (decodeF src a)

/-- Float to signed integer of `w` bits, saturating (R393). -/
def fToInt (src : Fmt) (w : Nat) (rm : Rm) (a : Nat) : Nat × Flags :=
  let lo : Int := -(2 ^ (w - 1))
  let hi : Int := 2 ^ (w - 1) - 1
  let sat (v : Int) : Nat := (v % 2 ^ w).toNat
  match decodeF src a with
  | .nan _ => (0, Flags.nv)
  | .inf n => (sat (if n then lo else hi), Flags.nv)
  | .fin n m e =>
    let r := roundAt rm n m e 0
    let v := sm n r.1
    if v < lo then (sat lo, Flags.nv)
    else if hi < v then (sat hi, Flags.nv)
    else (sat v, if r.2 then Flags.nx else 0)

/-- Signed integer of `w` bits to float (R394). -/
def fOfInt (dst : Fmt) (w : Nat) (rm : Rm) (a : Nat) : Nat × Flags :=
  let v := signedNat w a
  roundF dst rm (decide (v < 0)) v.natAbs 0

end Sys2Proof.Machine
end

