-- ==== Sys2Proof/Machine/Formats.lean ====
section
/-!
DEFINITION. Number formats and conversion (07_number_formats.md): the MX element formats, the conversion codes, the
layout of MX runs, quantising, dequantising, plain conversions, and the random stream of stochastic rounding.
-/

namespace Sys2Proof.Machine

/-- The MX element formats, in the order of TARGET (R376). -/
inductive MxFmt where
  | e4m3
  | e5m2
  | e3m2
  | e2m3
  | e2m1
  | int8
deriving DecidableEq, Repr

/-- The format that a three-bit TARGET or FORMAT field names; 6 and 7 are reserved (R376, R377). -/
def mxOf (n : Nat) : Option MxFmt :=
  match n with
  | 0 => some .e4m3
  | 1 => some .e5m2
  | 2 => some .e3m2
  | 3 => some .e2m3
  | 4 => some .e2m1
  | 5 => some .int8
  | _ => none

/-- Element width in bits (R368, R369). -/
def MxFmt.bits : MxFmt → Nat
  | .e4m3 => 8
  | .e5m2 => 8
  | .e3m2 => 6
  | .e2m3 => 6
  | .e2m1 => 4
  | .int8 => 8

/-- Mantissa bits of the floating-point elements (R368). -/
def MxFmt.mbits : MxFmt → Nat
  | .e4m3 => 3
  | .e5m2 => 2
  | .e3m2 => 2
  | .e2m3 => 3
  | .e2m1 => 1
  | .int8 => 6

/-- Exponent of the largest normal value (R368, R369). -/
def MxFmt.emax : MxFmt → Int
  | .e4m3 => 8
  | .e5m2 => 15
  | .e3m2 => 4
  | .e2m3 => 2
  | .e2m1 => 2
  | .int8 => 0

/-- Exponent of the smallest subnormal (R368). -/
def MxFmt.qmin : MxFmt → Int
  | .e4m3 => -9
  | .e5m2 => -16
  | .e3m2 => -4
  | .e2m3 => -3
  | .e2m1 => -1
  | .int8 => -6

/-- Encoding of the largest finite magnitude (R368). -/
def MxFmt.maxBits : MxFmt → Nat
  | .e4m3 => 0x7E
  | .e5m2 => 0x7B
  | .e3m2 => 0x1F
  | .e2m3 => 0x1F
  | .e2m1 => 0x7
  | .int8 => 127

/-- The value of an MX element without its scale (R368, R369). -/
def decodeMx (f : MxFmt) (x : Nat) : FVal :=
  match f with
  | .int8 => let v := signedNat 8 x; .fin (decide (v < 0)) v.natAbs (-6)
  | _ =>
    let neg := decide (x / 2 ^ (f.bits - 1) % 2 = 1)
    let mag := x % 2 ^ (f.bits - 1)
    let ex := mag / 2 ^ f.mbits
    let fr := mag % 2 ^ f.mbits
    if f = .e4m3 ∧ mag = 0x7F then .nan false
    else if f = .e5m2 ∧ ex = 31 then (if fr = 0 then .inf neg else .nan false)
    else if ex = 0 then .fin neg fr f.qmin
    else .fin neg (2 ^ f.mbits + fr) (f.qmin + (ex - 1 : Nat))

/-- How a conversion rounds: a direction, or a 16-bit draw (R399). -/
inductive Rnd where
  | dir (rm : Rm)
  | stoch (d : Nat)
deriving DecidableEq, Repr

/-- Whether a magnitude goes to the larger neighbour, `rem` of `2^sh` above the smaller (R399). -/
def Rnd.up (r : Rnd) (neg odd : Bool) (rem sh : Nat) : Bool :=
  match r with
  | .dir rm => roundsUp rm neg odd rem (2 ^ (sh - 1))
  | .stoch d => decide (d < 2 ^ 16 * rem / 2 ^ sh)

/-- A magnitude `m * 2^e` as the multiple of `2^q` it rounds to. -/
def Rnd.at (r : Rnd) (neg : Bool) (m : Nat) (e q : Int) : Nat :=
  if q ≤ e then m * 2 ^ (e - q).toNat
  else
    let sh := (q - e).toNat
    let k := m / 2 ^ sh
    let rem := m % 2 ^ sh
    if rem = 0 then k else if r.up neg (decide (k % 2 = 1)) rem sh then k + 1 else k

/-- Unsigned encoding of a magnitude in a format of `mb` mantissa bits above `2^qmin`, not yet saturated. -/
def encodeMag (r : Rnd) (neg : Bool) (mb : Nat) (qmin : Int) (m : Nat) (e : Int) : Nat :=
  if m = 0 then 0
  else
    let top : Int := e + Nat.log2 m
    let q := max (top - mb) qmin
    (q - qmin).toNat * 2 ^ mb + r.at neg m e q

/-- A finite value scaled by `2^-k` and put into an MX element, saturating (R387, R388). -/
def encodeMx (f : MxFmt) (r : Rnd) (neg : Bool) (m : Nat) (e k : Int) : Nat :=
  match f with
  | .int8 =>
    let v := min 127 (r.at neg m (e - k) (-6))
    if neg then (256 - v) % 256 else v
  | _ =>
    let b := min f.maxBits (encodeMag r neg f.mbits f.qmin m (e - k))
    if neg then b + 2 ^ (f.bits - 1) else b

/-- Rounds a value into an IEEE format by a direction or a draw (R392, R399). -/
def encodePlain (dst : Fmt) (r : Rnd) (v : FVal) : Nat :=
  match r with
  | .dir rm => (encodeF dst rm v).1
  | .stoch _ =>
    match v with
    | .nan _ => dst.nanBits
    | .inf n => signed dst n dst.infBits
    | .fin n m e => signed dst n (min dst.infBits (encodeMag r n dst.mb dst.qmin m e))

/-- A conversion (R375 to R378). -/
inductive Conv where
  | none
  | plain (src dst : Fmt) (stoch : Bool)
  | quant (target : MxFmt) (src : Fmt) (blk16 g128 stoch : Bool)
  | dequant (source : MxFmt) (dst : Fmt) (blk16 g128 : Bool)
deriving DecidableEq, Repr

/-- The conversion that a code names; `none` for a reserved code (R376 to R378). -/
def convOf (code : Nat) : Option Conv :=
  if 128 ≤ code then
    match mxOf (code / 16 % 8) with
    | some t => some (.quant t (if code / 8 % 2 = 1 then .bf16 else .fp32) (decide (code / 4 % 2 = 1))
        (decide (code / 2 % 2 = 1)) (decide (code % 2 = 1)))
    | Option.none => Option.none
  else if 64 ≤ code then
    match mxOf (code / 8 % 8) with
    | some t => some (.dequant t (if code / 4 % 2 = 1 then .bf16 else .fp32) (decide (code / 2 % 2 = 1))
        (decide (code % 2 = 1)))
    | Option.none => Option.none
  else
    match code with
    | 0 => some .none
    | 1 => some (.plain .fp32 .bf16 false)
    | 2 => some (.plain .fp32 .bf16 true)
    | 3 => some (.plain .fp32 .fp16 false)
    | 4 => some (.plain .fp32 .fp16 true)
    | 5 => some (.plain .bf16 .fp32 false)
    | 6 => some (.plain .fp16 .fp32 false)
    | 7 => some (.plain .fp64 .fp32 false)
    | 8 => some (.plain .fp32 .fp64 false)
    | _ => Option.none

/-- Whether a conversion draws from the random stream (R380, R395). -/
def Conv.stochastic : Conv → Bool
  | .none => false
  | .plain _ _ s => s
  | .quant _ _ _ _ s => s
  | .dequant _ _ _ _ => false

/-- Bytes of an IEEE element. -/
def Fmt.bytes (f : Fmt) : Nat := f.width / 8

/-- Bytes of a row's elements (R372). -/
def MxFmt.rowBytes (f : MxFmt) : Nat := 4 * f.bits

def scalesPerRow (blk16 : Bool) : Nat := if blk16 then 2 else 1

/-- Destination length of a copy of `len` source bytes, when the length meets its family's rule (R381). -/
def Conv.dstLen (c : Conv) (len : Nat) : Option Nat :=
  match c with
  | .none => some len
  | .plain s d _ => if len % s.bytes = 0 then some (len / s.bytes * d.bytes) else Option.none
  | .quant t s b _ _ =>
    if len % (32 * s.bytes) = 0 then some (len / (32 * s.bytes) * (t.rowBytes + scalesPerRow b)) else Option.none
  | .dequant t d b _ =>
    if len % (t.rowBytes + scalesPerRow b) = 0 then some (len / (t.rowBytes + scalesPerRow b) * 32 * d.bytes)
    else Option.none

/-- The IEEE sides of a conversion start at a multiple of their element size (R382). -/
def Conv.aligned (c : Conv) (src dst : Nat) : Bool :=
  match c with
  | .none => true
  | .plain s d _ => decide (src % s.bytes = 0) && decide (dst % d.bytes = 0)
  | .quant _ s _ _ _ => decide (src % s.bytes = 0)
  | .dequant _ d _ _ => decide (dst % d.bytes = 0)

/-- The n elements of `bytes` that a format's size cuts a byte list into. -/
def elements (size : Nat) : Nat → List Byte → List Nat
  | 0, _ => []
  | n + 1, bs => leNat (bs.take size) :: elements size n (bs.drop size)

/-- The quarter round of RFC 8439 on four words. -/
def quarter (a b c d : Half) : Half × Half × Half × Half :=
  let a := a + b; let d := (d ^^^ a).rotateLeft 16
  let c := c + d; let b := (b ^^^ c).rotateLeft 12
  let a := a + b; let d := (d ^^^ a).rotateLeft 8
  let c := c + d; let b := (b ^^^ c).rotateLeft 7
  (a, b, c, d)

/-- A quarter round applied to four places of the state. -/
def quarterAt (i j k l : Nat) (s : List Half) : List Half :=
  let q := quarter (nth s i 0) (nth s j 0) (nth s k 0) (nth s l 0)
  (((s.set i q.1).set j q.2.1).set k q.2.2.1).set l q.2.2.2

/-- A column round and a diagonal round (R397). -/
def doubleRound (s : List Half) : List Half :=
  let s := quarterAt 3 7 11 15 (quarterAt 2 6 10 14 (quarterAt 1 5 9 13 (quarterAt 0 4 8 12 s)))
  quarterAt 3 4 9 14 (quarterAt 2 7 8 13 (quarterAt 1 6 11 12 (quarterAt 0 5 10 15 s)))

/-- A random stream: its key, ID and counter base (R395). -/
structure Stream where
  key : List Byte
  id : Nat
  counter : Nat
deriving DecidableEq, Repr

/-- The input state of the draw function (R397). -/
def streamInput (st : Stream) (counter : Nat) : List Half :=
  [0x61707865, 0x3320646E, 0x79622D32, 0x6B206574]
  ++ (elements 4 8 st.key).map (BitVec.ofNat 32)
  ++ [BitVec.ofNat 32 counter, BitVec.ofNat 32 (counter / 2 ^ 32), BitVec.ofNat 32 st.id, BitVec.ofNat 32 (st.id / 2 ^ 32)]

/-- One block of the ChaCha function reduced to 8 rounds (R397). -/
def drawBlock (st : Stream) (counter : Nat) : List Half :=
  let i := streamInput st counter
  List.zipWith (· + ·) (doubleRound (doubleRound (doubleRound (doubleRound i)))) i

/-- Draw of element `i` of a row whose first destination element byte lies at `addr` (R398). -/
def draw (st : Stream) (addr i : Nat) : Nat :=
  let w := (nth (drawBlock st ((st.counter + addr / 16) % 2 ^ 64)) (i / 2) 0).toNat
  if i % 2 = 0 then w % 2 ^ 16 else w / 2 ^ 16

/-- How element `i` of a row is rounded. -/
def rndFor (stoch : Bool) (st : Stream) (addr i : Nat) : Rnd :=
  if stoch then .stoch (draw st addr i) else .dir .nearest

/-- Largest magnitude's binary exponent among finite values of a block; `none` when all are zero or not finite (R386). -/
def blockExp : List FVal → Option Int
  | [] => none
  | v :: vs =>
    let r := blockExp vs
    match v with
    | .fin _ m e =>
      if m = 0 then r
      else
        let t : Int := e + Nat.log2 m
        match r with
        | some x => some (max t x)
        | none => some t
    | .nan _ => r
    | .inf _ => r

/-- The scale exponent of a block (R386). -/
def scaleExp (f : MxFmt) (vs : List FVal) : Int :=
  match blockExp vs with
  | none => -127
  | some t => max (-127) (min 127 (t - f.emax))

/-- Whether a block becomes a NaN block (R389). -/
def nanBlock (f : MxFmt) (vs : List FVal) : Bool :=
  vs.any fun v =>
    match v with
    | .nan _ => true
    | .inf _ => decide (f ≠ .e5m2)
    | .fin _ _ _ => false

/-- A block quantised: its scale byte and its elements, the first being element `base` of the row (R386 to R389). -/
def quantBlock (f : MxFmt) (rnd : Nat → Rnd) (base : Nat) (vs : List FVal) : Nat × List Nat :=
  if nanBlock f vs then (0xFF, vs.map fun _ => 0)
  else
    let k := scaleExp f vs
    ((k + 127).toNat, vs.mapIdx fun i v =>
      match v with
      | .fin n m e => encodeMx f (rnd (base + i)) n m e k
      | .inf n => if n then 0xFC else 0x7C
      | .nan _ => 0)

/-- Elements packed lowest first into a row's bytes (R372). -/
def packRow (f : MxFmt) (els : List Nat) : List Byte :=
  leBytes f.rowBytes (els.foldr (fun x acc => x + acc * 2 ^ f.bits) 0)

/-- Element `i` of a packed row (R372). -/
def rowElement (f : MxFmt) (row : List Byte) (i : Nat) : Nat := leNat row / 2 ^ (i * f.bits) % 2 ^ f.bits

/-- A row of 32 values quantised: element bytes and scale bytes. -/
def quantRow (f : MxFmt) (blk16 : Bool) (rnd : Nat → Rnd) (vs : List FVal) : List Byte × List Byte :=
  if blk16 then
    let lo := quantBlock f rnd 0 (vs.take 16)
    let hi := quantBlock f rnd 16 (vs.drop 16)
    (packRow f (lo.2 ++ hi.2), [BitVec.ofNat 8 lo.1, BitVec.ofNat 8 hi.1])
  else
    let b := quantBlock f rnd 0 vs
    (packRow f b.2, [BitVec.ofNat 8 b.1])

/-- Rows in a segment (R376, R377). -/
def segRows (g128 : Bool) : Nat := if g128 then 128 else 64

/-- Offset of row `r`'s elements in a run, its segment's row count, and the row's place in the segment (R373, R374). -/
def rowPlace (f : MxFmt) (blk16 g128 : Bool) (rows r : Nat) : Nat × Nat × Nat :=
  let g := segRows g128
  let seg := r / g
  let n := min g (rows - seg * g)
  (seg * g * (f.rowBytes + scalesPerRow blk16), n, r % g)

/-- Offset of the elements of row `r` in a run of `rows` rows. -/
def rowOffset (f : MxFmt) (blk16 g128 : Bool) (rows r : Nat) : Nat :=
  let p := rowPlace f blk16 g128 rows r
  p.1 + p.2.2 * f.rowBytes

/-- Offset of the first scale byte of row `r` (R373). -/
def scaleOffset (f : MxFmt) (blk16 g128 : Bool) (rows r : Nat) : Nat :=
  let p := rowPlace f blk16 g128 rows r
  p.1 + p.2.1 * f.rowBytes + p.2.2 * scalesPerRow blk16

/-- A list of bytes laid over another at an offset. -/
def overlay (bs : List Byte) (off : Nat) (new : List Byte) : List Byte :=
  bs.take off ++ new ++ bs.drop (off + new.length)

/-- A run quantised from source bytes; `dst` is the address of the run's first byte (R381, R386 to R390, R398). -/
def quantise (t : MxFmt) (s : Fmt) (blk16 g128 stoch : Bool) (st : Stream) (dst : Nat) (src : List Byte) : List Byte :=
  let rows := src.length / (32 * s.bytes)
  let total := rows * (t.rowBytes + scalesPerRow blk16)
  (List.range rows).foldl (fun out r =>
    let vs := (elements s.bytes 32 (src.drop (r * 32 * s.bytes))).map (decodeF s)
    let off := rowOffset t blk16 g128 rows r
    let q := quantRow t blk16 (rndFor stoch st (dst + off)) vs
    overlay (overlay out off q.1) (scaleOffset t blk16 g128 rows r) q.2) (List.replicate total 0)

/-- A value times a power of two. -/
def scaleV (v : FVal) (k : Int) : FVal :=
  match v with
  | .nan s => .nan s
  | .inf n => .inf n
  | .fin n m e => .fin n m (e + k)

/-- A run dequantised (R391). -/
def dequantise (t : MxFmt) (d : Fmt) (blk16 g128 : Bool) (src : List Byte) : List Byte :=
  let rows := src.length / (t.rowBytes + scalesPerRow blk16)
  (List.range rows).flatMap fun r =>
    let row := (src.drop (rowOffset t blk16 g128 rows r)).take t.rowBytes
    let so := scaleOffset t blk16 g128 rows r
    (List.range 32).flatMap fun i =>
      let sc := (nth src (so + (if blk16 then i / 16 else 0)) 0).toNat
      let v := if sc = 0xFF then FVal.nan false else scaleV (decodeMx t (rowElement t row i)) ((sc : Int) - 127)
      leBytes d.bytes (encodeF d .nearest v).1

/-- Element-wise conversion (R378, R392, R398). -/
def convertPlain (s d : Fmt) (stoch : Bool) (st : Stream) (dst : Nat) (src : List Byte) : List Byte :=
  (elements s.bytes (src.length / s.bytes) src).zipIdx.flatMap fun p =>
    let rowAddr := dst + p.2 / 32 * 32 * d.bytes
    leBytes d.bytes (encodePlain d (rndFor stoch st rowAddr (p.2 % 32)) (decodeF s p.1))

/-- The destination bytes of a copy (R375 to R399). -/
def Conv.apply (c : Conv) (st : Stream) (dst : Nat) (src : List Byte) : List Byte :=
  match c with
  | .none => src
  | .plain s d stoch => convertPlain s d stoch st dst src
  | .quant t s b g stoch => quantise t s b g stoch st dst src
  | .dequant t d b g => dequantise t d b g src

end Sys2Proof.Machine
end

