-- ==== Sys2Proof/Machine/Accum.lean ====
section
/-!
DEFINITION. The arithmetic of the matrix engine (06_matrix_engine.md): operand panels, the FP32 form, the anchored form,
slices, and the reading of an accumulator.
-/

namespace Sys2Proof.Machine

/-- An anchored element (R342). -/
structure AnchEl where
  /-- SUM: 184-bit two's complement. -/
  sum : BitVec 184
  inx : Bool
  hugePos : Bool
  hugeNeg : Bool
  nan : Bool
  pinf : Bool
  ninf : Bool
deriving DecidableEq, Repr

/-- An anchored element with SUM and every flag clear (R343). -/
def AnchEl.zero : AnchEl := ⟨0, false, false, false, false, false, false⟩

/-- An accumulator tile of 64 x 128 elements in row order (R335, R342); an anchored tile whose anchor is pending has none. -/
inductive AccTile where
  | fp32 (els : List Half)
  | anchored (anchor : Option Int) (els : List AnchEl)
deriving DecidableEq, Repr

/-- Elements of a tile. -/
def accSize : Nat := 64 * 128

/-- The FP32 form with every element +0 (R322, R335). -/
def AccTile.zero : AccTile := .fp32 (List.replicate accSize 0)

/-- The mma operand kinds (R313). -/
inductive MmaKind where
  | mx (a b : MxFmt)
  | slices (f : Fmt)
deriving DecidableEq, Repr

/-- Row bytes W of a panel (R327, R329). -/
def MmaKind.rowBytes : MmaKind → Nat
  | .mx a _ => a.rowBytes
  | .slices f => 32 * f.bytes

/-- Panel stride of an operand of `rows` rows (R329). -/
def MmaKind.stride (k : MmaKind) (blk16 : Bool) (rows : Nat) : Nat :=
  match k with
  | .mx _ _ => rows * (k.rowBytes + scalesPerRow blk16)
  | .slices _ => rows * k.rowBytes

/-- One row of A, or column of B, for a K step: 32 element values and the scale bytes. -/
structure PanelRow where
  els : List FVal
  scales : List Nat
deriving DecidableEq, Repr

/-- Row `r` of an MX panel of `rows` rows (R327, R328). -/
def mxRow (f : MxFmt) (blk16 : Bool) (rows r : Nat) (panel : List Byte) : PanelRow :=
  let w := f.rowBytes
  let row := (panel.drop (r * w)).take w
  { els := (List.range 32).map fun i => decodeMx f (rowElement f row i)
    scales := (List.range (scalesPerRow blk16)).map fun j =>
      (nth panel (rows * w + r * scalesPerRow blk16 + j) 0).toNat }

/-- Row `r` of a slice panel (R327). -/
def sliceRow (f : Fmt) (r : Nat) (panel : List Byte) : PanelRow :=
  { els := (elements f.bytes 32 (panel.drop (r * 32 * f.bytes))).map (decodeF f)
    scales := [] }

/-- The value that FP32 arithmetic of the FP32 form yields: nearest even, subnormal results flushed, canonical NaN (R336 to R338). -/
def rn32 (v : FVal) : FVal :=
  match decodeF .fp32 (encodeF .fp32 .nearest v).1 with
  | .fin n m e => if m < 2 ^ 23 then .fin n 0 e else .fin n m e
  | .inf n => .inf n
  | .nan _ => .nan false

def addRn (a b : FVal) : FVal := rn32 (addV .nearest a b).1

/-- The pairwise tree of R336, one level. -/
def pairUp : List FVal → List FVal
  | a :: b :: rest => addRn a b :: pairUp rest
  | l => l

/-- The pairwise tree of R336. -/
def treeSum : Nat → List FVal → FVal
  | 0, l => l.headD (.fin false 0 0)
  | n + 1, l => treeSum n (pairUp l)

/-- Value of an E8M0 scale product, `none` for a NaN scale (R370). -/
def scalePair (sa sb : Nat) : Option Int :=
  if sa = 0xFF ∨ sb = 0xFF then none else some ((sa : Int) - 127 + (sb - 127))

/-- Blocks of a K step: elements of A and B, and the two scales. -/
def blocks (blk16 : Bool) (a b : PanelRow) : List (List FVal × List FVal × Nat × Nat) :=
  if blk16 then
    [(a.els.take 16, b.els.take 16, nth a.scales 0 0, nth b.scales 0 0),
     (a.els.drop 16, b.els.drop 16, nth a.scales 1 0, nth b.scales 1 0)]
  else [(a.els, b.els, nth a.scales 0 0, nth b.scales 0 0)]

/-- t of one block (R336, R338). -/
def blockTerm (b : List FVal × List FVal × Nat × Nat) : FVal :=
  match scalePair b.2.2.1 b.2.2.2 with
  | none => .nan false
  | some k => rn32 (scaleV (treeSum 5 (List.zipWith (fun x y => (mulV x y).1) b.1 b.2.1)) k)

/-- Encoding of a value that `rn32` gave. -/
def bits32 (v : FVal) : Half := BitVec.ofNat 32 (encodeF .fp32 .nearest v).1

/-- One element after one block (R336, R339): `none` for the first block under OVERWRITE. -/
def fp32Block (acc : Option Half) (b : List FVal × List FVal × Nat × Nat) : Option Half :=
  match acc with
  | none => some (bits32 (blockTerm b))
  | some c => some (bits32 (addRn (decodeF .fp32 c.toNat) (blockTerm b)))

/-- One element after all the K steps of an instruction (R312, R336). -/
def fp32Element (blk16 ow : Bool) (old : Half) (steps : List (PanelRow × PanelRow)) : Half :=
  (steps.foldl (fun acc st => (blocks blk16 st.1 st.2).foldl fp32Block acc)
    (if ow then none else some old)).getD old

/-- One product added to an anchored element (R345 to R347). -/
def anchAdd (anchor : Int) (el : AnchEl) (p : FVal) : AnchEl :=
  match p with
  | .nan _ => { el with nan := true }
  | .inf n => if n then { el with ninf := true } else { el with pinf := true }
  | .fin n m e =>
    let r := roundAt .nearest n m e (anchor - 96)
    let el := if r.2 then { el with inx := true } else el
    if 2 ^ 151 ≤ r.1 then (if n then { el with hugeNeg := true } else { el with hugePos := true })
    else { el with sum := el.sum + BitVec.ofInt 184 (sm n r.1) }

/-- One block of an MX product into an anchored element. -/
def anchBlock (anchor : Int) (el : AnchEl) (b : List FVal × List FVal × Nat × Nat) : AnchEl :=
  match scalePair b.2.2.1 b.2.2.2 with
  | none => { el with nan := true }
  | some k => (List.zipWith (fun x y => scaleV (mulV x y).1 k) b.1 b.2.1).foldl (anchAdd anchor) el

/-- Slices of a significand: highest first (R357, R358). -/
def slicesOf (f : Fmt) (m : Nat) : List Nat :=
  if f = .fp64 then (List.range 7).map fun i => m * 8 / 2 ^ (8 * (6 - i)) % 256
  else (List.range 3).map fun i => m / 2 ^ (8 * (2 - i)) % 256

/-- Highest slice index and largest kept index sum (R359). -/
def sliceTop (f : Fmt) : Nat := if f = .fp64 then 6 else 2
def sliceLimit (f : Fmt) : Nat := if f = .fp64 then 7 else 2

/-- Exponent of the lowest slice's least significant bit, from the exponent of the significand's (R357, R358). -/
def sliceBase (f : Fmt) (e : Int) : Int := if f = .fp64 then e - 3 else e

/-- Index of the last non-zero slice. -/
def lastSlice (sl : List Nat) : Nat := (sl.zipIdx.foldl (fun acc p => if p.1 ≠ 0 then p.2 else acc) 0)

/-- One MAC of a slice instruction (R359, R361). -/
def sliceMac (f : Fmt) (anchor : Int) (el : AnchEl) (a b : FVal) : AnchEl :=
  match a, b with
  | .fin na ma ea, .fin nb mb eb =>
    if ma = 0 ∨ mb = 0 then el
    else
      let sa := slicesOf f ma
      let sb := slicesOf f mb
      let e := sliceBase f ea + sliceBase f eb
      let top := sliceTop f
      let el := (sa.zipIdx.flatMap fun x => sb.zipIdx.filterMap fun y =>
          if x.2 + y.2 ≤ sliceLimit f then
            some (FVal.fin (na != nb) (x.1 * y.1) (e + 8 * ((top - x.2 + (top - y.2) : Nat) : Int)))
          else none).foldl (anchAdd anchor) el
      if sliceLimit f < lastSlice sa + lastSlice sb then { el with inx := true } else el
  | _, _ => anchAdd anchor el (mulV a b).1

/-- One element of an anchored tile after all the K steps of an instruction. -/
def anchElement (k : MmaKind) (blk16 ow : Bool) (anchor : Int) (old : AnchEl) (steps : List (PanelRow × PanelRow)) : AnchEl :=
  steps.foldl (fun el st =>
    match k with
    | .mx _ _ => (blocks blk16 st.1 st.2).foldl (anchBlock anchor) el
    | .slices f => (List.zip st.1.els st.2.els).foldl (fun el p => sliceMac f anchor el p.1 p.2) el)
    (if ow then AnchEl.zero else old)

/-- U of R344. -/
def MxFmt.upper : MxFmt → Int
  | .e4m3 => 9
  | .e5m2 => 16
  | .e3m2 => 5
  | .e2m3 => 3
  | .e2m1 => 3
  | .int8 => 2

/-- Exponent of a scale byte for R344: 0xFF counts as 0. -/
def scaleExpOf (b : Nat) : Int := if b = 0xFF then 0 else (b : Int) - 127

/-- Largest exponent among the finite non-zero elements of a side, or the format's subnormal exponent (R364). -/
def sideExp (f : Fmt) (els : List FVal) : Int :=
  (els.foldl (fun (acc : Option Int) v =>
    match v with
    | .fin _ m e =>
      if m = 0 then acc
      else
        let x := e + f.mb
        some (match acc with | some y => max x y | none => x)
    | .nan _ => acc
    | .inf _ => acc) none).getD (f.qmin + f.mb)

/-- The anchor that a pending tile takes from its first K step (R344, R364). -/
def pendingAnchor (k : MmaKind) (a b : PanelRow) : Int :=
  match k with
  | .mx fa fb => scaleExpOf (nth a.scales 0 0) + scaleExpOf (nth b.scales 0 0) + fa.upper + fb.upper
  | .slices f => sideExp f a.els + sideExp f b.els + 2

/-- Rows of the panels of every K step, decoded: A rows per step and B columns per step. -/
def panelRows (k : MmaKind) (blk16 : Bool) (isA : Bool) (rows : Nat) (bytes : List Byte) (steps : Nat) : List (List PanelRow) :=
  (List.range steps).map fun s =>
    let panel := (bytes.drop (s * k.stride blk16 rows)).take (k.stride blk16 rows)
    (List.range rows).map fun r =>
      match k with
      | .mx fa fb => mxRow (if isA then fa else fb) blk16 rows r panel
      | .slices f => sliceRow f r panel

def PanelRow.empty : PanelRow := ⟨[], []⟩

/-- An mma on a tile (R312, R336 to R351): the new tile and whether any element's INX was set by it. -/
def mmaTile (k : MmaKind) (blk16 ow : Bool) (steps : Nat) (aBytes bBytes : List Byte) (t : AccTile) : AccTile × Bool :=
  let a := panelRows k blk16 true 64 aBytes steps
  let b := panelRows k blk16 false 128 bBytes steps
  let col (i : Nat) : List (PanelRow × PanelRow) :=
    (List.zip a b).map fun s => (nth s.1 (i / 128) PanelRow.empty, nth s.2 (i % 128) PanelRow.empty)
  match t with
  | .fp32 els =>
    (.fp32 ((List.range accSize).map fun i => fp32Element blk16 ow (nth els i 0) (col i)), false)
  | .anchored anchor els =>
    let anch := anchor.getD (pendingAnchor k (nth (nth a 0 []) 0 PanelRow.empty) (nth (nth b 0 []) 0 PanelRow.empty))
    let fresh := (List.range accSize).map fun i =>
      let old := nth els i AnchEl.zero
      anchElement k blk16 ow anch { old with inx := false } (col i)
    let kept := fresh.zipIdx.map fun p => { p.1 with inx := p.1.inx || (!ow && (nth els p.2 AnchEl.zero).inx) }
    (.anchored (some anch) kept, fresh.any (·.inx))

/-- SUM as an integer. -/
def AnchEl.value (el : AnchEl) : Int := el.sum.toInt

/-- Out of window (R349). -/
def AnchEl.out (el : AnchEl) : Bool :=
  el.hugePos || el.hugeNeg || decide (el.value < -(2 ^ 151)) || decide (2 ^ 151 - 1 < el.value)

/-- The value that a read of an anchored element gives before rounding (R354). -/
def AnchEl.read (anchor : Int) (el : AnchEl) : FVal :=
  if el.nan || (el.pinf && el.ninf) || (el.hugePos && el.hugeNeg) then .nan false
  else if el.pinf then .inf false
  else if el.ninf then .inf true
  else if el.hugePos || (el.out && decide (0 < el.value)) then .fin false (2 ^ 151 - 1) (anchor - 96)
  else if el.hugeNeg || el.out then .fin true (2 ^ 151) (anchor - 96)
  else .fin (decide (el.value < 0)) el.value.natAbs (anchor - 96)

/-- Element `i` of a tile as a value for a read (R353, R354, R428); a pending anchor counts as 0 for an all-clear element. -/
def AccTile.valueAt (t : AccTile) (i : Nat) : FVal :=
  match t with
  | .fp32 els => decodeF .fp32 (nth els i 0).toNat
  | .anchored anchor els => (nth els i AnchEl.zero).read (anchor.getD 0)

/-- Whether a read meets an out-of-window element (R350). -/
def AccTile.anyOut (t : AccTile) : Bool :=
  match t with
  | .fp32 _ => false
  | .anchored _ els => els.any (·.out)

/-- The 32 bytes of raw output (R355). -/
def rawElement (anchor : Option Int) (el : AnchEl) : List Byte :=
  let flags := flagNat el.inx + 2 * flagNat el.out + 4 * flagNat el.hugeNeg + 8 * flagNat el.hugePos + 16 * flagNat el.ninf
    + 32 * flagNat el.pinf + 64 * flagNat el.nan + 128 * flagNat anchor.isNone
  leBytes 24 (el.sum.signExtend 192).toNat ++ leBytes 8 (flags + 2 ^ 32 * (BitVec.ofInt 32 (anchor.getD 0)).toNat)

/-- The output of acc.read in format 0 FP32, 1 FP64, 2 raw (R352 to R355); raw output needs an anchored tile. -/
def AccTile.output (t : AccTile) (fmt : Nat) : List Byte :=
  (List.range accSize).flatMap fun i =>
    match fmt, t with
    | 0, .fp32 els => leBytes 4 (nth els i 0).toNat
    | 0, .anchored _ _ => leBytes 4 (encodeF .fp32 .nearest (t.valueAt i)).1
    | 1, _ => leBytes 8 (encodeF .fp64 .nearest (t.valueAt i)).1
    | _, .anchored anchor els => rawElement anchor (nth els i AnchEl.zero)
    | _, .fp32 els => leBytes 32 (nth els i 0).toNat

end Sys2Proof.Machine
end

