-- ==== Sys2Proof/Machine/TileProg.lean ====
section
/-!
DEFINITION. Element programs, permutations and summaries of the tile-vector engine (08_vector_engine.md), over bit patterns.
-/

namespace Sys2Proof.Machine

/-- Stream types (R403). -/
inductive SType where
  | fp32
  | fp64
  | bf16
  | int32
deriving DecidableEq, Repr

def sTypeOf (n : Nat) : SType :=
  match n % 4 with
  | 0 => .fp32
  | 1 => .fp64
  | 2 => .bf16
  | _ => .int32

/-- Element width in bits (R405). -/
def SType.bits : SType → Nat
  | .fp32 => 32
  | .fp64 => 64
  | .bf16 => 16
  | .int32 => 32

/-- Float format of a stream type; INT32 has none. -/
def SType.fmt : SType → Option Fmt
  | .fp32 => some .fp32
  | .fp64 => some .fp64
  | .bf16 => some .bf16
  | .int32 => none

/-- Columns of a tile in a stream type (R405). -/
def SType.cols : SType → Nat
  | .fp32 => 16
  | .fp64 => 8
  | .bf16 => 32
  | .int32 => 16

/-- Elements of a tile in a stream type (R405). -/
def SType.count (t : SType) : Nat := 16 * t.cols

/-- A loaded element program (R413). -/
structure VepProg where
  rm : Nat
  ops : List Nat
  rows : Nat
  cols : Nat
  consts : List Nat
  in0 : Nat
  in1 : Nat
  out : Nat
deriving DecidableEq, Repr

/-- Fields of an operation word (R414). -/
structure VepOp where
  opc : Nat
  d : Nat
  a : Nat
  b : Nat
  c : Nat
  low : Nat
deriving DecidableEq, Repr

def vepOp (w : Nat) : VepOp :=
  { opc := w / 2 ^ 26 % 64, d := w / 2 ^ 22 % 16, a := w / 2 ^ 18 % 16, b := w / 2 ^ 14 % 16, c := w / 2 ^ 10 % 16, low := w % 2 ^ 10 }

/-- How many sources an operation uses (R415). -/
def vepArity (opc : Nat) : Nat :=
  if opc = 0 ∨ opc = 7 ∨ opc = 8 ∨ (0x11 ≤ opc ∧ opc ≤ 0x15) then 1
  else if opc = 4 ∨ opc = 0x0C then 3
  else if opc = 0x16 ∨ opc = 0x17 then 0
  else 2

/-- A source selector that is not reserved (R414). -/
def selOk (x : Nat) : Bool := decide (x ≤ 9) || decide (12 ≤ x)

/-- An operation that R412 accepts. -/
def vepOpOk (w : Nat) : Bool :=
  let o := vepOp w
  let n := vepArity o.opc
  decide (o.opc ≤ 0x17) && decide (o.d ≤ 8) && decide (o.low = 0)
    && (if 1 ≤ n then selOk o.a else decide (o.a = 0))
    && (if 2 ≤ n then selOk o.b else decide (o.b = 0))
    && (if 3 ≤ n then selOk o.c else decide (o.c = 0))

/-- Whether an operation reads a selector (R414). -/
def vepReads (w sel : Nat) : Bool :=
  let o := vepOp w
  let n := vepArity o.opc
  (decide (1 ≤ n) && decide (o.a = sel)) || (decide (2 ≤ n) && decide (o.b = sel)) || (decide (3 ≤ n) && decide (o.c = sel))

/-- Number of operations that an image header gives (R413). -/
def imageOps (header : List Byte) : Nat := leNat (header.take 8) / 2 ^ 32 % 64

/-- A header that R412 accepts: MAGIC, VERSION, NOPS and reserved fields (R413). -/
def headerOk (header : List Byte) : Bool :=
  let w := elements 8 8 header
  let w0 := nth w 0 0
  let n := w0 / 2 ^ 32 % 64
  let descOk (d : Nat) : Bool := decide (d / 2 ^ 56 % 16 = 0) && decide (d % 2 ^ 16 = 0)
  decide (w0 / 2 ^ 48 = 0x4550 ∧ w0 / 2 ^ 40 % 256 = 1 ∧ 1 ≤ n ∧ n ≤ 32 ∧ w0 / 2 ^ 16 % 256 = 0 ∧ w0 % 256 = 0
    ∧ nth w 6 0 = 0 ∧ nth w 7 0 = 0) && descOk (nth w 3 0) && descOk (nth w 4 0) && descOk (nth w 5 0)

/-- The program of an image, when R412 accepts it: 64 header bytes and then the operation words. -/
def parseProg (header : List Byte) (ops : List Nat) : Option VepProg :=
  let w := elements 8 8 header
  let w0 := nth w 0 0
  if headerOk header && ops.all vepOpOk && ops.any (fun o => decide ((vepOp o).d = 8)) then
    some { rm := w0 / 2 ^ 38 % 4, ops := ops, rows := w0 / 2 ^ 24 % 256, cols := w0 / 2 ^ 8 % 256
           consts := [nth w 1 0 % 2 ^ 32, nth w 1 0 / 2 ^ 32, nth w 2 0 % 2 ^ 32, nth w 2 0 / 2 ^ 32]
           in0 := nth w 3 0, in1 := nth w 4 0, out := nth w 5 0 }
  else none

/-- A float input under FTZ32 (R419, R853). -/
def ftzIn (ftz : Bool) (v : FVal) : FVal :=
  match v with
  | .fin n m e => if ftz && decide (m < 2 ^ 23) then .fin n 0 e else .fin n m e
  | .nan s => .nan s
  | .inf n => .inf n

/-- A float result: rounded, and under FTZ32 flushed with UF and NX (R419, R853). -/
def ftzOut (f : Fmt) (rm : Rm) (ftz : Bool) (r : FVal × Flags) : Nat × Flags :=
  let x := finish f rm r
  match decodeF f x.1 with
  | .fin n m _ => if ftz && decide (0 < m) && decide (m < 2 ^ f.mb) then (signed f n 0, x.2 ||| Flags.uf ||| Flags.nx) else x
  | .nan _ => x
  | .inf _ => x

/-- Encoding of 1.0 or +0.0 (R417). -/
def boolBits (f : Fmt) (b : Bool) : Nat := if b then (roundF f .nearest false 1 0).1 else 0

/-- A float operation (R415 to R419). -/
def vepFloat (f : Fmt) (rm : Rm) (ftz : Bool) (opc a b c r col : Nat) : Nat × Flags :=
  let va := ftzIn ftz (decodeF f a)
  let vb := ftzIn ftz (decodeF f b)
  let vc := ftzIn ftz (decodeF f c)
  let out := ftzOut f rm ftz
  let unflagged (v : FVal) : Nat × Flags := ((out (v, 0)).1, 0)
  match opc with
  | 0x01 => out (addV rm va vb)
  | 0x02 => out (addV rm va (negV vb))
  | 0x03 => out (mulV va vb)
  | 0x04 => out (fmaV rm va vb vc)
  | 0x05 => out (minMaxV false va vb)
  | 0x06 => out (minMaxV true va vb)
  | 0x07 => unflagged (match va with | .fin _ m e => .fin false m e | .inf _ => .inf false | .nan _ => .nan false)
  | 0x08 => unflagged (negV va)
  | 0x09 => let r := cmpV 0 va vb; (boolBits f r.1, r.2)
  | 0x0A => let r := cmpV 2 va vb; (boolBits f r.1, r.2)
  | 0x0B => let r := cmpV 3 va vb; (boolBits f r.1, r.2)
  | 0x10 => out (divV va vb)
  | 0x11 => out (sqrtV va)
  | 0x12 => out (divV (.fin false 1 0) va)
  | 0x13 => out (rsqrtV va)
  | 0x14 => out (exp2V va)
  | 0x15 => out (log2V va)
  | 0x16 => roundF f rm false r 0
  | 0x17 => roundF f rm false col 0
  | _ => (a, 0)

/-- Signed quotient or unsigned, with the corner results of R272. -/
def intDiv (w : Nat) (sgn : Bool) (a b : Nat) : Nat :=
  if b % 2 ^ w = 0 then 2 ^ w - 1
  else if sgn then (Int.tdiv (signedNat w a) (signedNat w b) % 2 ^ w).toNat
  else a % 2 ^ w / (b % 2 ^ w)

/-- Remainder of R272. -/
def intRem (w : Nat) (sgn : Bool) (a b : Nat) : Nat :=
  if b % 2 ^ w = 0 then a % 2 ^ w
  else if sgn then (Int.tmod (signedNat w a) (signedNat w b) % 2 ^ w).toNat
  else a % 2 ^ w % (b % 2 ^ w)

/-- An INT32 operation (R415, R421); a float-only one never runs. -/
def vepInt (opc a b c r col : Nat) : Nat :=
  let w := 2 ^ 32
  match opc with
  | 0x01 => (a + b) % w
  | 0x02 => (a + (w - b % w)) % w
  | 0x03 => a * b % w
  | 0x04 => (a * b + c) % w
  | 0x05 => if signedNat 32 a ≤ signedNat 32 b then a else b
  | 0x06 => if signedNat 32 a ≤ signedNat 32 b then b else a
  | 0x07 => if signedNat 32 a < 0 then (w - a % w) % w else a
  | 0x08 => (w - a % w) % w
  | 0x09 => flagNat (decide (a = b))
  | 0x0A => flagNat (decide (signedNat 32 a < signedNat 32 b))
  | 0x0B => flagNat (decide (signedNat 32 a ≤ signedNat 32 b))
  | 0x10 => intDiv 32 true a b
  | 0x16 => r
  | 0x17 => col
  | _ => a

/-- Whether a pattern counts as zero for sel (R418). -/
def selZero (t : SType) (a : Nat) : Bool :=
  match t.fmt with
  | some f => decide (a % f.signBit = 0)
  | none => decide (a = 0)

/-- One operation on one element. -/
def vepEval (t : SType) (rm : Rm) (ftz : Bool) (opc a b c r col : Nat) : Nat × Flags :=
  match opc with
  | 0x00 => (a, 0)
  | 0x0C => (if selZero t a then c else b, 0)
  | 0x0D => (a &&& b, 0)
  | 0x0E => (a ||| b, 0)
  | 0x0F => (a ^^^ b, 0)
  | _ =>
    match t.fmt with
    | some f => vepFloat f rm (ftz && decide (t = .fp32)) opc a b c r col
    | none => (vepInt opc a b c r col, 0)

/-- A constant in the stream type (R420). -/
def constIn (t : SType) (rm : Rm) (k : Nat) : Nat :=
  match t with
  | .fp32 => k
  | .fp64 => (fCvt .fp32 .fp64 rm k).1
  | .bf16 => (fCvt .fp32 .bf16 rm k).1
  | .int32 => k

/-- Temporaries, output and flags while an element's program runs (R416). -/
structure VepRun where
  temps : List Nat
  out : Nat
  flags : Flags
deriving DecidableEq, Repr

/-- The program on one element position (R416): its output and the flags it raises. -/
def vepElement (p : VepProg) (t : SType) (ftz : Bool) (in0 in1 r col : Nat) : Nat × Flags :=
  let rm := Rm.ofField p.rm
  let src (st : VepRun) (sel : Nat) : Nat :=
    if sel < 8 then nth st.temps sel 0
    else if sel = 8 then in0
    else if sel = 9 then in1
    else constIn t rm (nth p.consts (sel - 12) 0)
  let st := p.ops.foldl (fun st w =>
    let o := vepOp w
    let v := vepEval t rm ftz o.opc (src st o.a) (src st o.b) (src st o.c) r col
    if o.d = 8 then { st with out := v.1, flags := st.flags ||| v.2 }
    else { st with temps := st.temps.set o.d v.1, flags := st.flags ||| v.2 })
    ⟨List.replicate 8 0, 0, 0⟩
  (st.out, st.flags)

/-- Element `i` of a tile register's 256 words (R405, R406). -/
def tileGet (t : SType) (ws : List Half) (i : Nat) : Nat :=
  match t with
  | .fp64 => (nth ws (2 * i) 0).toNat + 2 ^ 32 * (nth ws (2 * i + 1) 0).toNat
  | .bf16 => (nth ws (i / 2) 0).toNat / 2 ^ (16 * (i % 2)) % 2 ^ 16
  | .fp32 => (nth ws i 0).toNat
  | .int32 => (nth ws i 0).toNat

/-- The 256 words of a tile whose elements are given (R405). -/
def tileOf (t : SType) (els : List Nat) : List Half :=
  (List.range 256).map fun k =>
    match t with
    | .fp64 => BitVec.ofNat 32 (nth els (k / 2) 0 / 2 ^ (32 * (k % 2)))
    | .bf16 => BitVec.ofNat 32 (nth els (2 * k) 0 % 2 ^ 16 + 2 ^ 16 * (nth els (2 * k + 1) 0))
    | .fp32 => BitVec.ofNat 32 (nth els k 0)
    | .int32 => BitVec.ofNat 32 (nth els k 0)

/-- vperm (R437 to R441): the new tile and whether an index was out of range. -/
def permute (t : SType) (len : Nat) (src idx : List Half) : List Half × Bool :=
  let n := t.count
  let l := if len = 0 then n else len
  let index (i : Nat) : Nat :=
    match t with
    | .fp64 => (nth idx i 0).toNat
    | _ => tileGet t idx i
  (tileOf t ((List.range n).map fun i => if i < l ∧ index i < l then tileGet t src (index i) else 0),
   (List.range l).any fun i => decide (l ≤ index i))

/-- Whether an element counts as non-zero for a summary (R443). -/
def nonZero (t : SType) (ftz : Bool) (x : Nat) : Bool :=
  match t.fmt with
  | none => decide (x ≠ 0)
  | some f =>
    match decodeF f x with
    | .fin _ m _ => if ftz && decide (t = .fp32) then decide (2 ^ 23 ≤ m) else decide (m ≠ 0)
    | .nan _ => true
    | .inf _ => true

/-- The summaries, in OP order from 0x08 (R268, R443, R444). -/
inductive Summary where
  | any
  | all
  | count
  | min
  | max
  | first
deriving DecidableEq, Repr

/-- An FP32 subnormal is a zero of its sign under SR_CTRL.FTZ32 (R401). -/
def flushed (t : SType) (ftz : Bool) (x : Nat) : Nat :=
  match t.fmt with
  | none => x
  | some f =>
    if nonZero t ftz x then x
    else x / f.signBit % 2 * f.signBit

/-- minimumNumber or maximumNumber over elements, or the integer one (R443, R444). -/
def extreme (t : SType) (wantMax : Bool) (els : List Nat) : Nat :=
  match t.fmt with
  | some f => (els.foldl (fun acc x => (if wantMax then fMax f acc x else fMin f acc x).1) f.nanBits)
  | none =>
    match els with
    | [] => 0
    | x :: xs => xs.foldl (fun acc y => vepInt (if wantMax then 6 else 5) acc y 0 0 0) x

/-- The scalar that a summary writes (R443, R444). -/
def summary (k : Summary) (t : SType) (ftz : Bool) (els : List Nat) : Word :=
  match k with
  | .any => BitVec.ofNat 64 (flagNat (els.any (nonZero t ftz)))
  | .all => BitVec.ofNat 64 (flagNat (els.all (nonZero t ftz)))
  | .count => BitVec.ofNat 64 (els.countP (nonZero t ftz))
  | .first =>
    match els.findIdx? (nonZero t ftz) with
    | some i => BitVec.ofNat 64 i
    | none => BitVec.allOnes 64
  | .min =>
    let v := extreme t false (els.map (flushed t ftz))
    if t = .int32 then BitVec.ofInt 64 (signedNat 32 v) else BitVec.ofNat 64 v
  | .max =>
    let v := extreme t true (els.map (flushed t ftz))
    if t = .int32 then BitVec.ofInt 64 (signedNat 32 v) else BitVec.ofNat 64 v

/-- A summary of elements whose INT32 values are not stated, from a free value: within what the summary can be (R443, R444; log 28). -/
def openSummary (k : Summary) (v : Word) : Word :=
  match k with
  | .any => v % 2
  | .all => v % 2
  | .count => v % 8193
  | .first => if v % 8193 = 8192 then BitVec.allOnes 64 else v % 8193
  | .min => (v.setWidth 32).signExtend 64
  | .max => (v.setWidth 32).signExtend 64

end Sys2Proof.Machine
end

