-- ==== Sys2Proof/Machine/GroupState.lean ====
section
/-!
DEFINITION. State of blocks, thread groups and their engines (04 to 08), and of translation (09_translation.md).
-/

namespace Sys2Proof.Machine

/-- What holds a sub-group (R205, R216, R218, R231, R132). -/
inductive Hold where
  | none
  | barGroup
  | barBlock
  | arrWait (offset : Nat) (value : Nat)
  | stakeWait (mt : Nat)
deriving DecidableEq, Repr

/-- A sub-group (R211). -/
structure SubGroup where
  /-- The model's own name for it; it does not change while the sub-group lives. -/
  id : Nat
  pc : Nat
  /-- Active mask. -/
  mask : BitVec 32
  /-- Return addresses, innermost call first, one per lane in each frame; the call depth is their number (R279). -/
  rets : List (List Nat)
  hold : Hold
deriving DecidableEq, Repr

/-- The engines that run group-collective instructions in order (R314, R433). -/
inductive Pipe where
  | multiply
  | readout
  | vector
deriving DecidableEq, Repr

/-- A group-collective instruction issued and not yet completed, with its scalar operands as captured at issue. -/
structure GcOp where
  pipe : Pipe
  pc : Nat
  word : Nat
  ext : Nat
  /-- Scalar operands SRC1, SRC2 and DST, as they stood at issue. -/
  s1 : Nat
  s2 : Nat
  sd : Nat
  /-- Issue order within the group. -/
  seq : Nat
  /-- Issue order among the instructions of its core's tile-vector engine (R433). -/
  order : Nat
deriving DecidableEq, Repr

/-- Bits of SR_ASTAT and SR_VSTAT that an engine has set, and the reference cycle in which it did (R302). -/
structure Raised where
  cycle : Nat
  astat : BitVec 4
  vstat : Flags
  range : Bool
deriving DecidableEq, Repr

/-- A thread group (R199 to R224, R255, R300). -/
structure Group where
  /-- Lane registers w0 to w(REGS-1) of lanes 0 to 31 (R200): 32 bits each; zero at group start. -/
  lanes : List (List Half)
  /-- Scalar registers s0 to s63 (R207): 64 bits each; zero at group start. -/
  sregs : List Word
  /-- Tile registers tr0 to tr7 (R405): 256 words each; zero at group start. -/
  tiles : List (List Half)
  /-- Accumulator tile a0 (R318); meaningful while the group owns the pair. -/
  a0 : AccTile
  /-- Accumulator tile a1. -/
  a1 : AccTile
  /-- Program slots 0 to 7 (R410); empty at group start. -/
  progs : List (Option VepProg)
  /-- SR_FSTAT (R300): 5 bits; 0 at group start. -/
  fstat : Flags
  /-- SR_ASTAT (R300): 4 bits; 0 at group start. -/
  astat : BitVec 4
  /-- SR_VSTAT bits 4:0 (R300); 0 at group start. -/
  vstat : Flags
  /-- SR_VSTAT.RANGE (R300); 0 at group start. -/
  range : Bool
  /-- What the engines set last (R302). -/
  raised : Raised
  /-- SR_CTRL.FTZ32 (R300); from the kernel header. -/
  ftz32 : Bool
  /-- Lanes that have exited (R214). -/
  exited : BitVec 32
  /-- Issuer lane (R220). -/
  issuer : Nat
  subs : List SubGroup
  /-- Group-collective instructions in the engines, in issue order. -/
  ops : List GcOp
  /-- Next sub-group name and next issue number. -/
  nextSub : Nat
  nextOp : Nat
  /-- An exception has stopped it (R307 step 1). -/
  stopped : Bool
deriving DecidableEq, Repr

/-- Which agent and engine class an access is made by (R467, R470): global cluster number, or the control processor. -/
inductive AccessBy where
  | cluster (c : Nat)
  | control
deriving DecidableEq, Repr

/-- Engine classes of a fault record (R470). -/
inductive Engine where
  | alu
  | copy
  | vector
deriving DecidableEq, Repr

/-- A copy in flight (R226 to R237). -/
structure Copy where
  /-- The model's own name. -/
  id : Nat
  core : Nat
  group : Nat
  srcBm : Bool
  src : Nat
  dstBm : Bool
  dst : Nat
  /-- Source length in bytes. -/
  len : Nat
  conv : Nat
  stream : Stream
  /-- Block-memory offset of the counter (R228). -/
  counter : Nat
  /-- Destination byte ranges not yet landed: first and count. -/
  left : List (Nat × Nat)
  /-- Ranges sent to a far device and not yet acknowledged (R587). -/
  sent : List (Nat × Nat)
  /-- Group-collective instruction that it waits for (R436): an issue number of its group. -/
  after : Option Nat
deriving DecidableEq, Repr

/-- A resident block (R25 to R28, R199). -/
structure Block where
  /-- The model's own name for it. -/
  id : Nat
  ctx : Nat
  watch : Nat
  entry : Nat
  /-- TAG of its DISPATCH entry (R309). -/
  tag : Nat
  cluster : Nat
  /-- Block index, and BLOCKS and GROUPS of the DISPATCH (R300). -/
  index : Nat
  blocks : Nat
  regs : Nat
  /-- Block memory: first byte in the cluster's 2 MiB and size (R285). -/
  bmBase : Nat
  bmSize : Nat
  args : Nat
  /-- Code region: first byte and the byte after the last (R261). -/
  codeLo : Nat
  codeHi : Nat
  excPtr : Nat
  /-- The stake it is held for (R130). -/
  stake : Option Nat
  groups : List Group
  /-- Core of each group (R28). -/
  cores : List Nat
  copies : List Copy
  nextCopy : Nat
deriving DecidableEq, Repr

/-- Owner of a core's accumulator pair (R318): block name and group. -/
structure PairOwner where
  cluster : Nat
  core : Nat
  blk : Nat
  grp : Nat
deriving DecidableEq, Repr

/-- The blocks, their memories and the accumulator pairs. -/
structure ComputeState where
  /-- Resident blocks, longest resident first (R320). -/
  blocks : List Block
  nextBlock : Nat
  pairs : List PairOwner
  /-- Block memory of every cluster: key 2^21 * cluster + offset, no entry zero (R713). -/
  bmem : List Host.Cell
deriving DecidableEq, Repr

/-- Where a translation leads (R452, R453). -/
inductive Target where
  | local_ (pa : Nat)
  | tie (node window offset : Nat)
deriving DecidableEq, Repr

/-- A TLB entry: a leaf, with its run merged (R456, R458). -/
structure TlbEntry where
  /-- Cluster that holds it; 192 for the control processor's own walks, which no structure holds (log 15). -/
  place : Nat
  ctx : Nat
  /-- First virtual address and bytes covered. -/
  base : Nat
  span : Nat
  target : Target
  write : Bool
  /-- The leaf it was built from: physical address, value and level (R470). -/
  leafAt : Nat
  leaf : Nat
  level : Nat
deriving DecidableEq, Repr

/-- An entry of the L1 TLB of one engine of a core (R458); the entry's place names the cluster. -/
structure L1Entry where
  /-- Core of the cluster, 0 to 3. -/
  core : Nat
  engine : Engine
  entry : TlbEntry
deriving DecidableEq, Repr

/-- A pointer entry in a walker cache (R458): die, context, physical address and value. -/
structure WalkEntry where
  die : Nat
  ctx : Nat
  addr : Nat
  value : Nat
deriving DecidableEq, Repr

/-- Kinds of access (R470): 0 read, 1 write, 2 atomic, 3 fetch. -/
inductive AccKind where
  | read
  | write
  | atomic
  | fetch
deriving DecidableEq, Repr

/-- Who waits for a translation or for a far device: a lane of a sub-group, a copy, an entry of a command list, an
instruction in a group's engines, a collective, or a capture; `pos` is the place in the range that it reads. -/
inductive Waiter where
  | lane (r : SubRef) (lane : Nat)
  | copy (blk copy pos : Nat)
  | entry (watch entry pos : Nat)
  | engine (blk grp seq pos : Nat)
  | coll (ctx slot : Nat)
  | monument (id : Nat)
deriving DecidableEq, Repr

/-- What an exception record says of the place (R309). -/
structure ExcSite where
  pc : Nat
  insn0 : Nat
  insn1 : Nat
  lanes : Nat
  active : Nat
  cluster : Nat
  group : Nat
  issuer : Nat
  block : Nat
  info : Nat
  tag : Nat
  entry : Nat
deriving DecidableEq, Repr

/-- A walk asked for by an access that waits for it (R448, R466). -/
structure WalkReq where
  ctx : Nat
  va : Nat
  kind : AccKind
  engine : Engine
  by_ : AccessBy
  who : Waiter
  /-- What an exception record would say of the access (R309). -/
  site : Option ExcSite
deriving DecidableEq, Repr

/-- Fault kinds (R464). -/
inductive FaultKind where
  | notMapped
  | writeDenied
  | badEntry
  | outsideHbm
  | nonCanonical
  | tieLost
  | tieRefused
  | tieFenced
deriving DecidableEq, Repr

/-- Its value (R464). -/
def FaultKind.code : FaultKind → Nat
  | .notMapped => 1
  | .writeDenied => 2
  | .badEntry => 3
  | .outsideHbm => 4
  | .nonCanonical => 5
  | .tieLost => 6
  | .tieRefused => 7
  | .tieFenced => 8

/-- An access that waits on a fault record (R466, R475). -/
structure FaultWait where
  ctx : Nat
  slot : Nat
  req : WalkReq
deriving DecidableEq, Repr

/-- A window of the tie table (R480). -/
structure TieWindow where
  valid : Bool
  write : Bool
  atomic : Bool
  anyNode : Bool
  node : Nat
  ctx : Nat
  base : Nat
  size : Nat
  cls : Nat
deriving DecidableEq, Repr

/-- A tie read or atomic: sent, and not yet taken by the one who waits for it (R252, R477). -/
structure TieOp where
  /-- The model's own name. -/
  id : Nat
  /-- Transport TAG (R585). -/
  tag : Nat
  ctx : Nat
  va : Nat
  who : Waiter
  kind : AccKind
  by_ : AccessBy
  engine : Engine
  node : Nat
  window : Nat
  size : Nat
  /-- What an exception record would say of the access (R309). -/
  site : Option ExcSite
  /-- Bytes that came back, once answered. -/
  answer : Option (List Byte)
deriving DecidableEq, Repr

/-- A TLB_INVALIDATE that waits for accesses (R462, R866). -/
structure InvWait where
  mbx : Nat
  ctx : Nat
  tags : List Nat
deriving DecidableEq, Repr

/-- The fault that gave a record its VA, MT and ACCESS: its place among those of one cycle, by cluster, the control processor lowest,
and engine (R467). -/
structure FaultOrigin where
  ctx : Nat
  slot : Nat
  cycle : Nat
  rank : List Nat
deriving DecidableEq, Repr

/-- Translation, tie windows, faults and the service window. -/
structure XlatState where
  /-- Whose fault each pending record shows, and the reference cycle of its capture (R467). -/
  origins : List FaultOrigin
  /-- L1 TLBs of the three engines of every core (R458): 64 entries each, fully associative. -/
  l1 : List L1Entry
  /-- Cluster TLBs (R458): 2,048 entries each, 8-way. -/
  tlb : List TlbEntry
  /-- Walker caches of the base dies (R458): 4,096 pointers each. -/
  walkCache : List WalkEntry
  walks : List WalkReq
  waits : List FaultWait
  /-- Fault pages: 64 contexts of 64 records of eight words (R469, R470); reset 0. -/
  pages : List (List (List Word))
  /-- Tie table of 4,096 windows (R480): open windows by number; reset none open. -/
  ties : List (Nat × TieWindow)
  /-- The window that each TIE_SET which is taken and has not ended has replaced: mailbox, number, old window (R147, R482). -/
  tieUndo : List (Nat × Nat × Option TieWindow)
  tieOps : List TieOp
  nextTie : Nat
  invs : List InvWait
  /-- Accesses of a context whose translation a timed-out TLB_INVALIDATE dropped (R866). -/
  overdue : List (Nat × Nat)
  /-- SVC_BASE (R486): reset 0. -/
  svcBase : Nat
  /-- SVC_CTRL.WRITE_EN (R487): reset 1. -/
  svcWrite : Bool
  /-- SVC_CTRL.ENABLE (R487): reset 1. -/
  svcEnable : Bool
  /-- SVC_COUNT.REFUSED (R488): 32 bits; reset 0. -/
  svcRefused : Nat
  /-- SVC_COUNT.ACCESSES (R488): 32 bits; reset 0. -/
  svcAccesses : Nat
deriving DecidableEq, Repr

/-- No block resident; block memory as the model leaves it (log 5). -/
def ComputeState.reset : ComputeState where
  blocks := []
  nextBlock := 1
  pairs := []
  bmem := []

/-- Translation after a module reset (R463, R470, R480, R486 to R488). -/
def XlatState.reset : XlatState where
  origins := []
  l1 := []
  tlb := []
  walkCache := []
  walks := []
  waits := []
  pages := List.replicate 64 (List.replicate 64 (List.replicate 8 0))
  ties := []
  tieUndo := []
  tieOps := []
  nextTie := 0
  invs := []
  overdue := []
  svcBase := 0
  svcWrite := true
  svcEnable := true
  svcRefused := 0
  svcAccesses := 0

/-- A group at its start (R199, R207, R256, R300, R410). -/
def Group.start (regs entry : Nat) (ftz : Bool) : Group where
  lanes := List.replicate 32 (List.replicate regs 0)
  sregs := List.replicate 64 0
  tiles := List.replicate 8 (List.replicate 256 0)
  a0 := AccTile.zero
  a1 := AccTile.zero
  progs := List.replicate 8 none
  fstat := 0
  astat := 0
  vstat := 0
  range := false
  raised := ⟨0, 0, 0, false⟩
  ftz32 := ftz
  exited := 0
  issuer := 0
  subs := [{ id := 0, pc := entry, mask := BitVec.allOnes 32, rets := [], hold := .none }]
  ops := []
  nextSub := 1
  nextOp := 0
  stopped := false

end Sys2Proof.Machine
end

