-- ==== Sys2Proof/Machine/Insn.lean ====
section
/-!
DEFINITION. Instruction words (05_instruction_set.md): the fields, the operands, and the encodings that raise ILLEGAL.
-/

namespace Sys2Proof.Machine

/-- A fetched instruction (R263, R264). -/
structure Insn where
  pc : Nat
  word : Nat
  /-- EXT word; 0 in the 64-bit form. -/
  ext : Nat
  wide : Bool
  cls : Nat
  op : Nat
  dst : Nat
  src1 : Nat
  src2 : Nat
  mod : Nat
  imm : Nat
deriving DecidableEq, Repr

/-- The fields of a first word with its EXT (R263). -/
def insnOf (pc word ext : Nat) : Insn where
  pc := pc
  word := word
  ext := if word / 2 ^ 62 % 4 = 1 then ext else 0
  wide := decide (word / 2 ^ 62 % 4 = 1)
  cls := word / 2 ^ 56 % 64
  op := word / 2 ^ 50 % 64
  dst := word / 2 ^ 41 % 512
  src1 := word / 2 ^ 32 % 512
  src2 := word / 2 ^ 23 % 512
  mod := word / 2 ^ 16 % 128
  imm := word % 2 ^ 16

/-- Bytes of an instruction. -/
def Insn.size (i : Insn) : Nat := if i.wide then 16 else 8

/-- An operand field (R258). -/
inductive Opd where
  | lane (n : Nat)
  | scalar (n : Nat)
  | tile (n : Nat)
  | acc (n : Nat)
  | bad
deriving DecidableEq, Repr

/-- The operand that a field names, with REGS lane registers declared (R258). -/
def opdOf (regs x : Nat) : Opd :=
  if x < 256 then (if x < regs then .lane x else .bad)
  else
    let low := x % 64
    match x / 64 % 4 with
    | 0 => .scalar low
    | 1 => if low < 8 then .tile low else .bad
    | 2 => if low < 2 then .acc low else .bad
    | _ => .bad

def Opd.isLane : Opd → Bool
  | .lane _ => true
  | .scalar _ => false
  | .tile _ => false
  | .acc _ => false
  | .bad => false

def Opd.isScalar : Opd → Bool
  | .scalar _ => true
  | .lane _ => false
  | .tile _ => false
  | .acc _ => false
  | .bad => false

def Opd.isTile : Opd → Bool
  | .tile _ => true
  | .lane _ => false
  | .scalar _ => false
  | .acc _ => false
  | .bad => false

def Opd.isAcc : Opd → Bool
  | .acc _ => true
  | .lane _ => false
  | .scalar _ => false
  | .tile _ => false
  | .bad => false

/-- A lane operand of `k` consecutive registers is named by a multiple of `k` and lies below REGS; a scalar passes (R257). -/
def Opd.groupOf (regs k : Nat) : Opd → Bool
  | .lane n => decide (n % k = 0) && decide (n + k ≤ regs)
  | .scalar _ => true
  | .tile _ => false
  | .acc _ => false
  | .bad => false

/-- Sign-extended IMM, or EXT in the 128-bit form, as a 64-bit pattern (R264). -/
def Insn.immediate (i : Insn) : Nat :=
  if i.wide then i.ext else (BitVec.ofInt 64 (signedNat 16 i.imm)).toNat

/-- The group-collective classes and operations (R268). -/
def isCollective (cls op : Nat) : Bool :=
  decide (cls = 0x06) || decide (cls = 0x08) || decide (cls = 0x10) || decide (cls = 0x11) || (decide (cls = 0x04) && decide (op = 0x20))

/-- The assigned classes and operations and their forms (R268): 0 64-bit, 1 128-bit, 2 both; `none` when reserved. -/
def formOf (cls op : Nat) : Option Nat :=
  match cls with
  | 0x00 => if op ≤ 0x13 then some 2 else none
  | 0x01 => if op ≤ 0x0B then some 0 else none
  | 0x02 => if op = 0 ∨ op = 3 then some 2 else if op ≤ 8 then some 0 else none
  | 0x03 => if op ≤ 6 ∨ (8 ≤ op ∧ op ≤ 0x0C) then some 2 else none
  | 0x04 => if op ≤ 0x0A ∨ (0x10 ≤ op ∧ op ≤ 0x1A) then some 0 else if op = 0x20 then some 1 else none
  | 0x05 => if op ≤ 3 then some 0 else none
  | 0x06 => if op = 0 then some 1 else none
  | 0x07 => if op ≤ 1 then some 0 else none
  | 0x08 => if op ≤ 1 then some 0 else none
  | 0x09 => if op ≤ 2 then some 0 else none
  | 0x10 => if op ≤ 5 ∨ (8 ≤ op ∧ op ≤ 0x0A) then some 0 else none
  | 0x11 => if op ≤ 4 ∨ (8 ≤ op ∧ op ≤ 0x0D) then some 0 else none
  | _ => none

def Insn.formOk (i : Insn) : Bool :=
  decide (i.word / 2 ^ 62 % 4 < 2) &&
  match formOf i.cls i.op with
  | some 0 => !i.wide
  | some 1 => i.wide
  | some _ => true
  | none => false

/-- Bits of MOD that may be set: every other bit must be clear. -/
def Insn.modIn (i : Insn) (mask : Nat) : Bool := decide (i.mod &&& mask = i.mod)

/-- Bits of IMM that may be set. -/
def Insn.immIn (i : Insn) (mask : Nat) : Bool := decide (i.imm &&& mask = i.imm)

/-- WIDE, IMMSRC and the signed bit of the integer class (R269, R271). -/
def Insn.isWide64 (i : Insn) : Bool := decide (i.mod / 32 % 2 = 1)
def Insn.immSrc (i : Insn) : Bool := decide (i.mod / 64 % 2 = 1)
def Insn.isSigned (i : Insn) : Bool := decide (i.mod % 2 = 1)

/-- Encodings of the integer class (R269 to R271). -/
def legalInt (regs : Nat) (i : Insn) : Bool :=
  let d := opdOf regs i.dst
  let a := opdOf regs i.src1
  let b := opdOf regs i.src2
  let k := if i.isWide64 then 2 else 1
  let usesSigned := decide (i.op = 3) || decide (i.op = 4) || decide (i.op = 5) || decide (i.op = 10) || decide (i.op = 11)
    || decide (i.op = 12) || decide (i.op = 13)
  let isSel := decide (i.op = 14)
  let isMov := decide (i.op = 15)
  let unary := isMov || decide (i.op = 18) || decide (i.op = 19)
  let isLaneId := decide (i.op = 16)
  let isRd := decide (i.op = 17)
  let hasSecond := !(unary || isLaneId || isRd) || (isMov && i.immSrc)
  let srcOk (o : Opd) : Bool := (o.isLane || o.isScalar) && o.groupOf regs k && (d.isLane || o.isScalar)
  let c := opdOf regs (i.imm % 512)
  (d.isLane || (d.isScalar && (!i.isWide64 || isRd))) && d.groupOf regs k
    && (usesSigned || !i.isSigned)
    && (if i.op = 13 then decide (i.mod / 2 % 8 < 6) else decide (i.mod / 2 % 8 = 0))
    && decide (i.mod / 16 % 2 = 0)
    && (hasSecond || !i.immSrc)
    && (if isSel then decide (i.imm < 512) && (!i.immSrc || i.wide) && (c.isLane || c.isScalar) && c.groupOf regs k && (d.isLane || c.isScalar)
        else if i.immSrc then !i.wide || decide (i.imm = 0) else decide (i.imm = 0))
    && (if isLaneId then d.isLane && decide (i.src1 = 0) && decide (i.src2 = 0)
        else if isRd then d.isScalar && a.isLane && a.groupOf regs k && decide (i.src2 = 0)
        else if isMov && i.immSrc then decide (i.src1 = 0) && decide (i.src2 = 0)
        else if unary then srcOk a && decide (i.src2 = 0)
        else if i.immSrc then srcOk a && decide (i.src2 = 0)
        else srcOk a && srcOk b)

/-- Registers of one element operand of a float type: 1, or 2 for FP64 (R273). -/
def floatRegs (ty : Nat) : Nat := if ty = 1 then 2 else 1

/-- Encodings of the float class (R273, R275, R865). -/
def legalFloat (regs : Nat) (i : Insn) : Bool :=
  let ty := i.mod % 4
  let d := opdOf regs i.dst
  let a := opdOf regs i.src1
  let b := opdOf regs i.src2
  let k := floatRegs ty
  let unary := decide (i.op = 5) || decide (9 ≤ i.op)
  let tgt := i.imm % 4
  let packed := decide (2 ≤ ty) || decide (2 ≤ tgt)
  let pairRegs (t : Nat) : Nat := if 2 ≤ t then 1 else 2 * floatRegs t
  let sameKind (o : Opd) (n : Nat) : Bool := (o.isLane || o.isScalar) && o.groupOf regs n && (d.isLane || o.isScalar)
  i.modIn 0x0F
    && (if i.op = 9 then
          i.immIn 3 && decide (i.src2 = 0)
            && (if packed then d.isLane && a.isLane && d.groupOf regs (pairRegs tgt) && a.groupOf regs (pairRegs ty)
                else (d.isLane || d.isScalar) && d.groupOf regs (floatRegs tgt) && sameKind a k)
        else
          (d.isLane || (d.isScalar && decide (ty < 2))) && d.groupOf regs k
            && sameKind a k
            && (if unary then decide (i.src2 = 0) else sameKind b k)
            && (if i.op = 3 then i.immIn 511 && sameKind (opdOf regs i.imm) k
                else if i.op = 8 then i.immIn 7 && decide (i.imm < 6)
                else decide (i.imm = 0)))

/-- Encodings of the control class (R276 to R278, R280). -/
def legalControl (regs : Nat) (i : Insn) : Bool :=
  let a := opdOf regs i.src1
  match i.op with
  | 1 => i.modIn 7 && decide (i.mod < 6) && (a.isLane || a.isScalar) && decide (i.dst = 0) && decide (i.src2 = 0)
  | 2 => decide (i.mod = 0) && decide (i.imm = 0) && a.isScalar && decide (i.dst = 0) && decide (i.src2 = 0)
  | 4 => decide (i.mod = 0) && decide (i.imm = 0) && a.isScalar && decide (i.dst = 0) && decide (i.src2 = 0)
  | 5 => decide (i.mod = 0) && decide (i.imm = 0) && decide (i.dst = 0) && decide (i.src1 = 0) && decide (i.src2 = 0)
  | 6 => decide (i.mod = 0) && decide (i.imm = 0) && decide (i.dst = 0) && decide (i.src1 = 0) && decide (i.src2 = 0)
  | 7 => decide (i.mod = 0) && decide (i.dst = 0) && decide (i.src1 = 0) && decide (i.src2 = 0)
  | 8 => decide (i.mod = 0) && decide (i.imm = 0) && decide (i.dst = 0) && decide (i.src1 = 0) && decide (i.src2 = 0)
  | _ => decide (i.mod = 0) && decide (i.dst = 0) && decide (i.src1 = 0) && decide (i.src2 = 0)
      && (!i.wide || (decide (i.imm = 0) && decide (i.ext % 8 = 0)))

/-- ORDER, SCOPE, SPACE and MODE (R281). -/
def Insn.order (i : Insn) : Nat := i.mod / 32 % 4
def Insn.scope (i : Insn) : Nat := i.mod / 8 % 4
def Insn.blockMem (i : Insn) : Bool := decide (i.mod / 4 % 2 = 1)
def Insn.mode (i : Insn) : Nat := i.mod % 4

/-- Address operands of a mode (R283): SRC1, and SRC2 where the mode uses it as an index. -/
def addrOk (regs : Nat) (i : Insn) : Bool :=
  let a := opdOf regs i.src1
  if i.mode = 3 then a.isLane && a.groupOf regs (if i.blockMem then 1 else 2) else a.isScalar

/-- Access size in bytes of a load or store operation (R268). -/
def memSize (op : Nat) : Nat :=
  match op with
  | 0 => 1 | 1 => 2 | 2 => 4 | 3 => 8 | 4 => 16 | 5 => 1 | 6 => 2
  | 8 => 1 | 9 => 2 | 10 => 4 | 11 => 8 | _ => 16

/-- Encodings of loads and stores (R282, R283, R286, R287). -/
def legalMem (regs : Nat) (i : Insn) : Bool :=
  let d := opdOf regs i.dst
  let load := decide (i.op < 8)
  let k := if memSize i.op = 16 then 4 else if memSize i.op = 8 then 2 else 1
  let indexed := decide (i.mode = 1) || decide (i.mode = 2)
  (if load then decide (i.order < 2) else decide (i.order = 0) || decide (i.order = 2))
    && (decide (i.order ≠ 0) || decide (i.scope = 0))
    && addrOk regs i
    && (if indexed then (opdOf regs i.src2).isLane else decide (i.src2 = 0))
    && (if i.wide then decide (i.imm = 0) else true)
    && (d.isLane && d.groupOf regs k
        || (d.isScalar && (if load then decide (i.mode = 0) else true)
              && (if memSize i.op = 16 then decide (i.dst % 2 = 0) else true)))

/-- Width of an atomic in bytes, and its operation within the list of R268. -/
def atomSize (op : Nat) : Nat := if 0x10 ≤ op then 8 else 4

/-- Encodings of atomics (R288 to R290). -/
def legalAtom (regs : Nat) (i : Insn) : Bool :=
  let d := opdOf regs i.dst
  let b := opdOf regs i.src2
  if i.op = 0x20 then
    d.isAcc && (opdOf regs i.src1).isScalar && b.isScalar && decide (i.imm = 0) && decide (i.mod % 4 = 0)
      && decide (i.ext / 2 ^ 16 = 0) && decide (1 ≤ i.ext / 256 % 256) && decide (i.ext / 256 % 256 ≤ 64)
      && decide (1 ≤ i.ext % 256) && decide (i.ext % 256 ≤ 128)
  else
    let k := if 0x10 ≤ i.op then 2 else 1
    let cas := decide (i.op % 16 = 9)
    let c := opdOf regs i.imm
    (d.isLane || d.isScalar) && d.groupOf regs k && (d.isLane || decide (i.dst = 256))
      && (b.isLane || b.isScalar) && b.groupOf regs k
      && addrOk regs i
      && decide (i.mode ≠ 2)
      && (if cas then decide (i.mode = 0 ∨ i.mode = 3) && decide (i.imm < 512) && (c.isLane || c.isScalar) && c.groupOf regs k
          else decide (i.mode ≠ 1 ∨ b.isLane))

/-- Encodings of the synchronisation, time, mark and status classes (R291, R292, R295 to R297). -/
def legalSync (regs : Nat) (i : Insn) : Bool :=
  let z := decide (i.dst = 0) && decide (i.src1 = 0) && decide (i.src2 = 0) && decide (i.imm = 0)
  match i.op with
  | 0 => z && i.modIn 0x18
  | 3 => decide (i.mod = 0) && decide (i.imm = 0) && decide (i.dst = 0) && (opdOf regs i.src1).isScalar && (opdOf regs i.src2).isScalar
  | _ => z && decide (i.mod = 0)

def legalTime (regs : Nat) (i : Insn) : Bool :=
  decide (i.mod = 0) && decide (i.imm = 0) && decide (i.src2 = 0) &&
  (if i.op = 0 then decide (i.dst = 0) && (opdOf regs i.src1).isScalar
   else decide (i.src1 = 0) && (opdOf regs i.dst).isScalar)

def legalMark (regs : Nat) (i : Insn) : Bool :=
  decide (i.mod = 0) && decide (i.dst = 0) && decide (i.src2 = 0) && (opdOf regs i.src1).isScalar

/-- The status register numbers of R300. -/
def srKnown (n : Nat) : Bool := decide (n ≤ 9) || (decide (0x10 ≤ n) && decide (n ≤ 0x13))

def legalStatus (regs : Nat) (i : Insn) : Bool :=
  decide (i.mod = 0) && decide (i.imm < 256) && srKnown i.imm &&
  match i.op with
  | 0 => (opdOf regs i.dst).isScalar && decide (i.src1 = 0) && decide (i.src2 = 0)
  | 1 => (opdOf regs i.src1).isScalar && decide (i.dst = 0) && decide (i.src2 = 0) && decide (i.imm = 0x13)
  | _ => (opdOf regs i.src1).isScalar && decide (i.dst = 0) && decide (i.src2 = 0)
      && (decide (i.imm = 0x10) || decide (i.imm = 0x11) || decide (i.imm = 0x12))

/-- Encodings of xfer.cv (R293, R294, R379). -/
def legalCopy (regs : Nat) (i : Insn) : Bool :=
  let lenReg := decide (i.mod / 4 % 2 = 1)
  (opdOf regs i.dst).isScalar && (opdOf regs i.src1).isScalar && (opdOf regs i.src2).isScalar
    && i.modIn 7 && i.immIn 63 && (lenReg || decide (i.imm = 0))
    && decide (i.ext % 2 ^ 15 = 0)
    && decide (i.ext / 2 ^ 41 ≤ 4194304) && (!lenReg || decide (i.ext / 2 ^ 41 = 0))
    && (convOf (i.ext / 2 ^ 33 % 256)).isSome

/-- Encodings of the matrix class (R298). -/
def legalMatrix (regs : Nat) (i : Insn) : Bool :=
  let d := opdOf regs i.dst
  let a := opdOf regs i.src1
  let b := opdOf regs i.src2
  match i.op with
  | 8 => d.isAcc && i.modIn 1 && decide (i.imm = 0) && decide (i.src2 = 0)
      && (if i.mod = 1 then decide (i.src1 = 0) else a.isScalar)
  | 9 => decide (i.dst = 0) && a.isAcc && b.isScalar && decide (i.mod < 3) && decide (i.imm = 0)
  | 10 => d.isAcc && decide (i.src1 = 0) && decide (i.src2 = 0) && decide (i.mod = 0) && decide (i.imm = 0)
  | _ => d.isAcc && a.isScalar && b.isScalar && i.immIn 255 && decide (i.imm ≠ 0)
      && i.modIn (if i.op ≤ 1 then 0x0F else if i.op ≤ 3 then 0x0C else 0x08)

/-- Encodings of the tile-vector class (R407, R410, R422, R424, R437, R439, R442). -/
def legalVector (regs : Nat) (i : Insn) : Bool :=
  let d := opdOf regs i.dst
  let a := opdOf regs i.src1
  let b := opdOf regs i.src2
  let t := sTypeOf i.mod
  let bound (x : Nat) (o : Opd) : Bool := decide (x = 0) || o.isTile || o.isAcc || o.isScalar
  let lenOk := decide (i.imm % 64 = 0) && decide (i.imm / 64 ≤ t.count)
  match i.op with
  | 0 => a.isScalar && decide (i.dst = 0) && decide (i.src2 = 0) && decide (i.mod = 0) && decide (i.imm < 8)
  | 1 =>
    let used := [d] ++ (if i.src1 = 0 then [] else [a]) ++ (if i.src2 = 0 then [] else [b])
    (d.isTile || d.isAcc || d.isScalar) && bound i.src1 a && bound i.src2 b && i.modIn 3 && decide (i.imm < 8)
      && !(used.any Opd.isTile && used.any Opd.isAcc)
      && !(used.any Opd.isAcc && decide (t = .int32))
      && !(d.isAcc && decide (t = .bf16))
  | 2 => d.isTile && a.isTile && b.isTile && i.modIn 3 && lenOk
  | 3 => d.isTile && a.isScalar && b.isScalar && i.modIn 4 && decide (i.imm = 0)
  | 4 => d.isTile && a.isScalar && b.isScalar && i.modIn 4 && decide (i.imm = 0)
  | _ => d.isScalar && (a.isTile || a.isAcc) && decide (i.src2 = 0) && i.modIn 3
      && (if a.isTile then lenOk else decide (i.imm = 0))

/-- An instruction that does not raise ILLEGAL for its encoding (R257, R258, R263, R267). -/
def Insn.legal (regs : Nat) (i : Insn) : Bool :=
  i.formOk &&
  match i.cls with
  | 0x00 => legalInt regs i
  | 0x01 => legalFloat regs i
  | 0x02 => legalControl regs i
  | 0x03 => legalMem regs i
  | 0x04 => legalAtom regs i
  | 0x05 => legalSync regs i
  | 0x06 => legalCopy regs i
  | 0x07 => legalTime regs i
  | 0x08 => legalMark regs i
  | 0x09 => legalStatus regs i
  | 0x10 => legalMatrix regs i
  | _ => legalVector regs i

end Sys2Proof.Machine
end

