-- ==== Sys2Proof/Machine/Engines.lean ====
section
/-!
DEFINITION. The registers of a group, what the engines' instructions read and write, and the operands that an instruction waits
for (R205, R223, R298, R319, R422 to R430).
-/

namespace Sys2Proof.Machine

/-! ### Groups and their registers -/

/-- Lanes of a mask, lowest first. -/
def lanesOf (m : BitVec 32) : List Nat := (List.range 32).filter fun l => m.getLsbD l

/-- A mask of lanes. -/
def maskOf (l : List Nat) : BitVec 32 := BitVec.ofNat 32 ((l.map (2 ^ ·)).sum)

/-- Lane register `n` of lane `l` (R200). -/
def Group.lane (g : Group) (l n : Nat) : Half := nth (nth g.lanes l []) n 0

/-- A lane register written. -/
def Group.setLane (g : Group) (l n : Nat) (v : Half) : Group :=
  { g with lanes := g.lanes.modify l fun r => r.set n v }

/-- Scalar register `n`; s0 reads as zero (R207). -/
def Group.scalar (g : Group) (n : Nat) : Nat := if n = 0 then 0 else (nth g.sregs n 0).toNat

/-- A scalar register written; s0 ignores writes (R207). -/
def Group.setScalar (g : Group) (n v : Nat) : Group :=
  if n = 0 then g else { g with sregs := g.sregs.set n (BitVec.ofNat 64 v) }

/-- `k` consecutive lane registers as one value, lowest register lowest (R257). -/
def Group.lanes32 (g : Group) (l n : Nat) : Nat → Nat
  | 0 => 0
  | k + 1 => (g.lane l n).toNat + 2 ^ 32 * g.lanes32 l (n + 1) k

/-- `k` consecutive lane registers written with one value (R257). -/
def Group.setLanes32 (g : Group) (l n v : Nat) : Nat → Group
  | 0 => g
  | k + 1 => (g.setLane l n (BitVec.ofNat 32 v)).setLanes32 l (n + 1) (v / 2 ^ 32) k

/-- An operand of `k` registers as lane `l` sees it: a scalar is broadcast (R270). -/
def Group.operand (g : Group) (l k : Nat) : Opd → Nat
  | .lane n => g.lanes32 l n k
  | .scalar n => g.scalar n % 2 ^ (32 * k)
  | .tile _ => 0
  | .acc _ => 0
  | .bad => 0

/-- The number of a scalar operand; 0 for any other. -/
def Opd.scalarNo : Opd → Nat
  | .scalar n => n
  | .lane _ => 0
  | .tile _ => 0
  | .acc _ => 0
  | .bad => 0

/-- The number of a tile or accumulator operand; 0 for any other. -/
def Opd.number : Opd → Nat
  | .scalar n => n
  | .lane n => n
  | .tile n => n
  | .acc n => n
  | .bad => 0

/-! ### Matrix instructions -/

/-- The instruction names an accumulator tile (R319). -/
def Insn.namesAcc (regs : Nat) (i : Insn) : Bool :=
  let acc := fun (f : Nat) => (opdOf regs f).isAcc
  decide (i.cls = 0x10) || (decide (i.cls = 0x04) && decide (i.op = 0x20))
    || (decide (i.cls = 0x11) && (acc i.dst || acc i.src1 || acc i.src2))

/-- Operand kind of an mma (R298). -/
def mmaKind (op mod : Nat) : MmaKind :=
  let v := fun (bit : Nat) (x y : MxFmt) => if mod.testBit bit then y else x
  match op with
  | 0 => .mx (v 0 .e4m3 .e5m2) (v 1 .e4m3 .e5m2)
  | 1 => .mx (v 0 .e3m2 .e2m3) (v 1 .e3m2 .e2m3)
  | 2 => .mx .e2m1 .e2m1
  | 3 => .mx .int8 .int8
  | 4 => .slices .fp32
  | _ => .slices .fp64

/-- Plumb cycles of a K step (R313). -/
def mmaCycles (op : Nat) : Nat :=
  match op with
  | 0 => 32
  | 1 => 16
  | 2 => 8
  | 3 => 32
  | 4 => 192
  | _ => 1152

/-- BLK16 and OVERWRITE (R298). -/
def Insn.blk16 (i : Insn) : Bool := decide (i.op ≤ 3) && i.mod.testBit 2
def Insn.overwrite (i : Insn) : Bool := i.mod.testBit 3

/-- Bytes of the A or B panels of an instruction: 64 rows, or 128 columns (R327 to R329). -/
def Insn.panelBytes (i : Insn) (rows : Nat) : Nat := i.imm * (mmaKind i.op i.mod).stride i.blk16 rows

/-- Bytes of acc.read's output (R352). -/
def readBytes (fmt : Nat) : Nat := if fmt = 0 then 32768 else if fmt = 1 then 65536 else 262144

/-! ### Ports of an element program (R422 to R430) -/

/-- Storage formats of a MEM port (R425). -/
inductive PortFmt where
  | float (f : Fmt)
  | int32
deriving DecidableEq, Repr

/-- The format that a FORMAT field names; 5 to 7 name none (R425). -/
def portFmt (n : Nat) : Option PortFmt :=
  match n with
  | 0 => some (.float .fp32)
  | 1 => some (.float .fp64)
  | 2 => some (.float .bf16)
  | 3 => some (.float .fp16)
  | 4 => some .int32
  | _ => none

/-- Bytes of an element in a storage format. -/
def PortFmt.bytes : PortFmt → Nat
  | .float f => f.bytes
  | .int32 => 4

/-- Where a port's elements come from or go. -/
inductive VPort where
  | none_
  | tile (n : Nat)
  | acc (n : Nat)
  | value (v : Nat)
  | mem (f : PortFmt) (base : Nat) (row col : Int)
  /-- A reserved FORMAT (R425). -/
  | bad
deriving DecidableEq, Repr

/-- The port of an operand with the scalar's value and the program's descriptor (R422, R425). -/
def portOf (o : Opd) (bound : Bool) (v desc : Nat) : VPort :=
  if !bound then .none_
  else
    match o with
    | .tile n => .tile n
    | .acc n => .acc n
    | .scalar _ =>
      if desc / 2 ^ 63 % 2 = 0 then .value v
      else
        match portFmt (desc / 2 ^ 60 % 8) with
        | some f => .mem f v (signedNat 24 (desc / 2 ^ 32)) (signedNat 16 (desc / 2 ^ 16))
        | none => .bad
    | .lane _ => .none_
    | .bad => .none_

/-- Address of element (r, c) of a MEM port (R426). -/
def memAddr (base : Nat) (row col : Int) (r c : Nat) : Int := base + r * row + c * col

/-- A vep.run as its ports and stream stand. -/
structure VepCall where
  prog : VepProg
  t : SType
  in0 : VPort
  in1 : VPort
  out : VPort
deriving DecidableEq, Repr

/-- The call that an instruction makes with these scalar values, if its slot holds a program. -/
def vepCall (regs : Nat) (g : Group) (i : Insn) (s1 s2 sd : Nat) : Option VepCall :=
  (nth g.progs (i.imm % 8) none).map fun p =>
    { prog := p, t := sTypeOf i.mod,
      in0 := portOf (opdOf regs i.src1) (i.src1 != 0) s1 p.in0,
      in1 := portOf (opdOf regs i.src2) (i.src2 != 0) s2 p.in1,
      out := portOf (opdOf regs i.dst) true sd p.out }

def VPort.isTile : VPort → Bool
  | .tile _ => true
  | _ => false

def VPort.isAcc : VPort → Bool
  | .acc _ => true
  | _ => false

/-- Rows and columns of the stream (R423). -/
def VepCall.shape (c : VepCall) : Nat × Nat :=
  let ports := [c.in0, c.in1, c.out]
  if ports.any VPort.isAcc then (64, 128)
  else if ports.any VPort.isTile then (16, c.t.cols)
  else (c.prog.rows, c.prog.cols)

/-- ROWS and COLS in their ranges, where they are used (R413, R423). -/
def VepCall.shapeOk (c : VepCall) : Bool :=
  let s := c.shape
  decide (1 ≤ s.1) && decide (s.1 ≤ 64) && decide (1 ≤ s.2) && decide (s.2 ≤ 128)

/-- Element addresses of a MEM port over a shape, row by row. -/
def VPort.addresses (p : VPort) (rows cols : Nat) : List Int :=
  match p with
  | .mem _ b r c => (List.range rows).flatMap fun i => (List.range cols).map fun j => memAddr b r c i j
  | _ => []

/-- Bytes of an element of a MEM port. -/
def VPort.bytes : VPort → Nat
  | .mem f _ _ _ => f.bytes
  | _ => 1

/-- The first element address that is misaligned (R427). -/
def VPort.misaligned (p : VPort) (rows cols : Nat) : Option Int := (p.addresses rows cols).find? fun a => a % p.bytes != 0

/-- The first element address beyond the allocation (R427). -/
def VPort.beyond (p : VPort) (size rows cols : Nat) : Option Int :=
  (p.addresses rows cols).find? fun a => decide (a < 0) || decide ((size : Int) < a + p.bytes)

/-- Some operation of the program is float-only (R415, R421). -/
def VepProg.floatOnly (p : VepProg) : Bool := p.ops.any fun w => let o := (vepOp w).opc; decide (0x11 ≤ o) && decide (o ≤ 0x15)

/-- A program that reads an unbound port, an OUT that takes nothing, or a reserved FORMAT (R421 to R425). -/
def VepCall.operandOk (c : VepCall) : Bool :=
  !(c.prog.floatOnly && decide (c.t = .int32))
    && !(c.in0 == .none_ && c.prog.ops.any fun w => vepReads w 8)
    && !(c.in1 == .none_ && c.prog.ops.any fun w => vepReads w 9)
    && c.in0 != .bad && c.in1 != .bad && c.out != .bad
    && (match c.out with | .value _ => false | _ => true)
    && c.shapeOk

/-! ### Instructions in the engines (R205, R223, R225, R314, R433) -/

/-- The instruction in an engine. -/
def GcOp.insn (o : GcOp) : Insn := insnOf o.pc o.word o.ext

/-- A summary, which writes a scalar (R442). -/
def GcOp.summary (o : GcOp) : Bool := o.pipe == .vector && decide (8 ≤ o.insn.op)

/-- Block-memory offset of row `r` of vld.t or vst.t (R407). -/
def GcOp.row (o : GcOp) (r : Nat) : Nat := ((o.s1 : Int) + r * signedNat 64 o.s2).toNat

/-- A port's elements as ranges of block memory: offset and bytes. -/
def VPort.ranges (p : VPort) (rows cols : Nat) : List (Nat × Nat) := (p.addresses rows cols).map fun x => (x.toNat, p.bytes)

/-- Ranges of block memory that an instruction in an engine reads. -/
def GcOp.reads (regs : Nat) (g : Group) (o : GcOp) : List (Nat × Nat) :=
  let i := o.insn
  if o.pipe == .multiply then [(o.s1, i.panelBytes 64), (o.s2, i.panelBytes 128)]
  else if o.pipe == .vector && i.op == 1 then
    match vepCall regs g i o.s1 o.s2 o.sd with
    | some c => c.in0.ranges c.shape.1 c.shape.2 ++ c.in1.ranges c.shape.1 c.shape.2
    | none => []
  else if o.pipe == .vector && i.op == 3 && i.blockMem then (List.range 16).map fun r => (o.row r, 64)
  else []

/-- Ranges of block memory that it writes. -/
def GcOp.writes (regs : Nat) (g : Group) (o : GcOp) : List (Nat × Nat) :=
  let i := o.insn
  if o.pipe == .readout && i.op == 9 then [(o.s2, readBytes i.mod)]
  else if o.pipe == .vector && i.op == 1 then
    match vepCall regs g i o.s1 o.s2 o.sd with
    | some c => c.out.ranges c.shape.1 c.shape.2
    | none => []
  else if o.pipe == .vector && i.op == 4 && i.blockMem then (List.range 16).map fun r => (o.row r, 64)
  else []

/-- Two ranges share a byte. -/
def rangesMeet (x y : Nat × Nat) : Bool := decide (x.1 < y.1 + y.2) && decide (y.1 < x.1 + x.2)

/-- An instruction in the engines still has to read or to write block memory. -/
def Group.memoryPending (g : Group) (regs : Nat) : Bool :=
  g.ops.any fun o => !(o.reads regs g).isEmpty || !(o.writes regs g).isEmpty

/-- An access of block memory meets what an instruction in the engines has still to write, or, where it writes, to read: in the
issuer's sub-group it comes after that instruction in program order (R223, R225). -/
def Group.meetsPending (g : Group) (regs : Nat) (write : Bool) (l : List (Nat × Nat)) : Bool :=
  g.ops.any fun o => l.any fun x => ((o.writes regs g) ++ (if write then o.reads regs g else [])).any (rangesMeet x)

/-- An accumulator tile that an instruction in the engines names. -/
def Group.tilePending (g : Group) (regs n : Nat) : Bool :=
  g.ops.any fun o => [o.insn.dst, o.insn.src1, o.insn.src2].any fun f => opdOf regs f == .acc n

/-- An instruction of the tile-vector engine has not completed. -/
def Group.vectorPending (g : Group) : Bool := g.ops.any fun o => o.pipe == .vector

/-! ### Operands (R205, R223) -/

/-- Operand fields of a legal instruction: those of its first word, and the ones that IMM holds (R271, R273, R283, R288, R293). An
unused field names a lane register. -/
def Insn.fields (i : Insn) : List Nat :=
  [i.dst, i.src1, i.src2]
    ++ (if (i.cls == 0x00 && i.op == 14) || (i.cls == 0x01 && i.op == 3) || (i.cls == 0x04 && i.op % 16 == 9) then [i.imm % 512]
        else if i.cls == 0x06 && i.mod / 4 % 2 == 1 then [256 + i.imm % 64]
        else if i.cls == 0x03 && memSize i.op == 16 then [i.dst + 1] else [])

/-- Scalars that an instruction reads or writes. -/
def Insn.scalars (regs : Nat) (i : Insn) : List Nat :=
  i.fields.filterMap fun f => match opdOf regs f with
    | .scalar n => if n = 0 then none else some n
    | _ => none

/-- A summary in the engine has still to write a scalar that the instruction reads or writes (R223). -/
def Group.scalarPending (g : Group) (regs : Nat) (i : Insn) : Bool :=
  g.ops.any fun o => o.summary && (i.scalars regs).any fun n => opdOf regs o.insn.dst == .scalar n

/-- The instruction reads or writes status that an instruction in the engines has still to set or to read: SR_ASTAT and SR_VSTAT, and
SR_CTRL for the tile-vector engine (R223, R300). -/
def Group.statusPending (g : Group) (i : Insn) : Bool :=
  i.cls == 0x09 && (((i.imm == 0x11 || i.imm == 0x12) && !g.ops.isEmpty) || (i.imm == 0x13 && g.vectorPending))

/-- The instruction orders the accesses before it after itself: fence and bar.block, and a release (R218, R240, R248). -/
def Insn.ordersEarlier (i : Insn) : Bool :=
  (i.cls == 0x05 && (i.op == 0 || i.op == 2)) || ((i.cls == 0x03 || i.cls == 0x04) && decide (2 ≤ i.order))

/-- What the operands of an instruction of the issuer's sub-group wait for: results in program order (R205, R223, R225). -/
def Group.operandsWait (g : Group) (regs : Nat) (i : Insn) : Bool :=
  g.scalarPending regs i || g.statusPending i || (i.ordersEarlier && g.memoryPending regs)

end Sys2Proof.Machine
end

