-- ==== Sys2Proof/Machine/FabricState.lean ====
section
/-!
DEFINITION. State of the fabric ports and the Glolys Transport (12_fabric.md).
-/

namespace Sys2Proof.Machine

/-- FAB_PORTp.STATE (R601). -/
inductive PortSt where
  | down
  | training
  | up
  | lost
deriving DecidableEq, Repr

/-- Its value (R601). -/
def PortSt.code : PortSt → Nat
  | .down => 0
  | .training => 1
  | .up => 2
  | .lost => 3

/-- A fabric port (R601 to R605). -/
structure Port where
  /-- FAB_PORTp.STATE: 2 bits; reset DOWN. -/
  st : PortSt
  /-- FAB_PORTp.MODE as last written: 0 DIRECT, 1 ROUTED; reset 0. -/
  mode : Bool
  /-- The mode the port trained in (R601: a write takes effect when the port next trains). -/
  modeNow : Bool
  /-- FAB_PORTp.QUAR; reset 0. -/
  quar : Bool
  /-- FAB_PORTp.PEER_VALID; reset 0. -/
  peerValid : Bool
  /-- FAB_PORTp.VIOL: 16 bits, saturating; reset 0. -/
  viol : Nat
  /-- FAB_PORTp.PEER_EPOCH: 16 bits; reset 0. -/
  peerEpoch : Nat
  /-- FAB_PORTp.PEER: 14 bits; reset 0. -/
  peer : Nat
  /-- FAB_PCNTp.NAKS: 32 bits; reset 0. -/
  naks : Nat
  /-- FAB_PCNTp.VIOLS: 32 bits; reset 0. -/
  viols : Nat
  /-- Stamp of the last frame with a good FCS (R603). -/
  lastGood : Nat
  /-- That frame met the port's deadline in its cycle: NEARMISS in its stamp (R128). -/
  near : Bool
  /-- MT at which it last sent (R602). -/
  lastSent : Nat
  /-- Default router of a ROUTED port (R569): link-layer and network address. -/
  router : Option (Nat × Nat)
  /-- Link errors counted (R565). -/
  linkErrors : Nat
deriving DecidableEq, Repr

/-- What an unacknowledged frame carries, so that its end can be told to whoever waits (R587, R590, R606). -/
inductive FlowOp where
  /-- A response, an ACK or a message nothing waits for. -/
  | none
  /-- A tie write of a group or copy: the model's name for it, context, faulting address, cluster, block, group (R465). -/
  | tieWrite (id ctx va cluster block group : Nat) (engine : Engine) (window : Nat) (kind : AccKind)
  /-- A tie read or atomic, by transport tag. -/
  | tieRead (tag : Nat)
  /-- A data write of a list entry through a tie: list, entry, context, address and window (R181, R465). -/
  | entry (watch entry ctx va window : Nat)
  /-- The write of an entry's record through a tie, likewise (R178, R181). -/
  | record (watch entry ctx va window : Nat)
  /-- The write of an exception record through a tie (R308). -/
  | excRecord (ctx : Nat)
  /-- The write of an attestation report through a tie (R145, R771). -/
  | report (mbx : Nat)
  /-- A launch message to a node. -/
  | launch (job node : Nat) (commit : Bool)
  /-- A collective chunk. -/
  | coll (ctx slot : Nat)
  /-- A write or a fill message of a monument or restore. -/
  | monument (id : Nat)
  /-- A READ_REQ of a monument or restore, by the model's name for it. -/
  | bulkRead (name : Nat)
  /-- Another CTRL message. -/
  | control
deriving DecidableEq, Repr

/-- An unacknowledged frame. -/
structure Unacked where
  seq : Nat
  frame : Frame
  op : FlowOp
  /-- A CTRL message that has been sent again after STALE_EPOCH (R611). -/
  resent : Bool
deriving DecidableEq, Repr

/-- A sending flow (R584 to R592, R861). -/
structure SendFlow where
  dst : Nat
  kind : Nat
  ctx : Nat
  /-- Port the flow takes while that port stays usable (R577). -/
  port : Nat
  /-- Next SEQ. -/
  next : Nat
  unacked : List Unacked
  /-- Retransmission rounds without progress (R590). -/
  rounds : Nat
  /-- MT of the last progress of ACK, and of the last transmission (R589, R861). -/
  progress : Nat
  lastSent : Nat
  /-- A reset flow sends nothing (R861 step 3); frames queued meanwhile are held in `waiting`. -/
  silent : Bool
  waiting : List Unacked
  /-- The oldest frame was answered BUSY at this MT (R592). -/
  busy : Option Nat
deriving DecidableEq, Repr

/-- A receiving flow (R587, R588, R591). -/
structure RecvFlow where
  src : Nat
  kind : Nat
  ctx : Nat
  expect : Nat
  /-- MT of its last frame. -/
  last : Nat
  /-- Frames performed and not yet acknowledged, and the port of the last. -/
  owed : Nat
  port : Nat
deriving DecidableEq, Repr

/-- A WITNESS_BIND whose stake has not passed (R606). -/
structure Bind where
  node : Nat
  epoch : Nat
  plat : Nat
  stake : Nat
deriving DecidableEq, Repr

/-- A frame held for a pending bind (R579, R608). -/
structure HeldFrame where
  port : Nat
  frame : Frame
  stamp : Nat
deriving DecidableEq, Repr

/-- The fabric. -/
structure FabricState where
  /-- FAB_CFG.ETHERTYPE: reset 0x88B5. -/
  etherType : Nat
  /-- FAB_CFG.UDP_PORT: reset 0xB2E5. -/
  udpPort : Nat
  /-- FAB_CFG.QUAR_THRESH: reset 0x0040. -/
  quarThresh : Nat
  /-- FAB_CFG.DSCP: 6 bits; reset 0. -/
  dscp : Nat
  /-- FAB_V6PFX: 64 bits; reset 0. -/
  v6pfx : Nat
  /-- FAB_SELF.FENCED: reset 0. -/
  fenced : Bool
  /-- FAB_SELF.EPOCH: 16 bits; reset 0. -/
  epoch : Nat
  /-- FAB_SELF.NODE: 14 bits; reset 0. -/
  node : Nat
  /-- FAB_VRING.HEAD: 8 bits; reset 0. -/
  vHead : Nat
  /-- FAB_VRING.TOTAL: 32 bits; reset 0. -/
  vTotal : Nat
  /-- Violation records (R599): 256 of eight words; reset 0. -/
  ring : List (List Word)
  ports : List Port
  /-- Epoch known for each node (R575); unlisted is 0, unbound. -/
  epochs : List (Nat × Nat)
  /-- Route word of each node (R575, R576); unlisted is 0. -/
  routes : List (Nat × Word)
  /-- Nodes marked unreachable (R575). -/
  unreachable : List Nat
  /-- PLAT_POS (R571): HALL, ROW, RACK, SLOT, DEVICE. -/
  hall : Nat
  row : Nat
  rack : Nat
  slot : Nat
  device : Nat
  sends : List SendFlow
  recvs : List RecvFlow
  binds : List Bind
  held : List HeldFrame
  /-- MT of the last STALE_SEEN notice (R610). -/
  staleSeen : Option Nat
  /-- MT millisecond in which VIOL counts (R600). -/
  violMs : Nat
  /-- Length of the outbox at the last reference cycle: what came after it leaves in the present cycle (R580; the model's own, log 119). -/
  sentMark : Nat
deriving DecidableEq, Repr

/-- A port after a module reset (R601). -/
def Port.reset : Port where
  st := .down
  mode := false
  modeNow := false
  quar := false
  peerValid := false
  viol := 0
  peerEpoch := 0
  peer := 0
  naks := 0
  viols := 0
  lastGood := 0
  near := false
  lastSent := 0
  router := none
  linkErrors := 0

/-- The fabric after a module reset (R571, R575, R601). -/
def FabricState.reset : FabricState where
  etherType := 0x88B5
  udpPort := 0xB2E5
  quarThresh := 0x40
  dscp := 0
  v6pfx := 0
  fenced := false
  epoch := 0
  node := 0
  vHead := 0
  vTotal := 0
  ring := List.replicate 256 (List.replicate 8 0)
  ports := List.replicate 32 Port.reset
  epochs := []
  routes := []
  unreachable := []
  hall := 0
  row := 0
  rack := 0
  slot := 0
  device := 0
  sends := []
  recvs := []
  binds := []
  held := []
  staleSeen := none
  violMs := 0
  sentMark := 0

end Sys2Proof.Machine
end

