-- ==== Sys2Proof/Machine/MemoryState.lean ====
section
/-!
DEFINITION. State of the caches, the directories and the coherence messages in flight (10_coherence.md), and of the
stacked memory's controllers (11_stacked_memory.md).
-/

namespace Sys2Proof.Machine

/-- States of a line in a caching agent (R503). -/
inductive LineSt where
  | m
  | e
  | s
  | p
  | i
deriving DecidableEq, Repr

/-- A line held by a caching agent 0 to 10 (R491, R492, R495). -/
structure AgentLine where
  agent : Nat
  /-- Physical address divided by 256. -/
  line : Nat
  st : LineSt
  valid : BitVec 4
  dirty : BitVec 4
  /-- Age under the not-recently-used rule (R497). -/
  age : Nat
  /-- Clusters of the tile that may hold the line in L1 (R495). -/
  clusters : BitVec 24
  /-- The context whose store last made the line dirty (R704). -/
  dirtyBy : Option Nat
  /-- Way of its set (R497). -/
  way : Nat
deriving DecidableEq, Repr

/-- A directory entry (R507). -/
structure DirEntry where
  line : Nat
  owned : Bool
  sharers : BitVec 11
  provider : Option Nat
  owner : Option Nat
  /-- The FAR mark (R527). -/
  far : Bool
  /-- Age under the not-recently-used rule (R497). -/
  age : Nat
  /-- Way of its set (R497). -/
  way : Nat
deriving DecidableEq, Repr

/-- Requests of agents to homes (R509). -/
inductive AskKind where
  | getS
  | getX
  | claim
  /-- Ownership of a whole line that is to be zeroed, with no data (R493, R502). -/
  | zero
  | glance
  /-- With the bytes and their offset in the line. -/
  | place (offset : Nat) (bytes : List Byte)
  | atom (r : AtomReq)
deriving DecidableEq, Repr

/-- Messages of homes and holders (R509). -/
inductive MsgKind where
  | probeGive
  | probeKill
  | reply (st : LineSt) (spillPending : Bool)
  | grant (st : LineSt)
  /-- A grant that carries an atomic's old value. -/
  | grantOld (old : Nat)
  | seated
  | retry (reserved : Bool)
  | cargo
  | spillCargo
deriving DecidableEq, Repr

/-- A coherence message in flight between an agent and the home of a line. -/
structure CohMsg where
  kind : MsgKind
  agent : Nat
  line : Nat
  /-- Sectors that it names or carries; in a reply, the dirty sectors that follow as SpillCargo. -/
  sectors : BitVec 4
deriving DecidableEq, Repr

/-- The transaction that keeps a line busy at its home (R511). -/
structure CohTxn where
  line : Nat
  agent : Nat
  kind : AskKind
  sectors : BitVec 4
  /-- State the requester is granted. -/
  granted : LineSt
  /-- Holders whose reply is awaited. -/
  probed : List Nat
  /-- Holders whose SpillCargo is awaited (R516). -/
  spills : List Nat
  /-- The home's read of HBM is awaited (R505, R535). -/
  reading : Bool
  /-- Sectors that the home itself supplies. -/
  supply : BitVec 4
  /-- The Grant has been sent and the Seated is awaited. -/
  grantSent : Bool
  ctx : Option Nat
deriving DecidableEq, Repr

/-- A request an agent has outstanding for a line (R511, R513, R514). -/
structure AgentReq where
  agent : Nat
  line : Nat
  kind : AskKind
  sectors : BitVec 4
  retries : Nat
  starving : Bool
  reserved : Bool
  /-- Refused and waiting out its backoff (R513). -/
  backing : Bool
  /-- The home has accepted it (R511). -/
  accepted : Bool
  /-- The Grant has been taken. -/
  granted : Bool
  /-- Sectors whose data has come. -/
  got : BitVec 4
  ctx : Option Nat
  /-- Age that the fill is inserted at (R498). -/
  age : Nat
deriving DecidableEq, Repr

/-- An eviction whose message has not reached the home (R499, R506); its way stays occupied while its sectors are dirty. -/
structure Evict where
  agent : Nat
  line : Nat
  dirty : BitVec 4
  dirtyBy : Option Nat
  /-- The home has taken the Spill and awaits the SpillCargo. -/
  taken : Bool
  /-- The way that it leaves, which stays occupied while its sectors are dirty (R499). -/
  way : Nat
deriving DecidableEq, Repr

/-- An entry of a starvation table (R514), in order of arrival. -/
structure Reserve where
  line : Nat
  agent : Nat
deriving DecidableEq, Repr

/-- An entry of a home's contention predictor (R528). -/
structure Predict where
  home : Nat
  /-- Physical address divided by 4,096. -/
  group : Nat
  count : Nat
  last : Nat
  age : Nat
  /-- Way of its set (R497). -/
  way : Nat
deriving DecidableEq, Repr

/-- A line in a core's L1 (R494). -/
structure L1Line where
  cluster : Nat
  core : Nat
  line : Nat
  age : Nat
  /-- Way of its set (R497). -/
  way : Nat
deriving DecidableEq, Repr

/-- A stride detector (R500). -/
structure Detector where
  cluster : Nat
  core : Nat
  blk : Nat
  grp : Nat
  pc : Nat
  /-- Line address of the last access. -/
  last : Nat
  stride : Int
  /-- Successive accesses with that stride. -/
  run : Nat
  /-- Successive accesses that broke it. -/
  breaks : Nat
  age : Nat
  /-- Which of the core's 32 detectors it is (R500). -/
  way : Nat
deriving DecidableEq, Repr

/-- Caches and coherence. -/
structure CohState where
  lines : List AgentLine
  dir : List DirEntry
  txns : List CohTxn
  reqs : List AgentReq
  msgs : List CohMsg
  evicts : List Evict
  reserves : List Reserve
  predicts : List Predict
  l1 : List L1Line
  detectors : List Detector
  /-- Lines that prefetches have requested into an L2: agent and line (R500). -/
  prefetched : List (Nat × Nat)
deriving DecidableEq, Repr

/-- Request classes (R536). -/
inductive MemClass where
  | crit
  | high
  | bulk
  | background
deriving DecidableEq, Repr

/-- Rank of a class, highest first (R536). -/
def MemClass.rank : MemClass → Nat
  | .crit => 1
  | .high => 2
  | .bulk => 3
  | .background => 4

/-- A request at a stack (R535 to R541). -/
structure MemReq where
  /-- The model's own name. -/
  id : Nat
  line : Nat
  sectors : BitVec 4
  write : Bool
  /-- Sectors of a write of which less than the whole is written (R854). -/
  part : BitVec 4
  /-- Bytes of target that an operation of the memory ALU processes (R543, R544); 0 of a read or a write. -/
  alu : Nat
  cls : MemClass
  /-- It holds a tracker entry; otherwise it waits at its home (R537). -/
  tracked : Bool
  /-- Agent and transaction it serves, if a home waits for it. -/
  agent : Option Nat
  /-- Partition it is regulated under (R697). -/
  partition : Option Nat
  /-- Context it counts to (R704). -/
  ctx : Option Nat
  /-- MT at which it began to wait (R539). -/
  since : Nat
deriving DecidableEq, Repr

/-- A place in a stack (R533). -/
structure StackPlace where
  stack : Nat
  channel : Nat
  pseudo : Nat
  bank : Nat
  row : Nat
  column : Nat
deriving DecidableEq, Repr

/-- What a pseudo-channel's scheduler and write queue remember (R538, R540). -/
structure PseudoChannel where
  stack : Nat
  channel : Nat
  pseudo : Nat
  /-- Open rows: bank and row. -/
  rows : List (Nat × Nat)
  /-- Reads served in a row from open rows. -/
  run : Nat
  /-- Its write queue drains ahead of reads: it has reached 48 entries and not yet fallen to 16. -/
  draining : Bool
deriving DecidableEq, Repr

/-- A row that a repair replaced, or fenced for want of a spare (R556, R558). -/
structure RowRepair where
  stack : Nat
  channel : Nat
  pseudo : Nat
  bank : Nat
  row : Nat
  fenced : Bool
deriving DecidableEq, Repr

/-- A repair in progress or waiting (R556, R559). -/
structure RepairRun where
  mbx : Nat
  stack : Nat
  channel : Nat
  pseudo : Nat
  bank : Nat
  row : Nat
deriving DecidableEq, Repr

/-- An interleave region (R532, R562). -/
structure Region where
  base : Nat
  members : List Nat
deriving DecidableEq, Repr

/-- Stacked memory. -/
structure MemState where
  /-- Contents of HBM by physical address; no entry zero (log 5). -/
  hbm : List Host.Cell
  /-- Poisoned sectors: physical address divided by 64, rising (R550, R551). -/
  poison : List Nat
  /-- MEM_REGION0 to 8 (R562), fixed at start-up (R531); reset none. -/
  regions : List Region
  reqs : List MemReq
  nextReq : Nat
  /-- Repair list in the hub's flash (R556, R558). -/
  repairs : List RowRepair
  /-- The repair that runs, and those that wait (R559). -/
  repairing : Option RepairRun
  repairQueue : List RepairRun
  /-- MEM_ERRLOG (R562): VALID, OVERRUN, KIND and place; reset 0. -/
  errValid : Bool
  errOverrun : Bool
  errKind : Nat
  errPlace : StackPlace
  errSector : Nat
  /-- The errors that arrived since the last reference cycle, KIND and place (R554): the model's own. -/
  errNow : List (Nat × StackPlace)
  /-- MEM_BUSYs (R562): 16 of 64 bits; reset 0. -/
  busy : List Nat
  /-- BUSY at the end of the last saturation window (R561). -/
  busyLast : List Nat
  /-- MEM_FULLs (R562): 16 of 64 bits; reset 0. -/
  full : List Nat
  /-- MEM_SWIs (R562): 16 of 64 bits; reset 0. -/
  swi : List Nat
  /-- MEM_FARs (R562): CELLS and ATOMICS, 16 of 32 bits each; reset 0. -/
  farCells : List Nat
  farAtomics : List Nat
  /-- MEM_LINKd_p (R562): SAT and SWI for 8 x 5 ports, 32 bits each; reset 0. -/
  linkSat : List Nat
  linkSwi : List Nat
  /-- Stacks hotter than 85 degrees, whose refresh is doubled (R553). -/
  hot : List Nat
  /-- Activations counted per bank for refresh management (R553): stack, bank key and count. -/
  activations : List (Nat × Nat × Nat)
  /-- The pseudo-channels that have served or queued something; every other has no row open (R538, R540). -/
  pseudos : List PseudoChannel
deriving DecidableEq, Repr

/-- Nothing cached after a module reset. -/
def CohState.reset : CohState where
  lines := []
  dir := []
  txns := []
  reqs := []
  msgs := []
  evicts := []
  reserves := []
  predicts := []
  l1 := []
  detectors := []
  prefetched := []

/-- Stacked memory after a module reset (R562), its contents as the model leaves them (log 5). -/
def MemState.reset : MemState where
  hbm := []
  poison := []
  regions := []
  reqs := []
  nextReq := 1
  repairs := []
  repairing := none
  repairQueue := []
  errValid := false
  errOverrun := false
  errKind := 0
  errPlace := ⟨0, 0, 0, 0, 0, 0⟩
  errSector := 0
  errNow := []
  busy := List.replicate 16 0
  busyLast := List.replicate 16 0
  full := List.replicate 16 0
  swi := List.replicate 16 0
  farCells := List.replicate 16 0
  farAtomics := List.replicate 16 0
  linkSat := List.replicate 40 0
  linkSwi := List.replicate 40 0
  hot := []
  activations := []
  pseudos := []

end Sys2Proof.Machine
end

