-- ==== Sys2Proof/Machine/JoinedState.lean ====
section
/-!
DEFINITION. State of launch trees, collectives and plumb groups (13_joined_devices.md), and of monuments, restores and
witness fill (14_monuments.md).
-/

namespace Sys2Proof.Machine

/-- An entry of a launch tree (R613): node and parent index. -/
structure TreeEntry where
  node : Nat
  parent : Nat
deriving DecidableEq, Repr

/-- Words 0 to 3 of a launch-tree descriptor (R613). -/
structure LaunchDesc where
  mailbox : Nat
  entries : Nat
  record : Nat
  collBase : Nat
  collSlots : Nat
deriving DecidableEq, Repr

/-- An acknowledgement, or the first negative one (R615, R620, R622). -/
structure NegAck where
  status : Nat
  node : Nat
deriving DecidableEq, Repr

/-- An offer that this device holds, or is taking in (R616 to R625). -/
structure Offer where
  job : Nat
  attempt : Nat
  /-- Arrival port and sending node, none at the root. -/
  from_ : Option Nat
  deadline : Nat
  desc : LaunchDesc
  /-- Index of this device's own entry, and the entries of its subtree from that index on. -/
  own : Nat
  tree : List TreeEntry
  /-- Frames still missing (R616). -/
  frags : Nat
  got : List Nat
  /-- The offer is complete and its own checks are over (R617). -/
  held : Bool
  /-- Children that have acknowledged positively, by place in child order, with the counts they gave. -/
  acks : List (Nat × Nat)
  acked : Bool
  /-- A late child ack: no ack of its own is sent (R621). -/
  missed : Bool
  neg : Option NegAck
  /-- Allocation of the expiry comparator (R617, R625). -/
  alloc : Option Nat
  /-- Abort stake, once aborted (R625). -/
  abort : Option Nat
  /-- The root's LAUNCH_OFFER has completed with OK (R623). -/
  acknowledged : Bool
  /-- Mailbox whose LAUNCH_OFFER waits at the root. -/
  mbx : Option Nat
deriving DecidableEq, Repr

/-- A committed launch: the job's reduction tree (R625, R629). -/
structure Launch where
  job : Nat
  attempt : Nat
  from_ : Option Nat
  desc : LaunchDesc
  own : Nat
  tree : List TreeEntry
  stake : Nat
  ctx : Nat
deriving DecidableEq, Repr

/-- An attempt that the root aborted (R623). -/
structure Aborted where
  job : Nat
  attempt : Nat
deriving DecidableEq, Repr

/-- An element of a collective (R632, R633): FP32 bits, or an anchored sum and its flags. -/
inductive CollEl where
  | fp32 (x : Half)
  | anch (sum : BitVec 152) (flags : BitVec 7)
deriving DecidableEq, Repr

/-- A collective in flight at a slot (R629 to R637). -/
structure Collective where
  ctx : Nat
  slot : Nat
  /-- The slot's physical line, as its watch registered it (R188, R629). -/
  line : Nat
  job : Nat
  attempt : Nat
  seq : Nat
  op : Nat
  mode : Nat
  cells : Bool
  anchor : Int
  count : Nat
  src : Nat
  dst : Nat
  deadline : Nat
  gen : Nat
  /-- UP chunks received: child place, chunk, elements. -/
  up : List (Nat × Nat × List CollEl)
  /-- UP chunks sent to the parent. -/
  sent : Nat
  /-- Credit granted by the parent (R636). -/
  credit : Nat
  /-- Result elements received or computed so far, in order. -/
  result : List CollEl
  /-- Result elements whose output has been written. -/
  written : Nat
  /-- Credit granted to each child, by its place in child order (R636). -/
  granted : List (Nat × Nat)
deriving DecidableEq, Repr

/-- Credit, or a FAIL, that reached this device before it posted the collective (R636, R637). -/
structure EarlyColl where
  job : Nat
  attempt : Nat
  seq : Nat
  credit : Nat
  fail : Option Nat
deriving DecidableEq, Repr

/-- A THROTTLE notice (R641). -/
structure Throttle where
  group : Nat
  origin : Nat
  originMt : Nat
  stake : Nat
  nseq : Nat
  clock : Nat
  /-- The batch it belongs to has been applied (R644). -/
  applied : Bool
deriving DecidableEq, Repr

/-- Launches, collectives and the plumb group. -/
structure JoinedState where
  offers : List Offer
  launches : List Launch
  aborted : List Aborted
  colls : List Collective
  early : List EarlyColl
  /-- Plumb group that the device belongs to, once its stake has passed; and the one being joined with its mailbox and stake (R640). -/
  group : Option Nat
  joining : Option (Nat × Nat × Nat)
  notices : List Throttle
  /-- First copies already flooded: origin and NSEQ (R642). -/
  seen : List (Nat × Nat)
  /-- Next NSEQ of this device's own notices. -/
  nseq : Nat
  /-- MT of its last own notice (R643). -/
  lastThrottle : Option Nat
deriving DecidableEq, Repr

/-- States of a monument or restore (R652). -/
inductive MonState where
  | waiting
  | capturing
  | draining
  | sealed
  | failed
  | reading
  | restored
deriving DecidableEq, Repr

/-- A region entry of a manifest (R653). -/
structure MonRegion where
  addr : Nat
  len : Nat
  label : Nat
  skip : Bool
deriving DecidableEq, Repr

/-- What a restore reads next (R669): the grant is awaited, the seal, the stored manifest, the image; or all has been read. -/
inductive ReadPhase where
  | claiming
  | seal
  | manifest
  | image
  | over_
deriving DecidableEq, Repr

/-- A monument or a restore (R648 to R678). -/
structure Monument where
  /-- ID that MONUMENT_START or RESTORE returned (R659): 16 bits. -/
  id : Nat
  isRestore : Bool
  /-- Context, none from mailbox 0 (R134). -/
  ctx : Option Nat
  manifest : Nat
  /-- Manifest words 0 to 15, region entries, and stream entries of eight words, as read at the take (R651 to R654). -/
  header : List Word
  regions : List MonRegion
  streams : List (List Word)
  /-- Layers selected, sealed and failed (R648, R651 word 16). -/
  layers : BitVec 3
  sealedLayers : BitVec 3
  failedLayers : BitVec 3
  st : MonState
  status : Nat
  stake : Nat
  alloc : Option Nat
  /-- The stake has passed, and the capture waits for an earlier one to end (R663). -/
  due : Bool
  /-- Layer being written, or that a restore reads. -/
  layer : Nat
  /-- Layer that a drain reads, once the drain has begun (R661 step 4). -/
  source : Option Nat
  /-- Words 17 to 21 of the manifest (R651). -/
  startMt : Nat
  startFlags : Nat
  capturedMt : Nat
  capturedFlags : Nat
  endMt : Nat
  endFlags : Nat
  /-- This device's node and epoch at the stake (R656). -/
  node : Nat
  epoch : Nat
  /-- DIGEST of the captured image (R656). -/
  digest : List Byte
  /-- Every byte of the layer's image but the seal has been sent or written; then, the seal too (R657). -/
  written : Bool
  sealOut : Bool
  /-- A write or read failed: its layer and status (R664). -/
  broken : Option (Nat × Nat)
  /-- Image bytes written to, or read from, each layer (R666). -/
  bytes : List Nat
  /-- Bytes read so far in the present phase, and bytes asked for. -/
  buffer : List Byte
  asked : Nat
  /-- A restore: what it reads next, the seal and the stored manifest as read, the claim, whether it is granted, and the
  bytes staged (R668 to R673). -/
  phase : ReadPhase
  sealBytes : List Byte
  stored : List Byte
  claim : Option (Nat × Nat × Nat)
  granted : Bool
  staged : Nat
deriving DecidableEq, Repr

/-- A fill grant of a holder (R672): window and offset, the node and restore ID that hold it, and those that wait. -/
structure Fill where
  window : Nat
  offset : Nat
  holder : Option (Nat × Nat)
  queue : List (Nat × Nat)
deriving DecidableEq, Repr

/-- A READ_REQ of a monument or restore whose bytes have not come back (R585). -/
structure BulkRead where
  /-- The model's own name. -/
  name : Nat
  id : Nat
  node : Nat
  tag : Nat
  size : Nat
deriving DecidableEq, Repr

/-- Monuments, restores and fills. -/
structure MonumentState where
  items : List Monument
  nextId : Nat
  fills : List Fill
  reads : List BulkRead
  nextRead : Nat
  /-- Contents of the local flash (R36, R650); no entry zero. -/
  flash : List Host.Cell
deriving DecidableEq, Repr

def JoinedState.reset : JoinedState where
  offers := []
  launches := []
  aborted := []
  colls := []
  early := []
  group := none
  joining := none
  notices := []
  seen := []
  nseq := 0
  lastThrottle := none

def MonumentState.reset : MonumentState where
  items := []
  nextId := 1
  fills := []
  reads := []
  nextRead := 0
  flash := []

end Sys2Proof.Machine
end

