-- ==== Sys2Proof/Machine/NodeState.lean ====
section
/-!
DEFINITION. State of power and the plumb clock (16_power.md), boot, identity and update (17_trust.md), the dies and
their links (18_dies_and_links.md), counters and trace (19_observation.md), and the connectors and the management
interfaces (20_module.md).
-/

namespace Sys2Proof.Machine

/-- A pending phase hint (R736, R737). -/
structure PhaseHint where
  /-- The model's own name. -/
  id : Nat
  heavy : Bool
  phase : Nat
  /-- MT at which it was taken (R739). -/
  taken : Nat
  /-- Allocation of its POWER comparator, if one was granted (R736). -/
  alloc : Option Nat
deriving DecidableEq, Repr

/-- Power and the plumb clock (R714 to R746). -/
structure PowerState where
  /-- PWR_STATUS.CLOCK (R723): 16 bits; reset 0x0578. -/
  clock : Nat
  /-- PWR_STATUS.TARGET (R723): 16 bits; reset 0x0578. -/
  target : Nat
  /-- PWR_STATUS.MODE (R723): reset 0, plumb mode. -/
  critMode : Bool
  /-- PWR_STATUS.CRITICAL (R723): reset 0. -/
  critical : Bool
  /-- PWR_STATUS.LEVELLING (R723): reset 0. -/
  levelling : Bool
  /-- PWR_STATUS.REASON (R723): bits SUSTAINED, PEAK, THERMAL, INPUT, SLOPE; reset 0. -/
  reason : BitVec 5
  /-- PWR_INPUT.VIN in 10 mV (R723): 16 bits; reset 0. -/
  vin : Nat
  /-- PWR_INPUT.P_10US, P_1MS and P_100MS in W (R723): 16 bits each; reset 0. -/
  p10us : Nat
  p1ms : Nat
  p100ms : Nat
  /-- Power samples of the last 100 ms in W, newest first (R722). -/
  samples : List Nat
  /-- PWR_ENERGY in µJ (R723): 64 bits; reset 0. -/
  energy : Nat
  /-- PWR_UNAPP in µJ (R723): 64 bits; reset 0. -/
  unapp : Nat
  /-- PWR_LIMIT.SUST_K, PEAK_K, SUST_M, PEAK_M (R723): 16 bits each; reset 0x1068 and 0x12C0. -/
  sustK : Nat
  peakK : Nat
  sustM : Nat
  peakM : Nat
  /-- PWR_CTRL.NONCRIT (R723): 16 bits; reset 0x0BB8. -/
  noncrit : Nat
  /-- PWR_EVENT.THROTTLES (R723): 16 bits; reset 0. -/
  throttles : Nat
  /-- PWR_EVENT.HINTS_LATE (R723): 16 bits; reset 0. -/
  hintsLate : Nat
  /-- PWR_EVENT.HINTS_DROPPED (R723): 16 bits; reset 0. -/
  hintsDropped : Nat
  /-- PWR_EVENT.GATE_MS (R723): 16 bits; reset 0. -/
  gateMs : Nat
  /-- PWR_LEVEL.CYCLES in units of 1,024 core-cycles (R723): 48 bits; reset 0. -/
  levelCycles : Nat
  /-- Plumb cycles elapsed and not yet counted, in 1/10,000 (R801). -/
  plumbPart : Nat
  /-- Core-cycles of levelling load below the unit of CYCLES. -/
  levelPart : Nat
  /-- The heavy-phase draw learned (R738), if one was. -/
  learned : Option Nat
  /-- Share of cycles in 1/64 in which each compute die may begin work (R728): 64 is ungated. -/
  gates : List Nat
  /-- The gating has held since the last whole millisecond of MT (R723 GATE_MS). -/
  gatedMs : Bool
  /-- Draw at which the fall of engine load began, while levelling fills it (R733, R735). -/
  fillDraw : Option Nat
  /-- Required clock (R730), and MT at which it last lay lower (R732). -/
  required : Nat
  lastLower : Nat
  /-- MT at which the input last lay below 46 V, while REASON.INPUT is set (R719). -/
  inputLow : Option Nat
  /-- Pending hints, at most 16 (R737). -/
  hints : List PhaseHint
  nextHint : Nat
  /-- Heavy hints whose phase time has passed and whose hold no light hint has ended: their phase times, and whether
  real work has since raised the draw to TARGET_W (R739, R741). -/
  heldHints : List (Nat × Bool)
  /-- Energy measured in the current millisecond (R745). -/
  msEnergy : Nat
  /-- Engine-time weights of the 64 contexts in the current millisecond (R745). -/
  msWeights : List Nat
  /-- PMBus readings of the power stages (R718). -/
  readings : List StageReading
  /-- Samples, and their sum in W, of the present span in which the matrix engines were busy without gating (R738). -/
  busyLen : Nat
  busySum : Nat
  /-- The millisecond of MT whose energy is being gathered (R745). -/
  msIndex : Nat
deriving DecidableEq, Repr

/-- The image that runs (R750). -/
structure RunImage where
  fwVersion : Nat
  svn : Nat
  abaom : Nat
  keySlot : Nat
  /-- The 32 bytes of the measurement (R751). -/
  measurement : List Byte
deriving DecidableEq, Repr

/-- The pause of mailbox service by a live activation (R148, R766). -/
inductive ServicePause where
  | off
  /-- Asked for: commands that are BUSY complete first. -/
  | asked
  /-- Begun; it ends at an MT. -/
  | until_ (mt : Nat)
deriving DecidableEq, Repr

/-- An update session (R764). -/
structure FwSession where
  mbx : Nat
  size : Nat
  live : Bool
  /-- MT of the holder's last FW_ command (R764). -/
  last : Nat
deriving DecidableEq, Repr

/-- Recovery (R759 to R762). -/
structure Recovery where
  reason : Nat
  /-- MT at which step 2 of R759 began. -/
  since : Nat
  /-- The 60 s wait of step 2 is over and a fetch runs. -/
  fetching : Bool
  /-- MT at which the present source was turned to (R759). -/
  turned : Nat
  /-- MT at which the last request left (R762). -/
  sent : Nat
  /-- Bytes of the image as the header that has come gives them; 1,024 until it has. -/
  want : Nat
  /-- Index in the recovery source list. -/
  source : Nat
  /-- Bytes fetched so far. -/
  offset : Nat
  /-- Requests sent for the present offset. -/
  attempts : Nat
deriving DecidableEq, Repr

/-- An ATTEST that waits for the identity state, with the log and the chain as they stood at its take (R753, R771). -/
structure WaitingAttest where
  mbx : Nat
  log : List (List Word)
  chain : List Byte
deriving DecidableEq, Repr

/-- Boot, identity and update. -/
structure TrustState where
  /-- FW_REVOKE (R748): 4 fused bits; bits are only set. -/
  revoke : BitVec 4
  /-- The firmware slot in the hub's flash: bytes 0 to 4 MiB - 1 (R749), no entry zero. -/
  slot : List Host.Cell
  /-- The slot was left invalid by an interrupted or failed write (R765). -/
  slotBad : Bool
  /-- IDX, the state-index counter (R749). -/
  idx : Nat
  /-- SVN counter MIN_SVN (R749): 16 bits. -/
  minSvn : Nat
  /-- Recovery source list: logical node IDs, oldest first, and FAB_V6PFX (R761). -/
  sources : List Nat
  sourcePfx : Nat
  /-- The running image, once one runs. -/
  image : Option RunImage
  /-- Measurement log (R755): at most 64 entries of eight words. -/
  log : List (List Word)
  /-- CHAIN (R754): 32 bytes; zero at module reset. -/
  chain : List Byte
  /-- Next state index (R768, R769). -/
  nextIndex : Nat
  /-- IDX as recorded with the next index, absent when the always-on memory lost it (R769). -/
  idxCopy : Option Nat
  /-- The identity signing state has been rebuilt since the module reset (R753 step 7). -/
  rebuilt : Bool
  /-- ATTEST commands that wait for it, in the order of their takes (R753, R770). -/
  attests : List WaitingAttest
  /-- The log and the chain as they stood at the take of each mailbox's last ATTEST (R771). -/
  taken : List WaitingAttest
  session : Option FwSession
  /-- The pause of mailbox service (R148). -/
  pause : ServicePause
  /-- The 4 MiB staging buffer (R764), no entry zero. -/
  staging : List Host.Cell
  recovery : Option Recovery
  /-- FW_BOOT or FW_FETCHED was logged at this boot (R763). -/
  booted : Bool
  /-- A non-live image was written and FW_ACTIVE is owed at the next boot (R765). -/
  activeOwed : Bool
  /-- OPT_DROPS (R773): 4 of 16 bits, saturating; reset 0. -/
  optDrops : List Nat
  /-- Firmware versions that the optical engines report (R773): 4 of 16 bits. -/
  optVersions : List Nat
  /-- TAP instruction register (R775): 8 bits. -/
  ir : Nat
  /-- Challenge (R775): 256 bits. -/
  challenge : Nat
  /-- The challenge is spent, or none has been drawn (R777). -/
  spent : Bool
  /-- Open debug scope (R773): 0 none, 1 SCAN, 2 INVASIVE; reset 0. -/
  scope : Nat
  /-- Boundary-scan cells (R775 SAMPLE/PRELOAD, EXTEST). -/
  boundary : List Bool
deriving DecidableEq, Repr

/-- Mode of one direction of a bundle (R787), as DL_LANE encodes it. -/
inductive LaneMode where
  | full
  | halfLow
  | halfHigh
  | failed
deriving DecidableEq, Repr

/-- Its value in DL_LANE (R793). -/
def LaneMode.code : LaneMode → Nat
  | .full => 0
  | .halfLow => 1
  | .halfHigh => 2
  | .failed => 3

/-- A bundle as base die d's port sees it (R787 to R793). -/
structure Bundle where
  /-- Lanes fused bad, each direction (R786): 68 bits. -/
  fusedOut : BitVec 68
  fusedIn : BitVec 68
  /-- Lanes now bad, each direction, fused lanes included (R793): 68 bits. -/
  badOut : BitVec 68
  badIn : BitVec 68
  /-- DL_LANE.MODE_OUT and MODE_IN (R793): reset FULL. -/
  modeOut : LaneMode
  modeIn : LaneMode
  /-- It has trained since the module reset (R788). -/
  trained : Bool
  retraining : Bool
  /-- DL_LANE.REPLAYS (R793): 32 bits; reset 0. -/
  replays : Nat
  /-- Replays in the current millisecond of MT, and that millisecond (R789). -/
  msReplays : Nat
  ms : Nat
deriving DecidableEq, Repr

/-- A die link at one port of a base die (R793). -/
structure DieLink where
  bundles : List Bundle
  /-- DL_LINK.RETRAINS (R793): 32 bits; reset 0. -/
  retrains : Nat
  /-- The traverse found its ends in agreement (R781). -/
  used : Bool
  fenced : Bool
deriving DecidableEq, Repr

/-- A die service in progress (R796). -/
structure DieServiceRun where
  mbx : Nat
  tile : Nat
  /-- COMPUTE_LIVE bit d was set at the take. -/
  wasLive : Bool
  take : Nat
deriving DecidableEq, Repr

/-- The dies and their links. -/
structure DiesState where
  /-- DL_TRAVERSE.DONE (R793): reset 0. -/
  done : Bool
  /-- DL_TRAVERSE.FENCED (R793): 16 bits; reset 0. -/
  fenced : BitVec 16
  /-- DL_TRAVERSE.CONFIRMED (R793): 16 bits; reset 0. -/
  confirmed : BitVec 16
  /-- Die links, port p of base die d at 5 * d + p (R793). -/
  links : List DieLink
  /-- The die service that runs, and the mailboxes that wait for it (R794). -/
  service : Option DieServiceRun
  serviceQueue : List Nat
deriving DecidableEq, Repr

/-- Selection of a programmable counter (R808). -/
structure CounterSel where
  /-- CNT_PSEL.VALID: reset 0. -/
  valid : Bool
  /-- CNT_PSEL.FROM_K: reset 0. -/
  fromK : Bool
  /-- CNT_PSEL.FILTER: reset 0. -/
  filter : Bool
  /-- CNT_PSEL.OWNER: 6 bits; reset 0. -/
  owner : Nat
  /-- CNT_PSEL.CTX: 6 bits; reset 0. -/
  ctx : Nat
  /-- CNT_PSEL.EVENT: 8 bits; reset 0. -/
  event : Nat
deriving DecidableEq, Repr

/-- TRC_STATUS.STATE (R824). -/
inductive TraceSt where
  | off
  | running
  | triggered
  | stopped
deriving DecidableEq, Repr

/-- Its value (R824). -/
def TraceSt.code : TraceSt → Nat
  | .off => 0
  | .running => 1
  | .triggered => 2
  | .stopped => 3

/-- A trace unit (R811 to R824). -/
structure TraceUnit where
  /-- TRC_STATUS.STATE: 2 bits; reset OFF. -/
  st : TraceSt
  /-- TRC_STATUS.MODE: 2 bits; reset 0. -/
  mode : Nat
  /-- TRC_STATUS.FROZEN: reset 1 with VSTBY up, 0 at power-on. -/
  frozen : Bool
  /-- TRC_STATUS.WRAPPED: reset 0. -/
  wrapped : Bool
  /-- TRC_STATUS.WPTR: 26 bits; reset 0. -/
  wptr : Nat
  /-- Records written to the buffer since it was enabled (R820). -/
  written : Nat
  /-- A SET has been made (R819), with base, size in MiB, quota in MiB, categories and interval. -/
  configured : Bool
  base : Nat
  sizeMiB : Nat
  quota : Nat
  mark : Bool
  sample : Bool
  interval : Nat
  /-- Mark counters A and B and their enables (R818). -/
  markA : Option Nat
  markB : Option Nat
  /-- FIFO of at most 256 accepted records (R815). -/
  fifo : List (List Word)
  /-- Pending drop: count, first and last stamp (R816). -/
  pendingDrops : Nat
  dropFirst : Nat
  dropLast : Nat
  /-- Next SEQ (R812): 16 bits; reset 0. -/
  seq : Nat
  /-- TRC_DROPS.DROPPED: 32 bits; reset 0. -/
  dropped : Nat
  /-- TRC_DROPS.DROP_RECS: 32 bits; reset 0. -/
  dropRecs : Nat
  /-- TRC_LG.TOTAL: 32 bits; reset 0. -/
  lgTotal : Nat
  /-- TRC_LG.NEXT: 10 bits; reset 0. -/
  lgNext : Nat
  /-- Last-gasp SRAM: 1,024 records of eight words (R817). -/
  sram : List (List Word)
  /-- After a trigger under WINDOW: the last slot of the quota (R820). -/
  windowEnd : Option Nat
  /-- The FULL drop record of a stopped buffer: count, first stamp, and word 0 (R820). -/
  fullDrops : Nat
  fullFirst : Nat
  fullHead : Nat
  /-- Mailboxes whose DISABLE waits for the FIFO to drain (R819). -/
  disabling : List Nat
  /-- MT of the last sample taken (R813). -/
  lastSample : Nat
deriving DecidableEq, Repr

/-- The armed trigger (R821, R824). -/
structure TriggerState where
  /-- TRC_TRIG.ARMED: reset 0. -/
  armed : Bool
  /-- TRC_TRIG.FIRED: reset 0. -/
  fired : Bool
  /-- TRC_TRIG.LOST: W1C; reset 0. -/
  lost : Bool
  /-- TRC_TRIG.SOURCE: 4 bits; reset 0. -/
  source : Nat
  /-- TRC_TRIG.MATCH: 16 bits; reset 0. -/
  matchKey : Nat
  /-- Stake of source STAKE and its allocation. -/
  stake : Nat
  alloc : Option Nat
  /-- TRC_TRIGMT: 64 bits; reset 0. -/
  mt : Nat
  /-- It fired late, by a comparator armed at or after its stake (R104). -/
  late : Bool
  /-- The condition has been met and no unit has taken the trigger yet (R821). -/
  pending : Bool
deriving DecidableEq, Repr

/-- Counters and trace. -/
structure ObsState where
  /-- CNT_AON0 to 63 (R801, R803): 64 bits each; reset 0. -/
  aon : List Nat
  /-- CNT_Pc_j (R808) at 16 * c + j: 64 bits each; reset 0. -/
  prog : List Nat
  /-- CNT_PSELp_j (R808) at 16 * p + j; reset 0. -/
  sels : List CounterSel
  /-- Trace units 0 to 8. -/
  units : List TraceUnit
  trig : TriggerState
deriving DecidableEq, Repr

/-- Where start-up stands (R839, R840). -/
inductive Phase where
  /-- No input power. -/
  | off
  /-- In reset with VSTBY up. -/
  | inReset
  /-- Recovery (R759). -/
  | recovering
  /-- Start-up failed (R783). -/
  | failed
  /-- Step 6: the hub waits for time (R62). -/
  | timeWait
  /-- Step 7: the host boots. -/
  | hostBoot
  /-- Step 8: ports train. -/
  | training
  /-- Step 9: backsight exchanges on live ports. -/
  | exchanging
  /-- Step 10. -/
  | ready
deriving DecidableEq, Repr

/-- A sensor of R850. -/
structure Sensor where
  id : Nat
  value : Int
  /-- Threshold band it lies in: 0 normal, 1 critical, 2 fatal. -/
  band : Nat
deriving DecidableEq, Repr

/-- A PLDM event that waits for its acknowledgement (R836, R850). -/
structure PldmEvent where
  sensor : Nat
  band : Nat
  id : Nat
deriving DecidableEq, Repr

/-- The connectors and the management interfaces. -/
structure ModuleState where
  phase : Phase
  /-- Level of RESET_N (R828): low is asserted. -/
  resetN : Bool
  /-- SLOT_ID straps at the connector (R828). -/
  slotPins : Nat
  /-- THERM_TRIP_N asserted (R837). -/
  tripped : Bool
  /-- Rails that have faulted since the module reset (R834, R850). -/
  faulted : List Rail
  /-- Start-up has enabled the rails (R716). -/
  railsUp : Bool
  /-- The optical engines' lasers are lit (R839). -/
  lasers : Bool
  /-- MT at which the wait for time of R62 began. -/
  waitFrom : Nat
  /-- MT at which port training began (R841). -/
  trainFrom : Nat
  /-- I3C dynamic address (R843). -/
  i3cAddr : Option Nat
  /-- MCTP endpoint ID (R847). -/
  eid : Nat
  /-- Agent that last wrote MBX_HDR of mailbox 63 (R848). -/
  record : Option Agent
  /-- PLDM event receiver (R848, R850). -/
  receiver : Option Agent
  events : List PldmEvent
  nextEvent : Nat
  /-- A mailbox 63 command is DONE and MBX_STATUS has not been read by an agent (R836). -/
  doneUnread : Bool
  sensors : List Sensor
  /-- In-band interrupts enabled by the I3C controller (R843). -/
  ibi : Bool
  /-- IPv6 addresses configured on the management port by SLAAC (R844). -/
  slaac : List Nat
  /-- External interrupt identities pending at the supervisor-level interrupt files of the harts' IMSICs, as hart and identity
  (R39, R153); the rest of the AIA and the machine timers has no layout in the spec. -/
  imsic : List (Nat × Nat)
  /-- The processor dies have been released (R62). -/
  hostReleased : Bool
  /-- What the package's start-up finds, as its last start gave it. -/
  found : Option StartInputs
deriving DecidableEq, Repr

/-- Power after a module reset (R723, R737, R738). -/
def PowerState.reset : PowerState where
  clock := 0x0578
  target := 0x0578
  critMode := false
  critical := false
  levelling := false
  reason := 0
  vin := 0
  p10us := 0
  p1ms := 0
  p100ms := 0
  samples := []
  energy := 0
  unapp := 0
  sustK := 0x1068
  peakK := 0x12C0
  sustM := 0x1068
  peakM := 0x12C0
  noncrit := 0x0BB8
  throttles := 0
  hintsLate := 0
  hintsDropped := 0
  gateMs := 0
  levelCycles := 0
  plumbPart := 0
  levelPart := 0
  learned := none
  gates := List.replicate 8 64
  gatedMs := false
  fillDraw := none
  required := 1400
  lastLower := 0
  inputLow := none
  hints := []
  nextHint := 1
  heldHints := []
  msEnergy := 0
  msWeights := List.replicate 64 0
  readings := []
  busyLen := 0
  busySum := 0
  msIndex := 0

/-- Trust at the first module reset of a part whose flash holds no image and whose counters read 0 (log 7). -/
def TrustState.reset : TrustState where
  revoke := 0
  slot := []
  slotBad := false
  idx := 0
  minSvn := 0
  sources := []
  sourcePfx := 0
  image := none
  log := []
  chain := List.replicate 32 0
  nextIndex := 0
  idxCopy := none
  rebuilt := false
  attests := []
  taken := []
  session := none
  pause := .off
  staging := []
  recovery := none
  booted := false
  activeOwed := false
  optDrops := List.replicate 4 0
  optVersions := List.replicate 4 0
  ir := 0xFF
  challenge := 0
  spent := true
  scope := 0
  boundary := []

/-- A bundle after a module reset, with no lane fused bad. -/
def Bundle.reset : Bundle where
  fusedOut := 0
  fusedIn := 0
  badOut := 0
  badIn := 0
  modeOut := .full
  modeIn := .full
  trained := false
  retraining := false
  replays := 0
  msReplays := 0
  ms := 0

/-- Number of bundles at port p of base die d: 8 to a neighbouring tile, 2 to the hub or a processor die, 0 where the die
lacks the port (R31, R562, R793). -/
def bundlesAt (d p : Nat) : Nat :=
  if p = 0 then (if d % 4 = 0 then 0 else 8)
  else if p = 1 then (if d % 4 = 3 then 0 else 8)
  else if p = 2 then 8
  else if p = 3 then (if d = 1 ∨ d = 2 ∨ d = 5 ∨ d = 6 then 2 else 0)
  else if p = 4 then (if d = 0 ∨ d = 4 ∨ d = 3 ∨ d = 7 then 2 else 0)
  else 0

/-- A die link after a module reset. -/
def DieLink.reset (n : Nat) : DieLink where
  bundles := List.replicate n Bundle.reset
  retrains := 0
  used := false
  fenced := false

/-- The dies after a module reset (R793). -/
def DiesState.reset : DiesState where
  done := false
  fenced := 0
  confirmed := 0
  links := (List.range 40).map fun i => DieLink.reset (bundlesAt (i / 5) (i % 5))
  service := none
  serviceQueue := []

/-- A free programmable counter (R808). -/
def CounterSel.reset : CounterSel := ⟨false, false, false, 0, 0, 0⟩

/-- A trace unit after a module reset with VSTBY up (R823, R824). -/
def TraceUnit.reset : TraceUnit where
  st := .off
  mode := 0
  frozen := true
  wrapped := false
  wptr := 0
  written := 0
  configured := false
  base := 0
  sizeMiB := 0
  quota := 0
  mark := false
  sample := false
  interval := 0
  markA := none
  markB := none
  fifo := []
  pendingDrops := 0
  dropFirst := 0
  dropLast := 0
  seq := 0
  dropped := 0
  dropRecs := 0
  lgTotal := 0
  lgNext := 0
  sram := List.replicate 1024 (List.replicate 8 0)
  windowEnd := none
  fullDrops := 0
  fullFirst := 0
  fullHead := 0
  disabling := []
  lastSample := 0

/-- No trigger armed (R824). -/
def TriggerState.reset : TriggerState := ⟨false, false, false, 0, 0, 0, none, 0, false, false⟩

/-- Counters and trace after a module reset (R801, R808, R824). -/
def ObsState.reset : ObsState where
  aon := List.replicate 64 0
  prog := List.replicate 3072 0
  sels := List.replicate 128 CounterSel.reset
  units := List.replicate 9 TraceUnit.reset
  trig := TriggerState.reset

/-- The connectors in a module reset with VSTBY up and RESET_N low (R839). -/
def ModuleState.reset : ModuleState where
  phase := .inReset
  resetN := false
  slotPins := 0
  tripped := false
  faulted := []
  railsUp := false
  lasers := false
  waitFrom := 0
  trainFrom := 0
  i3cAddr := none
  eid := 0
  record := none
  receiver := none
  events := []
  nextEvent := 1
  doneUnread := false
  sensors := []
  ibi := false
  slaac := []
  imsic := []
  hostReleased := false
  found := none

end Sys2Proof.Machine
end

