-- ==== Sys2Proof/Machine/State.lean ====
section
/-!
DEFINITION. The state of one TZD-GL8 module as plain data, what it sends to the outside, its faults and refusals, and
its state right after a module reset.
-/

namespace Sys2Proof.Machine

/-- The headers that carry a transport frame (R566, R568). -/
inductive Carriage where
  /-- Ethernet: destination, source and EtherType. -/
  | direct (dst src etherType : Nat)
  /-- Ethernet to the port's default router, if it has learned one; IPv6 and UDP. -/
  | routed (router : Option Nat) (src srcAddr dstAddr hopLimit dscp flowLabel srcPort dstPort : Nat)
deriving DecidableEq, Repr

/-- What leaves the module or a host hart sees (the model's record of it; log 8). -/
inductive Out where
  /-- A transport frame leaves a fabric port (R568). -/
  | frame (port : Nat) (f : Frame) (carriage : Carriage)
  /-- A message-signalled interrupt to a hart (R153). -/
  | msi (hart eiid : Nat)
  /-- A RISC-V access fault on a hart (R38, R44). -/
  | hartFault (hart : Nat)
  /-- An MCTP message to an endpoint (R847). -/
  | message (dest : Agent) (bytes : List Byte)
  /-- A UDP datagram to an IPv6 address and port on the management Ethernet (R762). -/
  | datagram (addr port : Nat) (bytes : List Byte)
  /-- Bits shifted out at TDO (R775). -/
  | tdo (bits : List Bool)
  /-- Levels driven on the boundary-scan pins by EXTEST (R775). -/
  | pins (levels : List Bool)
  /-- A rising edge at MT_PPS_OUT (R829, R838). -/
  | ppsOut
  /-- A Neighbor Advertisement at a fabric port, or on the management Ethernet for port 32 (R569, R844). -/
  | neighborAdvertisement (port target : Nat)
  /-- An ARP reply for the IPv4 link-local address (R844). -/
  | arpReply (target : Nat)
  /-- The answer to an MCTP control command, by its code and the values that it returns (R847). -/
  | control (dest : Agent) (command : Nat) (values : List Nat)
  /-- A PLDM message of a type and command, and the values that it carries (R850). -/
  | pldm (dest : Agent) (kind command : Nat) (values : List Int)
  /-- An I3C in-band interrupt (R843). -/
  | inBand
  /-- What a refused read of the control space returns to its hart (R44). -/
  | readValue (hart value : Nat)
  /-- A PTP Delay_Req of a sequence ID, over a transport and in a domain (R60). -/
  | delayReq (transport : PtpTransport) (domain seq : Nat)
  /-- The device tree handed to the host (R39, R80, R502): timebase frequency in Hz, cache-block size in bytes, and the first
  address and the size of the region that holds the interrupt controllers and machine timers. -/
  | deviceTree (timebase block first size : Nat)
deriving DecidableEq, Repr

/-- The model raises no fault: every command and event of the table has an effect. -/
inductive Fault
deriving DecidableEq, Repr

/-- Commands that the model turns away, by name. -/
inductive Refusal where
  /-- A row whose meaning is not written: raised by its arm of `exec` alone. Safe. -/
  | notModelled (mnemonic : String)
  /-- Vendor debug while INVASIVE is open: raised by VENDOR_DEBUG alone, because R775 names those codes and says nothing of
  what they do. Safe. -/
  | vendorDebug
deriving DecidableEq, Repr

/-- The whole machine. -/
structure State where
  /-- Connectors, start-up and management interfaces (20_module.md). -/
  conn : ModuleState
  /-- ID block and routes (01_five_levels.md). -/
  ids : IdState
  /-- Meridian time (02_meridian_time.md). -/
  time : TimeState
  /-- Comparators and timer queue (02_meridian_time.md). -/
  stakes : StakeState
  /-- Mailboxes 0 to 63 (R137). -/
  mbxs : List Mailbox
  /-- Heartbeat, watcher and lists (03_abaom_interface.md). -/
  abaom : AbaomState
  /-- Contexts 0 to 63 (R680). -/
  ctxs : List Context
  /-- Partitions and regulators (15_sharing.md). -/
  share : ShareState
  /-- Blocks and their groups (04 to 08). -/
  compute : ComputeState
  /-- Translation, ties, faults, service window (09_translation.md). -/
  xlat : XlatState
  /-- Fabric (12_fabric.md). -/
  fab : FabricState
  /-- Caches and coherence (10_coherence.md). -/
  coh : CohState
  /-- Stacked memory (11_stacked_memory.md). -/
  mem : MemState
  /-- Launches, collectives, plumb group (13_joined_devices.md). -/
  joined : JoinedState
  /-- Monuments and the local flash (14_monuments.md). -/
  monu : MonumentState
  /-- Power (16_power.md). -/
  pwr : PowerState
  /-- Boot, identity and update (17_trust.md). -/
  trust : TrustState
  /-- Dies and links (18_dies_and_links.md). -/
  dies : DiesState
  /-- Counters and trace (19_observation.md). -/
  obs : ObsState
  /-- Index of the next free value (log 2): the model's own field. -/
  freeCtr : Nat
  /-- What has left the module, newest first: the model's own field (log 8). -/
  outbox : List Out
  /-- Commands and events that wait, first in, first out: the model's own field. -/
  pending : List Instr
deriving DecidableEq, Repr

/-- The module right after a module reset, VSTBY up and RESET_N low (R17, R839), its flash and counters as a new part's
(log 7). -/
def State.reset : State where
  conn := ModuleState.reset
  ids := IdState.reset
  time := TimeState.reset
  stakes := StakeState.reset
  mbxs := List.replicate 64 Mailbox.reset
  abaom := AbaomState.reset
  ctxs := List.replicate 64 Context.reset
  share := ShareState.reset
  compute := ComputeState.reset
  xlat := XlatState.reset
  fab := FabricState.reset
  coh := CohState.reset
  mem := MemState.reset
  joined := JoinedState.reset
  monu := MonumentState.reset
  pwr := PowerState.reset
  trust := TrustState.reset
  dies := DiesState.reset
  obs := ObsState.reset
  freeCtr := 0
  outbox := []
  pending := []

end Sys2Proof.Machine
end

