-- ==== Sys2Proof/Machine/Setters.lean ====
section
/-!
DEFINITION. The updates of one field of the state. Every change that a command makes goes through these.
-/

namespace Sys2Proof.Machine

/-- The state with another `conn`. -/
def State.setConn (s : State) (v : ModuleState) : State := { s with conn := v }

/-- The state with another `ids`. -/
def State.setIds (s : State) (v : IdState) : State := { s with ids := v }

/-- The state with another `time`. -/
def State.setTime (s : State) (v : TimeState) : State := { s with time := v }

/-- The state with another `stakes`. -/
def State.setStakes (s : State) (v : StakeState) : State := { s with stakes := v }

/-- The state with another `mbxs`. -/
def State.setMbxs (s : State) (v : List Mailbox) : State := { s with mbxs := v }

/-- The state with another `abaom`. -/
def State.setAbaom (s : State) (v : AbaomState) : State := { s with abaom := v }

/-- The state with another `ctxs`. -/
def State.setCtxs (s : State) (v : List Context) : State := { s with ctxs := v }

/-- The state with another `share`. -/
def State.setShare (s : State) (v : ShareState) : State := { s with share := v }

/-- The state with another `compute`. -/
def State.setCompute (s : State) (v : ComputeState) : State := { s with compute := v }

/-- The state with another `xlat`. -/
def State.setXlat (s : State) (v : XlatState) : State := { s with xlat := v }

/-- The state with another `fab`. -/
def State.setFab (s : State) (v : FabricState) : State := { s with fab := v }

/-- The state with another `coh`. -/
def State.setCoh (s : State) (v : CohState) : State := { s with coh := v }

/-- The state with another `mem`. -/
def State.setMem (s : State) (v : MemState) : State := { s with mem := v }

/-- The state with another `joined`. -/
def State.setJoined (s : State) (v : JoinedState) : State := { s with joined := v }

/-- The state with another `monu`. -/
def State.setMonu (s : State) (v : MonumentState) : State := { s with monu := v }

/-- The state with another `pwr`. -/
def State.setPwr (s : State) (v : PowerState) : State := { s with pwr := v }

/-- The state with another `trust`. -/
def State.setTrust (s : State) (v : TrustState) : State := { s with trust := v }

/-- The state with another `dies`. -/
def State.setDies (s : State) (v : DiesState) : State := { s with dies := v }

/-- The state with another `obs`. -/
def State.setObs (s : State) (v : ObsState) : State := { s with obs := v }

/-- The state with another `freeCtr`. -/
def State.setFreeCtr (s : State) (v : Nat) : State := { s with freeCtr := v }

/-- The state with another `outbox`. -/
def State.setOutbox (s : State) (v : List Out) : State := { s with outbox := v }

/-- The state with another `pending`. -/
def State.setPending (s : State) (v : List Instr) : State := { s with pending := v }

end Sys2Proof.Machine
end

