-- ==== Sys2Proof/Machine/Ops.lean ====
section
/-!
DEFINITION. The named operations over memory, registers, stamps, counters, trace records, notices and mailbox results
that the meanings share.
-/

namespace Sys2Proof.Machine

/-! ### Sparse memories -/

/-- Byte at an address; an unlisted address reads 0 (log 5). -/
def cellGet : List Host.Cell → Nat → Byte
  | [], _ => 0
  | (k, v) :: m, a => if k = a then v else if a < k then 0 else cellGet m a

/-- A byte entered at the front of the cells above it, or left out when it is 0. -/
def cellCons (a : Nat) (b : Byte) (m : List Host.Cell) : List Host.Cell :=
  if b = 0 then m else (a, b) :: m

/-- Memory with another byte at an address, in canonical form (log 5). -/
def cellPut : List Host.Cell → Nat → Byte → List Host.Cell
  | [], a, b => cellCons a b []
  | (k, v) :: m, a, b =>
    if k = a then cellCons a b m
    else if a < k then cellCons a b ((k, v) :: m)
    else (k, v) :: cellPut m a b

/-- Addresses rise strictly from `lo` on and no entry is 0. -/
def cellsFrom : Nat → List Host.Cell → Bool
  | _, [] => true
  | lo, (k, v) :: m => decide (lo ≤ k) && decide (v ≠ 0) && cellsFrom (k + 1) m

/-- The canonical form of a sparse memory. -/
def Memory.wf (m : List Host.Cell) : Bool := cellsFrom 0 m

/-- `n` bytes from an address on. -/
def cellRead (m : List Host.Cell) (a : Nat) : Nat → List Byte
  | 0 => []
  | n + 1 => cellGet m a :: cellRead m (a + 1) n

/-- Memory with a run of bytes written from an address on. -/
def cellWrite (m : List Host.Cell) (a : Nat) : List Byte → List Host.Cell
  | [] => m
  | b :: bs => cellWrite (cellPut m a b) (a + 1) bs

/-! ### Parts of the state -/

/-- The device's MT: the hub replica (R78). -/
def State.mt (s : State) : Nat := s.time.mt

/-- The replica of base die `d`, or of processor die `d - 8`, within ±0.5 ns of the hub's (R76, R78, R79; log 23). -/
def State.replica (s : State) (d : Nat) : Nat :=
  ((s.time.mt : Int) + max (-4) (min 4 (Config.replicaSkew d))).toNat

/-- What the `time` CSR of a host hart reads: its processor die's replica in nanoseconds (R80). -/
def State.timeCsr (s : State) (hart : Nat) : Nat := s.replica (8 + hart / 72) / 8

/-- Mailbox `n`. -/
def State.mbx (s : State) (n : Nat) : Mailbox := nth s.mbxs n Mailbox.reset

/-- The state with another mailbox `n`. -/
def State.putMbx (s : State) (n : Nat) (m : Mailbox) : State := s.setMbxs (s.mbxs.set n m)

/-- Context `c`. -/
def State.ctx (s : State) (c : Nat) : Context := nth s.ctxs c Context.reset

/-- The state with another context `c`. -/
def State.putCtx (s : State) (c : Nat) (x : Context) : State := s.setCtxs (s.ctxs.set c x)

/-- Fabric port `p`. -/
def State.port (s : State) (p : Nat) : Port := nth s.fab.ports p Port.reset

/-- The state with another port `p`. -/
def State.putPort (s : State) (p : Nat) (x : Port) : State :=
  s.setFab { s.fab with ports := s.fab.ports.set p x }

/-- The state with the item sent. -/
def State.emit (s : State) (o : Out) : State := s.setOutbox (o :: s.outbox)

/-- A free value: the present one, and the state in which the next is another (log 2). -/
def State.fresh (s : State) : Word × State := (Config.freeWord s.freeCtr, s.setFreeCtr (s.freeCtr + 1))

/-- The context bound to mailbox `n` (R134), if one is. -/
def State.boundCtx (s : State) (n : Nat) : Option Nat :=
  if n = 0 ∨ 62 < n then none
  else (List.range 64).find? fun c => (s.ctx c).mbx == n && (s.ctx c).st != .closed

/-- The control processor serves commands: from step 6 of start-up on, and in recovery mailbox 63 alone (R759, R783, R839). -/
def State.running (s : State) : Bool :=
  match s.conn.phase with
  | .timeWait | .hostBoot | .training | .exchanging | .ready => true
  | _ => false

/-! ### Stamps (R120 to R122) -/

/-- UNCERT of an event in a region on the plumb clock (R121). -/
def State.plumbUncert (s : State) : Nat := (8000 + s.pwr.clock - 1) / s.pwr.clock

/-- STAMP_FLAGS (R120). -/
def State.stampFlags (s : State) (uncert : Nat) (late near resumed : Bool) : Nat :=
  placed (min uncert 255) 8 + placed (flagNat (s.time.st != .aligned)) 5 + placed (flagNat (s.time.st == .holdover)) 4
    + placed (flagNat late) 3 + placed (flagNat near) 2 + placed (flagNat resumed) 1

/-- STAMP_FLAGS of an event that the hub or a comparator captures (R121; log 12). -/
def State.hubFlags (s : State) (late : Bool) : Nat := s.stampFlags 1 late false false

/-- UNCERT of a stretched cycle: more than one cycle of the plumb clock, and at most two (R122; log 122). -/
def State.stretchUncert (s : State) (n : Nat) : Nat :=
  min (s.plumbUncert + (n - 1)) ((16000 + s.pwr.clock - 1) / s.pwr.clock)

/-- STAMP_FLAGS of an event captured in a region on the plumb clock, whose cycle may be stretched (R120 to R123). -/
def State.plumbFlags (s : State) (region : Nat) (late resumed : Bool) : Nat :=
  match Config.stretch region s.time.mt with
  | 0 => s.stampFlags s.plumbUncert late false resumed
  | n + 1 => s.stampFlags (s.stretchUncert (n + 1)) late false resumed + 1

/-! ### Arrivals and deadlines (R125 to R128) -/

/-- The cycle in which an arrival and an expiry can meet: a reference cycle of at most 52 ticks (R77, R127; log 129). -/
def meetTicks : Nat := 52

/-- An arrival meets a deadline in the deadline's own cycle, the deadline having come as it is handled (R128; log 129). -/
def State.meets (s : State) (deadline stamp : Nat) : Bool := decide (deadline ≤ s.time.mt) && decide (deadline < stamp + meetTicks)

/-! ### W1C bits that the hardware sets (R18) -/

/-- The hardware has set a W1C bit of the register at a control-space offset in this cycle. -/
def State.setHot (s : State) (off bit : Nat) : State := s.setIds { s.ids with hot := (off, bit) :: s.ids.hot }

/-- Software's 1s to W1C bits count, but not where the hardware set the bit in the same cycle (R18; log 123). -/
def State.clears (s : State) (off : Nat) (v : Word) (bit : Nat) : Bool := bitAt v bit && !s.ids.hot.contains (off, bit)

/-! ### Counters (R801, R804) -/

/-- Always-on counter `i` raised by `n` (R801). -/
def State.count (s : State) (i n : Nat) : State :=
  s.setObs { s.obs with aon := s.obs.aon.modify i fun v => (v + n) % 2 ^ 64 }

/-- An arrival that wins counts in NEARMISS where it meets its deadline (R128). -/
def State.nearMissed (s : State) (deadline stamp : Nat) : State :=
  if s.meets deadline stamp then
    (s.setTime { s.time with nearMiss := (s.time.nearMiss + 1) % 2 ^ 64 }).count 58 1
  else s

/-- The partition of a tile (R691). -/
def State.partOf (s : State) (tile : Nat) : Nat := nth s.share.tiles tile tile

/-- The programmable counters of a cluster's partition that count event `code` raised by `n` (R804, R806). -/
def State.progCount (s : State) (cluster ctx code n : Nat) : State :=
  let p := s.partOf (cluster / 24)
  let hit := fun (j : Nat) =>
    let c := nth s.obs.sels (16 * p + j) CounterSel.reset
    c.valid && c.event == code && (!c.filter || c.ctx == ctx)
  (List.range 16).foldl (fun (t : State) j =>
    if hit j then
      t.setObs { t.obs with prog := t.obs.prog.modify (16 * cluster + j) fun v => (v + n) % 2 ^ 64 }
    else t) s

/-! ### Where an address lands (R531 to R533) -/

/-- The place of an address of a region that interleaves over the given stacks (R533). -/
def placeIn (members : List Nat) (pa : Nat) : StackPlace :=
  let n := members.length
  let g := pa >>> 12
  let q := g / n
  let r := g % n
  let h := (List.range 6).foldl (fun h i => h ^^^ ((q >>> (4 * i)) &&& 0xF)) 0
  let stack := nth members ((r + h) % n) 0
  let o := (q <<< 12) ||| (pa &&& 0xFFF)
  let row := o >>> 22
  let b0 := (o >>> 17) &&& 0x1F
  { stack, channel := ((o >>> 12) &&& 0x1F) ^^^ b0, pseudo := (o >>> 11) &&& 1,
    bank := b0 ^^^ (row &&& 0x1F), row, column := o &&& 0x7FF }

/-- Bytes of a stack (R530). -/
def stackBytes : Nat := 64 * 2 ^ 30

/-- The place of a physical address, if a region holds it (R532). -/
def placeOf (regions : List Region) (pa : Nat) : Option StackPlace :=
  (regions.find? fun r => decide (r.base ≤ pa) && decide (pa < r.base + stackBytes * r.members.length)).map fun r =>
    placeIn r.members (pa - r.base)

/-- Stack of a physical address; 0 where no region holds it. -/
def State.stackOf (s : State) (pa : Nat) : Nat := ((placeOf s.mem.regions pa).map (·.stack)).getD 0

/-- Home base die of a line: the tile of the stack that holds it (R507). -/
def State.homeOf (s : State) (pa : Nat) : Nat := s.stackOf pa / 2

/-! ### Stacked memory -/

/-- The HBM range holds `n` bytes from an address on (R37). -/
def State.inHbm (s : State) (pa n : Nat) : Bool := decide (pa + n ≤ s.ids.hbmGib * 2 ^ 30)

/-- A sector lies on a stack that left service, or in a fenced row (R558, R800). -/
def State.sectorLost (s : State) (sector : Nat) : Bool :=
  match placeOf s.mem.regions (sector * 64) with
  | none => false
  | some p =>
    !(s.ids.stackLive.getLsbD p.stack) ||
      s.mem.repairs.any fun r =>
        r.fenced && r.stack == p.stack && r.channel == p.channel && r.pseudo == p.pseudo && r.bank == p.bank && r.row == p.row

/-- A read of the sector meets poison (R551, R558, R800). -/
def State.sectorBad (s : State) (sector : Nat) : Bool := s.mem.poison.contains sector || s.sectorLost sector

/-- The sectors that `n` bytes from an address on touch. -/
def sectorsOf (pa n : Nat) : List Nat :=
  if n = 0 then [] else (List.range ((pa + n - 1) / 64 - pa / 64 + 1)).map (· + pa / 64)

/-- Some sector of the range is poisoned. -/
def State.poisoned (s : State) (pa n : Nat) : Bool := (sectorsOf pa n).any s.sectorBad

/-- Bytes of HBM. -/
def State.hbmRead (s : State) (pa n : Nat) : List Byte := cellRead s.mem.hbm pa n

/-- A 64-bit word of HBM (R13). -/
def State.hbmWord (s : State) (pa : Nat) : Word := BitVec.ofNat 64 (leNat (s.hbmRead pa 8))

/-- The part of one sector that a write covers, written (R551, R854). -/
def State.sectorWrite (s : State) (sector pa : Nat) (bytes : List Byte) : State :=
  let lo := max pa (sector * 64)
  let hi := min (pa + bytes.length) (sector * 64 + 64)
  let part := (bytes.drop (lo - pa)).take (hi - lo)
  if s.sectorLost sector then s
  else if s.mem.poison.contains sector then
    if part.length = 64 then
      s.setMem { s.mem with hbm := cellWrite s.mem.hbm lo part, poison := s.mem.poison.filter (· != sector) }
    else s
  else s.setMem { s.mem with hbm := cellWrite s.mem.hbm lo part }

/-- Bytes written to HBM by the hub itself: no wake follows (R164). -/
def State.hubWrite (s : State) (pa : Nat) (bytes : List Byte) : State :=
  (sectorsOf pa bytes.length).foldl (fun t k => t.sectorWrite k pa bytes) s

/-! ### What a WAIT watches (R167, R168, R172) -/

/-- KIND, TAG, STAKED, CONC and the stake of an entry (R167). -/
def Entry.kind (e : Entry) : Nat := fieldNat (nth e.words 0 0) 63 48
def Entry.tag (e : Entry) : Nat := fieldNat (nth e.words 0 0) 31 0
def Entry.staked (e : Entry) : Bool := bitAt (nth e.words 0 0) 39
def Entry.conc (e : Entry) : Bool := bitAt (nth e.words 0 0) 38
def Entry.stake (e : Entry) : Nat := (nth e.words 1 0).toNat

/-- Word `i` of an entry, as a number. -/
def Entry.word (e : Entry) (i : Nat) : Nat := (nth e.words i 0).toNat

/-- The word of a WAIT meets its comparison (R168, R172). -/
def Entry.waitMet (e : Entry) (v : Nat) : Bool :=
  let x := (nth e.words 3 0).toNat
  match fieldNat (nth e.words 4 0) 1 0 with
  | 0 => v == x
  | 1 => v != x
  | _ => decide (x ≤ v)

/-- A waiting WAIT entry on a line. -/
def Entry.waitsOn (e : Entry) (line : Nat) : Bool :=
  e.phase == .running && e.kind == 4 && e.watched != 0 && e.watched / 256 == line

/-- A word that a WAIT watches has been written: before its deadline, whether it meets the comparison is noted (R125, R126). -/
def State.noteWait (s : State) (e : Entry) : Entry :=
  if e.phase == .running && e.kind == 4 && e.watched != 0 && decide (s.time.mt < e.word 5) then
    { e with met := e.waitMet (s.hbmWord e.watched).toNat }
  else e

/-- The watcher's copies of the lines that a write touches are invalidated: a wake for each (R162, R164); and the WAIT entries see
what has been written (R172). -/
def State.wakeLines (s : State) (pa n : Nat) : State :=
  let hit := fun (w : Watch) => decide (w.line * 256 < pa + n) && decide (pa < w.line * 256 + 256) && decide (0 < n)
  s.setAbaom { s.abaom with
    watches := s.abaom.watches.map (fun w => if hit w then { w with held := false, wake := true } else w),
    passes := s.abaom.passes.map fun p => { p with entries := p.entries.map s.noteWait } }

/-- Bytes written to HBM by anyone else. -/
def State.hbmWrite (s : State) (pa : Nat) (bytes : List Byte) : State :=
  (s.hubWrite pa bytes).wakeLines pa bytes.length

/-- The order of R554 among the errors of one cycle: an uncorrectable error first, then the lowest place. -/
def errorBefore (a b : Nat × StackPlace) : Bool :=
  if (a.1 == 1) != (b.1 == 1) then b.1 == 1
  else
    let k := fun (p : StackPlace) => [p.stack, p.channel, p.pseudo, p.bank, p.row, p.column / 64]
    decide (k a.2 < k b.2)

/-- The captured error of MEM_ERRLOG (R554). -/
def MemState.capture (m : MemState) (e : Nat × StackPlace) : MemState :=
  { m with errValid := true, errKind := e.1, errPlace := e.2, errSector := e.2.column / 64 }

/-- A memory error (R554): kind 1 corrected, 2 uncorrectable, 3 a failed repair. It is captured while VALID is clear, and in
place of a corrected one where it is not; of the errors of one cycle the first in the order of R554 is kept. -/
def State.memError (s : State) (kind : Nat) (place : StackPlace) : State :=
  let m := s.mem
  let e := (kind, place)
  let held := (m.errKind, m.errPlace)
  let m' := { m with errNow := m.errNow ++ [e] }
  s.setMem (if !m.errValid then m'.capture e
    else if (m.errKind = 1 ∧ kind ≠ 1) ∨ (m.errNow.contains held ∧ errorBefore e held) then
      { m'.capture e with errOverrun := true }
    else { m' with errOverrun := true })

/-- The first of the errors of one cycle (R554). -/
def firstError : List (Nat × StackPlace) → Option (Nat × StackPlace)
  | [] => none
  | e :: l => match firstError l with
    | none => some e
    | some f => if errorBefore f e then some f else some e

/-- A write of MEM_ERRLOG (R16, R18, R554): the bits written 1 clear, but a clear of VALID leaves what arrived in this cycle
captured. -/
def MemState.writeErrlog (m : MemState) (v : Word) : MemState :=
  let m' := { m with errOverrun := m.errOverrun && !(bitAt v 62) }
  if bitAt v 63 then
    match firstError m.errNow with
    | some e => { m'.capture e with errOverrun := decide (1 < m.errNow.length) }
    | none => { m' with errValid := false }
  else { m' with errOverrun := m'.errOverrun || (m.errOverrun && !m.errNow.isEmpty) }

/-! ### Trace records (R811 to R822) -/

/-- Word 0 of a trace record, its SEQ field zero (R812). -/
def traceHead (kind unit sub cluster : Nat) (ctx : Option Nat) (flags : Nat) : Nat :=
  placed kind 56 + placed unit 52 + placed sub 48 + placed cluster 40
    + (match ctx with | some c => placed 1 38 + placed c 32 | none => 0) + placed flags 16

/-- A record as eight words, from its numbers. -/
def recordOf (ws : List Nat) : List Word :=
  let w := ws.map fun n => BitVec.ofNat 64 n
  w ++ List.replicate (8 - w.length) 0

/-- The record enters the unit: it takes the next SEQ, lies in the last-gasp SRAM unless that is frozen, and waits in the
FIFO unless the unit is off (R815 to R819). -/
def TraceUnit.enter (u : TraceUnit) (rec : List Word) : TraceUnit :=
  let rec' := match rec with
    | [] => []
    | w :: ws => (w ||| BitVec.ofNat 64 u.seq) :: ws
  let u := { u with seq := (u.seq + 1) % 2 ^ 16, fifo := if u.st == .off then u.fifo else u.fifo ++ [rec'] }
  if u.frozen then u
  else { u with sram := u.sram.set u.lgNext rec', lgNext := (u.lgNext + 1) % 1024, lgTotal := (u.lgTotal + 1) % 2 ^ 32 }

/-- A record that always reaches the last-gasp SRAM, and the FIFO where that has room (R124, R823). -/
def TraceUnit.keep (u : TraceUnit) (rec : List Word) : TraceUnit :=
  if u.fifo.length < 256 then u.enter rec
  else { u.enter rec with fifo := u.fifo }

/-- The DROP record that a unit owes enters it as soon as the FIFO has room (R816). -/
def TraceUnit.settle (u : TraceUnit) (unit flags : Nat) : TraceUnit :=
  if u.pendingDrops = 0 ∨ 256 ≤ u.fifo.length then u
  else
    let u' := u.enter (recordOf [traceHead 0x11 unit 0 0xFF none flags, u.dropLast, u.pendingDrops, u.dropFirst, u.dropLast])
    { u' with pendingDrops := 0, dropRecs := (u.dropRecs + 1) % 2 ^ 32 }

/-- The unit accepts a record stamped `mt`, or drops it when the FIFO is full (R815, R816); whether it was accepted. -/
def TraceUnit.accept (u : TraceUnit) (unit mt flags : Nat) (rec : List Word) : TraceUnit × Bool :=
  let u := u.settle unit flags
  if u.fifo.length < 256 then (u.enter rec, true)
  else
    ({ u with
        dropped := (u.dropped + 1) % 2 ^ 32, pendingDrops := u.pendingDrops + 1,
        dropFirst := if u.pendingDrops = 0 then mt else u.dropFirst, dropLast := mt }, false)

/-- A unit stays in service while its die does (R811). -/
def State.unitLive (s : State) (u : Nat) : Bool := if u < 8 then s.ids.baseLive.getLsbD u else decide (u = 8)

/-- Trace unit `u`. -/
def State.unit (s : State) (u : Nat) : TraceUnit := nth s.obs.units u TraceUnit.reset

/-- The state with another trace unit `u`. -/
def State.putUnit (s : State) (u : Nat) (x : TraceUnit) : State :=
  s.setObs { s.obs with units := s.obs.units.set u x }

/-- A record offered to unit `u` (R815); whether it was accepted. -/
def State.trace (s : State) (u mt flags : Nat) (rec : List Word) : State × Bool :=
  if s.unitLive u then
    let r := (s.unit u).accept u mt flags rec
    let t := s.putUnit u r.1
    if r.2 then (t, true) else (t.count 56 1, false)
  else (s, false)

/-- A record that no full FIFO keeps from the last-gasp SRAM: a clock stop, or an event (R124, R823); the FIFO drops it as any
other (R816). -/
def State.traceKept (s : State) (u mt flags : Nat) (rec : List Word) : State :=
  if s.unitLive u then
    let r := (s.unit u).accept u mt flags rec
    if r.2 then s.putUnit u r.1 else (s.putUnit u (r.1.keep rec)).count 56 1
  else s

/-- The armed trigger fires at `mt` (R821), perhaps late (R104). -/
def State.fireTrigger (s : State) (mt : Nat) (late : Bool := false) : State :=
  let g := s.obs.trig
  if g.armed then
    s.setObs { s.obs with trig := { g with armed := false, fired := true, mt, late, pending := true, alloc := none } }
  else s

/-! ### Messages of mailbox 63 (R847, R848) -/

/-- A vendor-defined message: type, enterprise number, COMMAND, TAG, STATUS, fields (R847). -/
def vendorMessage (command tag status : Nat) (fields : List Byte) : List Byte :=
  (BitVec.ofNat 8 0x7F :: beBytes 4 0xD6F1) ++ (BitVec.ofNat 8 command :: BitVec.ofNat 8 tag :: beBytes 2 status) ++ fields

/-- The agent of record (R848). -/
def State.agentOfRecord (s : State) : Option Agent := s.conn.record <|> s.conn.receiver

/-- A DONE or NOTICE message to the agent of record, if there is one (R848); its TAG is a free value (log 13). -/
def State.tellAgent (s : State) (command : Nat) (fields : List Byte) : State :=
  match s.agentOfRecord with
  | none => s
  | some a =>
    let r := s.fresh
    r.2.emit (.message a (vendorMessage command (r.1.toNat % 256) 0 fields))

/-- ALERT_N is asserted (R836). -/
def State.alertN (s : State) : Bool :=
  (s.mbx 63).head != (s.mbx 63).tail || s.conn.doneUnread || !s.conn.events.isEmpty
    || (s.conn.phase == .recovering && s.trust.session.isNone)

/-- Where ALERT_N has been asserted since a state, an in-band interrupt is raised, if the controller enabled them (R843). -/
def State.alertSince (s before : State) : State :=
  if s.conn.ibi && s.alertN && !before.alertN then s.emit .inBand else s

/-! ### Notices and interrupts (R149 to R153) -/

/-- The hub delivers the interrupt of mailbox `n` as an MSI, which makes the identity pending at its hart (R39), unless EIID is 0 or the hart's die is out of service (R153, R858). -/
def State.interrupt (s : State) (n : Nat) : State :=
  let m := s.mbx n
  if m.eiid = 0 ∨ 143 < m.hart then s
  else if s.ids.procLive.getLsbD (m.hart / 72) then
    let t := if s.conn.imsic.contains (m.hart, m.eiid) then s
      else s.setConn { s.conn with imsic := s.conn.imsic ++ [(m.hart, m.eiid)] }
    t.emit (.msi m.hart m.eiid)
  else s

/-- The words of a notice slot (R151). -/
def noticeWords (kind status flags ctx mt : Nat) (detail : List Nat) : List Word :=
  recordOf ([placed kind 48 + placed status 32 + placed flags 16 + ctx % 64, mt] ++ detail)

/-- A notice reaches mailbox `n`: the slot at HEAD is written and HEAD advances, or LOST rises (R150). -/
def State.postNotice (s : State) (n : Nat) (words : List Word) : State :=
  let m := s.mbx n
  if (m.head + 1) % 16 = m.tail then s.putMbx n { m with lost := (m.lost + 1) % 2 ^ 16 }
  else
    let t := s.putMbx n { m with slots := m.slots.set m.head words, head := (m.head + 1) % 16 }
    if n = 63 then (t.alertSince s).tellAgent 0x81 ((words.map fun w => beBytes 8 w.toNat).flatten ++ beBytes 1 m.head)
    else if m.noteEn then t.interrupt n else t

/-- An event is told to the given mailboxes and traced once (R151, R813 EVENT), and may be the trace trigger (R821). -/
def State.notify (s : State) (mbxs : List Nat) (kind status ctx mt flags : Nat) (detail : List Nat) : State :=
  let words := noticeWords kind status flags ctx mt detail
  let s := mbxs.foldl (fun t n => t.postNotice n words) s
  let s := s.traceKept 8 mt flags
    (recordOf ([traceHead 0x14 8 0 0xFF none flags, mt, placed kind 48 + placed status 32] ++ detail.take 5))
  if s.obs.trig.source = 4 ∧ s.obs.trig.matchKey = kind then s.fireTrigger mt else s

/-- Mailboxes told of an event of a context: its own, if it has one, and mailbox 0 (R151). -/
def State.ctxMailboxes (s : State) (c : Nat) : List Nat :=
  if (s.ctx c).mbx = 0 then [0] else [(s.ctx c).mbx, 0]

/-! ### Ending a command (R145) -/

/-- Status codes (R191). -/
abbrev stOk : Nat := 0x0000
abbrev stBadOpcode : Nat := 0x0101
abbrev stBadArg : Nat := 0x0102
abbrev stBadLength : Nat := 0x0103
abbrev stBadState : Nat := 0x0104
abbrev stSkipped : Nat := 0x0105
abbrev stResourceBusy : Nat := 0x0201
abbrev stNoResource : Nat := 0x0202
abbrev stTimeout : Nat := 0x0203
abbrev stCtxTornDown : Nat := 0x0301
abbrev stTranslationFault : Nat := 0x0302
abbrev stNotBound : Nat := 0x0304
abbrev stDestLost : Nat := 0x0401
abbrev stEpochFenced : Nat := 0x0402
abbrev stLaunchAborted : Nat := 0x0403
abbrev stAuthFail : Nat := 0x0501
abbrev stSigInvalid : Nat := 0x0502
abbrev stHwFault : Nat := 0x0601

/-- MBX_STATUS (R139). -/
def Mailbox.statusWord (m : Mailbox) : Nat := placed m.status 48 + placed m.resWords 40 + m.statusTag

/-- The command of mailbox `n` ends: results, MBX_STATUS and MBX_DONE_MT, then DONE, then its interrupt or message
(R145, R152, R848). -/
def State.complete (s : State) (n status : Nat) (results : List Nat) : State :=
  let m := s.mbx n
  match m.cmd with
  | none => s
  | some c =>
    let res := results.map fun v => BitVec.ofNat 64 v
    let m' := { m with
      st := .done, status, resWords := results.length, statusTag := c.tag, doneMt := s.mt,
      res := res ++ m.res.drop res.length, cmd := none }
    let t := s.putMbx n m'
    if n = 63 then
      let t := (t.setConn { t.conn with doneUnread := true }).alertSince s
      if c.irq then t.tellAgent 0x80 (beBytes 8 m'.statusWord ++ beBytes 8 s.mt) else t
    else if c.irq && m.doneEn then t.interrupt n else t

/-- Argument word `i` of the command that mailbox `n` has in hand. -/
def State.arg (s : State) (n i : Nat) : Nat :=
  match (s.mbx n).cmd with
  | some c => (nth c.args i 0).toNat
  | none => 0

/-- The command of mailbox `n` has been performed as far as its own step goes, and ends with a later event. -/
def State.begin_ (s : State) (n : Nat) : State :=
  let m := s.mbx n
  s.putMbx n { m with cmd := m.cmd.map fun c => { c with begun := true } }

/-- MT at the take of the command that mailbox `n` has in hand. -/
def State.takenAt (s : State) (n : Nat) : Nat := ((s.mbx n).cmd.map (·.busyMt)).getD s.mt

/-- A die service ends without effect: the compute die is in service as before (R797). -/
def State.dropService (s : State) (r : DieServiceRun) : State :=
  let back := r.wasLive && s.ids.baseLive.getLsbD r.tile
  (s.setIds { s.ids with
    computeLive := if back then s.ids.computeLive ||| BitVec.twoPow 8 r.tile else s.ids.computeLive }).setDies
      { s.dies with service := none }

/-- One list of numbers comes before another, by the first place where they differ. -/
def listBefore : List Nat → List Nat → Bool
  | a :: l, b :: m => decide (a < b) || (a == b && listBefore l m)
  | _, _ => false

/-- The context that a command names: the bound one from mailboxes 1 to 62, else the argument (R184). -/
def State.namedCtx (s : State) (n arg : Nat) : Nat := (s.boundCtx n).getD (arg % 64)

/-- What commands act on, as far as R146 orders them. -/
inductive ActedOn where
  | context (id : Nat)
  | comparator (location : Nat)
  | nodes (first count : Nat)
  | identityKey
deriving DecidableEq, Repr

/-- The two have something in common. -/
def ActedOn.meets : ActedOn → ActedOn → Bool
  | .context a, .context b => a == b
  | .comparator a, .comparator b => a == b || a == 0xE || b == 0xE
  | .nodes a m, .nodes b k => decide (a < b + k) && decide (b < a + m)
  | .identityKey, .identityKey => true
  | _, _ => false

/-- What the command of mailbox `n` acts on: a context with its lists, a comparator or nodes (R146, R184; log 133), and the identity
key, whose indices go in the order of the takes (R770). -/
def State.actsOn (s : State) (n : Nat) (c : TakenCmd) : Option ActedOn :=
  let a := fun i => (nth c.args i 0).toNat
  match c.opcode with
  | 0x0201 | 0x0202 | 0x0400 | 0x0401 | 0x0902 => some (.context (s.namedCtx n (a 0)))
  | 0x0301 => some (.context (s.namedCtx n (a 1)))
  | 0x0300 => some (.context (s.namedCtx n (a 2)))
  | 0x0302 => ((s.abaom.watches.find? fun w => w.id == a 0 % 4096).map (·.ctx)).map .context
  | 0x0800 | 0x0802 => (s.boundCtx n).map .context
  | 0x0501 => some (.comparator (a 0 % 16))
  | 0x0502 =>
    ((s.stakes.allocs.find? fun x => x.id == a 0).bind fun x => if x.places.length = 1 then x.places.head?.map (·.1) else some 0xE).map
      .comparator
  | 0x0503 | 0x0602 | 0x0603 => some (.nodes (a 0 % 2 ^ 14) 1)
  | 0x0600 => some (.nodes (a 0 % 2 ^ 14) (a 0 / 2 ^ 16 % 2 ^ 16))
  | 0x0B00 => some .identityKey
  | _ => none

/-- An earlier command on the same context, list, comparator or node has still to begin (R146). -/
def State.behind (s : State) (n : Nat) (c : TakenCmd) : Bool :=
  (List.range 64).any fun k => (s.mbx k).st == .busy && match (s.mbx k).cmd with
    | some d => decide (d.order < c.order) && !d.begun && match s.actsOn k d, s.actsOn n c with
      | some x, some y => x.meets y
      | _, _ => false
    | none => false

/-- Mailbox `n` has a command of this opcode in hand, taken and not begun, and its turn has come (R146). -/
def State.has (s : State) (n opcode : Nat) : Bool :=
  decide (n < 64) && (s.mbx n).st == .busy &&
    match (s.mbx n).cmd with
    | some c => c.opcode == opcode && !c.begun && !(s.behind n c)
    | none => false

/-- A command's meaning: nothing when the mailbox has no such command in hand (log 4), else the effect. -/
def runCommand (n opcode : Nat) (f : State → State) (s : State) : Host.Outcome State Fault Refusal :=
  .next (if s.has n opcode then f s else s)

/-- An event's meaning: nothing when its condition does not hold (log 4), else the effect. -/
def onEvent (c : Bool) (f : State → State) (s : State) : Host.Outcome State Fault Refusal :=
  .next (if c then f s else s)

end Sys2Proof.Machine
end

