-- ==== Sys2Proof/Machine/Image.lean ====
section
/-!
DEFINITION. The firmware image and its checks, and the slot while a commit writes it (R750 to R752, R763, R765).
-/

namespace Sys2Proof.Machine

/-! ### The firmware image (R750 to R752) -/

/-- The fields of an image's header (R750). -/
structure ImageHead where
  bodyBytes : Nat
  fwVersion : Nat
  svn : Nat
  abaom : Nat
  revoke : Nat
  keySlot : Nat
  raiseSvn : Bool
  liveOk : Bool
deriving DecidableEq, Repr

/-- Word `i` of a byte sequence (R13). -/
def imageWord (bytes : List Byte) (i : Nat) : Nat := leNat ((bytes.drop (8 * i)).take 8)

/-- The header of an image, from its first 256 bytes. -/
def imageHead (h : List Byte) : ImageHead where
  bodyBytes := imageWord h 1
  fwVersion := imageWord h 2 / 2 ^ 48
  svn := imageWord h 2 / 2 ^ 32 % 2 ^ 16
  abaom := imageWord h 2 / 2 ^ 16 % 2 ^ 16
  revoke := imageWord h 3 / 2 ^ 8 % 16
  keySlot := imageWord h 3 / 4 % 4
  raiseSvn := imageWord h 3 / 2 % 2 == 1
  liveOk := imageWord h 3 % 2 == 1

/-- Check 0x2 of R752. -/
def headOk (h : List Byte) : Bool :=
  let w := imageWord h
  w 0 / 2 ^ 48 == 0x4657 && w 0 / 2 ^ 40 % 256 == 1 && w 0 / 2 ^ 16 % 2 ^ 16 == 0x0108 && w 0 / 2 ^ 32 % 256 == 0 && w 0 % 2 ^ 16 == 0
    && w 2 % 2 ^ 16 == 0 && w 3 / 2 ^ 12 == 0 && w 3 / 16 % 16 == 0 && (List.range 4).all (fun i => w (4 + i) == 0)
    && (h.drop 132).all (· == 0)

/-- Check 0x3 of R752. -/
def bodyOk (n : Nat) : Bool := decide (256 ≤ n) && decide (n ≤ 4191232) && n % 256 == 0

/-- The first check of R752 that an image fails, by its reason; `read` gives its bytes from an offset. -/
def State.imageCheck (s : State) (read : Nat → Nat → List Byte) (flashError : Bool) : Option Nat :=
  if flashError then some 1
  else
    let h := read 0 256
    if !(headOk h) then some 2
    else
      let i := imageHead h
      if !(bodyOk i.bodyBytes) then some 3
      else
        let key := (h.drop 64).take 68
        if shake256 key ≠ Config.fwKey i.keySlot ∨ s.trust.revoke.getLsbD i.keySlot then some 4
        else if i.svn < s.trust.minSvn then some 5
        else if !(Config.xmssVerify key (read 0 i.bodyBytes) (read i.bodyBytes 2820)) then some 6
        else none

/-- What runs once an image is taken up (R750, R751). -/
def runImage (read : Nat → Nat → List Byte) : RunImage :=
  let i := imageHead (read 0 256)
  { fwVersion := i.fwVersion, svn := i.svn, abaom := i.abaom, keySlot := i.keySlot, measurement := shake256 (read 0 i.bodyBytes) }

/-! ### The slot in a commit (R763, R765) -/

/-- The staged bytes. -/
def State.staged (s : State) (off n : Nat) : List Byte := cellRead s.trust.staging off n

/-- The staged image of a session passes step 1 of FW_COMMIT (R765). -/
def State.commitOk (s : State) (x : FwSession) : Bool :=
  (s.imageCheck s.staged false).isNone && x.size == (imageHead (s.staged 0 256)).bodyBytes + 2820

/-- FW_COMMIT of the session is taken, and its image passes step 1: the slot is being written (R763, R765; log 153). -/
def State.slotWriting (s : State) : Bool :=
  match s.trust.session with
  | some x =>
    (s.mbx x.mbx).st == .busy && (match (s.mbx x.mbx).cmd with | some c => c.opcode == 0x0B03 | none => false) && s.commitOk x
  | none => false

/-- FW_COMMIT ends with TIMEOUT: the session ends, and the slot is invalid once it was being written (R764, R765). -/
def State.commitCut (s : State) (n : Nat) : State :=
  match s.trust.session with
  | some x =>
    if x.mbx = n then
      (s.setTrust { s.trust with session := none, slotBad := s.trust.slotBad || s.slotWriting }).alertSince s
    else s
  | none => s

/-- An FW_ command from the holder keeps its session open (R764). -/
def State.heardUpdate (s : State) (n opcode : Nat) : State :=
  match s.trust.session with
  | some x =>
    if x.mbx = n ∧ [0x0B01, 0x0B02, 0x0B03].contains opcode then
      s.setTrust { s.trust with session := some { x with last := s.mt } }
    else s
  | none => s

/-- The log that the ATTEST of a mailbox reports: as it stood at its take (R771). -/
def State.attestTaken (s : State) (n : Nat) : WaitingAttest :=
  (s.trust.taken.find? fun a => a.mbx == n).getD ⟨n, s.trust.log, s.trust.chain⟩

/-- The take of an ATTEST keeps the log and the chain as they stand (R771). -/
def State.keepLog (s : State) (n : Nat) : State :=
  s.setTrust { s.trust with taken := ⟨n, s.trust.log, s.trust.chain⟩ :: s.trust.taken.filter fun a => a.mbx != n }

end Sys2Proof.Machine
end

