-- ==== Sys2Proof/Machine/Sync.lean ====
section
/-!
DEFINITION. What meridian time reads as (R65, R68, R70), the SYNC records of its changes (R814), and the loss of alignment (R65,
R84, R98).
-/

namespace Sys2Proof.Machine

/-- BOUND (R68): 4 + DEPTH, 0xFF when the depth is unknown. The field has 8 bits: the model's choice is that a depth of 252 or
more reads as BOUND 0xFF, and that a depth of 255 is the unknown depth (DESIGN CHOICE, log 124). -/
def TimeState.bound (t : TimeState) : Nat := if t.depth = 0xFF then 0xFF else min (4 + t.depth) 0xFF

/-- MT_STATUS (R68, R119). -/
def State.mtStatus (s : State) : Nat :=
  let t := s.time
  placed t.st.code 28 + placed (flagNat t.refPresent) 27 + placed (flagNat t.ptpLock) 26
    + placed (flagNat (t.ppsSeen && t.ppsTime)) 25 + placed (flagNat t.stepPending.isSome) 24 + placed (flagNat t.slewing) 23
    + placed (flagNat (decide (12 < t.depth) && t.depth != 0xFF)) 22 + placed t.depth 8 + t.bound

/-- A signed number as a 64-bit field. -/
def asWord (i : Int) : Nat := (BitVec.ofInt 64 i).toNat

/-- MT_DATUM (R70). -/
def State.mtDatum (s : State) : Nat :=
  placed (flagNat s.time.datumValid) 31 + placed s.time.parentPort 16 + s.time.datumNode

/-- A SYNC record of one unit (R813). -/
def State.syncUnit (s : State) (u : Nat) : State :=
  let flags := s.hubFlags false
  (s.trace u s.mt flags
    (recordOf [traceHead 0x13 u 0 0xFF none flags, s.mt, s.mtStatus, asWord s.time.offset, s.mtDatum, asWord s.time.slewLeft,
      placed s.fab.epoch 16 + s.fab.node])).1

/-- A SYNC record of every unit. -/
def State.syncAll (s : State) : State := (List.range 9).foldl State.syncUnit s

/-- The units' SYNC records when MT_STATUS.STATE or MT_DATUM has changed (R814). -/
def State.synced (old s : State) : State :=
  if s.time.st != old.time.st || s.mtDatum != old.mtDatum then s.syncAll else s

/-- An event of meridian time whose condition holds. -/
def onTime (c : Bool) (f : State → State) (s : State) : Host.Outcome State Fault Refusal :=
  onEvent c (fun s => State.synced s (f s)) s

/-- The units' SYNC records when a measurement finds a correction of 1 tick or more (R814). -/
def State.syncCorrection (s : State) (corr : Int) : State := if 16 ≤ corr.natAbs then s.syncAll else s

/-- One microsecond in 1/16 tick. -/
def microsecond16 : Int := 16 * 8000

/-- A correction of more than 1 µs, either way (R84). -/
def overMicrosecond (corr : Int) : Bool := decide (microsecond16 < corr) || decide (corr < -microsecond16)

/-- The device enters UNALIGNED and says so, with the correction refused (R84, R98). A BACKSIGHT_RUN in hand goes on. -/
def State.loseAlignment (s : State) (refused : Int) : State :=
  let s := s.setTime { s.time with
    st := .unaligned, bsDone := false, meas := none,
    run := s.time.run.filter (·.posted) }
  s.notify [0, 63] 5 stOk 0 s.mt (s.hubFlags false) [s.mtStatus, asWord refused]

/-- A full backsight has failed (R65): it is over, and the device is UNALIGNED. -/
def State.failBacksight (s : State) (refused : Int) : State := (s.setTime { s.time with run := none }).loseAlignment refused

end Sys2Proof.Machine
end

