-- ==== Sys2Proof/Machine/Routes.lean ====
section
/-!
DEFINITION. Where the die links run (R31, R562, R778, R779), and the route tables of the base dies with the paths that traffic takes
by them (R32, R33, R34).
-/

namespace Sys2Proof.Machine

/-- The die and port expected at the far end of a port: base dies 0 to 7, processor dies 8 and 9, the hub 0xA, optical engines
0xC to 0xF. The hub's ports are its four tile links and then its four UCIe links (log 30). -/
def portFar (code port : Nat) : Option (Nat × Nat) :=
  if code < 8 then
    match port with
    | 0 => if code % 4 = 0 then none else some (code - 1, 1)
    | 1 => if code % 4 = 3 then none else some (code + 1, 0)
    | 2 => some ((code + 4) % 8, 2)
    | 3 => match code with | 1 => some (0xA, 0) | 2 => some (0xA, 1) | 5 => some (0xA, 2) | 6 => some (0xA, 3) | _ => none
    | 4 => match code with | 0 => some (8, 0) | 4 => some (8, 1) | 3 => some (9, 0) | 7 => some (9, 1) | _ => none
    | _ => none
  else if code = 8 then (match port with | 0 => some (0, 4) | 1 => some (4, 4) | _ => none)
  else if code = 9 then (match port with | 0 => some (3, 4) | 1 => some (7, 4) | _ => none)
  else if code = 0xA then
    match port with
    | 0 => some (1, 3)
    | 1 => some (2, 3)
    | 2 => some (5, 3)
    | 3 => some (6, 3)
    | 4 => some (0xC, 0)
    | 5 => some (0xD, 0)
    | 6 => some (0xE, 0)
    | 7 => some (0xF, 0)
    | _ => none
  else if 0xC ≤ code ∧ code < 0x10 ∧ port = 0 then some (0xA, 4 + (code - 0xC))
  else none

/-! ### Route tables (R32 to R34) -/

/-- The tiles next to a tile over links in use, those of its row first (R781). -/
def tileNeighbours (used : Nat → Nat → Bool) (d : Nat) : List Nat :=
  ([0, 1, 2].filter (used d)).filterMap fun p => (portFar d p).map (·.1)

/-- The tiles that end a path to a die: the tile itself, or those that carry a link in use to the processor die or the hub. -/
def routeEnds (used : Nat → Nat → Bool) (live : BitVec 8) (dst : Nat) : List Nat :=
  (List.range 8).filter fun d =>
    live.getLsbD d
      && (d == dst || (decide (8 ≤ dst) && [3, 4].any fun p => used d p && (portFar d p).map (·.1) == some dst))

/-- The live tiles within `k` die links of the ends. -/
def routeWithin (used : Nat → Nat → Bool) (live : BitVec 8) (ends : List Nat) : Nat → List Nat
  | 0 => ends
  | k + 1 =>
    let near := routeWithin used live ends k
    (List.range 8).filter fun d => live.getLsbD d && (near.contains d || (tileNeighbours used d).any near.contains)

/-- Die links from a tile to the nearest end, over live base dies alone. -/
def routeDist (used : Nat → Nat → Bool) (live : BitVec 8) (dst d : Nat) : Option Nat :=
  (List.range 8).find? fun k => (routeWithin used live (routeEnds used live dst) k).contains d

/-- The die that a tile sends on to for a destination: a neighbour on a shortest path, in the row before the column (R33). -/
def nextHop (used : Nat → Nat → Bool) (live : BitVec 8) (d dst : Nat) : Option Nat :=
  match routeDist used live dst d with
  | none => none
  | some 0 => if d = dst then none else some dst
  | some (k + 1) => (tileNeighbours used d).find? fun n => routeDist used live dst n == some k

/-- The tables of all base dies over the links in use, for destinations 0 to 7, the processor dies 8 and 9 and the hub 0xA (R33,
R781). -/
def routeTables (used : Nat → Nat → Bool) (live : BitVec 8) : List (List (Option Nat)) :=
  (List.range 8).map fun d => (List.range 11).map fun dst => if live.getLsbD d then nextHop used live d dst else none

/-- The link at port `p` of base die `d` is used: the traverse found its ends in agreement (R781). -/
def State.linkInUse (s : State) (d p : Nat) : Bool := ((s.dies.links[5 * d + p]?).map (·.used)).getD false

/-- The entry of a base die's table. -/
def State.routeEntry (s : State) (d dst : Nat) : Option Nat := nth (nth s.ids.routes d []) dst none

/-- A path on from a base die, by the tables, the destination its last. -/
def State.pathFrom (s : State) (dst : Nat) : Nat → Nat → Option (List Nat)
  | 0, _ => none
  | fuel + 1, d =>
    if d = dst then some [d]
    else if 8 ≤ d then none
    else match s.routeEntry d dst with
      | some n => (s.pathFrom dst fuel n).map (d :: ·)
      | none => none

/-- The shorter of two paths, the first of equals. -/
def shorter : Option (List Nat) → Option (List Nat) → Option (List Nat)
  | none, q => q
  | p, none => p
  | some p, some q => if p.length ≤ q.length then some p else some q

/-- The path through the package from one die to another, both counted (R33): a processor die or the hub enters the base dies by
the link that leads on soonest. The hub and the processor dies stand at its ends alone, so that the hub forwards nothing (R32). -/
def State.diePath (s : State) (a b : Nat) : Option (List Nat) :=
  if a = b then some [a]
  else if a < 8 then s.pathFrom b 10 a
  else ((routeEnds s.linkInUse s.ids.baseLive a).map fun d => (s.pathFrom b 10 d).map (a :: ·)).foldl shorter none

end Sys2Proof.Machine
end

