-- ==== Sys2Proof/Machine/Transport.lean ====
section
/-!
DEFINITION. The Glolys Transport as the meanings share it: the header, routes, flows, acknowledgement, refusal,
violations and quarantine (R566 to R600, R861 to R863).
-/

namespace Sys2Proof

/-! ### The header (R581) -/

abbrev Frame.version (f : Frame) : Nat := fieldNat f.w0 63 56
abbrev Frame.op (f : Frame) : Nat := fieldNat f.w0 55 48
abbrev Frame.ackv (f : Frame) : Bool := bitAt f.w0 47
abbrev Frame.unseq (f : Frame) : Bool := bitAt f.w0 46
abbrev Frame.first (f : Frame) : Bool := bitAt f.w0 44
abbrev Frame.src (f : Frame) : Nat := fieldNat f.w0 31 16
abbrev Frame.dst (f : Frame) : Nat := fieldNat f.w0 15 0
abbrev Frame.epoch (f : Frame) : Nat := fieldNat f.w1 63 48
abbrev Frame.sepoch (f : Frame) : Nat := fieldNat f.w1 47 32
abbrev Frame.window (f : Frame) : Nat := fieldNat f.w1 31 20
abbrev Frame.context (f : Frame) : Nat := fieldNat f.w1 19 14
abbrev Frame.kind (f : Frame) : Nat := fieldNat f.w1 13 12
abbrev Frame.tag (f : Frame) : Nat := fieldNat f.w1 11 0
abbrev Frame.seq (f : Frame) : Nat := fieldNat f.w2 63 32
abbrev Frame.ack (f : Frame) : Nat := fieldNat f.w2 31 0
abbrev Frame.offset (f : Frame) : Nat := fieldNat f.w3 63 16
abbrev Frame.length (f : Frame) : Nat := fieldNat f.w3 15 0

/-- Payload word `i`, most significant byte first (R13). -/
def Frame.word (f : Frame) (i : Nat) : Nat := beNat ((f.payload.drop (8 * i)).take 8)

/-- Opcodes (R582). -/
abbrev opWrite : Nat := 0x01
abbrev opReadReq : Nat := 0x02
abbrev opReadRsp : Nat := 0x03
abbrev opAtomic : Nat := 0x04
abbrev opAtomicRsp : Nat := 0x05
abbrev opXadd : Nat := 0x06
abbrev opAck : Nat := 0x10
abbrev opNak : Nat := 0x11
abbrev opHeartbeat : Nat := 0x12
abbrev opBsx : Nat := 0x13
abbrev opCtrl : Nat := 0x14
abbrev opColl : Nat := 0x15

/-- Bytes of header and payload (R699, R705, R801). -/
def Frame.bytes (f : Frame) : Nat := 32 + f.payload.length

/-- A frame with its place in the flow entered: SEQ, FIRST on SEQ 0, and TAG from SEQ on a request (R581, R584, R591). -/
def Frame.numbered (f : Frame) (seq : Nat) (request : Bool) : Frame :=
  { f with
    w0 := if seq = 0 then f.w0 ||| BitVec.ofNat 64 (2 ^ 44) else f.w0,
    w1 := if request then (f.w1 &&& ~~~ 0xFFF) ||| BitVec.ofNat 64 (seq % 4096) else f.w1,
    w2 := BitVec.ofNat 64 (placed seq 32) }

/-- The ACK that is owed on the reverse flow rides in the frame (R587). -/
def Frame.withAck (f : Frame) (n : Nat) : Frame :=
  { f with w0 := f.w0 ||| BitVec.ofNat 64 (2 ^ 47), w2 := (f.w2 &&& ~~~ 0xFFFFFFFF) ||| BitVec.ofNat 64 n }

/-- The frame marked as retransmitted (R589). -/
def Frame.retx (f : Frame) : Frame := { f with w0 := f.w0 ||| BitVec.ofNat 64 (2 ^ 45) }

/-- Responses carry their request's TAG (R581). -/
def Frame.isResponse (f : Frame) : Bool := f.op == opReadRsp || f.op == opAtomicRsp

end Sys2Proof

namespace Sys2Proof.Machine

/-- Flow kinds (R581). -/
abbrev kTie : Nat := 0
abbrev kCtrl : Nat := 1
abbrev kColl : Nat := 2
abbrev kBulk : Nat := 3

/-- The fields of a header that a sender chooses. -/
structure Head where
  op : Nat
  ackv : Bool := false
  unseq : Bool := false
  retx : Bool := false
  first : Bool := false
  src : Nat
  dst : Nat
  epoch : Nat
  sepoch : Nat
  window : Nat := 0
  context : Nat := 0
  kind : Nat
  tag : Nat := 0
  seq : Nat := 0
  ack : Nat := 0
  offset : Nat := 0
  length : Nat := 0
deriving DecidableEq, Repr

/-- A frame with the given header and payload (R581). -/
def Head.frame (h : Head) (payload : List Byte) : Frame where
  w0 := BitVec.ofNat 64 (placed 1 56 + placed h.op 48 + placed (flagNat h.ackv) 47 + placed (flagNat h.unseq) 46
    + placed (flagNat h.retx) 45 + placed (flagNat h.first) 44 + placed h.src 16 + h.dst)
  w1 := BitVec.ofNat 64 (placed h.epoch 48 + placed h.sepoch 32 + placed h.window 20 + placed h.context 14
    + placed h.kind 12 + h.tag % 4096)
  w2 := BitVec.ofNat 64 (placed h.seq 32 + h.ack)
  w3 := BitVec.ofNat 64 (placed h.offset 16 + h.length)
  payload := payload

/-- A payload of 64-bit words, most significant byte first (R13). -/
def wordsPayload (ws : List Nat) : List Byte := (ws.map (beBytes 8)).flatten

/-! ### Epochs and routes (R571 to R577) -/

/-- PLAT_POS (R571). -/
def FabricState.platPos (f : FabricState) : Nat :=
  placed f.hall 32 + placed f.row 24 + placed f.rack 16 + placed f.slot 8 + f.device

/-- Epoch `a` is newer than epoch `b` (R573, R863). -/
def newerEpoch (a b : Nat) : Bool :=
  decide (a ≠ 0) && decide (b ≠ 0) && decide (1 ≤ (a + 65535 - b) % 65535) && decide ((a + 65535 - b) % 65535 ≤ 32767)

/-- The epoch known for a node (R575); its own for this device's. -/
def State.epochOf (s : State) (node : Nat) : Nat :=
  if node = s.fab.node ∧ s.fab.epoch ≠ 0 then s.fab.epoch
  else ((s.fab.epochs.find? fun e => e.1 == node).map (·.2)).getD 0

/-- The route word of a node (R575, R576). -/
def State.routeOf (s : State) (node : Nat) : Word :=
  ((s.fab.routes.find? fun e => e.1 == node).map (·.2)).getD 0

/-- A list of pairs with another value at a key. -/
def assocPut {α : Type} (l : List (Nat × α)) (k : Nat) (v : α) : List (Nat × α) :=
  (k, v) :: l.filter fun e => e.1 != k

/-- A port may carry frames (R577). -/
def State.portUsable (s : State) (p : Nat) : Bool := (s.port p).st == .up && !(s.port p).quar

/-- The port set of a node: the ports of PORTS (R576). -/
def State.routePorts (s : State) (node : Nat) : List Nat :=
  (List.range 32).filter fun p => (s.routeOf node).getLsbD p

/-- The node is marked unreachable (R575). -/
def State.unreachable (s : State) (node : Nat) : Bool := s.fab.unreachable.contains node

/-- The port for a flow's frames: the first usable one from the place that the flow's hash picks (R577, R578). -/
def State.routePort (s : State) (src dst kind ctx : Nat) : Option Nat :=
  if !(bitAt (s.routeOf dst) 63) || s.unreachable dst then none
  else
    let ps := s.routePorts dst
    let h := Config.flowHash src dst kind ctx % ps.length
    ((ps.drop h) ++ (ps.take h)).find? s.portUsable

/-! ### Sending on a port -/

/-- The fabric address of a node under a prefix (R567). -/
def fabricAddress (pfx node : Nat) : Nat := pfx * 2 ^ 64 + 0x10000 + node

/-- The MAC address of a port, or of the management port for 32 (R565, R844). -/
def portMac (p : Nat) : Nat := Config.fabMacBase % 2 ^ 48 + p

/-- The headers before the transport header of a frame on a port (R566 to R568). -/
def State.carriage (s : State) (p : Nat) (f : Frame) : Carriage :=
  if (s.port p).modeNow then
    let h := Config.flowHash f.src f.dst f.kind f.context
    .routed ((s.port p).router.map (·.1)) (portMac p) (fabricAddress s.fab.v6pfx s.fab.node) (fabricAddress s.fab.v6pfx f.dst)
      64 s.fab.dscp (h % 2 ^ 20) (0xC000 + h % 2 ^ 14) s.fab.udpPort
  else .direct 0x035A474C0001 (portMac p) s.fab.etherType

/-- Rank of a frame in the order of a port, first 0 (R580). -/
def frameRank (f : Frame) : Nat :=
  if f.op = opHeartbeat ∨ f.op = opBsx ∨ f.op = opAck ∨ f.op = opNak then 0
  else if f.kind = kCtrl then 1 else if f.kind = kColl then 2 else if f.kind = kTie then 3 else 4

/-- A frame of a port that another of a rank goes ahead of (R580). -/
def Out.after (p rank : Nat) (o : Out) : Bool :=
  match o with
  | .frame q f _ => q == p && decide (rank < frameRank f)
  | _ => false

/-- A frame takes its place among the newest `n` entries of the outbox, ahead of the frames of its port that rank after it (R580). -/
def outInsert (p rank : Nat) (x : Out) : Nat → List Out → List Out
  | 0, l => x :: l
  | _, [] => [x]
  | n + 1, y :: l =>
    if (y :: l.take n).any (Out.after p rank) then y :: outInsert p rank x n l else x :: y :: l

/-- A frame goes out, in the order of its port among those of one cycle (R580). -/
def State.emitFrame (s : State) (p : Nat) (f : Frame) : State :=
  s.setOutbox (outInsert p (frameRank f) (.frame p f (s.carriage p f)) (s.outbox.length - s.fab.sentMark) s.outbox)

/-- A frame leaves port `p` (R580, R600, R609, R801); nothing leaves a dark port, a fenced device or a quarantined port but
heartbeats. -/
def State.sendOn (s : State) (p : Nat) (f : Frame) : State :=
  let hb := f.op == opHeartbeat
  if (s.port p).st != .up || ((s.port p).quar && !hb) || (s.fab.fenced && !hb) then s
  else
    let t := (s.emitFrame p f).putPort p { s.port p with lastSent := s.mt }
    (t.count 6 f.bytes).count (48 + p / 8) f.bytes

/-- The accounting record of a context counts: from its open until step 5 of its teardown (R686, R701, R746). -/
def Context.counting (x : Context) : Bool := x.st == .opened || (x.st == .tornDown && x.ending)

/-- Fabric bytes sent for a context (R705). -/
def State.chargeTx (s : State) (c n : Nat) : State :=
  let x := s.ctx c
  if !x.counting then s
  else s.putCtx c { x with acct := { x.acct with fabTx := (x.acct.fabTx + n) % 2 ^ 64 } }

/-- Fabric bytes received for a context (R705). -/
def State.chargeRx (s : State) (c n : Nat) : State :=
  let x := s.ctx c
  if !x.counting then s
  else s.putCtx c { x with acct := { x.acct with fabRx := (x.acct.fabRx + n) % 2 ^ 64 } }

/-- The bucket of a partition at a point: stacks 0 to 15, ports 16 to 47 (R695). -/
def State.bucket (s : State) (part point : Nat) : Bucket := nth (nth s.share.buckets part []) point Bucket.unlimited

/-- The state with another bucket. -/
def State.putBucket (s : State) (part point : Nat) (b : Bucket) : State :=
  s.setShare { s.share with buckets := s.share.buckets.modify part fun l => l.set point b }

/-- A frame of a context passes its partition's regulator at port `p`, or waits in the port queue (R699). -/
def State.sendRegulated (s : State) (p ctx : Nat) (f : Frame) : State :=
  let part := (s.ctx ctx).partition
  let b := s.bucket part (16 + p)
  let s := if f.kind = kTie ∧ !f.isResponse then s.chargeTx ctx f.bytes else s
  if b.rate = 0 ∨ (f.kind ≠ kTie ∧ f.kind ≠ kBulk) ∨ f.isResponse then s.sendOn p f
  else if b.level < 5 * f.bytes ∨ s.share.waits.any (fun w => w.partition == part && w.point == 16 + p) then
    s.setShare { s.share with waits := s.share.waits ++ [⟨part, 16 + p, f.bytes, some f, 0⟩] }
  else (s.putBucket part (16 + p) { b with level := b.level - 5 * f.bytes }).sendOn p f

/-! ### Sending flows (R584 to R592, R861) -/

/-- A flow's name at its sender. -/
def SendFlow.is (fl : SendFlow) (dst kind ctx : Nat) : Bool := fl.dst == dst && fl.kind == kind && fl.ctx == ctx

/-- The sending flow of this name, if its state is held. -/
def State.sendFlow (s : State) (dst kind ctx : Nat) : Option SendFlow := s.fab.sends.find? fun f => f.is dst kind ctx

/-- The state with another sending flow of the same name. -/
def State.putSend (s : State) (fl : SendFlow) : State :=
  s.setFab { s.fab with
    sends := if s.fab.sends.any (fun g => g.is fl.dst fl.kind fl.ctx)
      then s.fab.sends.map fun g => if g.is fl.dst fl.kind fl.ctx then fl else g
      else s.fab.sends ++ [fl] }

/-- The receiving flow from a node, if its state is held. -/
def State.recvFlow (s : State) (src kind ctx : Nat) : Option RecvFlow :=
  s.fab.recvs.find? fun r => r.src == src && r.kind == kind && r.ctx == ctx

/-- The state with another receiving flow of the same name. -/
def State.putRecv (s : State) (r : RecvFlow) : State :=
  s.setFab { s.fab with
    recvs := if s.fab.recvs.any (fun g => g.src == r.src && g.kind == r.kind && g.ctx == r.ctx)
      then s.fab.recvs.map fun g => if g.src == r.src && g.kind == r.kind && g.ctx == r.ctx then r else g
      else s.fab.recvs ++ [r] }

/-- Unacknowledged frames and unanswered requests of all flows (R586). -/
def State.inFlight (s : State) : Nat :=
  (s.fab.sends.map fun f => f.unacked.length).sum + (s.xlat.tieOps.filter fun o => o.answer.isNone).length

/-- A tie read or atomic, or a read of a monument, learns the TAG that its request carries (R581). -/
def State.tagTie (s : State) (op : FlowOp) (tag : Nat) : State :=
  match op with
  | .tieRead id =>
    s.setXlat { s.xlat with tieOps := s.xlat.tieOps.map fun o => if o.id = id then { o with tag } else o }
  | .bulkRead n =>
    s.setMonu { s.monu with reads := s.monu.reads.map fun r => if r.name = n then { r with tag } else r }
  | _ => s

/-- The next frame of a flow goes out on its port, numbered, with an owed ACK (R584, R587). -/
def State.launchFrame (s : State) (fl : SendFlow) (u : Unacked) : State :=
  let seq := fl.next
  let f := u.frame.numbered seq (!u.frame.isResponse)
  let ackd := s.recvFlow fl.dst fl.kind fl.ctx
  let f := match ackd with | some r => if r.owed = 0 then f else f.withAck r.expect | none => f
  let s := match ackd with | some r => s.putRecv { r with owed := 0 } | none => s
  let port := if s.portUsable fl.port then fl.port
    else (s.routePort s.fab.node fl.dst fl.kind fl.ctx).getD fl.port
  let fl' := { fl with
    port, next := (seq + 1) % 2 ^ 32, unacked := fl.unacked ++ [{ u with seq, frame := f }], lastSent := s.mt,
    progress := if fl.unacked.isEmpty then s.mt else fl.progress }
  ((s.putSend fl').tagTie u.op (seq % 4096)).sendRegulated port fl.ctx f

/-- The header of a frame from this device to a node. -/
def State.headTo (s : State) (op dst kind ctx : Nat) : Head :=
  { op, src := s.fab.node, dst, epoch := s.epochOf dst, sepoch := s.fab.epoch, kind, context := ctx }

/-- A flow may send no further frame now: it is reset, or a limit is reached (R586, R861). -/
def State.flowHeld (s : State) (fl : SendFlow) : Bool :=
  fl.silent || decide (4096 ≤ fl.unacked.length) || decide (131072 ≤ s.inFlight)

/-- A flow's next frame goes out, or waits for room in its flow (R586, R861). -/
def State.flowPut (s : State) (fl : SendFlow) (u : Unacked) : State :=
  if s.flowHeld fl || !fl.waiting.isEmpty then s.putSend { fl with waiting := fl.waiting ++ [u] } else s.launchFrame fl u

/-- The flow of a name, a new one on port `p` where no state is held. -/
def State.flowAt (s : State) (p dst kind ctx : Nat) : SendFlow :=
  (s.sendFlow dst kind ctx).getD
    { dst, kind, ctx, port := p, next := 0, unacked := [], rounds := 0, progress := s.mt, lastSent := s.mt, silent := false,
      waiting := [], busy := none }

/-- A sequenced frame to a node; where there is no route the answer is none (R578). -/
def State.flowSend (s : State) (h : Head) (payload : List Byte) (op : FlowOp) : Option State :=
  (s.routePort s.fab.node h.dst h.kind h.context).map fun p =>
    s.flowPut (s.flowAt p h.dst h.kind h.context) ⟨0, h.frame payload, op, false⟩

/-- A flow has a port to send on (R577, R578). -/
def State.flowRouted (s : State) (fl : SendFlow) : Bool :=
  s.portUsable fl.port || (s.routePort s.fab.node fl.dst fl.kind fl.ctx).isSome

/-- Waiting frames of a flow go out while there is room (R586). -/
def State.pump : Nat → State → Nat → Nat → Nat → State
  | 0, s, _, _, _ => s
  | n + 1, s, dst, kind, ctx =>
    match s.sendFlow dst kind ctx with
    | none => s
    | some fl =>
      match fl.waiting with
      | [] => s
      | u :: rest =>
        if s.flowHeld fl then s
        else State.pump n (s.launchFrame { fl with waiting := rest } u) dst kind ctx

/-- A CTRL message to a node (R583): payload words, the first carrying TYPE. -/
def State.ctrlTo (s : State) (dst : Nat) (ws : List Nat) (op : FlowOp) : Option State :=
  s.flowSend { s.headTo opCtrl dst kCtrl 0 with length := 8 * ws.length } (wordsPayload ws) op

/-- A CTRL message to a node, dropped where there is no route. -/
def State.ctrl (s : State) (dst : Nat) (ws : List Nat) (op : FlowOp) : State := (s.ctrlTo dst ws op).getD s

/-- Live DIRECT ports with a known peer. -/
def State.directPeers (s : State) : List (Nat × Nat) :=
  ((List.range 32).filter fun p =>
    s.portUsable p && !(s.port p).modeNow && (s.port p).peerValid && (s.port p).peerEpoch != 0).map
    fun p => (p, (s.port p).peer)

/-- A CTRL message to a link peer on its own port (R93, R101): the peer is addressed by its logical ID. -/
def State.ctrlPeer (s : State) (p : Nat) (ws : List Nat) : State :=
  let dst := (s.port p).peer
  let h := { s.headTo opCtrl dst kCtrl 0 with length := 8 * ws.length }
  s.flowPut { s.flowAt p dst kCtrl 0 with port := p } ⟨0, h.frame (wordsPayload ws), .control, false⟩

/-! ### Arrivals that wait to be handled (R126) -/

/-- The frame that a row brings: port, frame and arrival stamp. -/
def arrivalOf (i : Instr) : Option (Nat × Frame × Nat) :=
  match i with
  | .rxWrite p f t => some (p, f, t)
  | .rxReadReq p f t => some (p, f, t)
  | .rxReadRsp p f t => some (p, f, t)
  | .rxAtomic p f t => some (p, f, t)
  | .rxAtomicRsp p f t => some (p, f, t)
  | .rxXadd p f t => some (p, f, t)
  | .rxAck p f t => some (p, f, t)
  | .rxNak p f t => some (p, f, t)
  | .rxHeartbeat p f t => some (p, f, t)
  | .rxBsx p f t => some (p, f, t)
  | .rxAlignedNotice p f t => some (p, f, t)
  | .rxHallCorrection p f t => some (p, f, t)
  | .rxLaunchOffer p f t => some (p, f, t)
  | .rxLaunchAck p f t => some (p, f, t)
  | .rxLaunchCommit p f t => some (p, f, t)
  | .rxLaunchAbort p f t => some (p, f, t)
  | .rxThrottle p f t => some (p, f, t)
  | .rxClaim p f t => some (p, f, t)
  | .rxGrant p f t => some (p, f, t)
  | .rxRelease p f t => some (p, f, t)
  | .rxStage p f t => some (p, f, t)
  | .rxProgress p f t => some (p, f, t)
  | .rxFail p f t => some (p, f, t)
  | .rxCollUp p f t => some (p, f, t)
  | .rxCollDown p f t => some (p, f, t)
  | .rxCollCredit p f t => some (p, f, t)
  | .rxCollFail p f t => some (p, f, t)
  | .rxUnsupportedOpcode p f t => some (p, f, t)
  | _ => none

/-- A frame that meets a condition has arrived and waits behind the row in hand: by R126 that row, a deadline's, leaves the outcome
to it. -/
def State.arriving (s : State) (on : Nat → Frame → Nat → Bool) : Bool :=
  s.pending.any fun i => match arrivalOf i with
    | some (p, f, t) => on p f t
    | none => false

/-! ### Violations and quarantine (R598 to R600) -/

/-- VIOL counts from the present millisecond of MT (R600). -/
def State.violWindow (s : State) : State :=
  if s.fab.violMs = s.mt / 8000000 then s
  else s.setFab { s.fab with violMs := s.mt / 8000000, ports := s.fab.ports.map fun p => { p with viol := 0 } }

/-- A violation is recorded in the ring and counted against its port, which it may quarantine (R598 to R600). -/
def State.violation (s : State) (p : Nat) (f : Frame) (stamp reason : Nat) (answered : Bool) : State :=
  let s := s.violWindow
  let rec' := [BitVec.ofNat 64 (placed reason 56 + placed (flagNat answered) 55 + placed p 40
    + placed (s.stampFlags 1 false (s.port p).near false) 16), BitVec.ofNat 64 stamp, f.w0, f.w1, f.w2, f.w3, 0, 0]
  let x := s.port p
  let viol := min (x.viol + 1) 0xFFFF
  let tooMany := decide (s.fab.quarThresh ≠ 0) && decide (s.fab.quarThresh < viol)
  let x := { x with viol, viols := (x.viols + 1) % 2 ^ 32, quar := x.quar || tooMany }
  let s := if tooMany then s.setHot (0x490100 + 8 * p) 60 else s
  (s.setFab { s.fab with
    ring := s.fab.ring.set s.fab.vHead rec', vHead := (s.fab.vHead + 1) % 256, vTotal := (s.fab.vTotal + 1) % 2 ^ 32 }).putPort p x

/-! ### Answers (R587, R595, R596) -/

/-- NAK reasons (R597). -/
abbrev nMalformed : Nat := 0x01
abbrev nUnsupported : Nat := 0x02
abbrev nStaleEpoch : Nat := 0x03
abbrev nEpochFenced : Nat := 0x04
abbrev nUnknownWindow : Nat := 0x05
abbrev nOutOfRange : Nat := 0x06
abbrev nSeqGap : Nat := 0x07
abbrev nPoisoned : Nat := 0x08
abbrev nDestLost : Nat := 0x09
abbrev nBusy : Nat := 0x0A

/-- The NAK reasons that are violations (R597). -/
def nakViolation (reason : Nat) : Bool := decide (1 ≤ reason) && decide (reason ≤ 7)

/-- The NAK of a refused frame (R596). -/
def State.nakFrame (s : State) (f : Frame) (reason seen expect : Nat) : Frame :=
  let h : Head := { op := opNak, unseq := true, src := f.dst, dst := f.src, epoch := s.epochOf f.src,
                    sepoch := s.fab.epoch, context := f.context, kind := f.kind, tag := f.tag, length := 16 }
  h.frame (wordsPayload [placed reason 56 + placed f.op 48 + placed seen 32 + f.tag, placed f.seq 32 + expect])

/-- Opcodes that are not sequenced (R581). -/
def Frame.unsequenced (f : Frame) : Bool := f.op == opAck || f.op == opNak || f.op == opHeartbeat || f.op == opBsx

/-- A refusal is not answered: ACK, NAK, HEARTBEAT, BSX, and a frame with a bad SRC (R595). -/
def unanswerable (f : Frame) : Bool := Frame.unsequenced f || decide (2 ^ 14 ≤ f.src)

/-- A frame is refused: a NAK goes back, and a violation is recorded where the reason is one (R595 to R598). -/
def State.refuse (s : State) (p : Nat) (f : Frame) (stamp reason seen expect : Nat) : State :=
  let nak := s.nakFrame f reason seen expect
  let out := if unanswerable f then none
    else if reason = nEpochFenced ∧ !(s.port p).modeNow then some p
    else s.routePort f.dst f.src f.kind f.context
  let t := match out with
    | some q => (s.sendOn q nak).count 14 1
    | none => s
  if nakViolation reason then t.violation p f stamp reason out.isSome else t

/-- An ACK frame for a receiving flow (R587). -/
def State.ackFlow (s : State) (r : RecvFlow) : State :=
  let h : Head := { s.headTo opAck r.src r.kind r.ctx with ackv := true, unseq := true, ack := r.expect }
  match s.routePort s.fab.node r.src r.kind r.ctx with
  | some q => (s.putRecv { r with owed := 0 }).sendOn q (h.frame [])
  | none => s

/-- A frame of a flow takes its place: the expected value advances and an ACK is owed (R587, R594). -/
def State.acceptSeq (s : State) (p : Nat) (f : Frame) (stamp : Nat) : State :=
  s.putRecv {
    src := f.src, kind := f.kind, ctx := f.context, expect := (f.seq + 1) % 2 ^ 32, last := stamp,
    owed := ((s.recvFlow f.src f.kind f.context).map (·.owed)).getD 0 + 1, port := p }

/-- The ACK goes at once when 32 frames are owed one (R587). -/
def State.ackIfDue (s : State) (f : Frame) : State :=
  match s.recvFlow f.src f.kind f.context with
  | some r => if 32 ≤ r.owed then s.ackFlow r else s
  | none => s

/-- Every flow to and from a node, or all flows, is dropped (R591, R606); the operations that were unacknowledged. -/
def State.dropFlows (s : State) (sel : Nat → Bool) : State × List (Nat × FlowOp) :=
  let gone := s.fab.sends.filter fun f => sel f.dst
  (s.setFab { s.fab with
    sends := s.fab.sends.filter (fun f => !(sel f.dst)), recvs := s.fab.recvs.filter fun r => !(sel r.src) },
   gone.flatMap fun f => (f.unacked ++ f.waiting).map fun u => (f.dst, u.op))

end Sys2Proof.Machine
end

