-- ==== Sys2Proof/Machine/Translate.lean ====
section
/-!
DEFINITION. The page-table walk, the TLBs, the fault records and the tie table (09_translation.md).
-/

namespace Sys2Proof.Machine

/-- How a translation ends otherwise than in a leaf: the fault's kind, level, entry, its REPLAY bit, and WHERE (R470). -/
structure FaultInfo where
  kind : FaultKind
  level : Nat
  entry : Nat
  replay : Bool
  where_ : Nat
deriving DecidableEq, Repr

/-- The end of a walk (R448). -/
inductive Walked where
  | leaf (e : TlbEntry)
  | fault (f : FaultInfo)
  /-- The walk read a poisoned sector (R551). -/
  | poison
deriving DecidableEq, Repr

/-- Bytes that one entry of a level spans (R448). -/
def levelSpan (level : Nat) : Nat :=
  match level with
  | 0 => 2 ^ 16
  | 1 => 2 ^ 21
  | 2 => 2 ^ 30
  | 3 => 2 ^ 39
  | _ => 2 ^ 48

/-- Index of an address in a node of a level (R448). -/
def levelIndex (level va : Nat) : Nat :=
  if level = 0 then va / 2 ^ 16 % 32 else va / levelSpan level % 512

/-- Bytes of a node of a level (R448). -/
def nodeBytes (level : Nat) : Nat := if level = 0 then 256 else 4096

/-- A global address translates only when bits 63:57 equal bit 56 (R284). -/
def canonical (va : Nat) : Bool := va / 2 ^ 56 % 256 == 0 || va / 2 ^ 56 % 256 == 255

/-- A bad leaf (R455): a reserved or must-be-zero bit set, or RUN above 4. -/
def badLeaf (level e : Nat) : Bool :=
  let run := e / 32 % 8
  let tie := e / 8 % 2 == 1
  if tie then
    decide (4 < run) || (level == 1 && e / 2 ^ 8 % 2 ^ 5 != 0) || (level == 2 && e / 2 ^ 8 % 2 ^ 14 != 0)
  else
    decide (4 < run) || e / 2 ^ 52 != 0 || e / 2 ^ 8 % 256 != 0
      || (level == 1 && e / 2 ^ 16 % 2 ^ 5 != 0) || (level == 2 && e / 2 ^ 16 % 2 ^ 14 != 0)

/-- A bad pointer (R451, R455). -/
def badPointer (level e : Nat) : Bool :=
  e / 2 % 128 != 0 || e / 2 ^ 52 != 0 || (decide (2 ≤ level) && e / 2 ^ 8 % 16 != 0)

/-- The TLB entry that a leaf makes, with its run merged (R453, R456). -/
def leafEntry (place ctx level va addr e : Nat) : TlbEntry :=
  let span := levelSpan level * 2 ^ (e / 32 % 8)
  let target :=
    if e / 8 % 2 = 1 then
      let off := e / 2 ^ 8 % 2 ^ 30 * 2 ^ 16
      .tie (e / 2 ^ 50) (e / 2 ^ 38 % 4096) (off / span * span)
    else .local_ (e % 2 ^ 52 / span * span)
  { place, ctx, base := va / span * span, span, target, write := e / 4 % 2 == 1, leafAt := addr, leaf := e, level }

/-- The pointer that the walker cache of a die holds (R458). -/
def State.walkHit (s : State) (die : Option Nat) (ctx addr : Nat) : Option Nat :=
  (s.xlat.walkCache.find? fun w => some w.die == die && w.ctx == ctx && w.addr == addr).map (·.value)

/-- The value of an entry: from the walker cache of the die where it holds the pointer, else from memory (R449, R458). -/
def State.entryValue (s : State) (die : Option Nat) (ctx addr : Nat) : Nat :=
  (s.walkHit die ctx addr).getD (s.hbmWord addr).toNat

/-- A walk from a node of a level down (R448, R455 to R457). -/
def State.walkFrom (s : State) (die : Option Nat) (place ctx va : Nat) : Nat → Nat → Walked
  | level, node =>
    let addr := node + 8 * levelIndex level va
    if (s.walkHit die ctx addr).isNone && s.poisoned addr 8 then .poison
    else
      let e := s.entryValue die ctx addr
      let f := fun (k : FaultKind) (r : Bool) => Walked.fault ⟨k, level, e, r, addr⟩
      if e % 2 = 0 then f .notMapped (e / 16 % 2 == 1)
      else if e / 2 % 2 = 1 then
        if decide (3 ≤ level) || badLeaf level e then f .badEntry false
        else
          let t := leafEntry place ctx level va addr e
          match t.target with
          | .local_ pa => if s.inHbm pa t.span then .leaf t else f .outsideHbm false
          | .tie _ _ _ => .leaf t
      else
        match level with
        | 0 => f .badEntry false
        | l + 1 =>
          if badPointer level e then f .badEntry false
          else
            let next := e % 2 ^ 52 / 256 * 256
            if s.inHbm next (nodeBytes l) then s.walkFrom die place ctx va l next else f .outsideHbm false

/-- A whole walk of a context's tables (R284, R446, R448). -/
def State.walk (s : State) (die : Option Nat) (place ctx va : Nat) : Walked :=
  if canonical va then s.walkFrom die place ctx va 4 (s.ctx ctx).root
  else .fault ⟨.nonCanonical, 7, 0, false, 0⟩

/-- A leaf refuses a kind of access: a write without W, a fetch through a tie (R452, R457, R464). -/
def TlbEntry.refuses (e : TlbEntry) (k : AccKind) : Option FaultInfo :=
  let tie := match e.target with | .tie _ _ _ => true | .local_ _ => false
  if k == .fetch && tie then some ⟨.badEntry, e.level, e.leaf, false, e.leafAt⟩
  else if (k == .write || k == .atomic) && !e.write then
    some ⟨.writeDenied, e.level, e.leaf, e.leaf / 16 % 2 == 1, e.leafAt⟩
  else none

/-- Where an address of an entry's span leads (R456, R477). -/
def TlbEntry.map (e : TlbEntry) (va : Nat) : Target :=
  match e.target with
  | .local_ pa => .local_ (pa + (va - e.base))
  | .tie n w o => .tie n w (o + (va - e.base))

/-- An entry of a cluster holds an address of a context (R458). -/
def TlbEntry.covers (e : TlbEntry) (place ctx va : Nat) : Bool :=
  e.place == place && e.ctx == ctx && decide (e.base ≤ va) && decide (va < e.base + e.span)

/-- The entry that holds an address for an engine of a core: in its L1 TLB, else in its cluster's TLB (R458). -/
def State.tlbFind (s : State) (place core : Nat) (engine : Engine) (ctx va : Nat) : Option TlbEntry :=
  match s.xlat.l1.find? fun x => x.core == core && x.engine == engine && x.entry.covers place ctx va with
  | some x => some x.entry
  | none => s.xlat.tlb.find? fun e => e.covers place ctx va

/-- The outcome of translating one access. -/
inductive Lookup where
  | hit (t : Target)
  | miss
deriving DecidableEq, Repr

/-- An engine's translation: a hit that permits the access, or a miss, which the walker answers (R458, R464). -/
def State.lookup (s : State) (place core : Nat) (engine : Engine) (ctx va : Nat) (k : AccKind) : Lookup :=
  match s.tlbFind place core engine ctx va with
  | some e => if (e.refuses k).isSome then .miss else .hit (e.map va)
  | none => .miss

/-- A walk request joins the walks, once (R448). -/
def State.askWalk (s : State) (r : WalkReq) : State :=
  if s.xlat.walks.contains r then s else s.setXlat { s.xlat with walks := s.xlat.walks ++ [r] }

/-- An engine's access goes to the walker; it counts a cluster TLB miss when no entry holds its address (R806). -/
def State.missTlb (s : State) (core : Nat) (r : WalkReq) : State :=
  if s.xlat.walks.contains r then s
  else
    let t := s.askWalk r
    match r.by_ with
    | .cluster c => if (s.tlbFind c core r.engine r.ctx r.va).isNone then t.progCount c r.ctx 8 1 else t
    | .control => t

/-- A list without the n-th of its elements that meet a condition. -/
def dropNth {α : Type} (p : α → Bool) : Nat → List α → List α
  | _, [] => []
  | 0, x :: l => if p x then l else x :: dropNth p 0 l
  | n + 1, x :: l => if p x then x :: dropNth p n l else x :: dropNth p (n + 1) l

/-- Room for one more among the elements that meet a condition: when `n` are there, one of them goes, which one being a free
value (R458; log 110). -/
def State.room {α : Type} (s : State) (p : α → Bool) (n : Nat) (l : List α) : State × List α :=
  if decide (l.length < n) || decide (l.countP p < n) then (s, l)
  else (s.fresh.2, dropNth p (s.fresh.1.toNat % l.countP p) l)

/-- Two entries cover the same range of the same context at the same cluster. -/
def TlbEntry.same (d e : TlbEntry) : Bool := d.place == e.place && d.ctx == e.ctx && d.base == e.base && d.span == e.span

/-- Two entries fall into one set of one cluster TLB (R458: 2,048 entries in 8 ways). -/
def TlbEntry.sameSet (d e : TlbEntry) : Bool :=
  d.place == e.place && Config.tlbSet d.ctx d.base d.span % 256 == Config.tlbSet e.ctx e.base e.span % 256

/-- A leaf enters its cluster's TLB (R458). -/
def State.fillTlb (s : State) (e : TlbEntry) : State :=
  let r := s.room (fun d => d.sameSet e) 8 (s.xlat.tlb.filter fun d => !(d.same e))
  r.1.setXlat { r.1.xlat with tlb := e :: r.2 }

/-- Two L1 entries are of one L1 TLB. -/
def L1Entry.mate (x y : L1Entry) : Bool := x.core == y.core && x.engine == y.engine && x.entry.place == y.entry.place

/-- A leaf enters the L1 TLB of the engine that asked for it (R458). -/
def State.fillL1 (s : State) (y : L1Entry) : State :=
  let r := s.room (fun x => x.mate y) 64 (s.xlat.l1.filter fun x => !(x.mate y && x.entry.same y.entry))
  r.1.setXlat { r.1.xlat with l1 := y :: r.2 }

/-! ### Fault records (R467 to R475) -/

/-- Physical address of a record slot in the control space (R469, R473). -/
def faultAddress (ctx slot : Nat) : Nat := 0x000FE00000610000 + 0x1000 * ctx + 0x40 * slot

/-- A record of a context's page. -/
def State.faultSlot (s : State) (ctx slot : Nat) : List Word := nth (nth s.xlat.pages ctx []) slot (List.replicate 8 0)

/-- The state with another record. -/
def State.putFault (s : State) (ctx slot : Nat) (r : List Word) : State :=
  s.setXlat { s.xlat with pages := s.xlat.pages.modify ctx fun p => p.set slot r }

/-- The record is pending (R470 VALID). -/
def faultPending (r : List Word) : Bool := bitAt (nth r 0 0) 63

/-- The tie kinds (R464). -/
def FaultKind.isTie (k : FaultKind) : Bool := decide (6 ≤ k.code)

/-- Two faults stop at the same entry (R467). -/
def sameEntry (r : List Word) (f : FaultInfo) (va : Nat) : Bool :=
  let k := fieldNat (nth r 0 0) 59 56
  if f.kind.isTie then
    decide (6 ≤ k) && (nth r 7 0).toNat / 2 ^ 38 == f.where_ / 2 ^ 38 && (nth r 1 0).toNat / 2 ^ 16 == va / 2 ^ 16
  else decide (k ≤ 4) && f.kind != .nonCanonical && (nth r 7 0).toNat == f.where_

/-- ACCESS of a record (R470). -/
def AccKind.code : AccKind → Nat
  | .read => 0
  | .write => 1
  | .atomic => 2
  | .fetch => 3

/-- Bit of ENGINES (R470). -/
def Engine.bit : Engine → Nat
  | .alu => 1
  | .copy => 2
  | .vector => 4

/-- The marks that an access leaves in a record: CP or ENGINES, and CLUSTERS (R470). -/
def joinMarks (by_ : AccessBy) (engine : Engine) : List Word :=
  match by_ with
  | .control => [BitVec.ofNat 64 (2 ^ 60)]
  | .cluster c =>
    [BitVec.ofNat 64 (engine.bit * 2 ^ 48), 0, 0] ++ ((List.range 3).map fun i =>
      if c / 64 = i then BitVec.ofNat 64 (2 ^ (c % 64)) else 0)

/-- Words or-ed one by one; the longer list's tail stays. -/
def orWords : List Word → List Word → List Word
  | a :: l, b :: m => (a ||| b) :: orWords l m
  | l, [] => l
  | [], m => m

/-- So many accesses of one engine join a pending record (R467, R470 JOINED). -/
def joinRecord (r : List Word) (by_ : AccessBy) (engine : Engine) (n : Nat) : List Word :=
  let w := nth r 0 0
  let j := min (fieldNat w 31 16 + n) 0xFFFF
  let w' := (w &&& ~~~ (BitVec.ofNat 64 0xFFFF0000)) ||| BitVec.ofNat 64 (placed j 16)
  orWords (r.set 0 w') (joinMarks by_ engine)

/-- What the control processor does with a fault (R465, R466). -/
inductive FaultFate where
  | waits (slot : Nat)
  | exception
deriving DecidableEq, Repr

/-- STAMP_FLAGS of a fault: the region of the cluster that met it, or the hub's (R120 to R122). -/
def State.faultFlags (s : State) (by_ : AccessBy) : Nat :=
  s.plumbFlags (match by_ with | .cluster c => c / 24 | _ => 8) false false

/-- A fresh record (R470). -/
def State.newRecord (s : State) (ctx va : Nat) (k : AccKind) (by_ : AccessBy) (engine : Engine) (f : FaultInfo)
    (replayable overflow : Bool) (n : Nat) : List Word :=
  let w0 := placed 1 63 + placed (flagNat replayable) 62 + placed (flagNat overflow) 61 + placed f.kind.code 56
    + placed k.code 54 + placed f.level 51 + placed (s.faultFlags by_) 32 + ctx
  joinRecord (recordOf [w0, va, s.mt, 0, 0, 0, f.entry, f.where_]) by_ engine n

/-- Where a fault stands among those of one cycle (R467). -/
def faultRank (by_ : AccessBy) (engine : Engine) : List Nat :=
  match by_ with
  | .control => [0, 0]
  | .cluster c => [c + 1, match engine with | .alu => 0 | .copy => 1 | .vector => 2]

/-- A record is written, and shows the fault of a rank. -/
def State.setRecord (s : State) (ctx slot : Nat) (r : List Word) (rank : List Nat) : State :=
  let t := s.putFault ctx slot r
  t.setXlat { t.xlat with
    origins := ⟨ctx, slot, s.abaom.posts, rank⟩ :: t.xlat.origins.filter fun o => !(o.ctx == ctx && o.slot == slot) }

/-- A fault joins a pending record, whose VA, MT and ACCESS are those of the fault that R467 places first in its cycle. -/
def State.joinFault (s : State) (ctx slot va : Nat) (k : AccKind) (by_ : AccessBy) (engine : Engine) (n : Nat) : State :=
  let r := joinRecord (s.faultSlot ctx slot) by_ engine n
  let rank := faultRank by_ engine
  if s.xlat.origins.any fun o => o.ctx == ctx && o.slot == slot && o.cycle == s.abaom.posts && listBefore rank o.rank then
    let w := (nth r 0 0).toNat
    let w := w - placed (w / 2 ^ 54 % 4) 54 - placed (w / 2 ^ 32 % 2 ^ 16) 32 + placed k.code 54 + placed (s.faultFlags by_) 32
    s.setRecord ctx slot (((r.set 0 (BitVec.ofNat 64 w)).set 1 (BitVec.ofNat 64 va)).set 2 (BitVec.ofNat 64 s.mt)) rank
  else s.putFault ctx slot r

/-- A FAULT_REPLAY of a record has been taken and has still to clear its VALID: no fault joins the record, and its slot goes to no
other (R467, R472, R475). -/
def State.replayTaken (s : State) (ctx slot : Nat) : Bool :=
  (List.range 64).any fun n => (s.mbx n).st == .busy && match (s.mbx n).cmd with
    | some c => c.opcode == 0x0401 && s.namedCtx n (s.arg n 0) == ctx && s.arg n 1 == faultAddress ctx slot
    | none => false

/-- The control processor writes or joins a fault record for so many accesses of one engine, and posts FAULT for a new replayable
one (R467 to R475). -/
def State.recordFault (s : State) (ctx va : Nat) (k : AccKind) (by_ : AccessBy) (engine : Engine) (f : FaultInfo) (n : Nat) :
    State × FaultFate :=
  let slots := List.range 63
  let rank := faultRank by_ engine
  let join := slots.find? fun i =>
    faultPending (s.faultSlot ctx i) && sameEntry (s.faultSlot ctx i) f va && !(s.replayTaken ctx i)
  let free := slots.find? fun i => !(faultPending (s.faultSlot ctx i))
  match f.replay, join, free with
  | true, some i, _ => (s.joinFault ctx i va k by_ engine n, .waits i)
  | true, none, some i =>
    let t := (s.setRecord ctx i (s.newRecord ctx va k by_ engine f true false n) rank).count 20 1
    (t.notify (t.ctxMailboxes ctx) 4 stTranslationFault ctx t.mt (s.faultFlags by_)
      [faultAddress ctx i, va], .waits i)
  | r, _, _ =>
    let old := s.faultSlot ctx 63
    if !(faultPending old) then
      ((s.setRecord ctx 63 (s.newRecord ctx va k by_ engine f false r n) rank).count 20 1, .exception)
    else if sameEntry old f va then (s.joinFault ctx 63 va k by_ engine n, .exception)
    else (s, .exception)

/-- WHERE of a tie fault (R470). -/
def tieWhere (node window reason : Nat) : Nat := placed node 50 + placed window 38 + reason

/-! ### The control processor's own accesses (R178, R446; log 15) -/

/-- A piece of an access: where it lies and how many bytes. -/
structure Piece where
  target : Target
  va : Nat
  size : Nat
deriving DecidableEq, Repr

/-- The outcome of translating a whole range. -/
inductive Range where
  | pieces (l : List Piece)
  | fault (va : Nat) (f : FaultInfo)
  | poison
deriving DecidableEq, Repr

/-- A range translated page by page, 64 KiB at a time, by walks of the control processor. -/
def State.cpRange (s : State) (ctx : Nat) (k : AccKind) : Nat → Nat → Nat → Range
  | 0, _, _ => .pieces []
  | fuel + 1, va, n =>
    if n = 0 then .pieces []
    else
      match s.walk none 192 ctx va with
      | .poison => .poison
      | .fault f => .fault va f
      | .leaf e =>
        match e.refuses k with
        | some f => .fault va f
        | none =>
          let size := min n (e.base + e.span - va)
          match s.cpRange ctx k fuel (va + size) (n - size) with
          | .pieces l => .pieces (⟨e.map va, va, size⟩ :: l)
          | r => r

/-- A range of at most 4 GiB translated by the control processor. -/
def State.cpTranslate (s : State) (ctx : Nat) (k : AccKind) (va n : Nat) : Range :=
  s.cpRange ctx k (n / 65536 + 2) va n

/-! ### The tie table (R477 to R485) -/

/-- The window of a number, closed unless a TIE_SET opened it (R480). -/
def State.tieWindow (s : State) (w : Nat) : Option TieWindow :=
  ((s.xlat.ties.find? fun e => e.1 == w).map (·.2)).filter (·.valid)

/-- Checks 2 and 3 of R484 for an access of `n` bytes from a source node: the NAK reason that refuses it, or the physical
address and window. -/
def State.tieCheck (s : State) (src window offset n : Nat) (k : AccKind) : Nat ⊕ (Nat × TieWindow) :=
  match s.tieWindow window with
  | none => .inl nUnknownWindow
  | some t =>
    if (!t.anyNode && t.node != src) || (k == .write && !t.write) || (k == .atomic && !t.atomic) then .inl nUnknownWindow
    else if t.size < offset + n then .inl nOutOfRange
    else .inr (t.base + offset, t)

/-- The windows of a context close (R483). -/
def State.closeTies (s : State) (ctx : Nat) : State :=
  s.setXlat { s.xlat with ties := s.xlat.ties.filter fun e => e.2.ctx != ctx }

/-- Every translation of a context is dropped (R463). -/
def State.dropTranslations (s : State) (ctx : Nat) : State :=
  s.setXlat { s.xlat with
    l1 := s.xlat.l1.filter (fun x => x.entry.ctx != ctx),
    tlb := s.xlat.tlb.filter (fun e => e.ctx != ctx),
    walkCache := s.xlat.walkCache.filter (fun e => e.ctx != ctx),
    walks := s.xlat.walks.filter fun w => w.ctx != ctx }

end Sys2Proof.Machine
end

