-- ==== Sys2Proof/Machine/Records.lean ====
section
/-!
DEFINITION. Writes of the control processor for a context: completion records, DONE (R174 to R183), collective slots
(R629, R630, R637) and launch records (R626).
-/

namespace Sys2Proof.Machine

/-- How a write of the control processor ends. -/
inductive Stored where
  | done
  | fault (va : Nat) (f : FaultInfo)
  | poison
deriving DecidableEq, Repr

/-- A run of bytes cut into pieces of at most `n` (R581 LENGTH). -/
def chunks (n : Nat) : Nat → List Byte → List (List Byte)
  | 0, _ => []
  | fuel + 1, bs => if bs.isEmpty then [] else bs.take n :: chunks n fuel (bs.drop n)

/-- WRITE frames to a window of a far device, for one run of bytes (R477, R582). -/
def State.tieSend (s : State) (ctx node window offset : Nat) (bytes : List Byte) (op : FlowOp) : Option State :=
  ((chunks 4096 (bytes.length / 4096 + 1) bytes).foldl (fun (a : Option State × Nat) b =>
    (a.1.bind fun t =>
      t.flowSend { t.headTo opWrite node kTie ctx with window, offset := a.2, length := b.length } b op,
     a.2 + b.length)) (some s, offset)).1

/-- The operation of a write, with the address and window of one of its pieces. -/
def FlowOp.at_ (op : FlowOp) (va window : Nat) : FlowOp :=
  match op with
  | .entry w k c _ _ => .entry w k c va window
  | .record w k c _ _ => .record w k c va window
  | o => o

/-- A write of the control processor to one piece (R178, R477 to R479). -/
def State.storePiece (s : State) (ctx : Nat) (p : Piece) (bytes : List Byte) (op : FlowOp) : State × Stored :=
  match p.target with
  | .local_ pa => (s.hubWrite pa bytes, .done)
  | .tie node window offset =>
    if node = s.fab.node ∧ s.fab.epoch ≠ 0 then
      match s.tieCheck node window offset bytes.length .write with
      | .inl r => (s, .fault p.va ⟨.tieRefused, 7, 0, false, tieWhere node window r⟩)
      | .inr (pa, _) => (s.hubWrite pa bytes, .done)
    else
      match s.tieSend ctx node window offset bytes (op.at_ p.va window) with
      | some t => (t, .done)
      | none => (s, .fault p.va ⟨.tieLost, 7, 0, false, tieWhere node window 0⟩)

/-- A write over several pieces, in ascending order, up to the first that fails. -/
def State.storePieces (s : State) (ctx : Nat) (op : FlowOp) : List Piece → List Byte → State × Stored
  | [], _ => (s, .done)
  | p :: l, bytes =>
    match s.storePiece ctx p (bytes.take p.size) op with
    | (t, .done) => t.storePieces ctx op l (bytes.drop p.size)
    | r => r

/-- A write of the control processor at a virtual address of a context: nothing is written unless all of it translates. -/
def State.cpStore (s : State) (ctx va : Nat) (bytes : List Byte) (op : FlowOp) : State × Stored :=
  match s.cpTranslate ctx .write va bytes.length with
  | .fault a f => (s, .fault a f)
  | .poison => (s, .poison)
  | .pieces l => s.storePieces ctx op l bytes

/-- Words as they lie in memory (R13). -/
def wordBytes (ws : List Nat) : List Byte := (ws.map (leBytes 8)).flatten

/-! ### Command lists (R154 to R183) -/

/-- A registration by its watch ID. -/
def State.watch (s : State) (id : Nat) : Option Watch := s.abaom.watches.find? fun w => w.id == id

/-- The pass in progress on a registered list. -/
def State.pass (s : State) (watch : Nat) : Option Pass := s.abaom.passes.find? fun p => p.watch == watch

/-- The state with another pass of the same list. -/
def State.putPass (s : State) (p : Pass) : State :=
  s.setAbaom { s.abaom with passes := s.abaom.passes.map fun q => if q.watch = p.watch then p else q }

/-- The words of the completion record of entry `k` (R179). -/
def recordWords (p : Pass) (k : Nat) (e : Entry) : List Nat :=
  [placed e.status 48 + placed e.kind 32 + e.tag, e.startMt, e.endMt,
   placed e.startFlags 48 + placed e.endFlags 32 + k, e.detail, p.gen] ++ List.replicate 26 0
    ++ (if p.full then (List.range 64).map fun i =>
          (nth e.latchEnd i 0 + 2 ^ 64 - nth e.latch i 0) % 2 ^ 64
        else [])

/-- Where the record of entry `k` lies (R177). -/
def recordAt (p : Pass) (k : Nat) : Nat := p.complBase + k * (if p.full then 768 else 256)

/-- The first failure of a pass, kept (R182; log 16). -/
def firstErr (old : Option (Nat × Nat)) (k status : Nat) : Option (Nat × Nat) :=
  if status = stOk ∨ status = stSkipped then old
  else match old with
    | none => some (k, status)
    | some (j, st) => if k < j then some (k, status) else some (j, st)

/-- The entries of a pass with another entry `k`, and the first failure (R182). -/
def Pass.putEntry (p : Pass) (k : Nat) (e : Entry) : Pass := { p with entries := p.entries.set k e }

/-- The closing write of entry `k`'s record (R178, R181): an entry whose record is written is complete. -/
def State.writeRecord (s : State) (watch k : Nat) : State × Stored :=
  match s.pass watch with
  | none => (s, .done)
  | some p =>
    match p.entries[k]? with
    | none => (s, .done)
    | some e =>
      match s.cpStore p.ctx (recordAt p k) (wordBytes (recordWords p k e)) (.record watch k p.ctx 0 0) with
      | (t, .done) =>
        let p' := { p.putEntry k { e with phase := .recorded, held := false } with firstErr := firstErr p.firstErr k e.status }
        ((t.putPass p').count 22 1, .done)
      | r => r

/-- Records written so far (R154 COMPLETED). -/
def Pass.completed (p : Pass) : Nat := (p.entries.filter fun e => e.phase == .recorded).length

/-- DONE, with COMPLETED, PASS_STATUS, DONE_MT and FIRST_ERR, written to the header's line; the pass is over (R182). -/
def State.writeDone (s : State) (watch completed status first : Nat) : State :=
  match s.pass watch with
  | some p =>
    let h := p.line * 256
    let t := s.hubWrite (h + 24) (wordBytes [placed completed 32 + placed status 16])
    let t := t.hubWrite (h + 40) (wordBytes [t.mt, first])
    let t := t.hubWrite h (wordBytes [placed p.gen 32 + 3])
    t.setAbaom { t.abaom with passes := t.abaom.passes.filter fun q => q.watch != watch }
  | none => s

/-- LIST_DONE: DONE once every record of the pass is written (R182). -/
def State.listDone (s : State) (watch : Nat) : State :=
  match s.pass watch with
  | none => s
  | some p =>
    if p.entries.all fun e => e.phase == .recorded then
      match p.firstErr with
      | none => s.writeDone watch p.completed stOk 0xFFFFFFFF
      | some (k, st) => s.writeDone watch p.completed st k
    else s

/-- The pass is not ended by a record that could not be written, nor by the teardown of its context (R175, R178). -/
def State.passLive (s : State) (p : Pass) : Bool := p.lost.isNone && (s.ctx p.ctx).st == .opened

/-- Writes of a list that no far device has acknowledged: those of an operation that a test picks. -/
def State.writesOut (s : State) (sel : FlowOp → Bool) : Bool :=
  s.fab.sends.any fun f => (f.unacked ++ f.waiting).any fun u => sel u.op

/-- Data writes of entry `k` that no far device has acknowledged (R181). -/
def State.entryWrites (s : State) (watch k : Nat) : Bool :=
  s.writesOut fun o => match o with
    | .entry w j _ _ _ => w == watch && j == k
    | _ => false

/-- Records of a list that no far device has acknowledged (R182). -/
def State.recordsOut (s : State) (watch : Nat) : Bool :=
  s.writesOut fun o => match o with
    | .record w _ _ _ _ => w == watch
    | _ => false

/-- DONE, once every record of the pass is written and visible (R182). -/
def State.settleList (s : State) (watch : Nat) : State := if s.recordsOut watch then s else s.listDone watch

/-- The record of an entry cannot be written: the pass ends before it, with a status (R178). -/
def State.loseRecord (s : State) (watch k status : Nat) : State :=
  match s.pass watch with
  | some p => if p.lost.isSome then s else s.putPass { p with lost := some (k, status) }
  | none => s

/-! ### Collectives (R629 to R637) -/

/-- The collective in flight at a slot of a context. -/
def State.coll (s : State) (ctx slot : Nat) : Option Collective :=
  s.joined.colls.find? fun c => c.ctx == ctx && c.slot == slot

/-- The state with another collective at the same slot. -/
def State.putColl (s : State) (c : Collective) : State :=
  s.setJoined { s.joined with colls := s.joined.colls.map fun d => if d.ctx = c.ctx ∧ d.slot = c.slot then c else d }

/-- The committed launch of a job. -/
def State.launchOf (s : State) (job attempt : Nat) : Option Launch :=
  s.joined.launches.find? fun l => l.job == job && l.attempt == attempt

/-- Nodes of the children of tree entry `own`, in child order (R614). -/
def childNodes (own : Nat) (tree : List TreeEntry) : List Nat :=
  ((tree.drop 1).filter fun e => e.parent == own).map (·.node)

/-- A COLL frame (R635). -/
def State.collTo (s : State) (dst phase job attempt w1 : Nat) (data : List Byte) (op : FlowOp) : Option State :=
  s.flowSend { s.headTo opColl dst kColl 0 with length := 16 + data.length }
    (wordsPayload [placed phase 56 + placed attempt 32 + job, w1] ++ data) op

/-- FAIL to the parent and to the children (R637), but for the node it came from. -/
def State.collFail (s : State) (c : Collective) (status : Nat) (but : Option Nat) : State :=
  match s.launchOf c.job c.attempt with
  | none => s
  | some l =>
    ((l.from_.toList ++ childNodes l.own l.tree).filter fun n => but != some n).foldl (fun t n =>
      (t.collTo n 3 c.job c.attempt (placed c.seq 32 + placed status 16) [] .none).getD t) s

/-- The slot's STATUS, EFLAGS and DONE_MT, and then DONE (R629, R630); the collective is over. -/
def State.collDone (s : State) (c : Collective) (status eflags : Nat) : State :=
  let t := s.hubWrite (c.line * 256 + 48) (wordBytes [placed status 48 + eflags, s.mt])
  let t := t.hubWrite (c.line * 256) (wordBytes [placed c.gen 32 + 3])
  t.setJoined { t.joined with colls := t.joined.colls.filter fun d => !(d.ctx == c.ctx && d.slot == c.slot) }

/-- A collective ends on this device with a status other than OK, and FAIL goes to its neighbours in the tree (R637). -/
def State.collEnd (s : State) (c : Collective) (status : Nat) : State := (s.collFail c status none).collDone c status 0

/-! ### Launch records (R626) -/

/-- The launch record, words 1 to 3 and then word 0 (R626); NEARMISS where the COMMIT met the expiry (R128). -/
def State.launchRecord (s : State) (o : Offer) (state stake : Nat) (near : Bool) : State :=
  match s.boundCtx o.desc.mailbox with
  | none => s
  | some c =>
    let flags := s.stampFlags 1 (decide (stake ≠ 0) && decide (stake ≤ s.mt)) near false
    let bytes := wordBytes [placed state 62 + placed o.attempt 32 + o.job, stake, s.mt, flags]
    (s.cpStore c o.desc.record bytes .none).1

/-! ### Monuments (R651, R652, R660, R671) -/

/-- Its value in word 16 (R660). -/
def MonState.code : MonState → Nat
  | .waiting => 0
  | .capturing => 1
  | .draining => 2
  | .sealed => 3
  | .failed => 4
  | .reading => 5
  | .restored => 6

/-- The states in which nothing more happens (R660). -/
def MonState.terminal : MonState → Bool
  | .sealed => true
  | .failed => true
  | .restored => true
  | _ => false

/-- A monument or restore by its ID. -/
def State.monument (s : State) (id : Nat) : Option Monument := s.monu.items.find? fun m => m.id == id

/-- The state with another monument of the same ID. -/
def State.putMonument (s : State) (m : Monument) : State :=
  s.setMonu { s.monu with items := s.monu.items.map fun x => if x.id = m.id then m else x }

/-- Bytes before the first region's data: the header, the entries, and those rounded up (R655). -/
def Monument.headBytes (m : Monument) : Nat := 256 + 32 * m.regions.length + 64 * m.streams.length
def Monument.dataAt (m : Monument) : Nat := roundUp m.headBytes 256

/-- IMAGE_BYTES (R655). -/
def Monument.imageBytes (m : Monument) : Nat := m.dataAt + (m.regions.map (·.len)).sum

/-- Word 16 of the manifest, and RES0 of MONUMENT_QUERY but for bit 47 (R651, R666). -/
def Monument.stateWord (m : Monument) : Nat :=
  placed m.status 48 + placed m.sealedLayers.toNat 40 + placed m.failedLayers.toNat 32 + m.st.code

/-- Words 17 to 21 of the manifest (R651). -/
def Monument.stampWords (m : Monument) : List Nat :=
  [m.startMt, m.capturedMt, m.endMt, m.imageBytes, placed m.startFlags 48 + placed m.capturedFlags 32 + placed m.endFlags 16]

/-- A write to the manifest, or a region, of a monument or restore (R134, R652). -/
def State.monuStore (s : State) (m : Monument) (addr : Nat) (bytes : List Byte) : State × Stored :=
  match m.ctx with
  | some c => s.cpStore c addr bytes .none
  | none => if s.inHbm addr bytes.length then (s.hubWrite addr bytes, .done) else (s, .poison)

/-- STATE changes: words 17 to 21 and then word 16 of the manifest are written (R652). -/
def State.publish (s : State) (m : Monument) : State :=
  let m := { m with endMt := s.mt, endFlags := s.hubFlags false }
  let t := ((s.putMonument m).monuStore m (m.manifest + 136) (wordBytes m.stampWords)).1
  (t.monuStore m (m.manifest + 128) (wordBytes [m.stateWord])).1

/-- A fill control message (R671). -/
def State.fillMessage (s : State) (dst sub id : Nat) (ws : List Nat) (op : FlowOp) : State :=
  s.ctrl dst ((placed 0x30 48 + placed sub 40 + id) :: ws) op

/-- RELEASE of a claim, when the restore is over (R672). -/
def State.releaseClaim (s : State) (m : Monument) : State :=
  match m.claim with
  | some (node, w, off) => s.fillMessage node 3 m.id [w, off] .none
  | none => s

/-- A monument or restore reaches a terminal state with a status (R652, R660, R672). -/
def State.finishMonument (s : State) (m : Monument) (st : MonState) (status : Nat) : State :=
  let t := s.publish { m with st, status, alloc := none, broken := none, buffer := [] }
  let t := t.setMonu { t.monu with reads := t.monu.reads.filter fun r => r.id != m.id }
  t.releaseClaim m

/-- A monument or restore that is not over ends in FAILED (R664, R665). -/
def State.endMonument (s : State) (id status : Nat) : State :=
  match s.monument id with
  | some m => if m.st.terminal then s else s.finishMonument m .failed status
  | none => s

end Sys2Proof.Machine
end

