-- ==== Sys2Proof/Machine/Stakes.lean ====
section
/-!
DEFINITION. Allocation of comparators and the firmware timer queue (R102 to R115, R856).
-/

namespace Sys2Proof.Machine

/-- Comparators at a location: 24 on a base die, 64 in the hub, of which 0 and 1 are the firmware's (R102, R106). -/
def comparatorsAt (loc : Nat) : List Nat :=
  if loc = 8 then (List.range 62).map (· + 2) else List.range 24

/-- The number that an allocation holds at a location. -/
def Alloc.at (a : Alloc) (loc : Nat) : Option Nat := (a.places.find? fun p => p.1 == loc).map (·.2)

/-- Some comparator is armed; the timer queue's own two never count (R82, R106). -/
def State.anyArmed (s : State) : Bool := s.stakes.allocs.any fun a => !a.armed.isEmpty

/-- The holder word (R115). -/
def holderWord (cls : Nat) (owner : Owner) (loc idx : Nat) : Nat :=
  placed cls 20
    + (match owner with | .context c => placed 1 19 + placed c 6 | _ => 0)
    + placed loc 12 + idx

/-- Holder `a` goes before holder `b` in the order of R110 and R112: lower rank, later stake, lower number. -/
def holderBefore (loc : Nat) (a b : Alloc) : Bool :=
  if a.cls ≠ b.cls then decide (b.cls < a.cls)
  else if a.stake ≠ b.stake then decide (b.stake < a.stake)
  else decide ((a.at loc).getD 0 < (b.at loc).getD 0)

/-- The first of a list of holders in that order. -/
def firstHolder (loc : Nat) : List Alloc → Option Alloc
  | [] => none
  | a :: l =>
    match firstHolder loc l with
    | none => some a
    | some b => if holderBefore loc a b then some a else some b

/-- How one location serves a request (R110, R112). -/
inductive Served where
  | free (idx : Nat)
  | displace (idx : Nat) (holder : Alloc)
  | refused (word : Nat)
deriving DecidableEq, Repr

/-- The first case of R110 that applies at a location. -/
def State.serveAt (s : State) (loc cls : Nat) : Served :=
  let here := s.stakes.allocs.filter fun a => (a.at loc).isSome
  match (comparatorsAt loc).find? fun i => !(here.any fun a => a.at loc == some i) with
  | some i => .free i
  | none =>
    match firstHolder loc (here.filter fun a => decide (cls < a.cls) && decide (s.mt + 16000 ≤ a.stake)) with
    | some a => .displace ((a.at loc).getD 0) a
    | none =>
      match firstHolder loc here with
      | some a => .refused (holderWord a.cls a.owner loc ((a.at loc).getD 0))
      | none => .refused 0

/-- The locations of a request: one, or the hub and every live base die (R105). -/
def State.locations (s : State) (loc : Nat) : List Nat :=
  if loc = 0xE then (List.range 8).filter (fun d => s.ids.baseLive.getLsbD d) ++ [8] else [loc]

/-- Mailbox that hears of an allocation's owner (R151, R856). -/
def State.ownerMailbox (s : State) : Owner → Option Nat
  | .mailbox n => some n
  | .context c => if (s.ctx c).mbx = 0 then none else some (s.ctx c).mbx
  | .device => none

/-- An event that the firmware timer queue takes over (R106); one set at or after its time is late. -/
def State.enqueueTimer (s : State) (due : Nat) (e : StakeEvent) : State :=
  s.setStakes { s.stakes with timers := s.stakes.timers ++ [⟨due, e, decide (due ≤ s.mt)⟩] }

/-- An allocation is gone. -/
def State.dropAlloc (s : State) (id : Nat) : State :=
  s.setStakes { s.stakes with allocs := s.stakes.allocs.filter fun a => a.id != id }

/-- The owner of an allocation hears that it has ended, with the holder word of what took its place (R111, R151). -/
def State.tellDisplaced (s : State) (a : Alloc) (word : Nat) : State :=
  match s.ownerMailbox a.owner with
  | some n => s.notify [n] 2 stResourceBusy (match a.owner with | .context c => c | _ => 0) s.mt (s.hubFlags false) [a.id, word]
  | none => s

/-- The comparators of an allocation are gone, and its event with them: a monument or restore fails, a trigger is disarmed
(R822), and an event that needs no comparator goes over to the timer queue (R606, R645, R736; log 14). -/
def State.endAlloc (s : State) (a : Alloc) : State :=
  let s := s.dropAlloc a.id
  match a.event with
  | .notice => s
  | .traceTrigger =>
    (s.setObs { s.obs with trig := { s.obs.trig with armed := false, lost := true, alloc := none } }).setHot 0x500180 61
  | .capture id => s.endMonument id stResourceBusy
  | .restore id => s.endMonument id stResourceBusy
  | e => if a.armed.isEmpty then s else s.enqueueTimer a.stake e

/-- A displaced allocation ends, and its owner hears of it (R111). -/
def State.displace (s : State) (a : Alloc) (word : Nat) : State := (s.endAlloc a).tellDisplaced a word

/-- The outcome of a request for comparators. -/
inductive Granted where
  | granted (id : Nat)
  | busy (word : Nat)
  | noResource
deriving DecidableEq, Repr

/-- A refusal among the locations served, the lowest location first (R113). -/
def firstRefusal : List Served → Option Nat
  | [] => none
  | .refused w :: _ => some w
  | _ :: l => firstRefusal l

/-- One request for comparators, served (R110 to R114). -/
def State.grant (s : State) (loc cls stake : Nat) (owner : Owner) (event : StakeEvent) : State × Granted :=
  if loc < 8 ∧ !(s.ids.baseLive.getLsbD loc) then (s, .noResource)
  else
    let locs := s.locations loc
    let served := locs.map fun l => s.serveAt l cls
    match firstRefusal served with
    | some w => (s, .busy w)
    | none =>
      let id := s.stakes.nextId
      let places := (locs.zip served).map fun p =>
        (p.1, match p.2 with | .free i => i | .displace i _ => i | .refused _ => 0)
      let t := (locs.zip served).foldl (fun (t : State) p =>
        match p.2 with
        | .displace i a =>
          if t.stakes.allocs.any (fun b => b.id == a.id) then t.displace a (holderWord cls owner p.1 i) else t
        | _ => t) s
      (t.setStakes { t.stakes with
          allocs := t.stakes.allocs ++ [⟨id, places, cls, stake, owner, event, places, decide (stake ≤ s.mt)⟩],
          nextId := (id + 1) % 2 ^ 64 }, .granted id)

/-- The owner of an allocation made from mailbox `n` (R856). -/
def State.mailboxOwner (s : State) (n : Nat) : Owner :=
  match s.boundCtx n with
  | some c => .context c
  | none => .mailbox n

/-- One request of a pass (R109 to R114). -/
def State.serveRequest (s : State) (r : AllocReq) : State :=
  match s.grant r.location r.cls r.stake (s.mailboxOwner r.mbx) .notice with
  | (t, .granted id) => t.complete r.mbx stOk [id]
  | (t, .busy w) => t.complete r.mbx stResourceBusy [0, w]
  | (t, .noResource) => t.complete r.mbx stNoResource []

/-- Requests in order of rank, then of arrival (R109). -/
def sortRequests (l : List AllocReq) : List AllocReq :=
  (List.range 4).flatMap fun c => l.filter fun r => r.cls == c

/-- The pending requests of some classes are served in their order (R109). -/
def State.servePending (s : State) (p : AllocReq → Bool) : State :=
  (sortRequests (s.stakes.reqs.filter p)).foldl State.serveRequest
    (s.setStakes { s.stakes with reqs := s.stakes.reqs.filter fun r => !p r })

/-- A command that stakes internally asks for comparators: the pass serves the requests that wait in order of rank, and its own
after those of its rank that came before it (R107, R109; log 33). -/
def State.allocate (s : State) (loc cls stake : Nat) (owner : Owner) (event : StakeEvent) : State × Granted :=
  let r := (s.servePending fun q => decide (q.cls ≤ cls)).grant loc cls stake owner event
  (r.1.servePending fun _ => true, r.2)

/-- A stake of the device's own: on a comparator where one is granted, else in the timer queue (R606, R645, R736). -/
def State.stakeOrTimer (s : State) (loc cls stake : Nat) (owner : Owner) (event : StakeEvent) : State × Option Nat :=
  match s.allocate loc cls stake owner event with
  | (t, .granted id) => (t, some id)
  | (t, _) => (t.enqueueTimer stake event, none)

/-- Every allocation and timer entry of an event is gone. -/
def State.cancelEvent (s : State) (e : StakeEvent) : State :=
  s.setStakes { s.stakes with
    allocs := s.stakes.allocs.filter fun a => a.event != e,
    timers := s.stakes.timers.filter fun t => t.event != e }

/-- STAKE_ALLOC (R108 to R114): the request waits for the next pass. -/
def State.requestStake (s : State) (n : Nat) : State :=
  let cls := if n = 0 then s.arg n 0 / 256 % 16 else 3
  (s.setStakes { s.stakes with
    reqs := s.stakes.reqs ++ [⟨n, s.arg n 0 % 16, cls, s.arg n 1, s.stakes.reqs.length⟩] }).begin_ n

/-- STAKE_ALLOC. -/
def execStakeAlloc (mbx : Nat) (s : State) : Host.Outcome State Fault Refusal :=
  runCommand mbx 0x0501 (fun s => s.requestStake mbx) s

/-- STAKE_ALLOC_PASS. -/
def execStakeAllocPass (s : State) : Host.Outcome State Fault Refusal :=
  onEvent (!s.stakes.reqs.isEmpty) (fun s => s.servePending fun _ => true) s

/-- STAKE_FREE (R856): mailbox 0 may free any allocation, and another mailbox its context's own. -/
def State.freeStake (s : State) (n : Nat) : State :=
  let id := s.arg n 0
  match s.stakes.allocs.find? fun a => a.id == id && (n == 0 || (a.event == .notice && a.owner == s.mailboxOwner n)) with
  | some a => (s.endAlloc a).complete n stOk []
  | none => s.complete n stBadArg []

/-- STAKE_FREE. -/
def execStakeFree (mbx : Nat) (s : State) : Host.Outcome State Fault Refusal :=
  runCommand mbx 0x0502 (fun s => s.freeStake mbx) s

end Sys2Proof.Machine
end

