-- ==== Sys2Proof/Machine/Teardown.lean ====
section
/-!
DEFINITION. The teardown of a context (R685 to R688), the taking of an exception (R303 to R311), entry into FENCED (R609),
the end of operations whose flow ended (R465, R479, R590, R606), and the host-loss reset (R710).
-/

namespace Sys2Proof.Machine

/-- The blocks of a context end: groups discarded, block memory and accumulator pairs released, copies stopped (R686 step 2). -/
def State.endBlocks (s : State) (ctx : Nat) : State :=
  let mine := (s.compute.blocks.filter fun b => b.ctx == ctx).map (·.id)
  let s := s.setCompute { s.compute with
    blocks := s.compute.blocks.filter (fun b => b.ctx != ctx),
    pairs := s.compute.pairs.filter fun p => !(mine.contains p.blk) }
  s.setXlat { s.xlat with
    tieOps := s.xlat.tieOps.filter (fun o => o.ctx != ctx), waits := s.xlat.waits.filter fun w => w.ctx != ctx }

/-- Monuments and restores end with a status: those that are not over and meet a condition (R665, R679). -/
def State.endMonuments (s : State) (p : Monument → Bool) (status : Nat) : State :=
  (s.monu.items.filter fun m => p m && !m.st.terminal).foldl
    (fun t m => ((t.endMonument m.id status).cancelEvent (.capture m.id)).cancelEvent (.restore m.id)) s

/-- Launch offers held for a context go, without a record (R686 step 3). -/
def State.endOffers (s : State) (ctx : Nat) : State :=
  let mine := s.joined.offers.filter fun o => s.boundCtx o.desc.mailbox == some ctx
  let s := mine.foldl (fun t o => (t.cancelEvent (.offerExpiry o.job)).cancelEvent (.abortStake o.job)) s
  s.setJoined { s.joined with
    offers := s.joined.offers.filter (fun o => !(mine.contains o)),
    launches := s.joined.launches.filter fun l => l.ctx != ctx }

/-- Programmable counters that a context holds are freed (R807). -/
def State.freeCounters (s : State) (ctx : Nat) : State :=
  s.setObs { s.obs with
    sels := s.obs.sels.map fun c => if c.valid && !c.fromK && c.owner == ctx then { c with valid := false } else c }

/-- Releases of step 3 of a teardown (R686); a monument's status is CTX_TORN_DOWN, and in FENCED EPOCH_FENCED (R665, R679). -/
def State.releaseOf (s : State) (ctx cause : Nat) : State :=
  let colls := s.joined.colls.filter fun c => c.ctx == ctx
  let s := colls.foldl (fun t c => t.collEnd c stCtxTornDown) s
  let s := s.setStakes { s.stakes with allocs := s.stakes.allocs.filter fun a => a.owner != .context ctx }
  ((((s.closeTies ctx).endMonuments (fun m => m.ctx == some ctx)
    (if cause = stEpochFenced then stEpochFenced else stCtxTornDown)).endOffers ctx).freeCounters ctx)

/-- The cause that a teardown takes: the first to reach the control processor, and of those of one cycle the one with the lowest
status code (R685). -/
def State.firstCause (s : State) (c : Context) (cause : Nat) : Nat :=
  match c.exc with
  | some x => if x.cycle = s.abaom.posts then min x.cause cause else x.cause
  | none => cause

/-- A context is torn down with a cause (R685, R686 steps 1 to 3): its groups are discarded and what it holds is released; its
records and DONE, the end of its translations and the notice follow at the next ticks (`State.endContext`). A cause that comes in the
same cycle counts by its code, and any other that comes later changes nothing. -/
def State.teardown (s : State) (ctx cause : Nat) : State :=
  let c := s.ctx ctx
  match c.st with
  | .closed => s
  | .tornDown =>
    if c.ending && c.tearCycle == s.abaom.posts && decide (cause < c.cause) then s.putCtx ctx { c with cause } else s
  | .opened =>
    let first := s.firstCause c cause
    let s := (s.putCtx ctx { c with st := .tornDown, cause := first, tearCycle := s.abaom.posts, ending := true }).count 21 1
    let s := (s.endBlocks ctx).releaseOf ctx first
    s.setAbaom { s.abaom with watches := s.abaom.watches.filter fun w => w.ctx != ctx }

/-! ### Exceptions (R303 to R311) -/

/-- The exceptions (R303). -/
inductive Exc where
  | illegal
  | callDepth
  | trap
  | operand
  | align
  | blockRange
  | translation
deriving DecidableEq, Repr

/-- Its code (R303). -/
def Exc.code : Exc → Nat
  | .illegal => 1
  | .callDepth => 2
  | .trap => 3
  | .operand => 4
  | .align => 5
  | .blockRange => 6
  | .translation => 7

/-- Its cause status (R303). -/
def Exc.status : Exc → Nat
  | .illegal => stBadOpcode
  | .callDepth => stBadState
  | .trap => stBadState
  | .operand => stBadArg
  | .align => stBadArg
  | .blockRange => stBadArg
  | .translation => stTranslationFault

/-- The exception record (R309). -/
def State.excRecord (s : State) (ctx : Nat) (x : Exc) (e : ExcSite) : List Nat :=
  [placed x.code 56 + placed (s.plumbFlags (e.cluster / 24) false false) 16 + ctx, s.mt, e.pc, e.insn0, e.insn1,
   placed e.lanes 32 + e.active, placed e.cluster 56 + placed e.group 48 + placed e.issuer 40 + e.block, e.info,
   placed e.tag 32 + e.entry]

/-- A further exception of a context that has one recorded raises MORE, saturating, in the record too once that is written (R309,
R310, R468). -/
def State.moreExceptions (s : State) (ctx : Nat) : State :=
  let c := s.ctx ctx
  if !c.excTaken then s
  else
    let more := min (c.more + 1) 0xFFFF
    let s := s.putCtx ctx { c with more }
    match c.excRecord with
    | some pa => s.hubWrite (pa + 4) (leBytes 2 more)
    | none =>
      match c.exc with
      | some x =>
        if x.ptr ≠ 0 ∧ x.phase = .recorded ∧ c.st = .opened then (s.cpStore ctx (x.ptr + 4) (leBytes 2 more) (.excRecord ctx)).1 else s
      | none => s

/-- An exception reaches the control processor: a context has one recorded, the first, and of those of one cycle the one that R310
places first; every other only counts (R310, R468, R685). -/
def State.capture_ (s : State) (ctx : Nat) (x : PendingExc) : State :=
  let c := s.ctx ctx
  match c.st, c.exc with
  | .opened, none => s.putCtx ctx { c with excTaken := true, exc := some x }
  | .opened, some y =>
    if y.cycle = x.cycle then
      let both := { (if y.phase = .captured ∧ listBefore x.rank y.rank then x else y) with cause := min x.cause y.cause }
      (s.putCtx ctx { c with exc := some both }).moreExceptions ctx
    else s.moreExceptions ctx
  | _, _ => s.moreExceptions ctx

/-- The model's name of a tie write. -/
def tieName : FlowOp → Option Nat
  | .tieWrite id _ _ _ _ _ _ _ _ => some id
  | _ => none

/-- Tie writes of some blocks that no far device has acknowledged, by the model's names for them. -/
def State.tieWritesIn (s : State) (sel : Nat → Bool) : List Nat :=
  s.fab.sends.flatMap fun f => (f.unacked ++ f.waiting).filterMap fun u =>
    match u.op with
    | .tieWrite id _ _ _ b _ _ _ _ => if sel b then some id else none
    | _ => none

/-- The group of a block stops issuing (R307 step 1). -/
def State.stopGroup (s : State) (blk grp : Nat) : State :=
  s.setCompute { s.compute with
    blocks := s.compute.blocks.map fun b =>
      if b.id = blk then { b with groups := b.groups.modify grp fun g => { g with stopped := true } } else b }

/-- An exception is taken: its group stops and other groups run on; the control processor captures it, and writes its record, then
the DISPATCH record, and tears the context down at the next ticks (R307 to R311; `State.goOn`). -/
def State.takeException (s : State) (b : Block) (x : Exc) (e : ExcSite) : State :=
  let mine := (s.compute.blocks.filter fun c => c.watch == b.watch && c.entry == b.entry).map (·.id)
  (s.stopGroup b.id e.group).capture_ b.ctx {
    status := x.status, cause := x.status, cycle := s.abaom.posts, rank := [e.cluster + 1, e.block, e.group, x.code],
    words := s.excRecord b.ctx x e, ptr := b.excPtr, entry := (b.watch, b.entry),
    detail := if x == Exc.translation then e.info else 0, waits := s.tieWritesIn mine.contains, phase := .captured }

/-- The site of an access that has already retired (R465): PC, words, LANES and ACTIVE read zero. -/
def retiredSite (b : Block) (g info : Nat) : ExcSite :=
  { pc := 0, insn0 := 0, insn1 := 0, lanes := 0, active := 0, cluster := b.cluster, group := g,
    issuer := ((b.groups[g]?).map (·.issuer)).getD 0, block := b.index, info, tag := b.tag, entry := b.entry }

/-- A block by the model's name for it. -/
def State.block (s : State) (id : Nat) : Option Block := s.compute.blocks.find? fun b => b.id == id

/-- The state with another block of the same name. -/
def State.putBlock (s : State) (b : Block) : State :=
  s.setCompute { s.compute with blocks := s.compute.blocks.map fun c => if c.id = b.id then b else c }

/-! ### The end of operations of a flow -/

/-- Why a flow's operations end: the fault kind and NAK reason for a tie access, the status for any other (R597). -/
structure FlowEnd where
  kind : FaultKind
  reason : Nat
  status : Nat
deriving DecidableEq, Repr

/-- DEST_LOST (R479, R590). -/
def endLost : FlowEnd := ⟨.tieLost, 0, stDestLost⟩

/-- EPOCH_FENCED by a bind (R606). -/
def endFenced : FlowEnd := ⟨.tieFenced, 0, stEpochFenced⟩

/-- The status that a refusal gives (R597). -/
def nakStatus (reason : Nat) : Nat :=
  match reason with
  | 0x02 => stBadOpcode
  | 0x03 => stEpochFenced
  | 0x08 => stHwFault
  | 0x09 => stDestLost
  | _ => stBadArg

/-- A refusal (R485, R597). -/
def endRefused (reason : Nat) : FlowEnd :=
  if reason = nDestLost then endLost else ⟨.tieRefused, reason, nakStatus reason⟩

/-- A tie access of a group fails: its fault is recorded, and its context torn down; in one torn down already it only counts (R464,
R465, R468). -/
def State.tieFault (s : State) (ctx va node window : Nat) (k : AccKind) (blk grp cluster : Nat) (engine : Engine)
    (e : FlowEnd) (site : Option ExcSite) : State :=
  if (s.ctx ctx).st != .opened then s.moreExceptions ctx
  else
    let s := (s.recordFault ctx va k (.cluster cluster) engine ⟨e.kind, 7, 0, false, tieWhere node window e.reason⟩ 1).1
    match s.block blk with
    | some b => s.takeException b .translation (site.getD (retiredSite b grp va))
    | none => s.teardown ctx stTranslationFault

/-- An entry starts: START_MT with its flags, and the counters of that moment (R170, R180). -/
def State.beginEntry (s : State) (e : Entry) (at_ : Nat) (late : Bool) : Entry :=
  { e with begun := true, startMt := at_, startFlags := s.hubFlags late, latch := s.obs.aon }

/-- An entry that ends has START_MT and its counters: the present ones where it runs and has not begun, and START_MT 0 with DELTA 0
where it never started, which the spec gives for SKIPPED alone (R179; DESIGN CHOICE, log 136). -/
def State.begunEntry (s : State) (e : Entry) : Entry :=
  if e.begun then e else if e.phase == .running then s.beginEntry e s.mt false else { e with latch := s.obs.aon }

/-- An entry of a pass ends with a status: its record follows by ENTRY_COMPLETE. -/
def State.endEntry (s : State) (watch k status detail : Nat) : State :=
  match s.pass watch with
  | none => s
  | some p =>
    match p.entries[k]? with
    | none => s
    | some e =>
      if e.phase == .recorded || e.phase == .ended then s
      else
        s.putPass (p.putEntry k { s.begunEntry e with
          phase := .ended, status, detail, endMt := s.mt, endFlags := s.hubFlags false, latchEnd := s.obs.aon })

/-- A non-replayable fault of the control processor on an entry, or of a data write of its, even one that ended well: the entry ends
with it, and its record and the teardown of the context follow as for any exception (R307 steps 3 and 4, R465). -/
def State.entryFault (s : State) (watch k ctx va : Nat) : State :=
  let s := s.capture_ ctx {
    status := stTranslationFault, cause := stTranslationFault, cycle := s.abaom.posts, rank := [0], words := [], ptr := 0,
    entry := (watch, k), detail := va, waits := [], phase := .captured }
  match s.pass watch with
  | none => s
  | some p =>
    match p.entries[k]? with
    | none => s
    | some e =>
      if e.phase == .recorded then s
      else
        (s.putPass (p.putEntry k { e with phase := if e.phase == .ended then .running else e.phase, held := false })).endEntry
          watch k stTranslationFault va

/-- A tie read or atomic fails (R464, R465); a read for a capture ends its monument alone (R664). -/
def State.tieReadFault (s : State) (o : TieOp) (e : FlowEnd) : State :=
  if (s.ctx o.ctx).st != .opened then s.moreExceptions o.ctx
  else if let .monument id := o.who then s.endMonument id stTranslationFault
  else
    let s := (s.recordFault o.ctx o.va o.kind o.by_ o.engine ⟨e.kind, 7, 0, false, tieWhere o.node o.window e.reason⟩ 1).1
    let fail := fun (blk grp : Nat) =>
      match s.block blk with
      | some b => s.takeException b .translation (o.site.getD (retiredSite b grp o.va))
      | none => s.teardown o.ctx stTranslationFault
    match o.who with
    | .lane r _ => fail r.blk r.grp
    | .copy blk c _ =>
      fail blk (((s.block blk).bind fun b => b.copies.find? fun x => x.id == c).map (·.group) |>.getD 0)
    | .engine blk grp _ _ => fail blk grp
    | .entry watch k _ => s.entryFault watch k o.ctx o.va
    | .coll ctx _ => s.teardown ctx stTranslationFault
    | .monument id => s.endMonument id stTranslationFault

/-- A launch offer's negative acknowledgement: the first one goes upward, or ends LAUNCH_OFFER at the root (R620, R622). -/
def State.negativeAck (s : State) (job status node : Nat) : State :=
  match s.joined.offers.find? fun o => o.job == job with
  | none => s
  | some o =>
    if o.neg.isSome ∨ o.acked then s
    else
      let o' := { o with neg := some ⟨status, node⟩ }
      let s := s.setJoined { s.joined with offers := s.joined.offers.map fun q => if q.job = job then o' else q }
      match o.from_, o.mbx with
      | some up, _ =>
        s.ctrl up [placed 0x11 48 + placed o.attempt 32 + o.job, placed status 48 + placed 1 47 + placed node 32] .control
      | none, some n =>
        let bits := ((o.acks.map (·.1)).map (2 ^ ·)).sum
        let t := s.setJoined { s.joined with offers := s.joined.offers.map fun q => if q.job = job then { o' with mbx := none } else q }
        t.complete n status [bits, 2 ^ 63 + node]
      | none, none => s

/-- COMMIT or ABORT goes past a lost child to that child's own children (R624). -/
def grandChildren (tree : List TreeEntry) (own node : Nat) : List Nat :=
  match (tree.zipIdx.find? fun p => p.1.node == node) with
  | some (_, i) => (tree.filter fun e => e.parent == own + i).map (·.node)
  | none => []

/-- A write or read of a monument fails: a restore ends, and a monument's layer waits for its failure to be handled (R664). -/
def State.breakMonument (s : State) (id : Nat) (layer : Option Nat) (status : Nat) : State :=
  match s.monument id with
  | none => s
  | some m =>
    if m.st.terminal then s
    else if m.isRestore then s.endMonument id status
    else s.putMonument { m with broken := m.broken <|> some (layer.getD m.layer, status) }

/-- The next claim in line is granted (R672). -/
def State.nextClaim (s : State) (f : Fill) : State :=
  match f.queue with
  | [] => s.setMonu { s.monu with fills := s.monu.fills.filter fun g => !(g.window == f.window && g.offset == f.offset) }
  | c :: rest =>
    let t := s.setMonu { s.monu with
      fills := s.monu.fills.map fun g =>
        if g.window = f.window ∧ g.offset = f.offset then { f with holder := some c, queue := rest } else g }
    t.fillMessage c.1 2 c.2 [f.window, f.offset] .none

/-- The grants and claims of some nodes end (R672). -/
def State.dropClaims (s : State) (sel : Nat → Bool) : State :=
  s.monu.fills.foldl (fun (t : State) f =>
    let f' := { f with queue := f.queue.filter fun c => !(sel c.1) }
    match f.holder with
    | some c =>
      if sel c.1 then t.nextClaim f'
      else t.setMonu { t.monu with
        fills := t.monu.fills.map fun g => if g.window = f.window ∧ g.offset = f.offset then f' else g }
    | none => t) s

/-- A write of the control processor through a tie fails: its fault is recorded (R464, R465, R470). -/
def State.cpTieFault (s : State) (ctx va node window : Nat) (e : FlowEnd) : State :=
  (s.recordFault ctx va .write .control .copy ⟨e.kind, 7, 0, false, tieWhere node window e.reason⟩ 1).1

/-- The record of an entry did not reach its place after all (R178). -/
def State.unrecord (s : State) (watch k : Nat) : State :=
  match s.pass watch with
  | some p =>
    match p.entries[k]? with
    | some e => if e.phase == .recorded then s.putPass (p.putEntry k { e with phase := .ended }) else s
    | none => s
  | none => s

/-- An ATTEST waits for its report to be acknowledged (R145). -/
def State.waitsReport (s : State) (n : Nat) : Bool :=
  (s.mbx n).st == .busy && match (s.mbx n).cmd with
    | some c => c.opcode == 0x0B00 && c.begun
    | none => false

/-- What an operation's failure means to whoever waits for it. -/
def State.endOp (s : State) (node : Nat) (op : FlowOp) (e : FlowEnd) : State :=
  match op with
  | .none => s
  | .tieWrite _ ctx va cluster blk grp engine window kind =>
    s.tieFault ctx va node window kind blk grp cluster engine e none
  | .tieRead id =>
    match s.xlat.tieOps.find? fun o => o.id == id with
    | none => s
    | some o =>
      (s.setXlat { s.xlat with tieOps := s.xlat.tieOps.filter fun q => q.id != id }).tieReadFault o e
  | .entry watch k ctx va window =>
    if (s.ctx ctx).st != .opened then s.moreExceptions ctx
    else (s.cpTieFault ctx va node window e).entryFault watch k ctx va
  | .record watch k ctx va window =>
    if (s.ctx ctx).st != .opened then (s.unrecord watch k).loseRecord watch k stTranslationFault
    else (((s.cpTieFault ctx va node window e).unrecord watch k).loseRecord watch k stTranslationFault).teardown ctx stTranslationFault
  | .excRecord _ => s
  | .report n => if s.waitsReport n then s.complete n stBadArg [] else s
  | .launch job n false => s.negativeAck job e.status n
  | .launch job n true =>
    match s.joined.offers.find? fun o => o.job == job && o.abort.isSome with
    | some o =>
      (grandChildren o.tree o.own n).foldl (fun t c =>
        t.ctrl c [placed 0x13 48 + placed o.attempt 32 + job, o.abort.getD 0] (.launch job c true)) s
    | none =>
      match s.joined.launches.find? fun l => l.job == job with
      | some l =>
        (grandChildren l.tree l.own n).foldl (fun t c =>
          t.ctrl c [placed 0x12 48 + placed l.attempt 32 + job, l.stake] (.launch job c true)) s
      | none => s
  | .coll ctx slot =>
    match s.coll ctx slot with
    | some c => s.collEnd c e.status
    | none => s
  | .monument id => s.breakMonument id none e.status
  | .bulkRead n =>
    match s.monu.reads.find? fun r => r.name == n with
    | some r =>
      (s.setMonu { s.monu with reads := s.monu.reads.filter fun q => q.name != n }).breakMonument r.id
        ((s.monument r.id).bind (·.source)) e.status
    | none => s
  | .control => s

/-- Tie accesses still outstanding, by the model's names for them (R462). -/
def State.outstanding (s : State) : List Nat :=
  (s.xlat.tieOps.filter fun o => o.answer.isNone).map (·.id) ++ s.fab.sends.flatMap fun f => (f.unacked ++ f.waiting).filterMap fun u => tieName u.op

/-- TLB_INVALIDATE commands whose accesses have all completed or failed end with OK (R462, R866). -/
def State.settleInvs (s : State) : State :=
  let live := s.outstanding
  let ends := s.xlat.invs.filter fun i => !(i.tags.any live.contains)
  let t := s.setXlat { s.xlat with
    invs := s.xlat.invs.filter (fun i => i.tags.any live.contains),
    overdue := s.xlat.overdue.filter fun o => live.contains o.2 }
  ends.foldl (fun t i => t.complete i.mbx stOk []) t

/-- Unanswered tie reads and atomics at a node end. -/
def State.endTies (s : State) (node : Nat) (e : FlowEnd) : State :=
  (s.xlat.tieOps.filter fun o => o.node == node && o.answer.isNone).foldl (fun t o => t.endOp node (.tieRead o.id) e) s

/-- The operations of dropped flows end. -/
def State.endOps (s : State) (ops : List (Nat × FlowOp)) (e : FlowEnd) : State :=
  (ops.foldl (fun t p => t.endOp p.1 p.2 e) s).settleInvs

/-- Every collective of a job whose tree joins this device to a node ends with a status (R637). -/
def State.endColls (s : State) (node status : Nat) : State :=
  (s.joined.colls.filter fun c =>
      match s.launchOf c.job c.attempt with
      | some l => l.from_ == some node || (childNodes l.own l.tree).contains node
      | none => false).foldl (fun t c => t.collEnd c status) s

/-- A node is marked unreachable, and its operations end with DEST_LOST (R575, R590, R597, R604). -/
def State.markLost (s : State) (node : Nat) : State :=
  if s.unreachable node then s
  else
    let s := s.setFab { s.fab with unreachable := node :: s.fab.unreachable }
    let r := s.dropFlows (· == node)
    ((((r.1.dropClaims (· == node)).endOps r.2 endLost).endTies node endLost).endColls node stDestLost).settleInvs

/-- A node newly marked unreachable is told to mailboxes 0 and 63 (R590, R604, R611). -/
def State.loseNode (s : State) (node : Nat) : State :=
  if s.unreachable node then s
  else (s.markLost node).notify [0, 63] 7 stDestLost 0 s.mt (s.hubFlags false) [node]

/-- The event is the applying of a batch of notices. -/
def StakeEvent.isBatch : StakeEvent → Bool
  | .throttleBatch _ => true
  | _ => false

/-- No batch of notices is staked. -/
def State.cancelBatches (s : State) : State :=
  s.setStakes { s.stakes with
    allocs := s.stakes.allocs.filter (fun a => !a.event.isBatch), timers := s.stakes.timers.filter fun t => !t.event.isBatch }

/-- Membership of a plumb group ends, and what its notices asked for with it (R640, R743). -/
def State.leaveGroup (s : State) : State :=
  let s := match s.joined.joining with
    | some (n, g, _) => (s.cancelEvent (.plumbJoin g)).complete n stBadState []
    | none => s
  let s := s.cancelBatches
  s.setJoined { s.joined with group := none, joining := none, notices := [] }

/-- A monument or restore reaches a layer over the fabric (R609). -/
def Monument.overFabric (m : Monument) : Bool :=
  if m.isRestore then m.layer != 1 || !(bitAt (nth m.header 9 0) 31)
  else m.layers.getLsbD 0 || m.layers.getLsbD 2

/-- The device enters FENCED (R606, R608, R609), with the newer epoch that fenced it. -/
def State.enterFenced (s : State) (newer : Nat) : State :=
  if s.fab.fenced ∨ s.fab.epoch = 0 then s
  else
    let s := s.setFab { s.fab with fenced := true }
    let s := (List.range 64).foldl (fun t c => t.teardown c stEpochFenced) s
    let s := (s.endMonuments Monument.overFabric stEpochFenced).leaveGroup
    s.notify [0, 63] 6 stEpochFenced 0 s.mt (s.hubFlags false)
      [s.fab.node + placed s.fab.epoch 16 + placed newer 32]

/-- The host-loss reset of the instance of an epoch; HOST_LOST follows the teardowns (R198, R710). -/
def State.hostLoss (s : State) (epoch cause : Nat) : State :=
  let s := (List.range 64).foldl (fun t c => if (t.ctx c).hostEpoch = epoch then t.teardown c cause else t) s
  s.setAbaom { s.abaom with losses := s.abaom.losses ++ [⟨epoch, s.mt, s.hubFlags false⟩] }

/-- A teardown of a context of a lost instance is in progress (R710 step 4). -/
def State.stillLosing (s : State) (epoch : Nat) : Bool := s.ctxs.any fun c => c.ending && c.hostEpoch == epoch

/-- HOST_LOST is posted for every lost instance whose teardowns are complete (R710 step 5). -/
def State.tellLosses (s : State) : State :=
  let done := s.abaom.losses.filter fun l => !s.stillLosing l.epoch
  let t := s.setAbaom { s.abaom with losses := s.abaom.losses.filter fun l => s.stillLosing l.epoch }
  done.foldl (fun t l => t.notify [63] 9 stOk 0 l.mt l.flags [l.epoch]) t

/-- CONTEXT_TEARDOWN (R685, R686). -/
def execContextTeardown (ctx cause : Nat) (s : State) : Host.Outcome State Fault Refusal :=
  onEvent (decide (ctx < 64)) (fun s => s.teardown ctx cause) s

end Sys2Proof.Machine
end

