-- ==== Sys2Proof/Machine/Mailbox.lean ====
section
/-!
DEFINITION. Mailboxes: posting, taking and timing out commands, interrupts and the heartbeat (R133 to R153, R184 to R187,
R192 to R198, R857 to R860).
-/

namespace Sys2Proof.Machine

/-! ### The command table (R184) -/

/-- A row of R184: the mailboxes that may issue it, the argument words it needs, its limit in µs. -/
structure CommandRow where
  opcode : Nat
  fromK : Bool
  fromC : Bool
  fromM : Bool
  words : Nat
  limit : Nat
deriving DecidableEq, Repr

/-- R184. -/
def commandTable : List CommandRow :=
  [⟨0x0100, true, true, true, 0, 100⟩, ⟨0x0101, true, true, true, 0, 100⟩, ⟨0x0200, true, false, false, 3, 1000⟩,
   ⟨0x0201, true, true, false, 1, 20000⟩, ⟨0x0202, true, true, true, 1, 100⟩, ⟨0x0300, true, true, false, 3, 200⟩,
   ⟨0x0301, true, true, false, 2, 200⟩, ⟨0x0302, true, true, false, 1, 100⟩, ⟨0x0400, true, true, false, 3, 1000⟩,
   ⟨0x0401, true, true, false, 2, 1000⟩, ⟨0x0500, true, true, true, 0, 50⟩, ⟨0x0501, true, true, false, 2, 10⟩,
   ⟨0x0502, true, true, false, 1, 10⟩, ⟨0x0503, true, false, true, 1, 200000⟩]
  ++ [⟨0x0600, true, false, true, 1, 1000⟩, ⟨0x0601, true, false, false, 5, 100⟩, ⟨0x0602, true, false, true, 1, 1000⟩,
   ⟨0x0603, true, false, true, 3, 10000⟩, ⟨0x0700, true, false, true, 3, 1000⟩, ⟨0x0701, true, false, true, 2, 1000⟩,
   ⟨0x0702, true, false, true, 2, 1000⟩, ⟨0x0703, true, false, true, 2, 1000⟩, ⟨0x0704, true, false, true, 1, 10000⟩,
   ⟨0x0800, true, true, false, 3, 1000⟩, ⟨0x0801, true, true, true, 1, 100⟩, ⟨0x0802, true, true, false, 3, 1000⟩,
   ⟨0x0900, true, false, false, 1, 20000⟩, ⟨0x0901, true, false, false, 3, 100⟩, ⟨0x0902, true, true, true, 1, 100⟩]
  ++ [⟨0x0A00, true, false, true, 2, 1000⟩, ⟨0x0A01, true, true, false, 2, 10⟩, ⟨0x0A02, true, false, true, 2, 1000⟩,
   ⟨0x0B00, true, true, true, 5, 50000⟩, ⟨0x0B01, true, false, true, 2, 1000⟩, ⟨0x0B02, true, false, true, 2, 1000⟩,
   ⟨0x0B03, true, false, true, 0, 5000000⟩, ⟨0x0C00, true, false, true, 1, 1000⟩, ⟨0x0C01, true, true, false, 2, 100⟩,
   ⟨0x0D00, true, false, true, 1, 20000000⟩, ⟨0x0D01, true, false, true, 2, 1000000⟩]

/-- The row of an opcode. -/
def commandRow (opcode : Nat) : Option CommandRow := commandTable.find? fun r => r.opcode == opcode

/-- The commands whose last argument word names a context (R185). -/
def ctxLast (opcode : Nat) : Bool := [0x0201, 0x0202, 0x0300, 0x0301, 0x0902].contains opcode

/-- Argument words that a command needs, its variable part included (R185). -/
def wordsNeeded (c : TakenCmd) (r : CommandRow) (fromCtx : Bool) : Nat :=
  let a := fun i => (nth c.args i 0).toNat
  match c.opcode with
  | 0x0600 => 1 + a 0 / 2 ^ 16 % 2 ^ 16
  | 0x0B02 => 2 + (a 1 + 7) / 8
  | 0x0C00 => match a 0 % 16 with
    | 0 => 5
    | 4 => 2
    | 6 => if a 1 % 16 = 1 then 3 else 2
    | _ => 1
  | o => if fromCtx && ctxLast o then r.words - 1 else r.words

/-! ### Field ranges (R185 item 4) -/

/-- Tiles adjacent in the 2 by 4 grid (R19). -/
def tileAdjacent (a b : Nat) : Bool :=
  (a / 4 == b / 4 && (a % 4 + 1 == b % 4 || b % 4 + 1 == a % 4)) || (a / 4 != b / 4 && a % 4 == b % 4)

/-- The tiles of a set reached from those in hand, in so many rounds. -/
def reachTiles (members : List Nat) : Nat → List Nat → List Nat
  | 0, seen => seen
  | n + 1, seen => reachTiles members n (members.filter fun t => seen.contains t || seen.any (tileAdjacent t))

/-- The partition of tile `d` that a map names (R691). -/
def mapTile (map d : Nat) : Nat := map / 2 ^ (4 * d) % 16

/-- A partition map breaks R692. -/
def badMap (map : Nat) : Bool :=
  let tiles := List.range 8
  map / 2 ^ 40 != 0
    || tiles.any (fun d => decide (d < mapTile map d) || mapTile map (mapTile map d) != mapTile map d)
    || tiles.any (fun p =>
      let m := tiles.filter fun d => mapTile map d == p
      !m.isEmpty && (reachTiles m 8 (m.take 1)).length != m.length)
    || tiles.any fun p => map / 2 ^ (32 + p) % 2 == 1 && mapTile map p != p

/-- The partition of the current map holds a tile. -/
def State.hasPartition (s : State) (p : Nat) : Bool := s.share.tiles.contains p

/-- A TIE_SET breaks R481. -/
def State.badTie (s : State) (a : Nat → Nat) : Bool :=
  decide (4096 ≤ a 0 % 2 ^ 16)
    || (a 1 / 2 ^ 63 % 2 == 1 &&
      (a 1 / 2 ^ 46 % 2 ^ 14 != 0 || a 1 / 2 ^ 6 % 2 ^ 26 != 0 || a 2 / 2 ^ 52 != 0 || a 4 / 4 != 0
        || a 2 % 65536 != 0 || a 3 == 0 || a 3 % 65536 != 0 || !(s.inHbm (a 2) (a 3)) || a 4 % 4 == 3))

/-- A COUNTER_CONFIG breaks R805 or R806. -/
def badCounterConfig (fromK : Bool) (a : Nat → Nat) : Bool :=
  a 0 / 2 ^ 4 % 16 != 0 || a 0 / 2 ^ 12 % 16 != 0 || a 0 / 2 ^ 17 != 0
    || a 1 / 2 ^ 16 != 0 || a 1 / 2 ^ 14 % 2 != 0 || decide (0x13 < a 1 % 256)
    || (fromK && decide (7 < a 0 / 2 ^ 8 % 16))

/-- A TRACE_CONFIG breaks R818, or SET breaks the ranges of R819 that need no unit. -/
def badTraceConfig (a : Nat → Nat) : Bool :=
  let op := a 0 % 16
  let unit := a 0 / 2 ^ 8 % 16
  a 0 / 2 ^ 4 % 16 != 0 || a 0 / 2 ^ 12 != 0 || !([0, 1, 2, 4, 5, 6].contains op)
    || (op != 6 && decide (8 < unit) && unit != 15)
    || (op == 0 &&
      (a 1 % 2 ^ 26 != 0 || a 2 % 64 != 0 || decide (a 2 < 64) || decide (4096 < a 2)
        || a 3 % 4 == 3 || a 3 / 4 % 64 != 0 || a 3 / 2 ^ 10 % 64 != 0 || a 3 / 2 ^ 32 != 0
        || (if a 3 % 4 = 2 then decide (a 3 / 2 ^ 16 % 2 ^ 16 < 1) || decide (a 2 ≤ a 3 / 2 ^ 16 % 2 ^ 16)
            else a 3 / 2 ^ 16 % 2 ^ 16 != 0)
        || (decide (1 ≤ a 4 % 2 ^ 16) && decide (a 4 % 2 ^ 16 ≤ 9)) || a 4 / 2 ^ 26 != 0))
    || (op == 4 && a 1 % 64 != 0)
    || (op == 6 && (decide (5 < a 1 % 16) || a 1 / 16 % 4096 != 0 || a 1 / 2 ^ 32 != 0))

/-- The control-space address of a record slot of the context's fault page (R476). -/
def faultSlotOf (ctx addr : Nat) : Option Nat :=
  (List.range 64).find? fun i => faultAddress ctx i == addr

/-- A field of the command lies outside its range (R185 item 4, and the chapters' own BAD_ARG rules that need no order of
their own). -/
def State.argBad (s : State) (n : Nat) (c : TakenCmd) : Bool :=
  let a := fun i => (nth c.args i 0).toNat
  let named := fun i => s.namedCtx n (a i)
  match c.opcode with
  | 0x0200 =>
    decide (62 < a 0 % 256) || !(s.hasPartition (a 0 / 2 ^ 8 % 16)) || a 1 % 4096 != 0 || !(s.inHbm (a 1) 4096)
      || decide (143 < a 2 % 256) || decide (4096 < a 0 / 2 ^ 16 % 2 ^ 13)
  | 0x0300 => a 0 % 256 != 0 || a 1 % 256 != 0 || decide (a 1 < 512) || decide (2 ^ 24 < a 1)
  | 0x0301 => a 0 % 256 != 0
  | 0x0400 =>
    a 2 != 0 && (!(canonical (a 1)) || !(canonical ((a 1 + a 2 - 1) % 2 ^ 64)) || decide (2 ^ 64 < a 1 + a 2)
      || a 1 / 2 ^ 56 % 2 != (a 1 + a 2 - 1) / 2 ^ 56 % 2)
  | 0x0401 => (faultSlotOf (named 0) (a 1)).isNone
  | 0x0501 => !([0, 1, 2, 3, 4, 5, 6, 7, 8, 0xE].contains (a 0 % 16)) || (n == 0 && decide (3 < a 0 / 2 ^ 8 % 16))
  | 0x0600 =>
    let k := a 0 / 2 ^ 16 % 2 ^ 16
    decide (k < 1) || decide (223 < k) || decide (16384 < a 0 % 2 ^ 14 + k)
  | 0x0601 => s.badTie a
  | 0x0602 => s.fab.epoch != 0 && a 0 % 2 ^ 14 == s.fab.node
  | 0x0700 => a 0 / 2 ^ 32 % 2 ^ 16 != 0 || a 2 % 64 != 0
  | 0x0701 => a 0 / 2 ^ 32 % 2 ^ 16 != 0 || decide (a 1 < s.mt + 8000000)
  | 0x0702 => a 0 / 2 ^ 32 % 2 ^ 16 != 0 || decide (a 1 < s.mt + 8000000)
  | 0x0703 => decide (a 1 < s.mt + 40000000)
  | 0x0900 => badMap (a 0)
  | 0x0901 =>
    let p := a 0 % 16
    !(p == 8 || (decide (p < 8) && s.hasPartition p)) || (a 0 / 2 ^ 8 % 2 == 0 && decide (15 < a 0 / 2 ^ 16 % 32))
      || decide ((if a 0 / 2 ^ 8 % 2 = 0 then 2048 else 100) < a 1)
      || (a 1 != 0 && (a 2 % 256 != 0 || decide (a 2 < 256) || decide (2 ^ 26 < a 2)))
  | 0x0A00 => decide (a 0 < 1500) || decide (4200 < a 0) || decide (a 1 < a 0) || decide (4800 < a 1)
  | 0x0A02 => decide (1 < a 0) || decide (1 < a 1)
  | 0x0B00 => a 4 % 64 != 0
  | 0x0B01 => decide (a 0 < 3076) || decide (4194304 < a 0) || (a 0 - 2820) % 256 != 0
      || (s.conn.phase == .recovering && a 1 % 2 == 1)
  | 0x0B02 => decide (a 1 < 1) || decide (1776 < a 1)
  | 0x0C00 => badTraceConfig a
  | 0x0C01 => badCounterConfig (n == 0) a
  | 0x0D01 => a 1 / 2 ^ 14 % 4 != 0 || a 1 / 2 ^ 21 != 0 || !(s.ids.stackLive.getLsbD (a 0 % 16))
  | _ => false

/-! ### The checks at the take (R135, R185, R194, R187, R860, R609, R859) -/

/-- The commands that always need the fabric (R609). -/
def needsFabric (opcode : Nat) : Bool := [0x0503, 0x0603, 0x0700, 0x0701, 0x0702, 0x0703].contains opcode

/-- The argument that names a context, for the commands that R187 and R860 end (R860). -/
def namesCtx (opcode : Nat) : Option Nat :=
  match opcode with
  | 0x0300 => some 2
  | 0x0301 => some 1
  | 0x0400 => some 0
  | 0x0401 => some 0
  | _ => none

/-- R187 and R860 for a context. -/
def State.ctxRefusal (s : State) (c : Nat) : Option Nat :=
  match (s.ctx c).st with
  | .opened => none
  | .tornDown => some stCtxTornDown
  | .closed => some stBadState

/-- A TIE_SET of a window whose OWNER_CTX is not open (R481). -/
def State.ownerRefusal (s : State) (c : TakenCmd) : Option Nat :=
  let w0 := (nth c.args 1 0).toNat
  if c.opcode = 0x0601 ∧ w0 / 2 ^ 63 % 2 = 1 ∧ (s.ctx (w0 % 64)).st ≠ .opened then some stBadState else none

/-- The status that ends a command at its take, if one does (R859 items 1 to 4). -/
def State.takeCheck (s : State) (n : Nat) (c : TakenCmd) (argWords : Nat) : Option Nat :=
  match commandRow c.opcode with
  | none => some stBadOpcode
  | some r =>
    let fromCtx := decide (1 ≤ n) && decide (n ≤ 62)
    let bound := s.boundCtx n
    if fromCtx && bound.isNone && c.opcode != 0x0100 then some stNotBound
    else if !(if n = 0 then r.fromK else if n = 63 then r.fromM else r.fromC) then some stAuthFail
    else if argWords < wordsNeeded c r fromCtx then some stBadLength
    else if decide (224 < argWords) || s.argBad n c then some stBadArg
    else if n = 0 ∧ !s.abaom.beat.live ∧ c.opcode ≠ 0x0100 then some stBadState
    else if s.conn.phase == .recovering && c.opcode != 0x0100 && !([0x0B01, 0x0B02, 0x0B03].contains c.opcode) then
      some stBadState
    else if s.conn.phase == .failed && c.opcode != 0x0100 && c.opcode != 0x0101 then some stBadState
    else
      let refusal :=
        if [0x0201, 0x0202, 0x0902].contains c.opcode then none
        else if fromCtx then bound.bind s.ctxRefusal
        else (namesCtx c.opcode).bind fun i => s.ctxRefusal ((nth c.args i 0).toNat % 64)
      match refusal <|> s.ownerRefusal c with
      | some st => some st
      | none => if s.fab.fenced && needsFabric c.opcode then some stEpochFenced else none

/-! ### Writes of MBX_HDR and MBX_IRQ -/

/-- A write of MBX_HDR (R141, R144, R857). -/
def State.writeHdr (s : State) (n : Nat) (v : Word) : State :=
  let m := s.mbx n
  let m' := { m with
    irq := bitAt v 61, argWords := fieldNat v 55 48, opcode := fieldNat v 47 32, tag := fieldNat v 15 0 }
  match m.st, fieldNat v 63 62 with
  | .busy, _ => s
  | .idle, 0 => s.putMbx n m'
  | .posted, 0 => s.putMbx n { m' with st := .idle }
  | .done, 0 => s.putMbx n { m' with st := .idle }
  | _, 1 =>
    s.putMbx n { m' with st := .posted, postOrder := s.abaom.posts }
  | _, _ => s

/-- Host harts reach the control space: the processor dies have been released (R62, R783). -/
def State.hostUp (s : State) : Bool :=
  match s.conn.phase with
  | .hostBoot | .training | .exchanging | .ready => true
  | _ => false

/-- MBX_POST (R141). -/
def execMbxPost (mbx : Nat) (hdr : Word) (s : State) : Host.Outcome State Fault Refusal :=
  onEvent (s.hostUp && decide (mbx < 63) && fieldNat hdr 63 62 == 1) (fun s => s.writeHdr mbx hdr) s

/-- MBX_WITHDRAW (R857). -/
def execMbxWithdraw (mbx : Nat) (hdr : Word) (s : State) : Host.Outcome State Fault Refusal :=
  onEvent (s.hostUp && decide (mbx < 63) && fieldNat hdr 63 62 == 0 && (s.mbx mbx).st == .posted)
    (fun s => s.writeHdr mbx hdr) s

/-- MBX_RETURN_IDLE (R144). -/
def execMbxReturnIdle (mbx : Nat) (hdr : Word) (s : State) : Host.Outcome State Fault Refusal :=
  onEvent (s.hostUp && decide (mbx < 63) && fieldNat hdr 63 62 == 0 && (s.mbx mbx).st == .done)
    (fun s => s.writeHdr mbx hdr) s

/-- A write of MBX_IRQ (R152, R858): EIID and HART are RO in mailboxes 1 to 62. -/
def State.writeIrq (s : State) (n : Nat) (v : Word) : State :=
  let m := s.mbx n
  let m' := { m with doneEn := bitAt v 63, noteEn := bitAt v 62 }
  if n = 0 then
    s.putMbx n { m' with
      eiid := fieldNat v 42 32, hart := if fieldNat v 7 0 ≤ 143 then fieldNat v 7 0 else m.hart }
  else s.putMbx n m'

/-- MBX_IRQ_WRITE (R858). -/
def execMbxIrqWrite (mbx : Nat) (value : Word) (s : State) : Host.Outcome State Fault Refusal :=
  onEvent (s.hostUp && decide (mbx < 63)) (fun s => s.writeIrq mbx value) s

/-! ### Taking a command (R143, R146) -/

/-- The posted mailbox whose header write came first, the lowest of those of one cycle (R146). -/
def firstPosted (s : State) : List Nat → Option Nat
  | [] => none
  | n :: l =>
    match firstPosted s l with
    | none => if (s.mbx n).st == .posted then some n else none
    | some k =>
      if (s.mbx n).st == .posted && decide ((s.mbx n).postOrder ≤ (s.mbx k).postOrder) then some n else some k

/-- Mailboxes that the control processor, or the recovery endpoint, serves (R759, R783). -/
def State.served (s : State) : List Nat :=
  if s.running then List.range 64
  else if s.conn.phase == .recovering || s.conn.phase == .failed then [63]
  else []

/-- The next command to take (R146): at most four run at once, and none is taken while a live update asks for a pause or holds
one (R148). -/
def State.nextTake (s : State) : Option Nat :=
  if s.trust.pause != .off then none
  else if 4 ≤ ((List.range 64).filter fun n => (s.mbx n).st == .busy).length then none
  else firstPosted s s.served

/-- An address lies in the range of a TLB_INVALIDATE; length 0 is the whole context (R461). -/
def inRange (lo len va : Nat) : Bool := len == 0 || (decide (lo ≤ va) && decide (va < lo + len))

/-- An entry overlaps the range (R461). -/
def TlbEntry.within (e : TlbEntry) (ctx lo len : Nat) : Bool :=
  e.ctx == ctx && (len == 0 || (decide (e.base < lo + len) && decide (lo < e.base + e.span)))

/-- The outstanding tie accesses of a context whose addresses meet a condition (R462). -/
def State.outstandingAt (s : State) (ctx : Nat) (p : Nat → Bool) : List Nat :=
  ((s.xlat.tieOps.filter fun o => o.answer.isNone && o.ctx == ctx && p o.va).map (·.id))
    ++ s.fab.sends.flatMap fun f => (f.unacked ++ f.waiting).filterMap fun u =>
      match u.op with
      | .tieWrite id c va _ _ _ _ _ _ => if c = ctx ∧ p va then some id else none
      | _ => none

/-- The entries of a context that overlap a range go, with its pointers, and the outstanding accesses are named whose translation was
among them: those in the range, and those that a dropped entry maps (R461, R462). -/
def State.invalidate (s : State) (ctx lo len : Nat) : State × List Nat :=
  let gone := (s.xlat.tlb ++ s.xlat.l1.map (·.entry)).filter fun e => e.within ctx lo len
  let used := fun (va : Nat) => inRange lo len va || gone.any fun e => decide (e.base ≤ va) && decide (va < e.base + e.span)
  let t := s.setXlat { s.xlat with
    l1 := s.xlat.l1.filter (fun x => !(x.entry.within ctx lo len)),
    tlb := s.xlat.tlb.filter (fun e => !(e.within ctx lo len)), walkCache := s.xlat.walkCache.filter fun e => e.ctx != ctx }
  (t, t.outstandingAt ctx used)

/-- The window that TIE_SET's arguments describe (R480). -/
def windowOf (w0 w1 w2 w3 : Nat) : TieWindow where
  valid := w0 / 2 ^ 63 % 2 == 1
  write := w0 / 2 ^ 62 % 2 == 1
  atomic := w0 / 2 ^ 61 % 2 == 1
  anyNode := w0 / 2 ^ 60 % 2 == 1
  node := w0 / 2 ^ 32 % 2 ^ 14
  ctx := w0 % 64
  base := w1 % 2 ^ 52
  size := w2
  cls := w3 % 4

/-- The window of a TIE_SET that is taken replaces the old one, which is kept until the command ends (R147, R480 to R482). -/
def State.tieTaken (s : State) (n : Nat) : State :=
  let k := s.arg n 0 % 2 ^ 16
  let w := windowOf (s.arg n 1) (s.arg n 2) (s.arg n 3) (s.arg n 4)
  let old := (s.xlat.ties.find? fun e => e.1 == k).map (·.2)
  let rest := s.xlat.ties.filter fun e => e.1 != k
  s.setXlat { s.xlat with
    ties := if w.valid then (k, w) :: rest else rest, tieUndo := (n, k, old) :: s.xlat.tieUndo.filter fun u => u.1 != n }

/-- A TIE_SET that ends with TIMEOUT has no effect: the old window stands again, where its context is still open (R147, R483). -/
def State.tieUndone (s : State) (n : Nat) : State :=
  match s.xlat.tieUndo.find? fun u => u.1 == n with
  | none => s
  | some (_, k, old) =>
    let rest := s.xlat.ties.filter fun e => e.1 != k
    let back := match old with
      | some w => if (s.ctx w.ctx).st == .opened then (k, w) :: rest else rest
      | none => rest
    s.setXlat { s.xlat with ties := back, tieUndo := s.xlat.tieUndo.filter fun u => u.1 != n }

/-- What a command does at its take: TIE_SET replaces the window (R482), and ATTEST keeps the log that it reports (R771). -/
def State.takenEffect (s : State) (n : Nat) (c : TakenCmd) : State :=
  if c.opcode = 0x0601 then s.tieTaken n else if c.opcode = 0x0B00 then s.keepLog n else s

/-- The take of mailbox `n`: BUSY, the copy, and the checks that may end it at once (R143, R859). -/
def State.take (s : State) (n : Nat) : State :=
  let m := s.mbx n
  let c : TakenCmd := { opcode := m.opcode, tag := m.tag, irq := m.irq, args := m.args.take m.argWords,
                        busyMt := s.mt, begun := false, order := s.abaom.takes }
  let t := ((s.setAbaom { s.abaom with takes := s.abaom.takes + 1 }).putMbx n { m with st := .busy, cmd := some c }).heardUpdate
    n c.opcode
  match t.takeCheck n c m.argWords with
  | some st => t.complete n st []
  | none => t.takenEffect n c

/-- COMMAND_TAKE (R143, R146). -/
def execCommandTake (s : State) : Host.Outcome State Fault Refusal :=
  .next (match s.nextTake with | some n => s.take n | none => s)

/-- MT at which the command of mailbox `n` reaches its limit (R147, R184). -/
def State.limitOf (s : State) (n : Nat) (c : TakenCmd) : Nat :=
  if c.opcode = 0x0700 ∨ c.opcode = 0x0703 then s.arg n 1 + 8000000
  else c.busyMt + ((commandRow c.opcode).map (·.limit)).getD 0 * 8000

/-- What a command that ends with TIMEOUT leaves behind: nothing, but as its chapter says otherwise (R147; R85, R866). A backsight
that has not come to apply its correction has failed, and leaves MT_DATUM and the link delays as they stood (R65, R147). -/
def State.undo (s : State) (n : Nat) (c : TakenCmd) : State :=
  match c.opcode with
  | 0x0400 =>
    let ctx := s.namedCtx n (s.arg n 0)
    let r := if c.begun then (s, []) else s.invalidate ctx (s.arg n 1) (s.arg n 2)
    let s := r.1
    s.setXlat { s.xlat with
      overdue := s.xlat.overdue ++ r.2.map (fun t => (ctx, t)) ++ ((s.xlat.invs.filter fun i => i.mbx == n).flatMap fun i => i.tags.map fun t => (i.ctx, t)),
      invs := s.xlat.invs.filter fun i => i.mbx != n }
  | 0x0501 => s.setStakes { s.stakes with reqs := s.stakes.reqs.filter fun r => r.mbx != n }
  | 0x0503 =>
    match s.time.run with
    | some r =>
      if r.mbx ≠ some n then s
      else if r.phase = .applying ∨ r.phase = .held then s.setTime { s.time with run := some { r with mbx := none } }
      else
        let s := match r.saved with
          | some d => s.setTime { s.time with datumValid := d.valid, parentPort := d.port, datumNode := d.node, linkDly := d.delays }
          | none => s
        s.failBacksight 0
    | none => s
  | 0x0601 => s.tieUndone n
  | 0x0700 =>
    s.setJoined { s.joined with offers := s.joined.offers.map fun o => if o.mbx = some n then { o with mbx := none } else o }
  | 0x0703 =>
    match s.joined.joining with
    | some (_, g, _) => (s.cancelEvent (.plumbJoin g)).setJoined { s.joined with joining := none }
    | none => s
  | 0x0B00 => s.setTrust { s.trust with attests := s.trust.attests.filter fun a => a.mbx != n }
  | 0x0B03 => s.commitCut n
  | 0x0C00 =>
    s.setObs { s.obs with units := s.obs.units.map fun u => { u with disabling := u.disabling.filter (· != n) } }
  | 0x0D00 =>
    let s := s.setDies { s.dies with serviceQueue := s.dies.serviceQueue.filter (· != n) }
    match s.dies.service with
    | some r => if r.mbx = n then s.dropService r else s
    | none => s
  | 0x0D01 =>
    s.setMem { s.mem with
      repairQueue := s.mem.repairQueue.filter (fun r => r.mbx != n), repairing := s.mem.repairing.filter fun r => r.mbx != n }
  | _ => s

/-- A command reaches its limit (R147). -/
def State.timeOut (s : State) (n : Nat) : State :=
  match (s.mbx n).cmd with
  | some c => if s.limitOf n c ≤ s.mt then (s.undo n c).complete n stTimeout [] else s
  | none => s

/-- COMMAND_TIMEOUT (R147). -/
def execCommandTimeout (mbx : Nat) (s : State) : Host.Outcome State Fault Refusal :=
  onTime (decide (mbx < 64) && (s.mbx mbx).st == .busy) (fun s => s.timeOut mbx) s

/-! ### Heartbeat (R192 to R198) -/

/-- The beat of a stamp renews the loss deadline (R196). -/
def BeatState.renew (b : BeatState) (stamp : Nat) : BeatState := { b with deadline := stamp + 800000000, last := stamp }

/-- A claim (R193): the previous instance ends first when it was live. -/
def State.claim (s : State) (stamp : Nat) : State :=
  let b := s.abaom.beat
  let old := b.epoch
  let b' := { b with epoch := if old = 0xFFFF then 1 else old + 1, live := true }.renew stamp
  let t := s.setAbaom { s.abaom with beat := b' }
  let t := if b.live then t.hostLoss old stBadState else t
  if t.conn.phase == .hostBoot then
    t.setConn { t.conn with phase := .training, trainFrom := t.mt, lasers := true } |>.setFab
      { t.fab with ports := t.fab.ports.mapIdx fun p x =>
          if t.ids.optLive.getLsbD (p / 8) then { x with st := .training, modeNow := x.mode } else x }
  else t

/-- CLAIM (R193, R841). -/
def execClaim (value : Word) (stamp : Nat) (s : State) : Host.Outcome State Fault Refusal :=
  onEvent (s.hostUp && bitAt value 31) (fun s => s.claim stamp) s

/-- A beat (R195, R196): it wins over a deadline that has fallen due when its stamp is earlier (R126, R128). -/
def State.beat (s : State) (epochW stamp : Nat) : State :=
  let b := s.abaom.beat
  if b.live ∧ epochW = b.epoch ∧ stamp < b.deadline then
    (s.setAbaom { s.abaom with beat := b.renew stamp }).nearMissed b.deadline stamp
  else s.setAbaom { s.abaom with beat := { b with stale := min (b.stale + 1) 0xFF } }

/-- BEAT (R195). -/
def execBeat (value : Word) (stamp : Nat) (s : State) : Host.Outcome State Fault Refusal :=
  onEvent (s.hostUp && bitAt value 30 && !(bitAt value 31)) (fun s => s.beat (fieldNat value 15 0) stamp) s

/-- A claim or beat that is on time has arrived and waits to be handled (R126, R196). -/
def State.beatArriving (s : State) : Bool :=
  let b := s.abaom.beat
  s.pending.any fun i => match i with
    | .beat v stamp => bitAt v 30 && !(bitAt v 31) && fieldNat v 15 0 == b.epoch && decide (stamp < b.deadline)
    | .claim v stamp => bitAt v 31 && decide (stamp < b.deadline)
    | _ => false

/-- HOST_LOSS_DEADLINE (R198): a beat stamped before the deadline that is still to be handled wins (R126, R196). -/
def execHostLossDeadline (s : State) : Host.Outcome State Fault Refusal :=
  onEvent (s.abaom.beat.live && decide (s.abaom.beat.deadline ≤ s.mt) && !s.beatArriving) (fun s =>
    let b := s.abaom.beat
    (s.setAbaom { s.abaom with beat := { b with live := false } }).hostLoss b.epoch stTimeout) s

end Sys2Proof.Machine
end

