-- ==== Sys2Proof/Machine/RegValues.lean ====
section
/-!
DEFINITION. What the control-space registers read as, computed from the state (R47 to R56, R67 to R75, R149, R152, R166,
R486 to R488, R562, R601, R723, R793, R808, R824).
-/

namespace Sys2Proof.Machine

/-! ### ID (R47 to R56) -/

/-- ID_DEVICE (R47). -/
def idDevice : Nat := 0x545A010820000000

/-- ID_TOPO (R49). -/
def State.idTopo (s : State) : Nat :=
  placed (flagNat s.ids.traverseDone) 31 + placed s.ids.procLive.toNat 24 + placed s.ids.optLive.toNat 16
    + placed s.ids.baseLive.toNat 8 + s.ids.computeLive.toNat

/-- ID_STACK (R52). -/
def State.idStack (s : State) : Nat := placed s.ids.stackLive.toNat 16 + s.ids.hbmGib

/-- ID_CLUSTER_LIVEd: zero while COMPUTE_LIVE bit d is clear (R54, R55). -/
def State.clusterLive (s : State) (d : Nat) : BitVec 24 :=
  if s.ids.computeLive.getLsbD d then nth s.ids.clusterLive d 0 else 0

/-- A cluster takes blocks (R30). -/
def State.clusterUp (s : State) (c : Nat) : Bool := (s.clusterLive (c / 24)).getLsbD (c % 24)

/-- ID_BADACC (R56). -/
def State.idBadacc (s : State) : Nat :=
  placed (flagNat s.ids.badValid) 63 + placed (flagNat s.ids.badOverrun) 62 + placed s.ids.badKind 56
    + placed s.ids.badHart 32 + s.ids.badOffset

/-! ### MT (R67 to R75) -/

/-- MT_CTRL (R71). -/
def State.mtCtrl (s : State) : Nat :=
  placed (flagNat s.time.trigRevoked) 4 + placed (flagNat s.time.trigHeld) 3 + placed (flagNat s.time.ppsOutEn) 1
    + flagNat s.time.ppsTime

/-- USED of a location's comparators (R73, R74, R106). -/
def State.usedAt (s : State) (loc : Nat) : Nat :=
  ((s.stakes.allocs.filterMap fun a => a.at loc).map (2 ^ ·)).sum + (if loc = 8 ∧ s.stakes.fwRuns then 3 else 0)

/-- MT_LINKDLYp (R75). -/
def State.linkDelay (s : State) (p : Nat) : Nat :=
  let d := nth s.time.linkDly p ⟨false, 0⟩
  placed (flagNat d.valid) 63 + d.delay

/-! ### Mailboxes (R138 to R152, R192) -/

/-- MBX_HDR (R138). -/
def Mailbox.hdrWord (m : Mailbox) : Nat :=
  placed m.st.code 62 + placed (flagNat m.irq) 61 + placed m.argWords 48 + placed m.opcode 32 + m.tag

/-- MBX_NOTE (R149). -/
def Mailbox.noteWord (m : Mailbox) : Nat := placed m.lost 48 + placed m.head 32 + m.tail

/-- MBX_IRQ (R152). -/
def Mailbox.irqWord (m : Mailbox) : Nat :=
  placed (flagNat m.doneEn) 63 + placed (flagNat m.noteEn) 62 + placed m.eiid 32 + m.hart

/-- MBX_BEAT (R192). -/
def State.beatWord (s : State) : Nat :=
  placed s.abaom.beat.epoch 48 + placed (flagNat s.abaom.beat.live) 47 + placed s.abaom.beat.stale 32

/-- The value of a mailbox page at an offset, if a register lies there (R137). -/
def State.mbxPage (s : State) (n off : Nat) : Option Nat :=
  let m := s.mbx n
  if off % 8 ≠ 0 then none
  else if off = 0x000 then some m.hdrWord
  else if off = 0x008 then some m.statusWord
  else if off = 0x010 then some m.noteWord
  else if off = 0x018 then if n = 0 then some s.beatWord else none
  else if off = 0x020 then if n = 63 then none else some m.irqWord
  else if off = 0x028 then some m.doneMt
  else if 0x100 ≤ off ∧ off < 0x800 then some (nth m.args ((off - 0x100) / 8) 0).toNat
  else if 0x800 ≤ off ∧ off < 0xC00 then some (nth m.res ((off - 0x800) / 8) 0).toNat
  else if 0xC00 ≤ off ∧ off < 0x1000 then
    some (nth (nth m.slots ((off - 0xC00) / 64) []) ((off - 0xC00) / 8 % 8) 0).toNat
  else none

/-! ### FLAGW, SVC (R166, R469, R486 to R488) -/

/-- FLAGW_STATUS (R166). -/
def State.flagwStatus (s : State) : Nat := placed s.abaom.watches.length 32

/-- SVC offsets (R469). -/
def State.svcRead (s : State) (off : Nat) : Option Nat :=
  if off = 0 then some s.xlat.svcBase
  else if off = 8 then some (placed (flagNat s.xlat.svcWrite) 1 + flagNat s.xlat.svcEnable)
  else if off = 0x10 then some (placed s.xlat.svcRefused 32 + s.xlat.svcAccesses)
  else if 0x10000 ≤ off ∧ off < 0x50000 then
    some (nth (s.faultSlot ((off - 0x10000) / 0x1000) ((off - 0x10000) % 0x1000 / 0x40)) (off % 0x40 / 8) 0).toNat
  else none

/-! ### PWR (R723) -/

/-- Any die is gated. -/
def PowerState.gating (p : PowerState) : Bool := p.gates.any fun g => decide (g < 64)

/-- The effective sustained limit (R725, R744). -/
def PowerState.sustained (p : PowerState) : Nat :=
  let l := min p.sustK p.sustM
  if p.critMode && !p.critical then min l p.noncrit else l

/-- The effective peak limit (R725). -/
def PowerState.peak (p : PowerState) : Nat := min p.peakK p.peakM

/-- TARGET_W in force (R738). -/
def PowerState.targetW (p : PowerState) : Nat := min (p.learned.getD p.sustained) p.sustained

/-- PWR offsets (R723). -/
def State.pwrRead (s : State) (off : Nat) : Option Nat :=
  let p := s.pwr
  match off with
  | 0x00 => some (placed p.clock 48 + placed p.target 32 + placed (s.joined.group.getD 0) 16
      + placed (flagNat s.joined.group.isSome) 15 + placed (flagNat p.critMode) 14 + placed (flagNat p.critical) 13
      + placed (flagNat p.gating) 12 + placed (flagNat p.levelling) 11 + p.reason.toNat)
  | 0x08 => some (placed p.vin 48 + placed p.p10us 32 + placed p.p1ms 16 + p.p100ms)
  | 0x10 => some p.energy
  | 0x18 => some p.unapp
  | 0x20 => some (placed p.sustK 48 + placed p.peakK 32 + placed p.sustM 16 + p.peakM)
  | 0x28 => some p.noncrit
  | 0x30 => some (placed p.throttles 48 + placed p.hintsLate 32 + placed p.hintsDropped 16 + p.gateMs)
  | 0x38 => some (placed p.levelCycles 16 + (p.learned.map fun w => min w p.sustained).getD 0)
  | _ => none

/-! ### CNT (R562, R601, R793, R803, R808) -/

/-- A bit count. -/
def popBits {w : Nat} (x : BitVec w) : Nat := ((List.range w).filter fun i => x.getLsbD i).length

/-- Die link of port p of base die d. -/
def State.dieLink (s : State) (d p : Nat) : DieLink := nth s.dies.links (5 * d + p) (DieLink.reset 0)

/-- The mode that a bundle runs in: the narrower of its two directions (R787). -/
def Bundle.mode (b : Bundle) : LaneMode := if b.modeOut == .failed || b.modeIn == .failed then .failed
  else if b.modeOut != .full then b.modeOut else b.modeIn

/-- DL_LINKd_p (R793). -/
def State.dlLink (s : State) (d p : Nat) : Nat :=
  let l := s.dieLink d p
  if l.bundles.isEmpty then 0
  else
    let idx := l.bundles.zipIdx
    let half := ((idx.filter fun b => b.1.mode == .halfLow || b.1.mode == .halfHigh).map fun b => 2 ^ b.2).sum
    let out := ((idx.filter fun b => b.1.retraining || b.1.mode == .failed).map fun b => 2 ^ b.2).sum
    let st := if l.fenced then 5 else if !l.used then 1 else if !(l.bundles.all (·.trained)) then 2
      else if half = 0 ∧ out = 0 then 3 else 4
    placed st 61 + placed half 48 + placed out 40 + placed l.bundles.length 32 + l.retrains

/-- DL_LANEd_p_b (R793). -/
def State.dlLane (s : State) (d p b : Nat) : Nat :=
  match (s.dieLink d p).bundles[b]? with
  | none => 0
  | some x =>
    placed x.modeOut.code 62 + placed x.modeIn.code 60 + placed (popBits x.fusedOut + popBits x.fusedIn) 48
      + placed (popBits x.badOut) 40 + placed (popBits x.badIn) 32 + x.replays

/-- CNT_PSELp_j (R808). -/
def CounterSel.word (c : CounterSel) : Nat :=
  placed (flagNat c.valid) 63 + placed (flagNat c.fromK) 62 + placed (flagNat c.filter) 61 + placed c.owner 48
    + placed c.ctx 40 + c.event

/-- FAB_PORTp (R601). -/
def Port.word (p : Port) : Nat :=
  placed p.st.code 62 + placed (flagNat p.mode) 61 + placed (flagNat p.quar) 60 + placed (flagNat p.peerValid) 59
    + placed p.viol 32 + placed p.peerEpoch 16 + p.peer

/-- Stacks of a region as a mask. -/
def Region.mask (r : Region) : Nat := (r.members.map (2 ^ ·)).sum

end Sys2Proof.Machine
end

