-- ==== Sys2Proof/Machine/Contexts.lean ====
section
/-!
DEFINITION. The commands that query the device, open, close and account for contexts, register lines, invalidate
translations, replay faults, set tie windows, partitions and regulators (R184, R680 to R713, R461 to R482).
-/

namespace Sys2Proof.Machine

/-! ### Queries (R184) -/

/-- IDENTIFY. -/
def State.identify (s : State) (n : Nat) : State :=
  let fw := (s.trust.image.map (·.fwVersion)).getD 0
  s.complete n stOk [idDevice, 0x0102 + placed fw 32, s.fab.node + placed s.fab.epoch 16, s.fab.platPos]

/-- IDENTIFY (R184). -/
def execIdentify (mbx : Nat) (s : State) : Host.Outcome State Fault Refusal :=
  runCommand mbx 0x0100 (fun s => s.identify mbx) s

/-- Contexts in a state. -/
def State.ctxCount (s : State) (p : CtxState → Bool) : Nat := (s.ctxs.filter fun c => p c.st).length

/-- QUERY_CAPS. -/
def State.queryCaps (s : State) (n : Nat) : State :=
  s.complete n stOk ([s.idTopo, s.idStack] ++ ((List.range 8).map fun d => (s.clusterLive d).toNat)
    ++ [s.ctxCount (· == .closed) + placed (4096 - s.abaom.watches.length) 16])

/-- QUERY_CAPS (R184). -/
def execQueryCaps (mbx : Nat) (s : State) : Host.Outcome State Fault Refusal :=
  runCommand mbx 0x0101 (fun s => s.queryCaps mbx) s

/-- MT_QUERY (R184). -/
def execMtQuery (mbx : Nat) (s : State) : Host.Outcome State Fault Refusal :=
  runCommand mbx 0x0500 (fun s => s.complete mbx stOk [s.mt, s.mtStatus, asWord s.time.offset, s.mtDatum]) s

/-! ### Contexts (R680 to R690) -/

/-- Watcher quotas of the contexts that are not CLOSED (R683). -/
def State.quotas (s : State) : Nat := ((s.ctxs.filter fun c => c.st != .closed).map (·.quota)).sum

/-- The lowest-numbered CLOSED context (R681). -/
def State.freeContext (s : State) : Option Nat := (List.range 64).find? fun c => (s.ctx c).st == .closed

/-- What the open sets (R682, R472). -/
def State.openContext (s : State) (c mbx partition quota root hart eiid : Nat) : State :=
  let x := Context.reset
  let s := s.putCtx c { x with
    st := .opened, mbx, partition, quota, root, hostEpoch := s.abaom.beat.epoch, openMt := s.mt }
  let s := s.setPwr { s.pwr with msWeights := s.pwr.msWeights.set c 0 }
  let s := s.setXlat { s.xlat with pages := s.xlat.pages.set c (List.replicate 64 (List.replicate 8 0)) }
  if mbx = 0 then s else s.putMbx mbx { s.mbx mbx with eiid, hart, doneEn := false, noteEn := false }

/-- CTX_OPEN. -/
def State.ctxOpen (s : State) (n : Nat) : State :=
  let a0 := s.arg n 0
  let mbx := a0 % 256
  let quota := a0 / 2 ^ 16 % 2 ^ 13
  if mbx ≠ 0 ∧ (s.boundCtx mbx).isSome then s.complete n stResourceBusy []
  else
    match s.freeContext with
    | none => s.complete n stNoResource []
    | some c =>
      if 4096 < s.quotas + quota then s.complete n stNoResource []
      else
        (s.openContext c mbx (a0 / 2 ^ 8 % 16) quota (s.arg n 1) (s.arg n 2 % 256) (s.arg n 2 / 2 ^ 16 % 2 ^ 11)).complete
          n stOk [c]

/-- CTX_OPEN (R681 to R683). -/
def execCtxOpen (mbx : Nat) (s : State) : Host.Outcome State Fault Refusal :=
  runCommand mbx 0x0200 (fun s => s.ctxOpen mbx) s

/-- CTX_CLOSE: an OPEN context is torn down, a teardown in progress is waited for, and a context torn down already is closed at
once (R689). -/
def State.ctxClose (s : State) (n : Nat) : State :=
  let c := s.namedCtx n (s.arg n 0)
  match (s.ctx c).st with
  | .closed => s.complete n stBadState []
  | .opened => (s.teardown c stOk).begin_ n
  | .tornDown =>
    if (s.ctx c).ending then s.begin_ n
    else (s.putCtx c { s.ctx c with st := .closed, mbx := 0 }).complete n stOk []

/-- CTX_CLOSE (R689, R690). -/
def execCtxClose (mbx : Nat) (s : State) : Host.Outcome State Fault Refusal :=
  runCommand mbx 0x0201 (fun s => s.ctxClose mbx) s

/-- CTX_QUERY (R680, R864). -/
def Context.queryWord (x : Context) : Nat :=
  x.st.code + placed x.mbx 8 + placed x.partition 16 + placed x.cause 32

/-- CTX_QUERY. -/
def execCtxQuery (mbx : Nat) (s : State) : Host.Outcome State Fault Refusal :=
  runCommand mbx 0x0202 (fun s => s.complete mbx stOk [(s.ctx (s.namedCtx mbx (s.arg mbx 0))).queryWord]) s

/-! ### Accounting (R700 to R709) -/

/-- SLOWDOWN (R709). -/
def Account.slowdown (a : Account) : Nat :=
  if a.active = 0 then 0
  else if a.active ≤ a.contended then 0xFFFFFFFF
  else min (65536 * a.contended / (a.active - a.contended)) 0xFFFFFFFF

/-- The accounting record (R702); all zero for an ID never opened since the module reset (R700). -/
def State.acctRecord (s : State) (c : Nat) : List Nat :=
  let x := s.ctx c
  let a := x.acct
  if x = Context.reset then List.replicate 29 0
  else
    [placed x.st.code 62 + placed x.partition 56 + placed x.hostEpoch 32 + placed x.cause 16 + c, x.openMt, x.endMt, s.mt,
     placed (s.hubFlags false) 48, a.matrix, a.vector, a.aluHalf, a.copy, a.hbmRd, a.hbmWr, a.fabTx, a.fabRx, a.energyUj,
     a.active, a.contended, a.contHbm, a.contLink, a.contFab, a.slowdown] ++ (List.range 9).map fun p => nth a.contBy p 0

/-- ACCT_READ (R700). -/
def execAcctRead (mbx : Nat) (s : State) : Host.Outcome State Fault Refusal :=
  runCommand mbx 0x0902 (fun s => s.complete mbx stOk (s.acctRecord (s.namedCtx mbx (s.arg mbx 0)))) s

/-! ### Partitions and regulators (R691 to R696) -/

/-- The tiles that a new map moves (R693). -/
def State.movedTiles (s : State) (map : Nat) : List Nat := (List.range 8).filter fun d => s.partOf d != mapTile map d

/-- Partitions that the moved tiles leave or join (R693, R807). -/
def State.touchedPartitions (s : State) (map : Nat) : List Nat :=
  (s.movedTiles map).flatMap fun d => [s.partOf d, mapTile map d]

/-- The new map in force (R693, R694), with the programmable counters of the partitions touched freed (R807). -/
def State.setPartitions (s : State) (map : Nat) : State :=
  let touched := s.touchedPartitions map
  let tiles := (List.range 8).map (mapTile map)
  let buckets := s.share.buckets.mapIdx fun p l =>
    if p == 8 || tiles.contains p then l else l.map fun _ => Bucket.unlimited
  let t := s.setShare { s.share with tiles, localNext := map / 2 ^ 32 % 256, buckets }
  let free := fun (k : Nat) (c : CounterSel) => if touched.contains (k / 16) then { c with valid := false } else c
  t.setObs { t.obs with sels := t.obs.sels.mapIdx free }

/-- PART_SET. -/
def State.partSet (s : State) (n : Nat) : State :=
  let map := s.arg n 0
  let touched := s.touchedPartitions map
  if s.ctxs.any (fun c => c.st != .closed && touched.contains c.partition) then s.complete n stBadState []
  else (s.setPartitions map).complete n stOk []

/-- PART_SET (R691 to R694). -/
def execPartSet (mbx : Nat) (s : State) : Host.Outcome State Fault Refusal :=
  runCommand mbx 0x0900 (fun s => s.partSet mbx) s

/-- REG_SET. -/
def State.regSet (s : State) (n : Nat) : State :=
  let a0 := s.arg n 0
  let point := a0 / 2 ^ 16 % 32 + (if a0 / 2 ^ 8 % 2 = 1 then 16 else 0)
  let rate := s.arg n 1
  let b := if rate = 0 then Bucket.unlimited else ⟨5 * (s.arg n 2 : Int), rate, s.arg n 2⟩
  (s.putBucket (a0 % 16) point b).complete n stOk []

/-- REG_SET (R695, R696). -/
def execRegSet (mbx : Nat) (s : State) : Host.Outcome State Fault Refusal :=
  runCommand mbx 0x0901 (fun s => s.regSet mbx) s

/-! ### Registrations (R161, R186 to R189) -/

/-- The lowest unused watch ID (log 17). -/
def State.freeWatch (s : State) : Option Nat := (List.range 4096).find? fun i => (s.watch i).isNone

/-- A line of a context is registered, translated once (R188, R189). -/
def State.register (s : State) (n ctx va : Nat) (kind : WatchKind) : State :=
  match s.cpTranslate ctx .read va 256 with
  | .fault _ _ => s.complete n stTranslationFault []
  | .poison => s.complete n stHwFault []
  | .pieces l =>
    match l with
    | [⟨.local_ pa, _, _⟩] =>
      match s.freeWatch with
      | none => s.complete n stNoResource []
      | some id =>
        if (s.ctx ctx).quota ≤ (s.abaom.watches.filter fun w => w.ctx == ctx).length then s.complete n stNoResource []
        else
          (s.setAbaom { s.abaom with watches := s.abaom.watches ++ [⟨id, kind, ctx, va, pa / 256, true, false⟩] }).complete
            n stOk [id]
    | _ => s.complete n stBadArg []

/-- LIST_REGISTER (R188). -/
def execListRegister (mbx : Nat) (s : State) : Host.Outcome State Fault Refusal :=
  runCommand mbx 0x0300 (fun s => s.register mbx (s.namedCtx mbx (s.arg mbx 2)) (s.arg mbx 0) (.list (s.arg mbx 1))) s

/-- WATCH_FLAG (R188). -/
def execWatchFlag (mbx : Nat) (s : State) : Host.Outcome State Fault Refusal :=
  runCommand mbx 0x0301 (fun s => s.register mbx (s.namedCtx mbx (s.arg mbx 1)) (s.arg mbx 0) .flag) s

/-- The FLAG that a watch's line holds reads DEVICE (R154). -/
def State.flagDevice (s : State) (w : Watch) : Bool := (s.hbmWord (w.line * 256)).toNat % 4 == 2

/-- The registration heads a list. -/
def Watch.isList (w : Watch) : Bool := match w.kind with | .list _ => true | .flag => false

/-- UNWATCH_FLAG. -/
def State.unwatch (s : State) (n : Nat) : State :=
  match s.watch (s.arg n 0 % 4096) with
  | none => s.complete n stBadArg []
  | some w =>
    if (match s.boundCtx n with | some c => c != w.ctx | none => false) then s.complete n stBadArg []
    else if w.isList && s.flagDevice w then s.complete n stBadState []
    else (s.setAbaom { s.abaom with watches := s.abaom.watches.filter fun v => v.id != w.id }).complete n stOk []

/-- UNWATCH_FLAG (R186). -/
def execUnwatchFlag (mbx : Nat) (s : State) : Host.Outcome State Fault Refusal :=
  runCommand mbx 0x0302 (fun s => s.unwatch mbx) s

/-! ### Translations (R461, R462, R474 to R476, R481) -/

/-- TLB_INVALIDATE: the drops at once, then the wait for the accesses that used them (R461, R462, R866). -/
def State.tlbInvalidate (s : State) (n : Nat) : State :=
  let c := s.namedCtx n (s.arg n 0)
  let r := s.invalidate c (s.arg n 1) (s.arg n 2)
  let t := r.1
  let tags := r.2 ++ (t.xlat.overdue.filter fun o => o.1 == c).map (·.2)
  ((t.setXlat { t.xlat with invs := t.xlat.invs ++ [⟨n, c, tags⟩] }).begin_ n).settleInvs

/-- TLB_INVALIDATE. -/
def execTlbInvalidate (mbx : Nat) (s : State) : Host.Outcome State Fault Refusal :=
  runCommand mbx 0x0400 (fun s => s.tlbInvalidate mbx) s

/-- TIE_SET: the window took effect at the take, and every access is performed whole as it arrives (R482). -/
def State.tieSet (s : State) (n : Nat) : State :=
  (s.setXlat { s.xlat with tieUndo := s.xlat.tieUndo.filter fun u => u.1 != n }).complete n stOk []

/-- TIE_SET (R480 to R482). -/
def execTieSet (mbx : Nat) (s : State) : Host.Outcome State Fault Refusal :=
  runCommand mbx 0x0601 (fun s => s.tieSet mbx) s

end Sys2Proof.Machine
end

