-- ==== Sys2Proof/Machine/Ties.lean ====
section
/-!
DEFINITION. Accesses through tie leaves as their senders make them (R477 to R479, R485), shared by lanes, copies, engines
and the control processor.
-/

namespace Sys2Proof.Machine

/-- What a tie access asks for, besides its place: a read, or an atomic with its operation, width, operand and compare value
(R582). -/
inductive TieAsk where
  | read
  | atomic (op width a c : Nat)
deriving DecidableEq, Repr

/-- The request frame of a tie read or atomic (R582). -/
def State.tieFrame (s : State) (ctx node window offset size : Nat) (a : TieAsk) : Head × List Byte :=
  match a with
  | .read => ({ s.headTo opReadReq node kTie ctx with window, offset, length := size }, [])
  | .atomic op width x c =>
    ({ s.headTo opAtomic node kTie ctx with window, offset, length := 24 },
     wordsPayload [placed op 56 + placed width 48, x, c])

/-- Some tie access of this waiter at this address has been sent already. -/
def State.tieAsked (s : State) (who : Waiter) (va : Nat) : Option TieOp :=
  s.xlat.tieOps.find? fun o => o.who == who && o.va == va

/-- How sending a tie access ends. -/
inductive TieSent where
  | sent
  | fault (f : FaultInfo)
deriving DecidableEq, Repr

/-- A tie read or atomic goes to the far device, whose answer its waiter takes (R477, R479). -/
def State.tieAsk (s : State) (o : TieOp) (offset : Nat) (a : TieAsk) : State × TieSent :=
  let f := s.tieFrame o.ctx o.node o.window offset o.size a
  let id := s.xlat.nextTie
  let t := s.setXlat { s.xlat with tieOps := s.xlat.tieOps ++ [{ o with id }], nextTie := id + 1 }
  match t.flowSend f.1 f.2 (.tieRead id) with
  | some t' => (t', .sent)
  | none => (s, .fault ⟨.tieLost, 7, 0, false, tieWhere o.node o.window 0⟩)

/-- The tie accesses of a waiter are over: their answers have been taken. -/
def State.tieTake (s : State) (p : Waiter → Bool) : State :=
  (s.setXlat { s.xlat with tieOps := s.xlat.tieOps.filter fun o => !(p o.who) }).settleInvs

/-- The node of a tie is this device's own (R479). -/
def State.ownNode (s : State) (node : Nat) : Bool := s.fab.epoch != 0 && node == s.fab.node

/-- A tie leaf's place at this device's own tie table (R479, R484). -/
def State.ownTie (s : State) (node window offset n : Nat) (k : AccKind) : FaultInfo ⊕ Nat :=
  match s.tieCheck node window offset n k with
  | .inl r => .inl ⟨.tieRefused, 7, 0, false, tieWhere node window r⟩
  | .inr (pa, _) =>
    if k != .write && s.poisoned pa n then .inl ⟨.tieRefused, 7, 0, false, tieWhere node window nPoisoned⟩ else .inr pa

end Sys2Proof.Machine
end

