-- ==== Sys2Proof/Machine/Reads.lean ====
section
/-!
DEFINITION. Reads that a hub engine or the control processor makes at virtual addresses of a context, wherever the bytes lie
(R446, R477 to R479, R551).
-/

namespace Sys2Proof.Machine

/-- How a read for an entry ends. -/
inductive Fetched where
  | bytes (l : List Byte)
  /-- A far device or a replayable fault is awaited. -/
  | waits
  | fault (va : Nat) (f : FaultInfo)
  | poison
deriving DecidableEq, Repr

/-- A piece through a tie cut into pieces of at most 4,096 bytes, the most that one READ_REQ asks for (R582). -/
def splitPiece : Nat → Piece → List Piece
  | 0, _ => []
  | n + 1, p =>
    match p.target with
    | .local_ _ => [p]
    | .tie node w off =>
      if p.size ≤ 4096 then [p]
      else ⟨.tie node w off, p.va, 4096⟩ :: splitPiece n ⟨.tie node w (off + 4096), p.va + 4096, p.size - 4096⟩

/-- All the pieces of a range, cut. -/
def splitPieces (l : List Piece) : List Piece := l.flatMap fun p => splitPiece (p.size / 4096 + 1) p

/-- One piece read, wherever it lies (R477 to R479). -/
def State.fetchPiece (s : State) (ctx : Nat) (who : Waiter) (by_ : AccessBy) (e : Engine) (p : Piece) : State × Fetched :=
  match p.target with
  | .local_ pa => if s.poisoned pa p.size then (s, .poison) else (s, .bytes (s.hbmRead pa p.size))
  | .tie node w off =>
    if s.ownNode node then
      match s.ownTie node w off p.size .read with
      | .inl f => (s, .fault p.va f)
      | .inr pa => (s, .bytes (s.hbmRead pa p.size))
    else
      match s.tieAsked who p.va with
      | some o => match o.answer with | some b => (s, .bytes b) | none => (s, .waits)
      | none =>
        match s.tieAsk { id := 0, tag := 0, ctx, va := p.va, who, kind := .read, by_, engine := e, node, window := w,
                         size := p.size, site := none, answer := none } off .read with
        | (t, .sent) => (t, .waits)
        | (t, .fault f) => (t, .fault p.va f)

/-- A range read piece by piece: requests for far pieces all go out, and a fault ends the read. -/
def State.fetchPieces (ctx : Nat) (who : Waiter) (by_ : AccessBy) (e : Engine) : List Piece → State → State × Fetched
  | [], s => (s, .bytes [])
  | p :: l, s =>
    match s.fetchPiece ctx who by_ e p with
    | (t, .bytes b) =>
      match State.fetchPieces ctx who by_ e l t with
      | (t', .bytes b') => (t', .bytes (b ++ b'))
      | r => r
    | (t, .waits) =>
      match State.fetchPieces ctx who by_ e l t with
      | (t', .bytes _) => (t', .waits)
      | r => r
    | r => r

end Sys2Proof.Machine
end

