-- ==== Sys2Proof/Machine/Collectives.lean ====
section
/-!
DEFINITION. The collective engines (R629 to R637): slots, chunks up and down the reduction tree, credit and failure, shared by
the wake of a slot's line and by the rows of COLL frames.
-/

namespace Sys2Proof.Machine

/-! ### Elements (R632 to R635) -/

/-- Elements in a full chunk (R635). -/
def Collective.perChunk (c : Collective) : Nat := if c.mode = 0 then 1020 else 204

/-- Chunks of data. -/
def Collective.chunks (c : Collective) : Nat := (c.count + c.perChunk - 1) / c.perChunk

/-- Elements of chunk `k`. -/
def Collective.sizeOf (c : Collective) (k : Nat) : Nat := min c.perChunk (c.count - k * c.perChunk)

/-- Chunks that go up: a BROADCAST sends one, and it is empty (R636). -/
def Collective.upChunks (c : Collective) : Nat := if c.op = 2 then 1 else c.chunks

/-- Elements of UP chunk `k`. -/
def Collective.upSize (c : Collective) (k : Nat) : Nat := if c.op = 2 then 0 else c.sizeOf k

/-- Flags NAN, PINF, NINF, HUGE_POS, HUGE_NEG and INX in the positions of R355. -/
def anchFlags (e : AnchEl) : BitVec 7 :=
  BitVec.ofNat 7 (flagNat e.inx + 4 * flagNat e.hugeNeg + 8 * flagNat e.hugePos + 16 * flagNat e.ninf + 32 * flagNat e.pinf
    + 64 * flagNat e.nan)

/-- An input as an anchored element (R633). -/
def toAnch (anchor : Int) (x : Half) : CollEl :=
  match decodeF .fp32 x.toNat with
  | .nan _ => .anch 0 64
  | .inf n => .anch 0 (if n then 16 else 32)
  | .fin n m e =>
    let r := roundAt .nearest n m e (anchor - 96)
    if 2 ^ 137 ≤ r.1 then .anch 0 (if n then 4 else 8)
    else .anch (BitVec.ofInt 152 (sm n r.1)) (if r.2 then 1 else 0)

/-- An input as an element of the collective. -/
def Collective.input (c : Collective) (x : Half) : CollEl := if c.mode = 0 then .fp32 x else toAnch c.anchor x

/-- Two partials added (R632, R633). -/
def CollEl.plus : CollEl → CollEl → CollEl
  | .fp32 a, .fp32 b => .fp32 (BitVec.ofNat 32 (fAdd .fp32 .nearest a.toNat b.toNat).1)
  | .anch a f, .anch b g => .anch (a + b) (f ||| g)
  | a, _ => a

/-- The flags that an output element adds to EFLAGS (R629). -/
def CollEl.flags : CollEl → Nat
  | .fp32 _ => 0
  | .anch _ f => f.toNat

/-- An anchored sum as an accumulator element (R634). -/
def anchOf (sum : BitVec 152) (f : BitVec 7) : AnchEl :=
  { sum := sum.signExtend 184, nan := f.getLsbD 6, pinf := f.getLsbD 5, ninf := f.getLsbD 4, hugePos := f.getLsbD 3,
    hugeNeg := f.getLsbD 2, inx := f.getLsbD 0 }

/-- The bytes of an output element (R634, R545). -/
def Collective.output (c : Collective) : CollEl → List Byte
  | .fp32 x => leBytes 4 x.toNat
  | .anch sum f =>
    if c.cells then
      leBytes 24 (sum.signExtend 192).toNat
        ++ leBytes 8 (f.toNat + 2 ^ 7 + 2 ^ 32 * (BitVec.ofInt 32 c.anchor).toNat)
    else leBytes 4 (encodeF .fp32 .nearest ((anchOf sum f).read c.anchor)).1

/-- The bytes of an element in a frame (R635, R13). -/
def CollEl.wire : CollEl → List Byte
  | .fp32 x => beBytes 4 x.toNat
  | .anch sum f => beBytes 20 (f.toNat * 2 ^ 152 + sum.toNat)

/-- Elements read from a frame. -/
def wireEls (mode : Nat) (n : Nat) (bytes : List Byte) : List CollEl :=
  (List.range n).map fun i =>
    if mode = 0 then .fp32 (BitVec.ofNat 32 (beNat ((bytes.drop (4 * i)).take 4)))
    else
      let v := beNat ((bytes.drop (20 * i)).take 20)
      .anch (BitVec.ofNat 152 v) (BitVec.ofNat 7 (v / 2 ^ 152))

/-- Bytes of an element in a frame. -/
def wireSize (mode : Nat) : Nat := if mode = 0 then 4 else 20

/-! ### Progress (R632 to R636) -/

/-- Children of a launch (R614). -/
def Launch.children (l : Launch) : List Nat := childNodes l.own l.tree

/-- A COLL frame that ends the collective where there is no route (R578, R637); whether it went. -/
def State.collSend (s : State) (c : Collective) (dst phase w1 : Nat) (data : List Byte) : State × Bool :=
  match s.collTo dst phase c.job c.attempt w1 data (.coll c.ctx c.slot) with
  | some t => (t, true)
  | none => (s.collEnd c stDestLost, false)

/-- The same frame data to several nodes, up to the first that cannot be reached. -/
def State.collSendAll (c : Collective) (phase w1 : Nat) (data : List Byte) : List Nat → State → State × Bool
  | [], s => (s, true)
  | n :: l, s =>
    match s.collSend c n phase w1 data with
    | (t, true) => State.collSendAll c phase w1 data l t
    | r => r

/-- Credit up to 32 chunks ahead goes to every child (R636). -/
def State.collGrant (s : State) (c : Collective) (l : Launch) : State × Bool :=
  let limit := min c.upChunks (c.sent + 32)
  if c.granted.all fun g => decide (limit ≤ g.2) then (s, true)
  else
    let t := s.putColl { c with granted := c.granted.map fun g => (g.1, limit) }
    State.collSendAll c 2 (placed c.seq 32 + limit) [] l.children t

/-- A fault of the collective engine: it waits for FAULT_REPLAY, or the context is torn down (R465, R466). -/
def State.collFault (s : State) (c : Collective) (va : Nat) (k : AccKind) (f : FaultInfo) : State :=
  match s.recordFault c.ctx va k .control .copy f 1 with
  | (t, .waits slot) =>
    let req : WalkReq := { ctx := c.ctx, va, kind := k, engine := .copy, by_ := .control, who := .coll c.ctx c.slot, site := none }
    t.setXlat { t.xlat with waits := t.xlat.waits ++ [⟨c.ctx, slot, req⟩] }
  | (t, .exception) => t.teardown c.ctx stTranslationFault

/-- This device's inputs of chunk `k`, or none while they are awaited or lost (R630, R551). -/
def State.collOwn (s : State) (c : Collective) (k : Nat) : State × Option (List CollEl) :=
  let n := c.sizeOf k
  match s.cpTranslate c.ctx .read (c.src + 4 * c.perChunk * k) (4 * n) with
  | .poison => (s.teardown c.ctx stHwFault, none)
  | .fault a f => (s.collFault c a .read f, none)
  | .pieces l =>
    match State.fetchPieces c.ctx (.coll c.ctx c.slot) .control .copy (splitPieces l) s with
    | (t, .bytes b) =>
      (t.tieTake fun w => w == .coll c.ctx c.slot,
       some ((List.range n).map fun i => c.input (BitVec.ofNat 32 (leNat ((b.drop (4 * i)).take 4)))))
    | (t, .waits) => (t, none)
    | (t, .poison) => (t.teardown c.ctx stHwFault, none)
    | (t, .fault a f) => (t.collFault c a .read f, none)

/-- Every child has delivered UP chunk `k`: their elements, in child order (R632). -/
def Collective.childParts (c : Collective) (k : Nat) : Option (List (List CollEl)) :=
  (List.range c.granted.length).mapM fun i => ((c.up.find? fun u => u.1 == i && u.2.1 == k).map (·.2.2))

/-- Partials added in child order (R632). -/
def addParts (own : List CollEl) (parts : List (List CollEl)) : List CollEl :=
  parts.foldl (fun p q => List.zipWith CollEl.plus p q) own

/-- Output elements that are in hand and not yet written are written at DST: under REDUCE at the root alone (R630). -/
def State.collWrite (s : State) (c : Collective) (l : Launch) : State × Bool :=
  let els := c.result.drop c.written
  if els.isEmpty ∨ (c.op = 1 ∧ l.from_.isSome) then (s, true)
  else
    let size := if c.cells then 32 else 4
    match s.cpStore c.ctx (c.dst + size * c.written) (els.flatMap c.output) (.coll c.ctx c.slot) with
    | (t, .done) => (t.putColl { c with written := c.result.length }, true)
    | (t, .poison) => (t.teardown c.ctx stHwFault, false)
    | (t, .fault a f) => (t.collFault c a .write f, false)

/-- Word 1 of a data frame (R635). -/
def Collective.chunkWord (c : Collective) (k : Nat) : Nat := placed c.seq 32 + k

/-- A result chunk of the root: it is kept for DST, and goes DOWN but for REDUCE (R630, R636). -/
def State.collResult (s : State) (c : Collective) (l : Launch) (k : Nat) (els : List CollEl) : State × Bool :=
  let c := { c with result := c.result ++ els }
  let t := s.putColl c
  if c.op = 1 then (t, true)
  else State.collSendAll c 1 (c.chunkWord k) (els.flatMap CollEl.wire) l.children t

/-- UP chunk `k` is combined; it goes to the parent, or at the root it is a result (R632, R633, R636). -/
def State.collUp (s : State) (c : Collective) (l : Launch) (own : List CollEl) (parts : List (List CollEl)) : State × Bool :=
  let k := c.sent
  let els := if c.op = 2 then [] else addParts own parts
  let c := { c with sent := k + 1, up := c.up.filter fun u => u.2.1 != k }
  let t := s.putColl c
  let r := match l.from_ with
    | some up => t.collSend c up 0 (c.chunkWord k) (els.flatMap CollEl.wire)
    | none => if c.op = 2 then (t, true) else t.collResult c l k els
  if r.2 then
    match r.1.coll c.ctx c.slot with
    | some c' => r.1.collGrant c' l
    | none => (r.1, false)
  else r

/-- The next step of a collective, when it can be made: the next UP chunk, or the next DOWN chunk of a BROADCAST's root. -/
def State.collStep (s : State) (c : Collective) (l : Launch) : State × Bool :=
  if c.sent < c.upChunks then
    match c.childParts c.sent with
    | none => (s, false)
    | some parts =>
      if l.from_.isSome ∧ c.credit ≤ c.sent then (s, false)
      else if c.op = 2 then s.collUp c l [] parts
      else
        match s.collOwn c c.sent with
        | (t, some own) => t.collUp c l own parts
        | (t, none) => (t, false)
  else if c.op = 2 ∧ l.from_.isNone ∧ c.result.length < c.count then
    let k := c.result.length / c.perChunk
    match s.collOwn c k with
    | (t, some own) => t.collResult c l k own
    | (t, none) => (t, false)
  else (s, false)

/-- Output writes of a collective that no far device has acknowledged. -/
def State.collWrites (s : State) (ctx slot : Nat) : Bool :=
  s.fab.sends.any fun f => f.kind == kTie && (f.unacked ++ f.waiting).any fun u => u.op == .coll ctx slot

/-- The collective has done its part on this device: DONE is written (R630). -/
def State.collFinish (s : State) (ctx slot : Nat) : State :=
  match s.coll ctx slot with
  | none => s
  | some c =>
    let up := match s.launchOf c.job c.attempt with | some l => l.from_.isSome | none => false
    let ended := if c.op == 1 && up then decide (c.chunks ≤ c.sent) else decide (c.count ≤ c.written)
    if ended && !(s.collWrites ctx slot) then
      s.collDone c stOk (if c.op == 1 && up then 0 else c.result.foldl (fun m e => m ||| e.flags) 0)
    else s

/-- The collective waits on a replayable fault. -/
def State.collHeld (s : State) (ctx slot : Nat) : Bool := s.xlat.waits.any fun w => w.req.who == .coll ctx slot

/-- A collective goes on as far as it can. -/
def State.collRun : Nat → State → Nat → Nat → State
  | 0, s, _, _ => s
  | n + 1, s, ctx, slot =>
    match s.coll ctx slot with
    | none => s
    | some c =>
      match s.launchOf c.job c.attempt with
      | none => s
      | some l =>
        if s.collHeld ctx slot then s
        else
          match s.collWrite c l with
          | (t, false) => t
          | (t, true) =>
            match t.coll ctx slot with
            | none => t
            | some c' =>
              match t.collStep c' l with
              | (t', true) => State.collRun n t' ctx slot
              | (t', false) => t'.collFinish ctx slot

/-- A collective goes on as far as it can. -/
def State.driveColl (s : State) (ctx slot : Nat) : State :=
  match s.coll ctx slot with
  | some c => State.collRun (2 * c.chunks + 4) s ctx slot
  | none => s

/-! ### Posting a slot (R629, R631) -/

/-- The slot that a registered line is, of a launch whose start stake has passed (R629). -/
def State.slotOf (s : State) (w : Watch) : Option (Launch × Nat) :=
  (s.joined.launches.find? fun l =>
    l.ctx == w.ctx && l.desc.collBase != 0 && decide (l.desc.collBase ≤ w.va) && (w.va - l.desc.collBase) % 256 == 0
      && decide ((w.va - l.desc.collBase) / 256 < l.desc.collSlots) && decide (l.stake ≤ s.mt)).map
    fun l => (l, (w.va - l.desc.collBase) / 256)

/-- The collective that a slot's words describe (R629). -/
def State.readSlot (s : State) (w : Watch) (l : Launch) (slot : Nat) : Collective :=
  let word := fun (i : Nat) => (s.hbmWord (w.line * 256 + 8 * i)).toNat
  let anchored := word 1 / 16 % 2 = 1
  { ctx := w.ctx, slot, line := w.line, job := l.job, attempt := l.attempt, seq := word 1 / 2 ^ 32,
    op := word 1 / 2 ^ 8 % 16, mode := word 1 / 16 % 2, cells := anchored && word 1 % 2 == 1,
    anchor := (BitVec.ofNat 32 (word 2 / 2 ^ 32)).toInt, count := word 2 % 2 ^ 32, src := word 3, dst := word 4,
    deadline := word 5, gen := word 0 / 2 ^ 32, up := [], sent := 0, credit := 0, result := [], written := 0,
    granted := (List.range l.children.length).map fun i => (i, 0) }

/-- A field of the slot lies outside what R629 allows. -/
def Collective.bad (c : Collective) : Bool :=
  decide (2 < c.op) || c.count == 0 || decide (2 ^ 26 < c.count) || c.src % 4 != 0
    || c.dst % (if c.cells then 32 else 4) != 0
    || (c.mode == 1 && (decide (c.anchor < -4096) || decide (4095 < c.anchor)))

/-- The slot's collective starts (R629, R636): credit that came early counts, and a FAIL that came early ends it. -/
def State.startColl (s : State) (w : Watch) (l : Launch) (slot : Nat) : State :=
  let c := s.readSlot w l slot
  let mine := fun (e : EarlyColl) => e.job == c.job && e.attempt == c.attempt && e.seq == c.seq
  let early := s.joined.early.find? mine
  let c := { c with credit := (early.map (·.credit)).getD 0 }
  let t := s.setJoined { s.joined with colls := s.joined.colls ++ [c], early := s.joined.early.filter fun e => !(mine e) }
  match early.bind (·.fail) with
  | some st => (t.collFail c st l.from_).collDone c st 0
  | none =>
    if c.bad then t.collEnd c stBadArg
    else
      match t.collGrant c l with
      | (t', true) => t'.driveColl c.ctx c.slot
      | (t', false) => t'

/-- The slot behind a line is posted, and its collective starts, unless one is in flight there (R629); whether it did. -/
def State.postSlot (s : State) (w : Watch) : State × Bool :=
  match s.slotOf w with
  | none => (s, false)
  | some (l, i) =>
    if (s.coll w.ctx i).isSome || (s.hbmWord (w.line * 256)).toNat % 4 != 2 then (s, false)
    else (s.startColl w l i, true)

/-! ### COLL frames (R635 to R637) -/

/-- JOB, ATTEMPT and SEQ of a COLL frame (R635). -/
def collKey (f : Frame) : Nat × Nat × Nat := (f.word 0 % 2 ^ 32, f.word 0 / 2 ^ 32 % 2 ^ 16, f.word 1 / 2 ^ 32)

/-- PHASE of a COLL frame (R635). -/
def collPhase (f : Frame) : Nat := f.word 0 / 2 ^ 56

/-- The collective that a frame belongs to. -/
def State.collOf (s : State) (f : Frame) : Option Collective :=
  let k := collKey f
  s.joined.colls.find? fun c => c.job == k.1 && c.attempt == k.2.1 && c.seq == k.2.2

/-- The launch that a frame belongs to. -/
def State.launchFor (s : State) (f : Frame) : Option Launch := s.launchOf (collKey f).1 (collKey f).2.1

/-- Data bytes of a COLL frame. -/
def collData (f : Frame) : List Byte := f.payload.drop 16

/-- An UP chunk from a child (R631, R636). -/
def State.takeUp (s : State) (c : Collective) (l : Launch) (f : Frame) : State :=
  let k := f.word 1 % 2 ^ 32
  match l.children.findIdx? (· == f.src) with
  | none => s
  | some i =>
    let limit := ((c.granted.find? fun g => g.1 == i).map (·.2)).getD 0
    if limit ≤ k ∨ (collData f).length ≠ wireSize c.mode * c.upSize k then s.collEnd c stBadArg
    else
      (s.putColl { c with up := c.up ++ [(i, k, wireEls c.mode (c.upSize k) (collData f))] }).driveColl c.ctx c.slot

/-- A DOWN chunk from the parent: kept for DST and passed on (R630, R631). -/
def State.takeDown (s : State) (c : Collective) (l : Launch) (f : Frame) : State :=
  let k := f.word 1 % 2 ^ 32
  if l.from_ ≠ some f.src then s
  else if c.op = 1 ∨ c.chunks ≤ k ∨ k * c.perChunk ≠ c.result.length ∨ (collData f).length ≠ wireSize c.mode * c.sizeOf k then
    s.collEnd c stBadArg
  else
    let c := { c with result := c.result ++ wireEls c.mode (c.sizeOf k) (collData f) }
    match State.collSendAll c 1 (c.chunkWord k) (collData f) l.children (s.putColl c) with
    | (t, true) => t.driveColl c.ctx c.slot
    | (t, false) => t

/-- What reached this device before its own slot was posted (R636, R637). -/
def State.noteEarly (s : State) (f : Frame) (credit : Nat) (fail : Option Nat) : State :=
  let k := collKey f
  let mine := fun (e : EarlyColl) => e.job == k.1 && e.attempt == k.2.1 && e.seq == k.2.2
  let old := s.joined.early.find? mine
  let e : EarlyColl := {
    job := k.1, attempt := k.2.1, seq := k.2.2, credit := max credit ((old.map (·.credit)).getD 0),
    fail := (old.bind (·.fail)) <|> fail }
  s.setJoined { s.joined with early := e :: s.joined.early.filter fun x => !(mine x) }

/-- CREDIT from the parent (R636). -/
def State.takeCredit (s : State) (c : Option Collective) (l : Launch) (f : Frame) : State :=
  let limit := f.word 1 % 2 ^ 32
  if l.from_ ≠ some f.src then s
  else
    match c with
    | some c => (s.putColl { c with credit := max c.credit limit }).driveColl c.ctx c.slot
    | none => s.noteEarly f limit none

/-- FAIL from the parent or a child: the collective ends with its status, and it is passed on (R637). -/
def State.takeFail (s : State) (c : Option Collective) (l : Launch) (f : Frame) : State :=
  let status := f.word 1 / 2 ^ 16 % 2 ^ 16
  if l.from_ ≠ some f.src ∧ !(l.children.contains f.src) then s
  else
    match c with
    | some c => (s.collFail c status (some f.src)).collDone c status 0
    | none => s.noteEarly f 0 (some status)

/-- A COLL frame: nothing for a launch this device does not hold; a collective whose deadline the frame's stamp has reached
ends first (R125, R637). -/
def State.takeColl (s : State) (f : Frame) (stamp : Nat) : State :=
  match s.launchFor f with
  | none => s
  | some l =>
    match s.collOf f with
    | none => if collPhase f = 2 then s.takeCredit none l f else if collPhase f = 3 then s.takeFail none l f else s
    | some c =>
      if c.deadline ≠ 0 ∧ c.deadline ≤ stamp then s.collEnd c stTimeout
      else
        match collPhase f with
        | 0 => s.takeUp c l f
        | 1 => s.takeDown c l f
        | 2 => s.takeCredit (some c) l f
        | 3 => s.takeFail (some c) l f
        | _ => s

/-- COLLECTIVE_DEADLINE (R125, R637): a chunk that came before it and waits to be handled goes first (R126). -/
def execCollectiveDeadline (ctx slot : Nat) (s : State) : Host.Outcome State Fault Refusal :=
  .next (match s.coll ctx slot with
    | some c =>
      let wins := s.arriving fun _ f stamp => f.op == opColl && f.word 0 % 2 ^ 32 == c.job && decide (stamp < c.deadline)
      if c.deadline ≠ 0 ∧ c.deadline ≤ s.mt ∧ !wins then s.collEnd c stTimeout else s
    | none => s)

end Sys2Proof.Machine
end

