-- ==== Sys2Proof/Machine/Lists.lean ====
section
/-!
DEFINITION. Command lists: the wake of a flag line, the start and end of entries, the entries themselves, and the placing
and ending of blocks (R25 to R30, R129 to R131, R154 to R183, R199 to R202, R259, R260).
-/

namespace Sys2Proof.Machine

/-! ### Reads and writes for an entry -/

/-- An access of the control processor for an entry waits on a replayable fault (R466, R467). -/
def State.holdEntry (s : State) (watch k ctx va slot : Nat) (kind : AccKind) : State :=
  let req : WalkReq := { ctx, va, kind, engine := .copy, by_ := .control, who := .entry watch k 0, site := none }
  let s := s.setXlat { s.xlat with waits := s.xlat.waits ++ [⟨ctx, slot, req⟩] }
  match s.pass watch with
  | some p =>
    match p.entries[k]? with
    | some e => s.putPass (p.putEntry k { e with held := true })
    | none => s
  | none => s

/-- A fault that the control processor meets for an entry: it waits, or the entry ends and the context is torn down (R465,
R466, R470). -/
def State.entryFaults (s : State) (watch k ctx va : Nat) (kind : AccKind) (f : FaultInfo) : State :=
  match s.recordFault ctx va kind .control .copy f 1 with
  | (t, .waits slot) => t.holdEntry watch k ctx va slot kind
  | (t, .exception) => t.entryFault watch k ctx va

/-- Bytes of a context's memory read for an entry; a fault is dealt with, and the answer is then none (R446, R551). -/
def State.entryRead (s : State) (watch k ctx va n : Nat) : State × Option (List Byte) :=
  match s.cpTranslate ctx .read va n with
  | .poison => (s.endEntry watch k stHwFault 0, none)
  | .fault a f => (s.entryFaults watch k ctx a .read f, none)
  | .pieces l =>
    match State.fetchPieces ctx (.entry watch k 0) .control .copy (splitPieces l) s with
    | (t, .bytes b) => (t.tieTake fun w => w == .entry watch k 0, some b)
    | (t, .waits) => (t, none)
    | (t, .poison) => (t.endEntry watch k stHwFault 0, none)
    | (t, .fault a f) => (t.entryFaults watch k ctx a .read f, none)

/-- One piece written by a copy engine, which wakes watched lines (R162, R477 to R479). -/
def State.enginePiece (s : State) (ctx : Nat) (op : FlowOp) (p : Piece) (bytes : List Byte) : State × Stored :=
  match p.target with
  | .local_ pa => (s.hbmWrite pa bytes, .done)
  | .tie node w off =>
    if s.ownNode node then
      match s.ownTie node w off bytes.length .write with
      | .inl f => (s, .fault p.va f)
      | .inr pa => (s.hbmWrite pa bytes, .done)
    else
      match s.tieSend ctx node w off bytes (op.at_ p.va w) with
      | some t => (t, .done)
      | none => (s, .fault p.va ⟨.tieLost, 7, 0, false, tieWhere node w 0⟩)

/-- A range written by a copy engine, up to the first piece that fails. -/
def State.engineStore (ctx : Nat) (op : FlowOp) : List Piece → List Byte → State → State × Stored
  | [], _, s => (s, .done)
  | p :: l, bytes, s =>
    match s.enginePiece ctx op p (bytes.take p.size) with
    | (t, .done) => State.engineStore ctx op l (bytes.drop p.size) t
    | r => r

/-! ### The life of an entry (R167 to R176) -/

/-- An entry that has not been reached. -/
def Entry.blank : Entry where
  words := []
  phase := .waiting
  status := 0
  startMt := 0
  startFlags := 0
  endMt := 0
  endFlags := 0
  detail := 0
  latch := []
  latchEnd := []
  nextBlock := 0
  blocksDone := 0
  held := false
  kernel := none
  watched := 0
  met := false
  late := false
  begun := false

/-- Entry `k` of the pass of a list. -/
def State.entry (s : State) (watch k : Nat) : Option Entry := (s.pass watch).bind fun p => p.entries[k]?

/-- The state with another entry `k`. -/
def State.putEntry (s : State) (watch k : Nat) (e : Entry) : State :=
  match s.pass watch with
  | some p => s.putPass (p.putEntry k e)
  | none => s

/-- A started entry is in flight until its record is written (R169). -/
def Entry.inFlight (e : Entry) : Bool := e.phase == .staked || e.phase == .running || e.phase == .ended

/-- The pass has a failed entry and stops at it (R174). -/
def Pass.stopping (p : Pass) : Bool :=
  p.stop && p.entries.any fun e => (e.phase == .ended || e.phase == .recorded) && e.status != stOk && e.status != stSkipped

/-- An entry that was not started completes with SKIPPED (R174). -/
def State.skipEntry (s : State) (watch k : Nat) (e : Entry) : State :=
  s.putEntry watch k { e with
    phase := .ended, status := stSkipped, startMt := 0, endMt := s.mt, endFlags := s.hubFlags false, latch := s.obs.aon,
    latchEnd := s.obs.aon }

/-- An entry starts, or is held for its stake (R129 to R131, R170, R180); an unknown KIND ends it (R168). -/
def State.startEntry (s : State) (watch k : Nat) (e : Entry) : State :=
  if e.staked && decide (s.mt < e.stake) then s.putEntry watch k { e with phase := .staked }
  else
    let t := s.putEntry watch k { s.beginEntry e s.mt (e.staked && decide (e.stake < s.mt)) with phase := .running }
    if 7 < e.kind then t.endEntry watch k stBadOpcode 0 else t

/-- Index of the first entry of a list that meets a condition. -/
def firstIndex (p : Entry → Bool) (l : List Entry) : Option Nat := l.findIdx? p

/-- The eight words of an entry, from its bytes. -/
def entryWords (b : List Byte) : List Word := (List.range 8).map fun i => BitVec.ofNat 64 (leNat ((b.drop (8 * i)).take 8))

/-- The words of a reached entry, read once (R167). -/
def State.readEntry (s : State) (p : Pass) (k : Nat) (e : Entry) : State × Option Entry :=
  if !e.words.isEmpty then (s, some e)
  else
    match s.entryRead p.watch k p.ctx (p.va + 0x100 + 64 * k) 64 with
    | (t, some b) =>
      let e := { e with words := entryWords b }
      (t.putEntry p.watch k e, some e)
    | (t, none) => (t, none)

/-- Entries of a list start in list order as far as they may (R169, R174). -/
def State.advance : Nat → Nat → State → State
  | 0, _, s => s
  | n + 1, watch, s =>
    match s.pass watch with
    | none => s
    | some p =>
      if !(s.passLive p) then s
      else if p.stopping then
        match firstIndex (fun e => (e.phase == .waiting || e.phase == .staked) && !e.held) p.entries with
        | none => s
        | some k =>
          match p.entries[k]? with
          | none => s
          | some e =>
            match s.readEntry p k e with
            | (t, some e') => State.advance n watch (t.skipEntry watch k e')
            | (t, none) => t
      else
        match firstIndex (fun e => e.phase == .waiting) p.entries with
        | none => s
        | some k =>
          match p.entries[k]? with
          | none => s
          | some e =>
            if e.held ∨ 16 ≤ (p.entries.filter Entry.inFlight).length then s
            else
              match s.readEntry p k e with
              | (t, none) => t
              | (t, some e') =>
                if e'.conc || (p.entries.take k).all (fun d => d.phase == .recorded) then
                  State.advance n watch (t.startEntry watch k e')
                else t

/-- Entries of a list start as far as they may. -/
def State.runList (s : State) (watch : Nat) : State :=
  match s.pass watch with
  | some p => State.advance (2 * p.entries.length + 1) watch s
  | none => s

/-! ### The wake (R162 to R166) -/

/-- FLAGW_EVENT and the counter of wakes count a wake (R166, R801). -/
def State.countWake (s : State) (acted : Bool) : State :=
  let s := s.count 23 1
  if acted then s.setAbaom { s.abaom with acted := (s.abaom.acted + 1) % 2 ^ 32 }
  else s.setAbaom { s.abaom with spurious := (s.abaom.spurious + 1) % 2 ^ 32 }

/-- The check of the header at take-up (R159): the status that ends the pass, if one does. Poisoned page tables on the way to COMPL_BASE,
for which R159 names no status, end it with HW_FAULT (DESIGN CHOICE, log 132). -/
def State.headerCheck (s : State) (w : Watch) (entries base : Nat) : Option Nat :=
  let size := match w.kind with | .list n => n | .flag => 0
  if entries = 0 ∨ size < 256 + 64 * entries then some stBadLength
  else if base % 256 ≠ 0 then some stBadArg
  else
    match s.walk none 192 w.ctx base with
    | .leaf _ => none
    | .fault _ => some stTranslationFault
    | .poison => some stHwFault

/-- The control processor takes a list: TAKE_MT, the header check, the first entries (R159, R165). -/
def State.takeList (s : State) (w : Watch) : State :=
  let h := w.line * 256
  let w0 := (s.hbmWord h).toNat
  let w1 := (s.hbmWord (h + 8)).toNat
  let base := (s.hbmWord (h + 16)).toNat
  let n := w1 / 2 ^ 32
  let bad := s.headerCheck w n base
  let p : Pass := { watch := w.id, ctx := w.ctx, gen := w0 / 2 ^ 32, stop := w1 / 2 % 2 == 1, full := w1 % 2 == 1,
                    complBase := base, entries := if bad.isSome then [] else List.replicate n Entry.blank,
                    takeMt := s.mt, firstErr := none, line := w.line, va := w.va, lost := none }
  let s := s.setAbaom { s.abaom with passes := s.abaom.passes ++ [p] }
  let s := s.hubWrite (h + 32) (wordBytes [s.mt])
  match bad with
  | some st => s.writeDone w.id 0 st 0xFFFFFFFF
  | none => s.runList w.id

/-- How a WAIT ends whose word is evaluated now, if it ends: what was written before its deadline decides, whenever that is handled
(R125, R126, R172; log 105). -/
def State.waitEnds (s : State) (e : Entry) : Option Nat :=
  if e.word 5 ≠ 0 ∧ e.word 5 ≤ s.mt then some (if e.met then stOk else stTimeout)
  else if e.waitMet (s.hbmWord e.watched).toNat then some stOk
  else none

/-- A WAIT ends with a status; DETAIL of a TIMEOUT is its deadline. -/
def State.endWait (s : State) (watch k : Nat) (e : Entry) (st : Nat) : State :=
  s.endEntry watch k st (if st = stTimeout then e.word 5 else 0)

/-- Every WAIT entry on a woken line is evaluated (R172); whether one ended. A WAIT whose line UNWATCH_FLAG has since taken from the
watcher has no wake left and waits for its deadline: the spec is silent there (DESIGN CHOICE, log 130). -/
def State.wakeWaits (s : State) (line : Nat) : State × Bool :=
  let hits := (s.abaom.passes.filter s.passLive).flatMap fun p =>
    (p.entries.zipIdx.filter fun x => x.1.waitsOn line && (s.waitEnds x.1).isSome).map fun x => (p.watch, x.2, x.1)
  (hits.foldl (fun t x => t.endWait x.1 x.2.1 x.2.2 ((s.waitEnds x.2.2).getD stOk)) s, !hits.isEmpty)

/-- An entry is released: a held DISPATCH from 50 µs before its stake, for placement, and it starts with its first block; any other
entry starts at its stake, or late where a forward step passed over that (R103, R106, R129, R170). -/
def State.releaseStaked (s : State) (watch k : Nat) (e : Entry) : State :=
  if e.kind = 1 then if s.mt + 400000 < e.stake then s else s.putEntry watch k { e with phase := .running }
  else if s.mt < e.stake then s
  else
    let t := s.putEntry watch k { s.beginEntry e (if e.late then s.mt else e.stake) e.late with phase := .running }
    if 7 < e.kind then t.endEntry watch k stBadOpcode 0 else t

/-- STAKED_DISPATCH (R129): a list that stops at a failed entry starts no other (R174). -/
def execStakedDispatch (watch entry : Nat) (s : State) : Host.Outcome State Fault Refusal :=
  .next (match s.pass watch, s.entry watch entry with
    | some p, some e =>
      if e.phase == .staked && s.passLive p then
        if p.stopping then s.runList watch else s.releaseStaked watch entry e
      else s
    | _, _ => s)

/-- An entry of a KIND that runs and is not held (R168). -/
def State.runningEntry (s : State) (watch k kind : Nat) : Option (Pass × Entry) :=
  match s.pass watch with
  | none => none
  | some p =>
    match p.entries[k]? with
    | none => none
    | some e => if e.phase == .running && e.kind == kind && !e.held && s.passLive p then some (p, e) else none

/-- The meaning of an entry: nothing unless it runs. -/
def onEntry (watch k kind : Nat) (f : Pass → Entry → State → State) (s : State) : Host.Outcome State Fault Refusal :=
  .next (match s.runningEntry watch k kind with
    | some (p, e) => f p e s
    | none => s)

/-- NOP_ENTRY (R168). -/
def execNopEntry (watch entry : Nat) (s : State) : Host.Outcome State Fault Refusal :=
  onEntry watch entry 0 (fun _ _ s => s.endEntry watch entry stOk 0) s

/-- FENCE: it completes when every earlier entry has (R173). -/
def execFenceEntry (watch entry : Nat) (s : State) : Host.Outcome State Fault Refusal :=
  onEntry watch entry 5 (fun p _ s =>
    if (p.entries.take entry).all (fun d => d.phase == .recorded) then s.endEntry watch entry stOk 0 else s) s

/-- WRITE: a closing write of one word (R168, R171). -/
def State.writeEntry (s : State) (watch k : Nat) (p : Pass) (e : Entry) : State :=
  if e.word 2 % 8 ≠ 0 then s.endEntry watch k stBadArg 0
  else
    match s.cpStore p.ctx (e.word 2) (leBytes 8 (e.word 3)) (.entry watch k p.ctx 0 0) with
    | (t, .done) => t.endEntry watch k stOk 0
    | (t, .poison) => t.endEntry watch k stHwFault 0
    | (t, .fault a f) => t.entryFaults watch k p.ctx a .write f

/-- WRITE (R171). -/
def execWrite (watch entry : Nat) (s : State) : Host.Outcome State Fault Refusal :=
  onEntry watch entry 3 (fun p e s => s.writeEntry watch entry p e) s

/-- WAIT: its word is found once, must lie in a registered line, and is evaluated (R168, R172). -/
def State.waitEntry (s : State) (watch k : Nat) (p : Pass) (e : Entry) : State :=
  if e.watched ≠ 0 then (s.wakeWaits (e.watched / 256)).1
  else if 3 ≤ fieldNat (nth e.words 4 0) 1 0 ∨ e.word 2 % 8 ≠ 0 then s.endEntry watch k stBadArg 0
  else
    match s.cpTranslate p.ctx .read (e.word 2) 8 with
    | .poison => s.endEntry watch k stHwFault 0
    | .fault a f => s.entryFaults watch k p.ctx a .read f
    | .pieces [⟨.local_ pa, _, _⟩] =>
      if s.abaom.watches.any (fun w => w.line == pa / 256) then
        if s.poisoned pa 8 then s.endEntry watch k stHwFault 0
        else if e.waitMet (s.hbmWord pa).toNat then s.endEntry watch k stOk 0
        else s.putEntry watch k { e with watched := pa }
      else s.endEntry watch k stBadState 0
    | .pieces _ => s.endEntry watch k stBadState 0

/-- WAIT (R172). -/
def execWait (watch entry : Nat) (s : State) : Host.Outcome State Fault Refusal :=
  onEntry watch entry 4 (fun p e s => s.waitEntry watch entry p e) s

/-- WAIT_DEADLINE (R125, R172): a word written in time wins; a WAIT that a pending fault holds times out too. -/
def execWaitDeadline (watch entry : Nat) (s : State) : Host.Outcome State Fault Refusal :=
  .next (match s.pass watch, s.entry watch entry with
    | some p, some e =>
      if e.phase == .running && e.kind == 4 && e.word 5 != 0 && decide (e.word 5 ≤ s.mt) && s.passLive p then
        s.endWait watch entry e (if e.met then stOk else stTimeout)
      else s
    | _, _ => s)

/-! ### COPY (R168, R379 to R385) -/

/-- Bytes with those at the given places replaced by free values (R384; log 18). -/
def State.scramble (s : State) (hit : Nat → Bool) (bytes : List Byte) : State × List Byte :=
  (s.setFreeCtr (s.freeCtr + bytes.length),
   bytes.mapIdx fun i b => if hit i then (Config.freeWord (s.freeCtr + i)).truncate 8 else b)

/-- Byte `i` of a destination lies in the source range too. -/
def overlapAt (src len dst i : Nat) : Bool := decide (src ≤ dst + i) && decide (dst + i < src + len)

/-- The cycles of a copy engine for a COPY entry: one at least, and otherwise a free number, for no rule gives the rate (R703, R801;
log 154). -/
def State.copyTime (s : State) (ctx : Nat) : State :=
  let r := s.fresh
  let n := 1 + r.1.toNat % 2 ^ 32
  let x := r.2.ctx ctx
  (r.2.count 3 n).putCtx ctx { x with acct := { x.acct with copy := (x.acct.copy + n) % 2 ^ 64 } }

/-- The destination bytes of a COPY entry land (R384, R477): where a copy's ranges overlap they are free, but for one that puts every byte
back where it was. -/
def State.copyBytes (s : State) (watch k ctx src len dst : Nat) (c : Conv) (data : List Byte) : State :=
  let out := c.apply ⟨[], 0, 0⟩ dst data
  let r := if (List.range out.length).any (overlapAt src len dst) && (src != dst || c != .none) then s.scramble (overlapAt src len dst) out
    else (s, out)
  match r.1.cpTranslate ctx .write dst out.length with
  | .poison => r.1.endEntry watch k stHwFault 0
  | .fault a f => r.1.entryFaults watch k ctx a .write f
  | .pieces l =>
    match State.engineStore ctx (.entry watch k ctx 0 0) l r.2 r.1 with
    | (t, .done) => (t.copyTime ctx).endEntry watch k stOk 0
    | (t, .poison) => t.endEntry watch k stHwFault 0
    | (t, .fault a f) => t.entryFaults watch k ctx a .write f

/-- COPY. -/
def State.copyEntry (s : State) (watch k : Nat) (p : Pass) (e : Entry) : State :=
  let src := e.word 2
  let dst := e.word 3
  let len := e.word 4
  match convOf (e.word 5 % 256) with
  | none => s.endEntry watch k stBadArg 0
  | some c =>
    if c.stochastic || (c.dstLen len).isNone || !(c.aligned src dst) then s.endEntry watch k stBadArg 0
    else
      match s.entryRead watch k p.ctx src len with
      | (t, some b) => t.copyBytes watch k p.ctx src len dst c b
      | (t, none) => t

/-- COPY (R383). -/
def execCopy (watch entry : Nat) (s : State) : Host.Outcome State Fault Refusal :=
  onEntry watch entry 2 (fun p e s => s.copyEntry watch entry p e) s

/-! ### DISPATCH and its blocks (R25 to R30, R129, R130, R199 to R202, R259, R260) -/

/-- Groups that one core holds at most (R201). -/
def groupsPerCore (regs : Nat) : Nat := min 32 (2048 / regs)

/-- The kernel that a header and a DISPATCH entry describe, when R168, R202 and R260 allow it. -/
def kernelOf (e : Entry) (h : List Word) : Option Kernel :=
  let w0 := nth h 0 0
  let regs := fieldNat w0 24 16
  let bytes := fieldNat (nth h 1 0) 63 32
  let start := fieldNat (nth h 1 0) 31 0
  let exc := (nth h 2 0).toNat
  let blocks := e.word 4 / 2 ^ 32
  let groups := e.word 4 / 2 ^ 24 % 256
  let units := e.word 4 % 2 ^ 14
  let code := e.word 2
  let ok :=
    fieldNat w0 63 48 == 0x474B && fieldNat w0 47 40 == 1 && fieldNat w0 39 25 == 0 && fieldNat w0 15 1 == 0
      && ((h.drop 3).all fun w => w == 0) && code % 256 == 0 && bytes % 8 == 0 && start % 8 == 0
      && decide (64 ≤ start) && decide (start < 64 + bytes) && exc % 256 == 0
      && decide (16 ≤ regs) && decide (regs ≤ 256) && regs % 8 == 0
      && decide (1 ≤ blocks) && decide (1 ≤ groups) && decide (groups ≤ 128) && decide (units ≤ 8192)
      && decide (groups ≤ 4 * groupsPerCore regs)
  if ok then
    some { regs, ftz := bitAt w0 0, start := code + start, codeLo := code + 64, codeHi := code + 64 + bytes, excPtr := exc,
           args := e.word 3, blocks, groups, memory := units * 256 }
  else none

/-- DISPATCH: the header is read and checked; its blocks are then placed (R202, R260). -/
def State.dispatchEntry (s : State) (watch k : Nat) (p : Pass) (e : Entry) : State :=
  if e.kernel.isSome then s
  else if e.word 2 % 256 ≠ 0 then s.endEntry watch k stBadArg 0
  else
    match s.entryRead watch k p.ctx (e.word 2) 64 with
    | (t, none) => t
    | (t, some b) =>
      match kernelOf e ((List.range 8).map fun i => BitVec.ofNat 64 (leNat ((b.drop (8 * i)).take 8))) with
      | none => t.endEntry watch k stBadArg 0
      | some kn => t.putEntry watch k { e with kernel := some kn }

/-- DISPATCH (R202, R260). -/
def execDispatch (watch entry : Nat) (s : State) : Host.Outcome State Fault Refusal :=
  onEntry watch entry 1 (fun p e s => s.dispatchEntry watch entry p e) s

/-- Blocks resident on a cluster. -/
def State.blocksOn (s : State) (cluster : Nat) : List Block := s.compute.blocks.filter fun b => b.cluster == cluster

/-- Groups and lane registers per thread in use on a core (R201). -/
def coreUse (bs : List Block) (core : Nat) : Nat × Nat :=
  bs.foldl (fun a b => let n := (b.cores.filter (· == core)).length; (a.1 + n, a.2 + n * b.regs)) (0, 0)

/-- Group g goes to core g mod 4 (R323): none when a core lacks room for the groups assigned to it (R27, R201, R324). -/
def chooseCores (bs : List Block) (regs groups : Nat) : Option (List Nat) :=
  let cores := (List.range groups).map (· % 4)
  let fits := fun (c : Nat) =>
    let u := coreUse bs c
    let n := cores.countP (· == c)
    decide (u.1 + n ≤ 32) && decide (u.2 + n * regs ≤ 2048)
  if (List.range 4).all fits then some cores else none

/-- The first free run of the cluster's block memory that is long enough (R27; log 19). -/
def chooseMemory (bs : List Block) (size : Nat) : Option Nat :=
  let starts := 0 :: bs.map fun b => b.bmBase + b.bmSize
  let fits := fun (a : Nat) =>
    decide (a + size ≤ 2 ^ 21) && bs.all fun b => decide (a + size ≤ b.bmBase) || decide (b.bmBase + b.bmSize ≤ a)
  (starts.filter fits).foldl (fun m a => match m with | none => some a | some b => some (min a b)) none

/-- The next block of a DISPATCH is placed on a cluster that has room for all of it; placed after the stake it starts at once, and the
entry with it if none has started before (R25 to R30, R130, R170, R199, R684). -/
def State.placeBlock (s : State) (watch k cluster : Nat) (p : Pass) (e : Entry) (kn : Kernel) : State :=
  let here := s.blocksOn cluster
  match chooseMemory here kn.memory, chooseCores here kn.regs kn.groups with
  | some base, some cores =>
      let b : Block := {
        id := s.compute.nextBlock, ctx := p.ctx, watch, entry := k, tag := e.tag, cluster, index := e.nextBlock,
        blocks := kn.blocks, regs := kn.regs, bmBase := base, bmSize := kn.memory, args := kn.args, codeLo := kn.codeLo,
        codeHi := kn.codeHi, excPtr := kn.excPtr, stake := if e.staked && decide (s.replica (cluster / 24) < e.stake) then some e.stake else none,
        groups := List.replicate kn.groups (Group.start kn.regs kn.start kn.ftz), cores, copies := [], nextCopy := 0 }
      let e := { e with nextBlock := e.nextBlock + 1 }
      (s.setCompute { s.compute with blocks := s.compute.blocks ++ [b], nextBlock := b.id + 1 }).putEntry watch k
        (if e.begun ∨ b.stake.isSome then e else s.beginEntry e s.mt (decide (e.stake < s.mt)))
  | _, _ => s

/-- BLOCK_PLACE (R27, R30, R684). -/
def execBlockPlace (watch entry cluster : Nat) (s : State) : Host.Outcome State Fault Refusal :=
  onEntry watch entry 1 (fun p e s =>
    match e.kernel with
    | none => s
    | some kn =>
      if e.nextBlock < kn.blocks && decide (cluster < 192) && s.clusterUp cluster
          && s.partOf (cluster / 24) == (s.ctx p.ctx).partition then s.placeBlock watch entry cluster p e kn
      else s) s

/-- BLOCK_STAKE_RELEASE (R130): the entry starts at its stake with the first block that does, and its counters are latched (R170,
R180). -/
def execBlockStakeRelease (blk : Nat) (s : State) : Host.Outcome State Fault Refusal :=
  .next (match s.block blk with
    | none => s
    | some b =>
      match b.stake with
      | none => s
      | some m =>
        if s.replica (b.cluster / 24) < m then s
        else
          let t := s.putBlock { b with stake := none }
          match t.entry b.watch b.entry with
          | some e => if e.begun then t else t.putEntry b.watch b.entry (s.beginEntry e (if e.late then s.mt else m) e.late)
          | none => t)

/-- Tie writes of a block that no far device has acknowledged. -/
def State.tieWritesOf (s : State) (blk : Nat) : Bool :=
  s.fab.sends.any fun f => (f.unacked ++ f.waiting).any fun u =>
    match u.op with
    | .tieWrite _ _ _ _ b _ _ _ _ => b == blk
    | _ => false

/-- A group has ended: its lanes have exited and its group-collective instructions have completed (R214). An xfer.cv counts as completed
once it is accepted, as it does for bar.group (R217): R214 does not say (DESIGN CHOICE, log 139). -/
def Group.over (g : Group) : Bool := g.exited == BitVec.allOnes 32 && g.ops.isEmpty

/-- A block is over: its groups have ended, its copies have landed, and its tie writes are acknowledged (R181, R237). -/
def State.blockOver (s : State) (b : Block) : Bool :=
  b.groups.all Group.over && b.copies.isEmpty && !(s.tieWritesOf b.id)

/-- A block ends, and with the last one its entry (R181, R237). -/
def State.endBlock (s : State) (b : Block) : State :=
  let s := s.setCompute { s.compute with
    blocks := s.compute.blocks.filter (fun c => c.id != b.id), pairs := s.compute.pairs.filter fun p => p.blk != b.id }
  let s := s.setShare { s.share with resident := (b.ctx :: s.share.resident).eraseDups }
  match s.entry b.watch b.entry with
  | none => s
  | some e =>
    let t := s.putEntry b.watch b.entry { e with blocksDone := e.blocksDone + 1 }
    if e.blocksDone + 1 = b.blocks then t.endEntry b.watch b.entry stOk 0 else t

/-- BLOCK_END (R237). -/
def execBlockEnd (blk : Nat) (s : State) : Host.Outcome State Fault Refusal :=
  .next (match s.block blk with
    | none => s
    | some b => if s.blockOver b then s.endBlock b else s)

/-! ### Completion (R174 to R182) -/

/-- The record of an entry meets a fault of its own or poison: a replayable fault holds it, and anything else ends the pass before it
and, but for poison, is the cause of a teardown (R178, R551). -/
def State.recordFails (s : State) (watch k ctx va : Nat) (f : FaultInfo) : State × Bool :=
  match s.recordFault ctx va .write .control .copy f 1 with
  | (t, .waits slot) => (t.holdEntry watch k ctx va slot .write, false)
  | (t, .exception) => (t.loseRecord watch k stTranslationFault, true)

/-- The record of an ended entry is written, and the list goes on (R174, R178, R181). -/
def State.completeEntry (s : State) (watch k : Nat) (p : Pass) : State :=
  match s.writeRecord watch k with
  | (t, .done) => (t.runList watch).settleList watch
  | (t, .poison) => t.loseRecord watch k stHwFault
  | (t, .fault a f) =>
    let r := t.recordFails watch k p.ctx a f
    if r.2 then r.1.teardown p.ctx stTranslationFault else r.1

/-- A record of a list is held by a replayable fault, and with it every later record (R178). -/
def Pass.recordHeld (p : Pass) : Bool := p.entries.any fun d => d.held && d.phase == .ended

/-- ENTRY_COMPLETE (R181): not while a data write of the entry is unacknowledged, nor while a record is held (R178). -/
def execEntryComplete (watch entry : Nat) (s : State) : Host.Outcome State Fault Refusal :=
  .next (match s.pass watch, s.entry watch entry with
    | some p, some e =>
      if e.phase == .ended && !(s.entryWrites watch entry) && !p.recordHeld && s.passLive p then
        s.completeEntry watch entry p
      else s
    | _, _ => s)

/-! ### What the control processor goes on with (R175, R178, R182, R307, R686) -/

/-- The exception record is written at EXC_PTR, where that is not 0 and may be written (R307 step 2, R309, R311). -/
def State.storeExc (s : State) (ctx : Nat) (x : PendingExc) : State :=
  let c := s.ctx ctx
  let s := s.putCtx ctx { c with exc := some { x with phase := .recorded } }
  if x.ptr = 0 then s
  else
    match s.cpTranslate ctx .write x.ptr 256 with
    | .pieces l =>
      let words := (x.words.modify 0 (· + placed c.more 32)) ++ List.replicate 23 0
      let t := (s.storePieces ctx (.excRecord ctx) l (wordBytes words)).1
      match l with
      | ⟨.local_ pa, _, _⟩ :: _ => t.putCtx ctx { t.ctx ctx with excRecord := some pa }
      | _ => t
    | _ => s

/-- The exception record of a context is not yet acknowledged by a far device (R308). -/
def State.excOut (s : State) (ctx : Nat) : Bool := s.writesOut (· == .excRecord ctx)

/-- The record of the entry that an exception ends is written, with its status, and the context is torn down; a record held by a
replayable fault holds the teardown (R178, R307 steps 3 and 4). -/
def State.excEntry (s : State) (ctx : Nat) (x : PendingExc) (p : Pass) (k : Nat) (e : Entry) : State :=
  let s := s.putPass (p.putEntry k { s.begunEntry e with
    phase := .ended, status := x.status, endMt := s.mt, endFlags := s.hubFlags false, latchEnd := s.obs.aon, detail := x.detail })
  match s.writeRecord p.watch k with
  | (t, .done) => t.teardown ctx x.cause
  | (t, .poison) => (t.loseRecord p.watch k stHwFault).teardown ctx x.cause
  | (t, .fault a f) =>
    let r := t.recordFails p.watch k ctx a f
    if r.2 then r.1.teardown ctx x.cause else r.1

/-- Steps 3 and 4 of R307: not before the exception record and the tie writes of the entry are visible (R181, R308). -/
def State.excDispatch (s : State) (ctx : Nat) (x : PendingExc) : State :=
  if s.excOut ctx || x.waits.any s.outstanding.contains then s
  else
    match s.pass x.entry.1, s.entry x.entry.1 x.entry.2 with
    | some p, some e =>
      if p.lost.isSome || e.phase == .recorded then s.teardown ctx x.cause
      else if p.recordHeld || s.entryWrites p.watch x.entry.2 then s
      else s.excEntry ctx x p x.entry.2 e
    | _, _ => s.teardown ctx x.cause

/-- The control processor goes on with an exception of a context (R307). -/
def State.excGoOn (s : State) (ctx : Nat) : State :=
  match (s.ctx ctx).exc with
  | none => s
  | some x =>
    let t := if x.phase = .captured then s.storeExc ctx x else s
    if (t.ctx ctx).st = .opened then t.excDispatch ctx x else t

/-- The words of an entry that a teardown records unread (R179): read now, or none where they cannot be. -/
def State.unreadWords (s : State) (p : Pass) (k : Nat) (e : Entry) : List Word :=
  if !e.words.isEmpty then e.words
  else
    match s.cpTranslate p.ctx .read (p.va + 0x100 + 64 * k) 64 with
    | .pieces [⟨.local_ pa, _, _⟩] => if s.poisoned pa 64 then [] else entryWords (s.hbmRead pa 64)
    | _ => []

/-- An entry as the end of its pass records it (R175): CTX_TORN_DOWN, or the status of the exception that ended it. -/
def State.tornEntry (s : State) (p : Pass) (k : Nat) (e : Entry) : Entry :=
  let r := match (s.ctx p.ctx).exc with
    | some x => if x.entry = (p.watch, k) then (x.status, x.detail) else (stCtxTornDown, 0)
    | none => (stCtxTornDown, 0)
  { s.begunEntry e with
    words := s.unreadWords p k e, phase := .ended, status := r.1, detail := r.2, endMt := s.mt, endFlags := s.hubFlags false,
    latchEnd := s.obs.aon }

/-- A pass that ends is over: DONE, with what R178 gives where a record was lost, once every record is visible (R182). -/
def State.closePass (s : State) (p : Pass) : State :=
  if s.recordsOut p.watch then s
  else
    match p.lost with
    | some (k, st) => s.writeDone p.watch p.completed st k
    | none => s.listDone p.watch

/-- Tie writes of the groups of a context that no far device has acknowledged (R181, R687). -/
def State.ctxWritesOut (s : State) (ctx : Nat) : Bool :=
  s.writesOut fun o => match o with
    | .tieWrite _ c _ _ _ _ _ _ _ => c == ctx
    | _ => false

/-- A pass ends by the teardown of its context, or at a record that could not be written: its entries are recorded in order, each once
its data writes are acknowledged, up to that record (R175, R178, R181). -/
def State.endPass (s : State) (watch : Nat) : Nat → Nat → State
  | 0, _ => s
  | n + 1, k =>
    match s.pass watch with
    | none => s
    | some p =>
      if (p.lost.map (·.1)) = some k then s.closePass p
      else
        match p.entries[k]? with
        | none => s.closePass p
        | some e =>
          if e.phase == .recorded then s.endPass watch n (k + 1)
          else if s.entryWrites watch k || (e.kernel.isSome && s.ctxWritesOut p.ctx) then s
          else
            let t := s.putPass (p.putEntry k (s.tornEntry p k e))
            match t.writeRecord watch k with
            | (u, .done) => u.endPass watch n (k + 1)
            | (u, .poison) => (u.loseRecord watch k stHwFault).endPass watch n k
            | (u, .fault a f) =>
              (((u.recordFault p.ctx a .write .control .copy { f with replay := false } 1).1).loseRecord watch k
                stTranslationFault).endPass watch n k

/-- A pass that has ended goes on to its records and DONE. -/
def State.passGoOn (s : State) (watch : Nat) : State :=
  match s.pass watch with
  | some p => if s.passLive p then s.settleList watch else s.endPass watch (p.entries.length + 2) 0
  | none => s

/-- CTX_CLOSE commands that wait for the teardown of a context (R689), in the order of their takes. -/
def State.closers (s : State) (ctx : Nat) : List Nat :=
  let mine := (List.range 64).filter fun n => (s.mbx n).st == .busy && match (s.mbx n).cmd with
    | some c => c.opcode == 0x0201 && c.begun && s.namedCtx n (s.arg n 0) == ctx
    | none => false
  mine.mergeSort fun a b => decide ((((s.mbx a).cmd.map (·.order)).getD 0) ≤ ((s.mbx b).cmd.map (·.order)).getD 0)

/-- A context is closed by the first CTX_CLOSE that waits for it; a second finds it CLOSED (R146, R689). -/
def State.closeContext (s : State) (ctx : Nat) : State :=
  match s.closers ctx with
  | [] => s
  | n :: l =>
    l.foldl (fun t m => t.complete m stBadState [])
      ((s.putCtx ctx { s.ctx ctx with st := .closed, mbx := 0 }).complete n stOk [])

/-- Steps 4 to 6 of a teardown (R686): once every record and DONE is written, and every tie write of the context answered, the
translations go, the accounting freezes, the notice is posted and CTX_CLOSE ends. -/
def State.endContext (s : State) (ctx : Nat) : State :=
  let c := s.ctx ctx
  if !c.ending || (s.abaom.passes.any fun p => p.ctx == ctx) || s.excOut ctx then s
  else
    let s := s.dropTranslations ctx
    let s := s.putCtx ctx { s.ctx ctx with endMt := s.mt, ending := false }
    let s := if c.cause = stOk then s else s.notify (s.ctxMailboxes ctx) 3 stCtxTornDown ctx s.mt (s.hubFlags false) [c.cause]
    s.closeContext ctx

/-- What the control processor has in hand goes on in a cycle: exceptions, the ends of passes and the ends of teardowns (R175, R178,
R182, R307, R686). -/
def State.goOn (s : State) : State :=
  let s := if s.ctxs.any (·.exc.isSome) then (List.range 64).foldl State.excGoOn s else s
  let s := (s.abaom.passes.map (·.watch)).foldl State.passGoOn s
  (if s.ctxs.any (·.ending) then (List.range 64).foldl State.endContext s else s).tellLosses

/-! ### Replay (R474 to R476) -/

/-- An access that waits on a record starts over: a walk of its own, or for an entry the control processor's own next try
(R474 step 5; log 15). -/
def State.restartWait (s : State) (w : FaultWait) : State :=
  match w.req.who with
  | .entry watch k _ =>
    match s.pass watch with
    | some p =>
      match p.entries[k]? with
      | some e =>
        let t := s.putPass (p.putEntry k { e with held := false })
        if e.phase == .waiting then t.runList watch else t
      | none => s
    | none => s
  | .coll ctx slot => s.driveColl ctx slot
  | _ => s.askWalk w.req

/-- The entries built from the leaf that refused a write are dropped, so that every access that waits on the record walks
afresh (R474 step 5, R475; log 116). -/
def State.dropLeaf (s : State) (ctx addr : Nat) : State :=
  let keep := fun (e : TlbEntry) => !(e.ctx == ctx && e.leafAt == addr)
  s.setXlat { s.xlat with l1 := s.xlat.l1.filter (fun x => keep x.entry), tlb := s.xlat.tlb.filter keep }

/-- FAULT_REPLAY. -/
def State.faultReplay (s : State) (n : Nat) : State :=
  let c := s.namedCtx n (s.arg n 0)
  match faultSlotOf c (s.arg n 1) with
  | none => s.complete n stBadArg []
  | some i =>
    let r := s.faultSlot c i
    if !(faultPending r && bitAt (nth r 0 0) 62) then s.complete n stBadState []
    else
      let mine := fun (w : FaultWait) => w.ctx == c && w.slot == i
      let go := s.xlat.waits.filter mine
      let t := s.putFault c i (r.set 0 (nth r 0 0 &&& 0x7FFFFFFFFFFFFFFF))
      let t := t.setXlat { t.xlat with waits := t.xlat.waits.filter fun w => !(mine w) }
      let t := if fieldNat (nth r 0 0) 59 56 = 2 then t.dropLeaf c (nth r 7 0).toNat else t
      (go.foldl State.restartWait t).complete n stOk []

/-- FAULT_REPLAY (R474 to R476). -/
def execFaultReplay (mbx : Nat) (s : State) : Host.Outcome State Fault Refusal :=
  runCommand mbx 0x0401 (fun s => s.faultReplay mbx) s

end Sys2Proof.Machine
end

