-- ==== Sys2Proof/Machine/Time.lean ====
section
/-!
DEFINITION. Meridian time: hall time, steps and slews, backsight, the hall correction (R60 to R101, R116 to R119,
R838, R855).
-/

namespace Sys2Proof.Machine

/-! ### Corrections (R81 to R83) -/

/-- A count that moves on by some ticks reaches a whole second (R71). -/
def crossesSecond (mt n : Nat) : Bool := decide (mt / 8000000000 < (mt + n) / 8000000000)

/-- Stamps of an exchange with the PTP master, moved with the count. -/
def PtpSlave.shift (p : PtpSlave) (n : Nat) : PtpSlave := { p with t2 := p.t2 + n, t3 := p.t3.map (· + n) }

/-- The count moved forward by whole ticks: hall time lies that much nearer, and what is measured by stamps already taken moves
with it (R60, R68). -/
def TimeState.stepBy (t : TimeState) (corr : Int) : TimeState :=
  let n := (corr / 16).toNat
  { t with
    mt := (t.mt + n) % 2 ^ 64, stepPending := none, hallDiff := t.hallDiff - 16 * n, ppsLast := t.ppsLast + n,
    ptp := t.ptp.shift n, ppsDue := t.ppsDue || crossesSecond t.mt n }

/-- The timer queue after a forward step: an entry that the step passed over is late, and so is a list entry held there for its stake
(R106, R129, R170). -/
def State.passTimers (s : State) : State :=
  let s := s.setStakes { s.stakes with timers := s.stakes.timers.map fun t => if t.due ≤ s.mt then { t with late := true } else t }
  let pass := fun (e : Entry) => if (e.phase == .staked || !e.begun) && e.staked && decide (e.stake ≤ s.mt) then { e with late := true } else e
  s.setAbaom { s.abaom with passes := s.abaom.passes.map fun p => { p with entries := p.entries.map pass } }

/-- The step of the count (R83). -/
def State.step_ (s : State) (corr : Int) : State := (s.setTime (s.time.stepBy corr)).passTimers

/-- A correction in 1/16 tick begins, and takes the place of one before it: a forward one of more than 1 µs steps, or waits to
step, and any other slews (R81 to R83). -/
def State.correct (s : State) (corr : Int) : State :=
  let t := s.time
  if microsecond16 < corr then
    let s := s.setTime { t with slewLeft := 0, slewing := false, slewCyc := 0, stepPending := some corr }
    if s.anyArmed then s else s.step_ corr
  else s.setTime { t with slewLeft := corr, slewing := decide (16 ≤ corr.natAbs), slewCyc := 0, stepPending := none }

/-- Reference cycles between two ticks of slew (R82). -/
def State.slewInterval (s : State) : Nat := if s.anyArmed then 1024 else 64

/-- The change that slewing makes in this reference cycle, and what is left (R82). -/
def State.slew (s : State) : Int × Int × Nat :=
  let t := s.time
  if !t.slewing || decide (t.slewLeft.natAbs < 16) then (0, t.slewLeft, t.slewCyc)
  else if t.slewCyc + 1 < s.slewInterval then (0, t.slewLeft, t.slewCyc + 1)
  else if 0 < t.slewLeft then (1, t.slewLeft - 16, 0)
  else (-1, t.slewLeft + 16, 0)

/-! ### Hall time (R60 to R64, R855) -/

/-- The processor dies are released with their device tree, and the host boots (R39, R62, R80, R502, R839). -/
def State.releaseHost (s : State) : State :=
  if s.conn.phase == .timeWait then
    (s.setConn { s.conn with phase := .hostBoot, hostReleased := true }).emit
      (.deviceTree 1000000000 256 0xFD00000000000 0x10000000)
  else s

/-- The device enters HALL, which ends the wait of start-up (R62, R64). -/
def State.enterHall (s : State) : State := (s.setTime { s.time with st := .hall }).releaseHost

/-- TIME_WAIT_EXPIRY (R62). -/
def execTimeWaitExpiry (s : State) : Host.Outcome State Fault Refusal :=
  onEvent (s.conn.phase == .timeWait && decide (s.conn.waitFrom + 80000000000 ≤ s.mt)) State.releaseHost s

/-- PPS plays its part, or is not asked for (R64, R119). -/
def TimeState.ppsOk (t : TimeState) : Bool := !t.ppsTime || t.ppsSeen

/-- The device steers to hall time by its own inputs at once: in HALL, and in HOLDOVER until backsight has completed (R855). Once
ALIGNED only the datum follows hall time, by HALL_CORRECTION (R87, R97). -/
def State.steers (s : State) : Bool :=
  let t := s.time
  t.ptpLock && (t.st == .hall || (t.st == .holdover && !t.bsDone))

/-- This device is the datum it follows. -/
def State.isDatum (s : State) : Bool := s.fab.epoch != 0 && s.time.datumNode == s.fab.node

/-- What a measurement of hall time, or an input that was missing, brings (R62, R84, R855): a FREE device with time from every
input moves to hall time and enters HALL; one that steers corrects its count; and an ALIGNED datum that lies more than 1 µs off
becomes UNALIGNED. Where a comparator is armed the forward step to hall time is only pending, and HALL is entered, and the
processor dies released, all the same: R62 says step and enter, and R83 delays the step alone (DESIGN CHOICE, log 125). -/
def State.acquire (s : State) : State :=
  let t := s.time
  if t.st == .free && t.refPresent && t.ptpLock && t.ppsOk then (s.correct t.hallDiff).enterHall
  else if s.steers then s.correct t.hallDiff
  else if t.ptpLock && t.st == .aligned && s.isDatum && overMicrosecond t.hallDiff then s.loseAlignment t.hallDiff
  else s

/-- The MT value of a PTP time (R61). -/
def mtOfPtp (t : PtpTime) : Nat :=
  (((t.seconds : Int) - 1577836800) * 8000000000 + 8 * t.nanos + t.ticks).toNat % 2 ^ 64

/-- The master's time of a Sync is known: the device asks for the delay with a Delay_Req, stamped as it leaves (R60). -/
def State.askDelay (s : State) (m : PtpMessage) (t1 : Nat) : State :=
  let p := s.time.ptp
  let seq := (p.reqSeq + 1) % 2 ^ 16
  (s.setTime { s.time with ptp := { p with t1 := some t1, reqSeq := seq, t3 := some s.mt } }).emit
    (.delayReq m.transport m.domain seq)

/-- A Delay_Resp completes the exchange: hall time less the count is half of what the two ways differ by, and the master is
tracked (R60, R68). -/
def State.measureHall (s : State) (t1 t3 t4 : Nat) : State :=
  let t := s.time
  (s.setTime { t with
    ptpLock := true, hallDiff := 8 * (((t1 : Int) - t.ptp.t2) + ((t4 : Int) - t3)), ptp := { t.ptp with t1 := none, t3 := none } }).acquire

/-- A PTP message of the domain followed (R60, R855): the device is a slave of the delay request-response mechanism, over the
three transports, in domains 0 to 127. -/
def State.ptpMessage (s : State) (m : PtpMessage) (stamp : Nat) : State :=
  let p := s.time.ptp
  if 127 < m.domain ∨ !(p.domain.isNone || p.domain == some m.domain) then s
  else
    match m.body with
    | .sync seq origin =>
      let s := s.setTime { s.time with ptp := { p with domain := some m.domain, syncSeq := seq, t2 := stamp, t1 := none, t3 := none } }
      match origin with
      | some o => s.askDelay m (mtOfPtp o)
      | none => s
    | .followUp seq o => if p.domain.isSome && p.syncSeq == seq && p.t1.isNone then s.askDelay m (mtOfPtp o) else s
    | .delayResp seq r =>
      match p.t1, p.t3 with
      | some t1, some t3 => if p.reqSeq = seq then s.measureHall t1 t3 (mtOfPtp r) else s
      | _, _ => s
    | .other => s

/-- PTP_MESSAGE (R60, R855). -/
def execPtpMessage (message : PtpMessage) (stamp : Nat) (s : State) : Host.Outcome State Fault Refusal :=
  onTime s.running (fun s => s.ptpMessage message stamp) s

/-- PTP_LOCK_LOSS (R855). -/
def execPtpLockLoss (s : State) : Host.Outcome State Fault Refusal :=
  .next (s.setTime { s.time with ptpLock := false, ptp := ⟨none, 0, 0, none, s.time.ptp.reqSeq, none⟩ })

/-- What lies between a hall time, in 1/16 tick, and the whole second nearest to it (R60). -/
def toSecond (hall : Int) : Int :=
  let e := hall % 128000000000
  if e < 64000000000 then -e else 128000000000 - e

/-- A rising edge on MT_PPS_IN serves time, or the trigger that holds the pin (R116, R119, R821). As time it marks a whole second
of the hall, so that it gives the phase where PTP gives the second (R60, R855). -/
def State.ppsEdge (s : State) (stamp : Nat) : State :=
  let t := s.time
  if t.ppsTime then
    let diff := if t.ptpLock then t.hallDiff + toSecond (16 * (stamp : Int) + t.hallDiff) else t.hallDiff
    (s.setTime { t with ppsSeen := true, ppsLast := stamp, hallDiff := diff }).acquire
  else if t.trigHeld then (s.fireTrigger stamp).setTime { t with trigHeld := false }
  else s

/-- PPS_EDGE (R116). -/
def execPpsEdge (stamp : Nat) (s : State) : Host.Outcome State Fault Refusal :=
  onTime s.running (fun s => s.ppsEdge stamp) s

/-- PPS_SEEN_EXPIRY (R68): 1.1 s without an edge. -/
def execPpsSeenExpiry (s : State) : Host.Outcome State Fault Refusal :=
  onEvent (s.time.ppsSeen && decide (s.time.ppsLast + 8800000000 ≤ s.mt))
    (fun s => s.setTime { s.time with ppsSeen := false }) s

/-- PPS_OUT (R838): the edge at a whole second of MT that the count has reached, where the pin is driven. -/
def execPpsOut (s : State) : Host.Outcome State Fault Refusal :=
  onEvent (s.running && s.time.ppsDue) (fun s =>
    let t := s.setTime { s.time with ppsDue := false }
    if s.time.ppsOutEn && (s.time.st == .hall || s.time.st == .aligned || s.time.st == .holdover) then t.emit .ppsOut else t) s

/-- A write of MT_CTRL (R71, R118, R119): time takes the pin from a trigger that holds it. -/
def State.writeMtCtrl (s : State) (v : Word) : State :=
  let t := s.time
  let on := bitAt v 0
  let t' := { t with
    ppsTime := on, ppsOutEn := bitAt v 1, trigRevoked := t.trigRevoked && !(s.clears 0x100020 v 4),
    ppsSeen := t.ppsSeen && on }
  if on && t.trigHeld then
    ((s.setTime { t' with trigHeld := false, trigRevoked := true }).setObs
      { s.obs with trig := { s.obs.trig with armed := false, lost := true } }).setHot 0x100020 4 |>.setHot 0x500180 61
  else s.setTime t'

/-- PPS_TIME_WRITE (R118). -/
def execPpsTimeWrite (value : Word) (s : State) : Host.Outcome State Fault Refusal :=
  onEvent s.hostUp (fun s => s.writeMtCtrl value) s

/-- REF_LOSS (R63). An UNALIGNED device stays UNALIGNED: R63 names HOLDOVER, and R85 lets UNALIGNED be left only through
BACKSIGHT_RUN, so that REF_PRESENT alone tells of the loss there (DESIGN CHOICE, log 126). -/
def execRefLoss (s : State) : Host.Outcome State Fault Refusal :=
  onTime s.time.refPresent (fun s => s.setTime { s.time with
    refPresent := false, st := if s.time.st = .unaligned then .unaligned else .holdover }) s

/-! ### Backsight (R86 to R100) -/

/-- Live ports (R92). -/
def State.livePorts (s : State) : List Nat := (List.range 32).filter s.portUsable

/-- A full backsight begins (R92 step 1): BACKSIGHT_RUN posted it, or the reference has returned (R64). -/
def State.startBacksight (s : State) (mbx : Option Nat) (posted : Bool) (datum : Nat) : State :=
  let t := s.time
  s.setTime { t with
    datumNode := datum, datumValid := false, bsDone := false,
    run := some { mbx, posted, saved := some ⟨t.datumValid, t.parentPort, t.datumNode, t.linkDly⟩, ports := s.livePorts, sent := 0,
                  want := 64, samples := [], phase := .exchanging, start := s.mt, limit := none, offset := 0, depth := 0xFF } }

/-- A measurement of some ports by so many exchanges. -/
def State.newMeasure (s : State) (ports : List Nat) (want : Nat) (limit : Option Nat) : BsRun :=
  { mbx := none, posted := false, saved := none, ports, sent := 0, want, samples := [], phase := .exchanging, start := s.mt, limit,
    offset := 0, depth := s.time.depth }

/-- A measurement with one more port begins again (R96, R98). -/
def BsRun.withPort (r : BsRun) (port want : Nat) (limit : Option Nat) (mt : Nat) : BsRun :=
  { r with ports := if r.ports.contains port then r.ports else r.ports ++ [port], sent := 0, samples := [], start := mt,
           want := max r.want want, limit := r.limit.or limit }

/-- A measurement of one port begins, or joins the one that runs; a full backsight measures on beside it (R96, R98, R99). -/
def State.measurePort (s : State) (port want : Nat) (limit : Option Nat) : State :=
  s.setTime { s.time with
    meas := match s.time.meas with
      | none => some (s.newMeasure [port] want limit)
      | some r => some (r.withPort port want limit s.mt) }

/-- BACKSIGHT_RUN: no route to the datum ends it (R186). -/
def State.backsightRun (s : State) (n : Nat) : State :=
  let datum := s.arg n 0 % 2 ^ 14
  let own := s.fab.epoch != 0 && datum == s.fab.node
  if (s.time.run.bind (·.mbx)).isSome then s
  else if !own && (s.routePort s.fab.node datum kCtrl 0).isNone then s.complete n stDestLost []
  else (s.startBacksight (some n) true datum).begin_ n

/-- BACKSIGHT_RUN (R92). -/
def execBacksightRun (mbx : Nat) (s : State) : Host.Outcome State Fault Refusal :=
  runCommand mbx 0x0503 (fun s => State.synced s (s.backsightRun mbx)) s

/-- A BSX frame on a port (R89, R582). -/
def State.sendBsx (s : State) (p t1 t2 t3 t4 : Nat) : State :=
  let h : Head := { s.headTo opBsx (s.port p).peer kCtrl 0 with unseq := true, length := 32 }
  s.sendOn p (h.frame (wordsPayload [t1, t2, t3, t4]))

/-- The median of a list, the mean of the middle two when their number is even (log 22). -/
def median (l : List Int) : Int :=
  let m := l.mergeSort (· ≤ ·)
  let n := m.length
  if n = 0 then 0
  else if n % 2 = 1 then nth m (n / 2) 0
  else (nth m (n / 2 - 1) 0 + nth m (n / 2) 0) / 2

/-- Link delay and offset of a port in 1/16 tick (R89). The port's fixed latency difference is taken from the stamp of what it
received before either is computed (R90; log 44). -/
def measured (samples : List BsSample) (p : Nat) : Option (Int × Int) :=
  let l := samples.filter fun x => x.port == p
  if l.isEmpty then none
  else
    let t4 := fun (x : BsSample) => 16 * (x.t4 : Int) - Config.portLatency p
    let d := l.map fun x => ((t4 x - 16 * (x.t1 : Int)) - 16 * ((x.t3 : Int) - x.t2)) / 2
    let o := l.map fun x => (16 * ((x.t2 : Int) - x.t1) + (16 * (x.t3 : Int) - t4 x)) / 2
    some (median d, median o)

/-- Hops from the neighbour on a port to the datum: 0 for the datum itself, and for a port of its route one less than HOPS (R576). -/
def State.hopsOver (s : State) (p : Nat) : Option Nat :=
  let datum := s.time.datumNode
  let x := s.port p
  let w := s.routeOf datum
  if x.peerValid ∧ x.peerEpoch ≠ 0 ∧ x.peer = datum then some 0
  else if bitAt w 63 ∧ w.getLsbD p then some (fieldNat w 55 48 - 1)
  else none

/-- The nearest of some ports to the datum, the lowest of equals (R88). -/
def State.nearest (s : State) : List Nat → Option (Nat × Nat)
  | [] => none
  | p :: l =>
    match s.hopsOver p, State.nearest s l with
    | some h, some (g, q) => if h ≤ g then some (h, p) else some (g, q)
    | some h, none => some (h, p)
    | none, r => r

/-- The parent toward the datum: the live neighbour with the fewest hops, over DIRECT ports, whose peers are neighbours (R88, R100,
R576). -/
def State.backsightParent (s : State) : Option Nat :=
  (s.nearest ((List.range 32).filter fun p => s.portUsable p && !(s.port p).modeNow)).map (·.2)

/-- MT_LINKDLYp of the measured ports (R75, R92 step 3). -/
def State.writeDelays (s : State) (r : BsRun) : State :=
  let put := fun (p : Nat) (d : LinkDelay) =>
    match measured r.samples p with
    | some (x, _) => ⟨true, x.toNat % 2 ^ 32⟩
    | none => d
  s.setTime { s.time with linkDly := s.time.linkDly.mapIdx put }

/-- ALIGNED notices on every live DIRECT port (R93, R100). -/
def State.sendNotices (s : State) (alignedMt : Nat) : State :=
  let ws := [placed 1 48 + s.time.datumNode, asWord s.time.totalCorr, placed s.time.depth 8, alignedMt]
  s.directPeers.foldl (fun t p => t.ctrlPeer p.1 ws) s

/-- A backsight has applied its correction: the device enters ALIGNED (R92 step 6). While the reference is absent it stays where
it is, and backsight runs again when the reference returns (R63, R64, R855; log 120). -/
def State.enterAligned (s : State) (r : BsRun) : State :=
  if !s.time.refPresent then
    s.setTime { s.time with slewing := false, slewLeft := 0, depth := r.depth, run := some { r with phase := .held } }
  else
    let s := s.setTime { s.time with
      st := .aligned, bsDone := true, slewing := false, slewLeft := 0, depth := r.depth, alignedMt := s.mt, run := none,
      lastNotice := s.mt, lastRepeat := s.mt }
    let s := s.sendNotices s.mt
    match r.mbx with
    | some n => s.complete n stOk [s.mtStatus]
    | none => s

/-- A full backsight's total correction begins, and what waits on it ends at once where nothing is left to move (R85, R92
step 5). Only BACKSIGHT_RUN applies one of more than 1 µs: found by the backsight that a returned reference starts, it is refused
(R64, R84). -/
def State.applyTotal (s : State) (r : BsRun) (total : Int) : State :=
  if !r.posted && overMicrosecond total then s.failBacksight total
  else
    let s := (s.correct total).setTime { (s.correct total).time with
      totalCorr := total, offset := total, run := some { r with phase := .applying } }
    let s := s.syncCorrection total
    if s.time.slewing ∨ s.time.stepPending.isSome then s else s.enterAligned { r with phase := .applying }

/-- The full backsight has failed, and its command with it (R65, R92). -/
def State.backsightFails (s : State) (r : BsRun) (status : Nat) : State :=
  let s := s.failBacksight 0
  match r.mbx with
  | some n => s.complete n status []
  | none => s

/-- Every exchange of a full backsight has been made (R92 step 3): the medians, the parent, and the wait for its notice. A parent
that answered no exchange leaves no offset to apply: the backsight has failed (R65; log 127). -/
def State.finishExchanges (s : State) (r : BsRun) : State :=
  let s := s.writeDelays r
  if s.isDatum then
    let s := s.setTime { s.time with datumValid := true, parentPort := 0xFF }
    s.applyTotal { r with depth := 0 } 0
  else
    match s.backsightParent with
    | none => s.backsightFails r stDestLost
    | some p =>
      match measured r.samples p with
      | none => s.backsightFails r stDestLost
      | some (_, off) =>
        s.setTime { s.time with datumValid := true, parentPort := p, run := some { r with phase := .awaitNotice, offset := off } }

/-- A measurement of the parent of a device that follows a datum slews what it finds, or costs the alignment (R84, R96). -/
def State.applyMeasure (s : State) (off : Int) : State :=
  if !(s.time.st == .aligned || (s.time.st == .holdover && s.time.bsDone)) then
    s.setTime { s.time with run := s.time.run.map fun x => if x.phase == .awaitNotice then { x with offset := off } else x }
  else if overMicrosecond off then s.loseAlignment off
  else (s.correct off).syncCorrection off

/-- Every exchange of a measurement has been made (R96, R98, R99); at start-up the module is then Ready (R840). Where the parent
answered none, one that must end by a limit begins again (R98). -/
def State.finishMeasure (s : State) (r : BsRun) : State :=
  let s := s.writeDelays r
  let s := s.setTime { s.time with meas := none, lastRepeat := s.mt }
  let s := if s.conn.phase == .exchanging then s.setConn { s.conn with phase := .ready } else s
  let p := s.time.parentPort
  if !s.time.datumValid || s.isDatum || !(r.ports.contains p) then s
  else
    match measured r.samples p with
    | none => if r.limit.isSome then s.measurePort p 16 r.limit else s
    | some (_, off) => s.applyMeasure off

/-- The exchange that a run owes at this moment goes out on its ports (R92 step 2). -/
def State.exchange (s : State) (r : BsRun) : State :=
  (r.ports.filter s.portUsable).foldl (fun t p => t.sendBsx p t.mt 0 0 0) s

/-- A run has an exchange, or its end, due. -/
def BsRun.due (r : BsRun) (mt : Nat) : Bool := r.phase == .exchanging && decide (r.start + 8000 * r.sent ≤ mt)

/-- The full backsight's next exchange, or their end (R92 steps 2 and 3). -/
def State.runExchange (s : State) (r : BsRun) : State :=
  if r.sent < r.want then (s.setTime { s.time with run := some { r with sent := r.sent + 1 } }).exchange r else s.finishExchanges r

/-- The next exchange of a measurement, or their end (R96, R98, R99). -/
def State.measExchange (s : State) (r : BsRun) : State :=
  if r.sent < r.want then (s.setTime { s.time with meas := some { r with sent := r.sent + 1 } }).exchange r else s.finishMeasure r

/-- BACKSIGHT_EXCHANGE: what is due of the full backsight and of a measurement. -/
def State.backsightExchange (s : State) : State :=
  let s := match s.time.run with
    | some r => if r.due s.mt then s.runExchange r else s
    | none => s
  match s.time.meas with
  | some r => if r.due s.mt then s.measExchange r else s
  | none => s

/-- BACKSIGHT_EXCHANGE (R92). -/
def execBacksightExchange (s : State) : Host.Outcome State Fault Refusal := onTime true State.backsightExchange s

/-- BACKSIGHT_REPEAT (R96). -/
def execBacksightRepeat (s : State) : Host.Outcome State Fault Refusal :=
  onEvent ((s.time.st == .aligned || (s.time.st == .holdover && s.time.bsDone)) && s.time.datumValid && !s.isDatum
      && decide (s.time.lastRepeat + 800000000 ≤ s.mt))
    (fun s => (s.setTime { s.time with lastRepeat := s.mt }).measurePort s.time.parentPort 16 none) s

/-- ALIGNED_NOTICE_REPEAT (R93). -/
def execAlignedNoticeRepeat (s : State) : Host.Outcome State Fault Refusal :=
  onEvent (s.time.st == .aligned && decide (s.time.lastNotice + 8000000 ≤ s.mt))
    (fun s => (s.setTime { s.time with lastNotice := s.mt }).sendNotices s.time.alignedMt) s

/-- PARENT_REMEASURE_TIMEOUT (R98). -/
def execParentRemeasureTimeout (s : State) : Host.Outcome State Fault Refusal :=
  onTime true (fun s => match s.time.meas.bind (·.limit) with
    | some m => if m ≤ s.mt ∧ s.time.st = .aligned then s.loseAlignment 0 else s
    | none => s) s

/-- The correction in progress is applied whole, and a backsight that waits for it goes on (R85, R92 step 6). -/
def State.correctionEnds (s : State) : State :=
  match s.time.run with
  | some r => if r.phase == .applying then s.enterAligned r else s
  | none => s

/-- FORWARD_STEP (R83, R92). -/
def execForwardStep (s : State) : Host.Outcome State Fault Refusal :=
  onTime true (fun s => match s.time.stepPending with
    | some c => if s.anyArmed then s else (s.step_ c).correctionEnds
    | none => s) s

/-- SLEW_END (R85, R92). -/
def execSlewEnd (s : State) : Host.Outcome State Fault Refusal :=
  onTime (s.time.slewing && decide (s.time.slewLeft.natAbs < 16)) (fun s =>
    if s.time.run.any (·.phase == .applying) then s.correctionEnds
    else (s.setTime { s.time with slewing := false, slewLeft := 0 }).syncAll) s

/-- REF_RETURN (R64): the hub relocks, and backsight runs again where a datum is recorded; one that BACKSIGHT_RUN posted is the same
command's still (R92). An UNALIGNED device leaves its state by BACKSIGHT_RUN alone (R85; log 126). -/
def State.refReturn (s : State) : State :=
  let t := s.time
  let posted := t.run.any (·.posted)
  let again := fun (s : State) =>
    if t.datumValid then s.startBacksight (t.run.bind (·.mbx)) posted t.datumNode else s
  let s := s.setTime { t with refPresent := true }
  match t.st with
  | .holdover => again (if t.ptpLock && t.ppsOk then s.enterHall else s.setTime { s.time with st := .free })
  | .unaligned => if posted then again s else s
  | _ => s.acquire

/-- REF_RETURN (R64). -/
def execRefReturn (s : State) : Host.Outcome State Fault Refusal :=
  onTime (!s.time.refPresent) State.refReturn s

/-! ### Backsight frames and notices as they arrive -/

/-- A run with the exchange that an answer on a port completes. -/
def BsRun.answered (r : BsRun) (x : BsSample) : BsRun :=
  if r.phase == .exchanging && r.ports.contains x.port then { r with samples := r.samples ++ [x] } else r

/-- A BSX frame: a request is answered on its port, and an answer is one exchange of what runs (R89, R93). R582 gives the frame
four words and no mark of which it is: the model takes a frame whose word 1, t2, is zero as a request (DESIGN CHOICE, log 128). -/
def State.takeBsx (s : State) (p : Nat) (f : Frame) (stamp : Nat) : State :=
  if f.word 1 = 0 then s.sendBsx p (f.word 0) stamp s.mt 0
  else
    let x : BsSample := ⟨p, f.word 0, f.word 1, f.word 2, stamp⟩
    s.setTime { s.time with run := s.time.run.map (·.answered x), meas := s.time.meas.map (·.answered x) }

/-- An ALIGNED notice from the parent (R91 to R93, R100): DEPTH follows the parent's, and a full backsight that waits for it
applies its total correction. -/
def State.heedNotice (s : State) (p : Nat) (f : Frame) : State :=
  if f.word 0 % 2 ^ 14 ≠ s.time.datumNode ∨ p ≠ s.time.parentPort ∨ !s.time.datumValid then s
  else
    let corr := (BitVec.ofNat 64 (f.word 1)).toInt
    let depth := min (f.word 2 / 256 % 256 + 1) 0xFF
    match s.time.run with
    | none => s.setTime { s.time with depth }
    | some r =>
      if r.phase == .awaitNotice then
        let fresh := s.fresh
        let t := fresh.2.applyTotal { r with depth } (r.offset + corr)
        if t.time.run.isNone then t
        else
          let t := t.setTime { t.time with depth }
          t.sendNotices fresh.1.toNat
      else s.setTime { s.time with depth, run := some { r with depth } }

/-- An ALIGNED notice arrives. -/
def State.takeNotice (s : State) (p : Nat) (f : Frame) : State := State.synced s (s.heedNotice p f)

/-- The words of a hall correction (R101). -/
def hallWords (datum stake : Nat) (corr : Int) (nseq : Nat) : List Nat := [placed 2 48 + datum, stake, asWord corr, nseq]

/-- A datum and the sequence number of one of its corrections, as one number (R101). -/
def hallKey (datum nseq : Nat) : Nat := datum * 2 ^ 32 + nseq

/-- The corrections taken, with one more; those that lie half the sequence space back are forgotten, so that a number used again
after a wrap is a new one (R101). -/
def TimeState.seen (t : TimeState) (datum n : Nat) : List Nat :=
  hallKey datum n :: t.hallSeen.filter fun k =>
    k / 2 ^ 32 != datum || decide ((n + 2 ^ 32 - k % 2 ^ 32) % 2 ^ 32 < 2 ^ 31)

/-- The datum's correction: what it lies off hall time, in whole ticks, at most 8 (R97). -/
def TimeState.hallCorr (t : TimeState) : Int := max (-8) (min 8 (t.hallDiff.tdiv 16))

/-- HALL_CORRECTION: the datum sends its correction down the tree and stakes its own slew, 10 ms ahead or more
(R97, R101; log 20). -/
def State.hallCorrection (s : State) (ahead : Nat) : State :=
  let corr := s.time.hallCorr
  let stake := s.mt + 80000000 + ahead
  let n := s.time.hallNseq
  let s := s.setTime { s.time with hallNseq := (n + 1) % 2 ^ 32, hallSeen := s.time.seen s.fab.node n, lastHall := s.mt }
  let s := s.directPeers.foldl (fun t p => t.ctrlPeer p.1 (hallWords s.fab.node stake corr n)) s
  s.enqueueTimer stake (.hallSlew corr)

/-- HALL_CORRECTION (R97): of a datum that has completed backsight, while it tracks hall time (R87, R855). -/
def execHallCorrection (ahead : Nat) (s : State) : Host.Outcome State Fault Refusal :=
  onEvent ((s.time.st == .aligned || (s.time.st == .holdover && s.time.bsDone)) && s.isDatum && s.time.ptpLock
      && decide (s.time.lastHall + 8000000000 ≤ s.mt)) (fun s => s.hallCorrection ahead) s

/-- A hall correction that arrives: the first copy is forwarded and staked (R101). -/
def State.takeHall (s : State) (p : Nat) (f : Frame) : State :=
  let n := f.word 3 % 2 ^ 32
  let datum := f.word 0 % 2 ^ 14
  if datum ≠ s.time.datumNode ∨ s.time.hallSeen.contains (hallKey datum n) then s
  else
    let corr := (BitVec.ofNat 64 (f.word 2)).toInt
    let s := s.setTime { s.time with hallSeen := s.time.seen datum n }
    let s := (s.directPeers.filter fun q => q.1 != p).foldl (fun t q => t.ctrlPeer q.1 (hallWords datum (f.word 1) corr n)) s
    s.enqueueTimer (f.word 1) (.hallSlew corr)

/-- A hall correction begins its slew at its stake (R97). -/
def State.beginHallSlew (s : State) (corr : Int) : State :=
  let left := s.time.slewLeft + 16 * corr
  s.setTime { s.time with slewLeft := left, slewing := decide (16 ≤ left.natAbs) }

end Sys2Proof.Machine
end

