-- ==== Sys2Proof/Machine/Issue.lean ====
section
/-!
DEFINITION. The issue of an instruction by a sub-group: readiness, merging, fetch, decode, and what its effect makes of the
sub-group (R203 to R224, R261, R263 to R267, R303 to R307).
-/

namespace Sys2Proof.Machine

/-! ### Groups -/

/-- Group `k` of the block of this name. -/
def State.group (s : State) (blk k : Nat) : Option Group := (s.block blk).bind fun b => b.groups[k]?

/-- The state with another group `k` of a block. -/
def State.putGroup (s : State) (blk k : Nat) (g : Group) : State :=
  s.setCompute { s.compute with
    blocks := s.compute.blocks.map fun b => if b.id = blk then { b with groups := b.groups.set k g } else b }

/-! ### The place of an instruction, and what it does to the sub-group -/

/-- An instruction about to execute: its block, its group with the sub-group merged, the sub-group, and the instruction. -/
structure At where
  b : Block
  gi : Nat
  g : Group
  sg : SubGroup
  i : Insn
deriving DecidableEq, Repr

/-- What an instruction makes of its sub-group. -/
inductive Effect where
  /-- It executes: the group as it leaves it, the machine, and the sub-group goes on past it. -/
  | done (g : Group) (s : State)
  /-- It executes, and the sub-group is replaced by these. -/
  | split (g : Group) (s : State) (subs : List SubGroup)
  /-- It raises an exception in some lanes, with INFO (R303, R309). -/
  | raise (x : Exc) (lanes : BitVec 32) (info : Nat)
  /-- A translation fault of some lanes, recorded already: TRANSLATION, with INFO (R303, R464). -/
  | fault (s : State) (lanes : BitVec 32) (info : Nat)
  /-- Its sub-group is not ready (R205, R466): nothing but requests for translations and far data has happened. -/
  | wait (s : State)
  /-- It read poisoned data (R551). -/
  | poison
deriving DecidableEq, Repr

/-- A register or status field of the group named by an operand field. -/
def At.opd (a : At) (field : Nat) : Opd := opdOf a.b.regs field

/-- Value of a scalar operand field. -/
def At.scalar (a : At) (field : Nat) : Nat := a.g.scalar (a.opd field).scalarNo

/-- Name of the sub-group, as a waiter. -/
def At.waiter (a : At) (lane : Nat) : Waiter := .lane ⟨a.b.id, a.gi, a.sg.id⟩ lane

/-- Active lanes of the sub-group. -/
def At.lanes (a : At) : List Nat := lanesOf a.sg.mask

/-- Where the next instruction lies. -/
def At.next (a : At) : Nat := (a.i.pc + a.i.size) % 2 ^ 64

/-- What an exception record says of the instruction (R309). -/
def At.site (a : At) (lanes : BitVec 32) (info : Nat) : ExcSite :=
  { pc := a.i.pc, insn0 := a.i.word, insn1 := a.i.ext, lanes := lanes.toNat, active := a.sg.mask.toNat,
    cluster := a.b.cluster, group := a.gi, issuer := a.g.issuer, block := a.b.index, info, tag := a.b.tag,
    entry := a.b.entry }

/-! ### Readiness and merging (R205, R212, R227) -/

/-- The waiter is a lane of the sub-group. -/
def Waiter.of (w : Waiter) (blk grp sub : Nat) : Bool :=
  match w with
  | .lane r _ => r.blk == blk && r.grp == grp && r.sub == sub
  | _ => false

/-- An access of the sub-group awaits a walk or a far device (R466, R477). -/
def State.subAsks (s : State) (blk grp sub : Nat) : Bool :=
  (s.xlat.walks.any fun w => w.who.of blk grp sub) || s.xlat.tieOps.any fun o => o.who.of blk grp sub && o.answer.isNone

/-- An access of the sub-group awaits a replayable fault (R466). -/
def State.subFaults (s : State) (blk grp sub : Nat) : Bool := s.xlat.waits.any fun w => w.req.who.of blk grp sub

/-- A sub-group is not held: its block has started, no exception has stopped its group, and it waits at no barrier (R130, R205,
R307). -/
def freeToGo (b : Block) (g : Group) (sg : SubGroup) : Bool := b.stake.isNone && !g.stopped && sg.hold == .none

/-- A sub-group is not held, and none of its accesses waits (R123, R130, R205, R466). -/
def State.subReady (s : State) (b : Block) (gi : Nat) (g : Group) (sg : SubGroup) : Bool :=
  freeToGo b g sg && !(s.subAsks b.id gi sg.id) && !(s.subFaults b.id gi sg.id)

/-- A sub-group has accesses that wait on replayable faults, and waits for nothing else (R304, R466). -/
def State.subStuck (s : State) (b : Block) (gi : Nat) (g : Group) (sg : SubGroup) : Bool :=
  freeToGo b g sg && !(s.subAsks b.id gi sg.id) && s.subFaults b.id gi sg.id

/-- Return addresses of two merged sub-groups: each lane keeps its own (R212, R279; log 24). -/
def mergeRets (m : BitVec 32) : List (List Nat) → List (List Nat) → List (List Nat)
  | a :: l, b :: k => (a.zip b).mapIdx (fun i p => if m.getLsbD i then p.2 else p.1) :: mergeRets m l k
  | l, _ => l

/-- The other sub-groups that merge into one before it issues (R212). -/
def State.mergers (s : State) (b : Block) (gi : Nat) (g : Group) (sg : SubGroup) : List SubGroup :=
  g.subs.filter fun o => o.id != sg.id && o.pc == sg.pc && o.rets.length == sg.rets.length && s.subReady b gi g o

/-- The sub-group with the others merged into it. -/
def mergeInto (sg : SubGroup) (others : List SubGroup) : SubGroup :=
  others.foldl (fun a o => { a with mask := a.mask ||| o.mask, rets := mergeRets o.mask a.rets o.rets }) sg

/-- The group with its sub-group merged. -/
def Group.merged (g : Group) (sg : SubGroup) (others : List SubGroup) : Group :=
  { g with subs := (g.subs.filter fun o => !(others.any fun x => x.id == o.id)).map fun o => if o.id = sg.id then sg else o }

/-! ### Fetch (R261, R265, R447, R465) -/

/-- The outcome of a fetch. -/
inductive Fetch where
  | insn (i : Insn)
  /-- Some part lies outside the code region (R261): the first word, where that is not it. -/
  | outside (word : Nat)
  | wait (s : State)
  | poison
deriving DecidableEq, Repr

/-- One word of the code, through the core's ALU array's TLB (R261, R458; log 110). -/
def State.fetchWord (s : State) (b : Block) (core va : Nat) (who : Waiter) (site : ExcSite) : Fetch ⊕ Nat :=
  if va < b.codeLo ∨ b.codeHi < va + 8 then .inl (.outside 0)
  else
    match s.lookup b.cluster core .alu b.ctx va .fetch with
    | .hit (.local_ pa) => if s.poisoned pa 8 then .inl .poison else .inr (s.hbmWord pa).toNat
    | _ =>
      .inl (.wait (s.missTlb core { ctx := b.ctx, va, kind := .fetch, engine := .alu, by_ := .cluster b.cluster, who,
                                    site := some { site with info := va } }))

/-- The instruction at a sub-group's program counter. -/
def State.fetchInsn (s : State) (b : Block) (gi : Nat) (g : Group) (sg : SubGroup) : Fetch :=
  let core := nth b.cores gi 0
  let who := Waiter.lane ⟨b.id, gi, sg.id⟩ ((lanesOf sg.mask).headD 0)
  let site := (At.mk b gi g sg (insnOf sg.pc 0 0)).site sg.mask sg.pc
  match s.fetchWord b core sg.pc who site with
  | .inl f => f
  | .inr w =>
    if w / 2 ^ 62 % 4 = 1 then
      match s.fetchWord b core (sg.pc + 8) who { site with insn0 := w } with
      | .inl (.outside _) => .outside w
      | .inl f => f
      | .inr e => .insn (insnOf sg.pc w e)
    else .insn (insnOf sg.pc w 0)

/-! ### The accumulator pair (R318 to R320) -/

/-- Owner of a core's pair. -/
def State.pairOwner (s : State) (cluster core : Nat) : Option PairOwner :=
  s.compute.pairs.find? fun p => p.cluster == cluster && p.core == core

/-- A group's issuer waits to issue an instruction that names an accumulator (R319, R320). -/
def State.wantsPair (s : State) (b : Block) (gi : Nat) (g : Group) : Bool :=
  g.subs.any fun sg => sg.mask.getLsbD g.issuer && s.subReady b gi g sg &&
    match s.fetchInsn b gi g sg with
    | .insn i => i.legal b.regs && i.namesAcc b.regs
    | _ => false

/-- The group that a free pair goes to: the longest resident of those that wait, then the lowest index (R320). -/
def State.nextOwner (s : State) (cluster core : Nat) : Option (Nat × Nat) :=
  ((s.blocksOn cluster).flatMap fun b =>
    (b.groups.zipIdx.filter fun g => nth b.cores g.2 0 == core && s.wantsPair b g.2 g.1).map fun g => (b.id, g.2)).head?

/-- The state in which a group owns its core's pair (R318). -/
def State.givePair (s : State) (cluster core blk grp : Nat) : State :=
  s.setCompute { s.compute with pairs := s.compute.pairs ++ [⟨cluster, core, blk, grp⟩] }

/-- A group owns its core's pair, or takes it when it is free and no group stands before it in line (R319, R320). -/
def State.mayOwn (s : State) (b : Block) (gi : Nat) : Bool :=
  let core := nth b.cores gi 0
  match s.pairOwner b.cluster core with
  | some o => o.blk == b.id && o.grp == gi
  | none =>
    match s.nextOwner b.cluster core with
    | some n => n == (b.id, gi)
    | none => true

/-! ### Operands and engines (R205, R227, R319, R433) -/

/-- Instructions of the tile-vector engine of a core: those that groups which still run have issued and it has not completed. -/
def State.vectorOps (s : State) (cluster core : Nat) : List GcOp :=
  (s.blocksOn cluster).flatMap fun b =>
    (b.groups.zipIdx.filter fun g => nth b.cores g.2 0 == core && !g.1.stopped).flatMap fun g =>
      g.1.ops.filter fun o => o.pipe == .vector

/-- The engine of the core holds an instruction that runs and one that waits (R433). -/
def State.vectorFull (s : State) (cluster core : Nat) : Bool := decide (2 ≤ (s.vectorOps cluster core).length)

/-- Copies in flight on a core (R227). -/
def State.copiesOn (s : State) (cluster core : Nat) : Nat :=
  ((s.blocksOn cluster).map fun b => (b.copies.filter fun c => c.core == core).length).sum

/-- The operands of a sub-group's instruction are available, and its engine can accept it (R205): an instruction that raises ILLEGAL
needs neither. While 32 copies are in flight no sub-group issues an xfer.cv, and while an instruction waits in the tile-vector engine
none issues an instruction of it (R227, R433); the issuer's sub-group waits for results in program order (R223) and for the
accumulator pair (R319). -/
def State.opReady (s : State) (b : Block) (gi : Nat) (g : Group) (sg : SubGroup) (i : Insn) : Bool :=
  let core := nth b.cores gi 0
  let issuer := sg.mask.getLsbD g.issuer
  !(i.legal b.regs) ||
    (if isCollective i.cls i.op then
      (i.cls != 0x06 || decide (s.copiesOn b.cluster core < 32)) && (i.cls != 0x11 || !(s.vectorFull b.cluster core))
        && (!issuer || (!(g.scalarPending b.regs i) && (!(i.namesAcc b.regs) || s.mayOwn b gi)))
    else !issuer || !(g.operandsWait b.regs i))

/-! ### Issue -/

/-- What a sub-group has at its program counter. -/
inductive Choice where
  /-- It is not ready (R205), or does not exist. -/
  | idle
  /-- It waits on replayable faults of its instruction alone (R466). -/
  | stuck (a : At)
  | fetching (t : State)
  /-- Part of the instruction lies outside the code region (R261). -/
  | outside (a : At)
  | poison (ctx : Nat)
  /-- Its instruction, with the sub-groups that merge into it merged, and how many those are. -/
  | insn (a : At) (merges : Nat)
deriving DecidableEq, Repr

/-- The place of a sub-group's instruction once others have merged into it (R212). -/
def At.merging (b : Block) (gi : Nat) (g : Group) (sg : SubGroup) (others : List SubGroup) (i : Insn) : At :=
  let m := mergeInto sg others
  ⟨b, gi, g.merged m others, m, i⟩

/-- A ready sub-group has its instruction, and every other ready sub-group at the same place merges into it (R205, R212). -/
def State.chooseIn (s : State) (b : Block) (gi : Nat) (g : Group) (sg : SubGroup) : Choice :=
  if s.subReady b gi g sg then
    let near := s.mergers b gi g sg
    match s.fetchInsn b gi g (mergeInto sg near) with
    | .outside w => .outside (At.merging b gi g sg near (insnOf sg.pc w 0))
    | .wait t => .fetching t
    | .poison => .poison b.ctx
    | .insn i =>
      if s.opReady b gi g sg i then
        let others := near.filter fun o => s.opReady b gi g o i
        .insn (At.merging b gi g sg others i) others.length
      else .idle
  else if s.subStuck b gi g sg then
    match s.fetchInsn b gi g sg with
    | .insn i => .stuck ⟨b, gi, g, sg, i⟩
    | _ => .idle
  else .idle

/-- What the sub-group of a name has at its program counter. -/
def State.choose (s : State) (r : SubRef) : Choice :=
  match s.block r.blk with
  | none => .idle
  | some b =>
    match b.groups[r.grp]? with
    | none => .idle
    | some g =>
      match g.subs.find? fun x => x.id == r.sub with
      | none => .idle
      | some sg => s.chooseIn b r.grp g sg

/-- Engine time and events that an issue counts (R703, R801, R806). -/
def State.countIssue (s : State) (a : At) (merges : Nat) : State :=
  let s := s.progCount a.b.cluster a.b.ctx 4 1
  let s := if merges = 0 then s else s.progCount a.b.cluster a.b.ctx 0x0B merges
  if [0x06, 0x08, 0x10, 0x11].contains a.i.cls then s
  else
    let x := s.ctx a.b.ctx
    (s.count 2 1).putCtx a.b.ctx { x with acct := { x.acct with aluHalf := (x.acct.aluHalf + 1) % 2 ^ 64 } }

/-- The group with the issuing sub-group replaced. -/
def Group.replace (g : Group) (id : Nat) (subs : List SubGroup) : Group :=
  { g with subs := g.subs.flatMap fun o => if o.id = id then subs else [o] }

/-- A context's engines read poison (R551). -/
def State.hwFault (s : State) (ctx : Nat) : State := s.teardown ctx stHwFault

/-- What an effect makes of the machine (R305, R307). -/
def State.settleEffect (s : State) (a : At) (merges : Nat) (e : Effect) : State :=
  match e with
  | .done g t => (t.putGroup a.b.id a.gi (g.replace a.sg.id [{ a.sg with pc := a.next }])).countIssue a merges
  | .split g t subs => (t.putGroup a.b.id a.gi (g.replace a.sg.id subs)).countIssue a merges
  | .raise x lanes info => s.takeException a.b x (a.site lanes info)
  | .fault t lanes info => t.takeException a.b .translation (a.site lanes info)
  | .wait t => t
  | .poison => s.hwFault a.b.ctx

/-- An instruction that meets a condition issues from a sub-group: nothing when the sub-group is not ready or its
instruction is another (log 4). Where lanes wait on replayable faults, an exception of other lanes comes first (R304). -/
def State.issue (s : State) (mine : Insn → Bool) (effect : At → State → Effect) (r : SubRef) : State :=
  match s.choose r with
  | .idle => s
  | .outside _ => s
  | .fetching t => t
  | .poison ctx => s.hwFault ctx
  | .stuck a =>
    if mine a.i then
      match effect a s with
      | .fault t lanes info => s.settleEffect a 0 (.fault t lanes info)
      | _ => s
    else s
  | .insn a merges =>
    if !(mine a.i) then s
    else if !(a.i.legal a.b.regs) then s.takeException a.b .illegal (a.site a.sg.mask 0)
    else if isCollective a.i.cls a.i.op && !(a.sg.mask.getLsbD a.g.issuer) then s.settleEffect a merges (.done a.g s)
    else s.settleEffect a merges (effect a s)

/-- The meaning of an instruction's row: one class and operation. -/
def onIssue (cls op : Nat) (effect : At → State → Effect) (r : SubRef) (s : State) : Host.Outcome State Fault Refusal :=
  .next (s.issue (fun i => i.cls == cls && i.op == op) effect r)

/-- EXCEPTION (R261, R267, R303, R307, R309): an instruction that cannot execute at all raises ILLEGAL. -/
def State.illegalAt (s : State) (r : SubRef) : State :=
  match s.choose r with
  | .idle => s
  | .stuck _ => s
  | .fetching t => t
  | .poison ctx => s.hwFault ctx
  | .outside a => s.takeException a.b .illegal (a.site a.sg.mask 0)
  | .insn a _ => if a.i.legal a.b.regs then s else s.takeException a.b .illegal (a.site a.sg.mask 0)

/-- EXCEPTION (R307). -/
def execException (r : SubRef) (s : State) : Host.Outcome State Fault Refusal := .next (s.illegalAt r)

end Sys2Proof.Machine
end

