-- ==== Sys2Proof/Machine/IsaAlu.lean ====
section
/-!
DEFINITION. The integer and float instructions of lanes and scalars (R269 to R275, R366, R367, R392 to R394, R852, R865).
-/

namespace Sys2Proof.Machine

/-- A result of `k` registers per active lane, or one of 64 bits for a scalar DST (R207, R269, R275). -/
def At.write (a : At) (k : Nat) (f : Nat → Nat) : Group :=
  match a.opd a.i.dst with
  | .lane n => a.lanes.foldl (fun g l => g.setLanes32 l n (f l) k) a.g
  | .scalar n => a.g.setScalar n (f 0)
  | .tile _ => a.g
  | .acc _ => a.g
  | .bad => a.g

/-- The same, with the flags that each result raises or-ed into SR_FSTAT (R274). -/
def At.writeF (a : At) (k : Nat) (f : Nat → Nat × Flags) : Group :=
  let lanes := match a.opd a.i.dst with
    | .lane _ => a.lanes
    | .scalar _ => [0]
    | .tile _ => []
    | .acc _ => []
    | .bad => []
  let g := a.write k fun l => (f l).1
  { g with fstat := lanes.foldl (fun x l => x ||| (f l).2) g.fstat }

/-! ### Integer instructions -/

/-- The operands of an integer operation in one lane: width, MOD bit 0, condition, IMMSRC, SRC1, the second operand, the
operand of IMM bits 8:0, and the lane (R269 to R271). -/
structure IntArgs where
  w : Nat
  signed : Bool
  cond : Nat
  immSrc : Bool
  a : Nat
  b : Nat
  c : Nat
  lane : Nat
deriving DecidableEq, Repr

/-- The operands of an integer instruction as a lane sees them, of `k` registers (R270, R271). -/
def At.intArgs (a : At) (k l : Nat) : IntArgs :=
  let i := a.i
  { w := 32 * k, signed := i.isSigned, cond := i.mod / 2 % 8, immSrc := i.immSrc,
    a := a.g.operand l k (a.opd i.src1),
    b := if i.immSrc then i.immediate % 2 ^ (32 * k) else a.g.operand l k (a.opd i.src2),
    c := a.g.operand l k (a.opd (i.imm % 512)), lane := l }

/-- The shape of an integer instruction (R269, R272). -/
def intEffect (f : IntArgs → Nat) (a : At) (s : State) : Effect :=
  let k := if a.i.isWide64 || (a.opd a.i.dst).isScalar then 2 else 1
  .done (a.write k fun l => f (a.intArgs k l)) s

/-- The conditions of R271. -/
def intCond (cond w : Nat) (sgn : Bool) (a b : Nat) : Bool :=
  let lt := fun (x y : Nat) => if sgn then decide (signedNat w x < signedNat w y) else decide (x % 2 ^ w < y % 2 ^ w)
  match cond with
  | 0 => decide (a % 2 ^ w = b % 2 ^ w)
  | 1 => decide (a % 2 ^ w ≠ b % 2 ^ w)
  | 2 => lt a b
  | 3 => !(lt b a)
  | 4 => lt b a
  | _ => !(lt a b)

/-- A signed number as a pattern of `w` bits. -/
def wrapInt (w : Nat) (v : Int) : Nat := (v % 2 ^ w).toNat

/-- Number of leading zeros of a pattern of `w` bits. -/
def clzNat (w a : Nat) : Nat := if a % 2 ^ w = 0 then w else w - 1 - Nat.log2 (a % 2 ^ w)

/-- Number of set bits of a pattern of `w` bits. -/
def popNat (w a : Nat) : Nat := ((List.range w).filter a.testBit).length

def intAdd (x : IntArgs) : Nat := (x.a + x.b) % 2 ^ x.w
def intSub (x : IntArgs) : Nat := (x.a + (2 ^ x.w - x.b % 2 ^ x.w)) % 2 ^ x.w
def intMulLo (x : IntArgs) : Nat := x.a * x.b % 2 ^ x.w
def intMulHi (x : IntArgs) : Nat :=
  if x.signed then wrapInt x.w ((signedNat x.w x.a * signedNat x.w x.b).fdiv (2 ^ x.w)) else x.a * x.b / 2 ^ x.w % 2 ^ x.w
def intQuot (x : IntArgs) : Nat := intDiv x.w x.signed x.a x.b
def intRest (x : IntArgs) : Nat := intRem x.w x.signed x.a x.b
def intAnd (x : IntArgs) : Nat := x.a &&& x.b
def intOr (x : IntArgs) : Nat := x.a ||| x.b
def intXor (x : IntArgs) : Nat := x.a ^^^ x.b
def intShl (x : IntArgs) : Nat := x.a * 2 ^ (x.b % x.w) % 2 ^ x.w
def intShr (x : IntArgs) : Nat :=
  if x.signed then wrapInt x.w ((signedNat x.w x.a).fdiv (2 ^ (x.b % x.w))) else x.a % 2 ^ x.w / 2 ^ (x.b % x.w)
def intMin (x : IntArgs) : Nat := if intCond 3 x.w x.signed x.a x.b then x.a else x.b
def intMax (x : IntArgs) : Nat := if intCond 3 x.w x.signed x.a x.b then x.b else x.a
def intCmp (x : IntArgs) : Nat := flagNat (intCond x.cond x.w x.signed x.a x.b)
def intSel (x : IntArgs) : Nat := if x.c ≠ 0 then x.a else x.b
def intMov (x : IntArgs) : Nat := if x.immSrc then x.b else x.a
def intLane (x : IntArgs) : Nat := x.lane
def intPopc (x : IntArgs) : Nat := popNat x.w x.a
def intClz (x : IntArgs) : Nat := clzNat x.w x.a

/-- rdlane (R270): SRC1 of the lowest active lane, zero-extended. -/
def rdlaneEffect (a : At) (s : State) : Effect :=
  let k := if a.i.isWide64 then 2 else 1
  .done (a.write 2 fun _ => a.g.operand (a.lanes.headD 0) k (a.opd a.i.src1)) s

/-- ADD (R269). -/
def execAdd (r : SubRef) (s : State) : Host.Outcome State Fault Refusal := onIssue 0x00 0 (intEffect intAdd) r s

/-- SUB (R269). -/
def execSub (r : SubRef) (s : State) : Host.Outcome State Fault Refusal := onIssue 0x00 1 (intEffect intSub) r s

/-- MUL_LO (R269). -/
def execMulLo (r : SubRef) (s : State) : Host.Outcome State Fault Refusal := onIssue 0x00 2 (intEffect intMulLo) r s

/-- MUL_HI (R271). -/
def execMulHi (r : SubRef) (s : State) : Host.Outcome State Fault Refusal := onIssue 0x00 3 (intEffect intMulHi) r s

/-- DIV (R272). -/
def execDiv (r : SubRef) (s : State) : Host.Outcome State Fault Refusal := onIssue 0x00 4 (intEffect intQuot) r s

/-- REM (R272). -/
def execRem (r : SubRef) (s : State) : Host.Outcome State Fault Refusal := onIssue 0x00 5 (intEffect intRest) r s

/-- AND (R269). -/
def execAnd (r : SubRef) (s : State) : Host.Outcome State Fault Refusal := onIssue 0x00 6 (intEffect intAnd) r s

/-- OR (R269). -/
def execOr (r : SubRef) (s : State) : Host.Outcome State Fault Refusal := onIssue 0x00 7 (intEffect intOr) r s

/-- XOR (R269). -/
def execXor (r : SubRef) (s : State) : Host.Outcome State Fault Refusal := onIssue 0x00 8 (intEffect intXor) r s

/-- SHL (R272). -/
def execShl (r : SubRef) (s : State) : Host.Outcome State Fault Refusal := onIssue 0x00 9 (intEffect intShl) r s

/-- SHR (R271, R272). -/
def execShr (r : SubRef) (s : State) : Host.Outcome State Fault Refusal := onIssue 0x00 10 (intEffect intShr) r s

/-- MIN (R271). -/
def execMin (r : SubRef) (s : State) : Host.Outcome State Fault Refusal := onIssue 0x00 11 (intEffect intMin) r s

/-- MAX (R271). -/
def execMax (r : SubRef) (s : State) : Host.Outcome State Fault Refusal := onIssue 0x00 12 (intEffect intMax) r s

/-- CMP (R271). -/
def execCmp (r : SubRef) (s : State) : Host.Outcome State Fault Refusal := onIssue 0x00 13 (intEffect intCmp) r s

/-- SEL (R271). -/
def execSel (r : SubRef) (s : State) : Host.Outcome State Fault Refusal := onIssue 0x00 14 (intEffect intSel) r s

/-- MOV (R269). -/
def execMov (r : SubRef) (s : State) : Host.Outcome State Fault Refusal := onIssue 0x00 15 (intEffect intMov) r s

/-- LANE_ID (R271). -/
def execLaneId (r : SubRef) (s : State) : Host.Outcome State Fault Refusal := onIssue 0x00 16 (intEffect intLane) r s

/-- RDLANE (R270). -/
def execRdlane (r : SubRef) (s : State) : Host.Outcome State Fault Refusal := onIssue 0x00 17 rdlaneEffect r s

/-- POPC (R269). -/
def execPopc (r : SubRef) (s : State) : Host.Outcome State Fault Refusal := onIssue 0x00 18 (intEffect intPopc) r s

/-- CLZ (R269). -/
def execClz (r : SubRef) (s : State) : Host.Outcome State Fault Refusal := onIssue 0x00 19 (intEffect intClz) r s

/-! ### Float instructions -/

/-- Format of a float type (R273). -/
def floatFmt (ty : Nat) : Fmt :=
  match ty % 4 with
  | 0 => .fp32
  | 1 => .fp64
  | 2 => .fp16
  | _ => .bf16

/-- The operands of a float operation on one element. -/
structure FloatArgs where
  fmt : Fmt
  rm : Rm
  cond : Nat
  a : Nat
  b : Nat
  c : Nat
deriving DecidableEq, Repr

/-- An operation on one value, or on each of two packed values (R273). Where fcmp puts its 1 or 0 for FP64 and the packed types the spec
does not say: it is an integer of the type's width, one per packed half (DESIGN CHOICE, log 141). -/
def perElement (ty rm cond : Nat) (f : FloatArgs → Nat × Flags) (a b c : Nat) : Nat × Flags :=
  let one := fun (x y z : Nat) => f ⟨floatFmt ty, Rm.ofField rm, cond, x, y, z⟩
  if 2 ≤ ty then
    let lo := one (a % 2 ^ 16) (b % 2 ^ 16) (c % 2 ^ 16)
    let hi := one (a / 2 ^ 16 % 2 ^ 16) (b / 2 ^ 16 % 2 ^ 16) (c / 2 ^ 16 % 2 ^ 16)
    (lo.1 % 2 ^ 16 + 2 ^ 16 * hi.1, lo.2 ||| hi.2)
  else one a b c

/-- The shape of a float instruction (R273 to R275). -/
def floatEffect (f : FloatArgs → Nat × Flags) (a : At) (s : State) : Effect :=
  let i := a.i
  let ty := i.mod % 4
  let k := floatRegs ty
  .done (a.writeF k fun l => perElement ty (i.mod / 4 % 4) (i.imm % 8) f
    (a.g.operand l k (a.opd i.src1)) (a.g.operand l k (a.opd i.src2)) (a.g.operand l k (a.opd (i.imm % 512)))) s

/-- Element `e` of an operand that fcvt reads in pairs (R865). -/
def pairElement (ty e v : Nat) : Nat :=
  let w := (floatFmt ty).width
  v / 2 ^ (w * e) % 2 ^ w

/-- fcvt (R392, R865). -/
def fcvtEffect (a : At) (s : State) : Effect :=
  let i := a.i
  let src := i.mod % 4
  let dst := i.imm % 4
  let rm := Rm.ofField (i.mod / 4 % 4)
  let one := fun (v : Nat) => fCvt (floatFmt src) (floatFmt dst) rm v
  if 2 ≤ src ∨ 2 ≤ dst then
    let k := fun (t : Nat) => if 2 ≤ t then 1 else 2 * floatRegs t
    .done (a.writeF (k dst) fun l =>
      let v := a.g.operand l (k src) (a.opd i.src1)
      let lo := one (pairElement src 0 v)
      let hi := one (pairElement src 1 v)
      (lo.1 + 2 ^ (floatFmt dst).width * hi.1, lo.2 ||| hi.2)) s
  else .done (a.writeF (floatRegs dst) fun l => one (a.g.operand l (floatRegs src) (a.opd i.src1))) s

def floatAdd (x : FloatArgs) : Nat × Flags := fAdd x.fmt x.rm x.a x.b
def floatSub (x : FloatArgs) : Nat × Flags := fSub x.fmt x.rm x.a x.b
def floatMul (x : FloatArgs) : Nat × Flags := fMul x.fmt x.rm x.a x.b
def floatFma (x : FloatArgs) : Nat × Flags := fFma x.fmt x.rm x.a x.b x.c
def floatDiv (x : FloatArgs) : Nat × Flags := fDiv x.fmt x.rm x.a x.b
def floatSqrt (x : FloatArgs) : Nat × Flags := fSqrt x.fmt x.rm x.a
def floatMin (x : FloatArgs) : Nat × Flags := fMin x.fmt x.a x.b
def floatMax (x : FloatArgs) : Nat × Flags := fMax x.fmt x.a x.b
def floatCmp (x : FloatArgs) : Nat × Flags := fCmp x.fmt x.cond x.a x.b
def floatToInt (x : FloatArgs) : Nat × Flags := fToInt x.fmt x.fmt.width x.rm x.a
def floatOfInt (x : FloatArgs) : Nat × Flags := fOfInt x.fmt x.fmt.width x.rm x.a

/-- FADD (R273). -/
def execFadd (r : SubRef) (s : State) : Host.Outcome State Fault Refusal := onIssue 0x01 0 (floatEffect floatAdd) r s

/-- FSUB (R273). -/
def execFsub (r : SubRef) (s : State) : Host.Outcome State Fault Refusal := onIssue 0x01 1 (floatEffect floatSub) r s

/-- FMUL (R273). -/
def execFmul (r : SubRef) (s : State) : Host.Outcome State Fault Refusal := onIssue 0x01 2 (floatEffect floatMul) r s

/-- FFMA (R273). -/
def execFfma (r : SubRef) (s : State) : Host.Outcome State Fault Refusal := onIssue 0x01 3 (floatEffect floatFma) r s

/-- FDIV (R274). -/
def execFdiv (r : SubRef) (s : State) : Host.Outcome State Fault Refusal := onIssue 0x01 4 (floatEffect floatDiv) r s

/-- FSQRT (R274). -/
def execFsqrt (r : SubRef) (s : State) : Host.Outcome State Fault Refusal := onIssue 0x01 5 (floatEffect floatSqrt) r s

/-- FMIN (R273). -/
def execFmin (r : SubRef) (s : State) : Host.Outcome State Fault Refusal := onIssue 0x01 6 (floatEffect floatMin) r s

/-- FMAX (R273). -/
def execFmax (r : SubRef) (s : State) : Host.Outcome State Fault Refusal := onIssue 0x01 7 (floatEffect floatMax) r s

/-- FCMP (R273). -/
def execFcmp (r : SubRef) (s : State) : Host.Outcome State Fault Refusal := onIssue 0x01 8 (floatEffect floatCmp) r s

/-- FCVT (R392, R865). -/
def execFcvt (r : SubRef) (s : State) : Host.Outcome State Fault Refusal := onIssue 0x01 9 fcvtEffect r s

/-- FCVT_I (R393). -/
def execFcvtI (r : SubRef) (s : State) : Host.Outcome State Fault Refusal := onIssue 0x01 10 (floatEffect floatToInt) r s

/-- FCVT_F (R394). -/
def execFcvtF (r : SubRef) (s : State) : Host.Outcome State Fault Refusal := onIssue 0x01 11 (floatEffect floatOfInt) r s

end Sys2Proof.Machine
end

