-- ==== Sys2Proof/Machine/IsaControl.lean ====
section
/-!
DEFINITION. Control flow, barriers, waits, time and the group status registers (R132, R209 to R218, R231, R248, R252, R276 to
R280, R291, R292, R295, R297, R300).
-/

namespace Sys2Proof.Machine

/-! ### Block memory (R28, R285) -/

/-- Key of a block-memory byte of a block (R713). -/
def Block.bmAt (b : Block) (offset : Nat) : Nat := 2 ^ 21 * b.cluster + b.bmBase + offset

/-- Bytes of a block's memory. -/
def State.bmRead (s : State) (b : Block) (offset n : Nat) : List Byte := cellRead s.compute.bmem (b.bmAt offset) n

/-- Bytes written to a block's memory. -/
def State.bmWrite (s : State) (b : Block) (offset : Nat) (bytes : List Byte) : State :=
  s.setCompute { s.compute with bmem := cellWrite s.compute.bmem (b.bmAt offset) bytes }

/-- An arrival counter (R228). -/
def State.counterAt (s : State) (b : Block) (offset : Nat) : Nat := leNat (s.bmRead b offset 8)

/-- A range lies within the block's allocation (R285). -/
def Block.holds (b : Block) (offset n : Nat) : Bool := decide (offset + n ≤ b.bmSize)

/-! ### Branches and calls -/

/-- Target of br and call (R276). -/
def At.target (a : At) : Nat :=
  if a.i.wide then (a.i.pc + a.i.ext) % 2 ^ 64 else (a.i.pc + a.i.immediate * 8) % 2 ^ 64

/-- The sub-group goes on at an address. -/
def At.jump (a : At) (pc : Nat) (s : State) : Effect := .split a.g s [{ a.sg with pc }]

/-- A jump to an absolute address, which must be a multiple of 8 (R276). -/
def At.jumpChecked (a : At) (sg : SubGroup) (pc : Nat) (s : State) : Effect :=
  if pc % 8 ≠ 0 then .raise .align a.sg.mask pc else .split a.g s [{ sg with pc }]

/-- br (R276). -/
def brEffect (a : At) (s : State) : Effect := a.jump a.target s

/-- br.r (R276, R278). -/
def brREffect (a : At) (s : State) : Effect := a.jumpChecked a.sg (a.scalar a.i.src1) s

/-- The conditions of br.c, against zero, on a signed value of `w` bits (R277). -/
def brCond (cond w v : Nat) : Bool :=
  let x := signedNat w v
  match cond with
  | 0 => decide (x = 0)
  | 1 => decide (x ≠ 0)
  | 2 => decide (x < 0)
  | 3 => decide (0 ≤ x)
  | 4 => decide (0 < x)
  | _ => decide (x ≤ 0)

/-- br.c (R209, R210, R277): a lane condition on which the active lanes disagree splits the sub-group. -/
def brCEffect (a : At) (s : State) : Effect :=
  let cond := a.i.mod % 8
  match a.opd a.i.src1 with
  | .lane n =>
    let taken := maskOf (a.lanes.filter fun l => brCond cond 32 (a.g.lane l n).toNat)
    if taken = a.sg.mask then a.jump a.target s
    else if taken = 0 then a.jump a.next s
    else
      .split { a.g with nextSub := a.g.nextSub + 1 } (s.progCount a.b.cluster a.b.ctx 0x0A 1)
        [{ a.sg with pc := a.target, mask := taken },
         { a.sg with id := a.g.nextSub, pc := a.next, mask := a.sg.mask &&& ~~~ taken }]
  | o => if brCond cond 64 (a.g.scalar o.scalarNo) then a.jump a.target s else a.jump a.next s

/-- The sub-group one call deeper (R279). -/
def At.called (a : At) : SubGroup := { a.sg with rets := List.replicate 32 a.next :: a.sg.rets }

/-- call (R276, R279). -/
def callEffect (a : At) (s : State) : Effect :=
  if 16 ≤ a.sg.rets.length then .raise .callDepth a.sg.mask 0 else .split a.g s [{ a.called with pc := a.target }]

/-- call.r (R276, R278, R279, R304). -/
def callREffect (a : At) (s : State) : Effect :=
  if 16 ≤ a.sg.rets.length then .raise .callDepth a.sg.mask 0 else a.jumpChecked a.called (a.scalar a.i.src1) s

/-- Sub-groups of the lanes of a mask that return to the same address (R212, R279; log 24). -/
def returnGroups (sg : SubGroup) (frame : List Nat) (rest : List (List Nat)) (nextSub : Nat) : List SubGroup :=
  let lanes := lanesOf sg.mask
  let addrs := (lanes.map fun l => nth frame l 0).eraseDups
  addrs.mapIdx fun i pc =>
    { sg with id := if i = 0 then sg.id else nextSub + i - 1, pc, rets := rest,
              mask := maskOf (lanes.filter fun l => nth frame l 0 == pc) }

/-- ret (R279). -/
def retEffect (a : At) (s : State) : Effect :=
  match a.sg.rets with
  | [] => .raise .callDepth a.sg.mask 0
  | frame :: rest => .split { a.g with nextSub := a.g.nextSub + 32 } s (returnGroups a.sg frame rest a.g.nextSub)

/-- The group once some lanes have exited: the issuer role passes on (R214, R220). -/
def Group.exit (g : Group) (lanes : BitVec 32) : Group :=
  let exited := g.exited ||| lanes
  let left := lanesOf (~~~ exited)
  { g with exited, issuer := if exited.getLsbD g.issuer then left.headD g.issuer else g.issuer }

/-- exit (R214): a group that ends gives up its accumulator pair (R321). -/
def exitEffect (a : At) (s : State) : Effect :=
  let g := a.g.exit a.sg.mask
  .split g (if g.over then
      s.setCompute { s.compute with pairs := s.compute.pairs.filter fun p => !(p.blk == a.b.id && p.grp == a.gi) }
    else s) []

/-- trap (R280). -/
def trapEffect (a : At) (_ : State) : Effect := .raise .trap a.sg.mask a.i.imm

/-- nop (R280). -/
def nopEffect (a : At) (s : State) : Effect := .done a.g s

/-- BR (R276). -/
def execBr (r : SubRef) (s : State) : Host.Outcome State Fault Refusal := onIssue 0x02 0 brEffect r s

/-- BR_C (R277). -/
def execBrC (r : SubRef) (s : State) : Host.Outcome State Fault Refusal := onIssue 0x02 1 brCEffect r s

/-- BR_R (R276). -/
def execBrR (r : SubRef) (s : State) : Host.Outcome State Fault Refusal := onIssue 0x02 2 brREffect r s

/-- CALL (R279). -/
def execCall (r : SubRef) (s : State) : Host.Outcome State Fault Refusal := onIssue 0x02 3 callEffect r s

/-- CALL_R (R279). -/
def execCallR (r : SubRef) (s : State) : Host.Outcome State Fault Refusal := onIssue 0x02 4 callREffect r s

/-- RET (R279). -/
def execRet (r : SubRef) (s : State) : Host.Outcome State Fault Refusal := onIssue 0x02 5 retEffect r s

/-- EXIT (R214). -/
def execExit (r : SubRef) (s : State) : Host.Outcome State Fault Refusal := onIssue 0x02 6 exitEffect r s

/-- TRAP (R280). -/
def execTrap (r : SubRef) (s : State) : Host.Outcome State Fault Refusal := onIssue 0x02 7 trapEffect r s

/-- NOP (R280). -/
def execNop (r : SubRef) (s : State) : Host.Outcome State Fault Refusal := onIssue 0x02 8 nopEffect r s

/-! ### Fences, barriers and waits -/

/-- Tie writes that a fence.sys of the group waits for: its own, and those of its block's copies (R233, R252; log 25). -/
def State.tieWritesBefore (s : State) (blk grp : Nat) : Bool :=
  s.fab.sends.any fun f => (f.unacked ++ f.waiting).any fun u =>
    match u.op with
    | .tieWrite _ _ _ _ b g e _ _ => b == blk && (g == grp || e == .copy)
    | _ => false

/-- fence (R248, R252): in this model only fence.sys waits for anything. -/
def fenceEffect (a : At) (s : State) : Effect :=
  if a.i.scope = 3 ∧ s.tieWritesBefore a.b.id a.gi then .wait s else .done a.g s

/-- The sub-group goes on past the instruction, held. -/
def At.holds (a : At) (h : Hold) (s : State) : Effect := .split a.g s [{ a.sg with pc := a.next, hold := h }]

/-- bar.group (R216). -/
def barGroupEffect (a : At) (s : State) : Effect := a.holds .barGroup s

/-- bar.block (R218). -/
def barBlockEffect (a : At) (s : State) : Effect := a.holds .barBlock s

/-- arr.wait (R231, R292, R304). -/
def arrWaitEffect (a : At) (s : State) : Effect :=
  let off := a.scalar a.i.src1
  if off % 8 ≠ 0 then .raise .align a.sg.mask off
  else if a.b.holds off 8 then a.holds (.arrWait off (a.scalar a.i.src2)) s
  else .raise .blockRange a.sg.mask off

/-- stake.wait (R132, R295). -/
def stakeWaitEffect (a : At) (s : State) : Effect := a.holds (.stakeWait (a.scalar a.i.src1)) s

/-- mt.read (R79, R295). -/
def mtReadEffect (a : At) (s : State) : Effect :=
  .done (a.g.setScalar (a.opd a.i.dst).scalarNo (s.replica (a.b.cluster / 24))) s

/-- FENCE (R248, R252, R291). -/
def execFence (r : SubRef) (s : State) : Host.Outcome State Fault Refusal := onIssue 0x05 0 fenceEffect r s

/-- BAR_GROUP (R216). -/
def execBarGroup (r : SubRef) (s : State) : Host.Outcome State Fault Refusal := onIssue 0x05 1 barGroupEffect r s

/-- BAR_BLOCK (R218). -/
def execBarBlock (r : SubRef) (s : State) : Host.Outcome State Fault Refusal := onIssue 0x05 2 barBlockEffect r s

/-- ARR_WAIT (R231). -/
def execArrWait (r : SubRef) (s : State) : Host.Outcome State Fault Refusal := onIssue 0x05 3 arrWaitEffect r s

/-- STAKE_WAIT (R132). -/
def execStakeWait (r : SubRef) (s : State) : Host.Outcome State Fault Refusal := onIssue 0x07 0 stakeWaitEffect r s

/-- MT_READ (R295). -/
def execMtRead (r : SubRef) (s : State) : Host.Outcome State Fault Refusal := onIssue 0x07 1 mtReadEffect r s

/-- The group with every sub-group released. -/
def Group.release (g : Group) : Group := { g with subs := g.subs.map fun x => { x with hold := .none } }

/-- Every lane of the group that has not exited is held by a barrier. -/
def Group.allHeld (g : Group) (h : Hold) : Bool := g.subs.all fun x => x.hold == h

/-- BAR_GROUP_RELEASE (R216, R217). -/
def execBarGroupRelease (blk grp : Nat) (s : State) : Host.Outcome State Fault Refusal :=
  .next (match s.group blk grp with
    | some g => if g.allHeld .barGroup && g.ops.isEmpty && !g.stopped then s.putGroup blk grp g.release else s
    | none => s)

/-- BAR_BLOCK_RELEASE (R218). -/
def execBarBlockRelease (blk : Nat) (s : State) : Host.Outcome State Fault Refusal :=
  .next (match s.block blk with
    | some b =>
      if b.groups.all fun g => g.allHeld .barBlock && !g.stopped then s.putBlock { b with groups := b.groups.map Group.release }
      else s
    | none => s)

/-- The sub-group of a name, with its block and group. -/
def State.subGroup (s : State) (r : SubRef) : Option (Block × Group × SubGroup) :=
  match s.block r.blk with
  | none => none
  | some b =>
    match b.groups[r.grp]? with
    | none => none
    | some g => (g.subs.find? fun x => x.id == r.sub).map fun x => (b, g, x)

/-- The sub-group released from its hold. -/
def State.unhold (s : State) (r : SubRef) (g : Group) (x : SubGroup) : State :=
  s.putGroup r.blk r.grp (g.replace x.id [{ x with hold := .none }])

/-- ARR_WAIT_RELEASE (R231, R232). -/
def execArrWaitRelease (r : SubRef) (s : State) : Host.Outcome State Fault Refusal :=
  .next (match s.subGroup r with
    | some (b, g, x) =>
      match x.hold with
      | .arrWait off v => if v ≤ s.counterAt b off then s.unhold r g x else s
      | _ => s
    | none => s)

/-- STAKE_WAIT_RELEASE (R132). -/
def execStakeWaitRelease (r : SubRef) (s : State) : Host.Outcome State Fault Refusal :=
  .next (match s.subGroup r with
    | some (b, g, x) =>
      match x.hold with
      | .stakeWait m => if m ≤ s.replica (b.cluster / 24) then s.unhold r g x else s
      | _ => s
    | none => s)

/-! ### Status registers (R297, R300, R301) -/

/-- SR_VSTAT as it reads. -/
def Group.vstatBits (g : Group) : Nat := placed (flagNat g.range) 8 + g.vstat.toNat

/-- The value of a status register (R300). -/
def At.status (a : At) (n : Nat) : Nat :=
  match n with
  | 0x00 => a.b.cluster / 24
  | 0x01 => a.b.cluster
  | 0x02 => a.b.index
  | 0x03 => a.b.blocks
  | 0x04 => a.gi
  | 0x05 => a.b.groups.length
  | 0x06 => a.b.ctx
  | 0x07 => a.b.bmSize
  | 0x08 => a.b.args
  | 0x09 => placed a.g.issuer 32 + a.sg.mask.toNat
  | 0x10 => a.g.fstat.toNat
  | 0x11 => a.g.astat.toNat
  | 0x12 => a.g.vstatBits
  | _ => flagNat a.g.ftz32

/-- The group with the flags of a mask cleared (R297, R300). -/
def Group.clear (g : Group) (n mask : Nat) : Group :=
  match n with
  | 0x10 => { g with fstat := g.fstat &&& ~~~ (BitVec.ofNat 5 mask) }
  | 0x11 => { g with astat := g.astat &&& ~~~ (BitVec.ofNat 4 mask) }
  | _ => { g with vstat := g.vstat &&& ~~~ (BitVec.ofNat 5 mask), range := g.range && !(mask.testBit 8) }

/-- sr.read (R297). -/
def srReadEffect (a : At) (s : State) : Effect := .done (a.g.setScalar (a.opd a.i.dst).scalarNo (a.status a.i.imm)) s

/-- sr.write: SR_CTRL is the one register with an RW field (R297, R300). -/
def srWriteEffect (a : At) (s : State) : Effect := .done { a.g with ftz32 := (a.scalar a.i.src1).testBit 0 } s

/-- The group with bits set again that an engine has set in this cycle: the set wins (R18, R302). The issuer's sub-group clears only what
instructions that completed before its own issue have set (R223), so its clear is of a later cycle. -/
def Group.setAgain (g : Group) (n cycle : Nat) : Group :=
  if g.raised.cycle ≠ cycle then g
  else if n = 0x11 then { g with astat := g.astat ||| g.raised.astat }
  else if n = 0x12 then { g with vstat := g.vstat ||| g.raised.vstat, range := g.range || g.raised.range }
  else g

/-- sr.clr (R297, R302). -/
def srClrEffect (a : At) (s : State) : Effect :=
  let g := a.g.clear a.i.imm (a.scalar a.i.src1)
  .done (if a.sg.mask.getLsbD a.g.issuer then g else g.setAgain a.i.imm s.abaom.posts) s

/-- SR_READ (R297). -/
def execSrRead (r : SubRef) (s : State) : Host.Outcome State Fault Refusal := onIssue 0x09 0 srReadEffect r s

/-- SR_WRITE (R297). -/
def execSrWrite (r : SubRef) (s : State) : Host.Outcome State Fault Refusal := onIssue 0x09 1 srWriteEffect r s

/-- SR_CLR (R297). -/
def execSrClr (r : SubRef) (s : State) : Host.Outcome State Fault Refusal := onIssue 0x09 2 srClrEffect r s

end Sys2Proof.Machine
end

