-- ==== Sys2Proof/Machine/Memory.lean ====
section
/-!
DEFINITION. The stacks' request trackers, error keeping, refresh and repair, and the regulators (R535 to R541, R549 to R559,
R695 to R699, R704, R854).
-/

namespace Sys2Proof.Machine

/-! ### Requests at the stacks -/

/-- Sectors of a mask. -/
def sectorCount (m : BitVec 4) : Nat := ((List.range 4).filter fun i => m.getLsbD i).length

/-- The place of a line, and its pseudo-channel as stack, channel and half (R533). -/
def State.linePlace (s : State) (line : Nat) : StackPlace := (placeOf s.mem.regions (line * 256)).getD ⟨0, 0, 0, 0, 0, 0⟩

def StackPlace.sameChannel (a b : StackPlace) : Bool := a.stack == b.stack && a.channel == b.channel

def StackPlace.samePseudo (a b : StackPlace) : Bool := a.sameChannel b && a.pseudo == b.pseudo

/-- A repair has paused the channel of a place (R556). -/
def State.channelPaused (s : State) (p : StackPlace) : Bool :=
  match s.mem.repairing with
  | some r => r.stack == p.stack && r.channel == p.channel
  | none => false

/-- The requests that hold tracker entries of a pseudo-channel, oldest first. -/
def State.trackedAt (s : State) (p : StackPlace) : List MemReq :=
  s.mem.reqs.filter fun r => r.tracked && (s.linePlace r.line).samePseudo p

/-- Writes in a pseudo-channel's write queue (R540). -/
def State.queuedWrites (s : State) (p : StackPlace) : Nat := (s.trackedAt p).countP (·.write)

/-- The pseudo-channel of a line has a tracker entry for a class, and a place in its write queue for a write (R535, R537, R540,
R556). -/
def State.trackerFree (s : State) (line : Nat) (c : MemClass) (write : Bool) : Bool :=
  let p := s.linePlace line
  !(s.channelPaused p) && decide ((s.trackedAt p).length < if c == .crit then 256 else 240)
    && (!write || decide (s.queuedWrites p < 64))

/-! ### Scheduling (R538, R540; log 118) -/

/-- What the scheduler of a place's pseudo-channel remembers. -/
def State.pseudoOf (s : State) (p : StackPlace) : PseudoChannel :=
  (s.mem.pseudos.find? fun x => x.stack == p.stack && x.channel == p.channel && x.pseudo == p.pseudo).getD
    ⟨p.stack, p.channel, p.pseudo, [], 0, false⟩

/-- The state with another such memory. -/
def State.putPseudo (s : State) (x : PseudoChannel) : State :=
  s.setMem { s.mem with
    pseudos := x :: s.mem.pseudos.filter fun y => !(y.stack == x.stack && y.channel == x.channel && y.pseudo == x.pseudo) }

/-- The row of a line is open in its bank. -/
def State.rowOpen (s : State) (x : PseudoChannel) (line : Nat) : Bool :=
  let p := s.linePlace line
  x.rows.contains (p.bank, p.row)

/-- The read that a scheduler issues among ready ones, given oldest first: the oldest of the highest class, an open row first,
but for an older one that waits for another row after a run of 16 (R538). -/
def State.nextRead (s : State) (x : PseudoChannel) (ready : List MemReq) : Option MemReq :=
  let top := ready.foldl (fun m r => min m r.cls.rank) 4
  let best := ready.filter fun r => r.cls.rank == top
  match best.find? fun r => s.rowOpen x r.line with
  | none => best.head?
  | some r =>
    if 16 ≤ x.run then
      ((best.takeWhile fun q => q.id != r.id).find? fun q => !(s.rowOpen x q.line)) <|> some r
    else some r

/-- A tracked request is the one that its pseudo-channel serves next; `held` names the requests that are not ready (R538,
R540). -/
def State.servedNext (s : State) (r : MemReq) (held : List Nat) : Bool :=
  let p := s.linePlace r.line
  let x := s.pseudoOf p
  let ready := (s.trackedAt p).filter fun q => !(held.contains q.id)
  let reads := ready.filter fun q => !q.write
  let writes := ready.filter (·.write)
  if r.write then (reads.isEmpty || x.draining) && writes.any fun q => q.id == r.id
  else !(x.draining && !writes.isEmpty) && (s.nextRead x reads).map (·.id) == some r.id

/-- A bank's activations, counted for refresh management (R553). -/
def State.countActivation (s : State) (p : StackPlace) : State :=
  let key := (p.channel * 2 + p.pseudo) * 32 + p.bank
  let n := ((s.mem.activations.find? fun a => a.1 == p.stack && a.2.1 == key).map (·.2.2)).getD 0
  s.setMem { s.mem with
    activations := (p.stack, key, n + 1) :: s.mem.activations.filter fun a => !(a.1 == p.stack && a.2.1 == key) }

/-- A visit to a row, which opens it if it is not open (R538, R553). -/
def State.visitRow (s : State) (p : StackPlace) (read : Bool) : State :=
  let x := s.pseudoOf p
  if x.rows.contains (p.bank, p.row) then s.putPseudo { x with run := if read then x.run + 1 else 0 }
  else (s.putPseudo { x with rows := (p.bank, p.row) :: x.rows.filter (fun b => b.1 != p.bank), run := 0 }).countActivation p

/-- The write queue begins to drain ahead of reads at 48 entries, and ends at 16 (R540). -/
def State.markDrain (s : State) (p : StackPlace) : State :=
  let x := s.pseudoOf p
  let n := s.queuedWrites p
  let d := decide (48 ≤ n) || (x.draining && decide (16 < n))
  if d == x.draining then s else s.putPseudo { x with draining := d }

/-! ### Admission -/

/-- The bucket of a partition at a stack lets a request pass (R698), with what it leaves. -/
def Bucket.spend (b : Bucket) (crit : Bool) (size : Nat) : Option Bucket :=
  if b.rate = 0 then some b
  else if crit then some { b with level := max (b.level - 5 * size) (-5 * b.burst) }
  else if b.level < 5 * size then none
  else some { b with level := b.level - 5 * size }

/-- A request waits at a bucket (R698). -/
def State.reqRegulated (s : State) (id : Nat) : Bool := s.share.waits.any fun w => w.frame.isNone && w.req == id

/-- Requests that wait at their homes for a tracker entry take one, oldest first (R537). -/
def State.admitTracked (s : State) : State :=
  (s.mem.reqs.filter fun r => !r.tracked).foldl (fun t r =>
    if !(t.reqRegulated r.id) && t.trackerFree r.line r.cls r.write then
      (t.setMem { t.mem with
        reqs := t.mem.reqs.map fun q => if q.id = r.id then { q with tracked := true } else q }).markDrain (s.linePlace r.line)
    else t) s

/-- What a request weighs: 64 B a sector, and an operation of the memory ALU its bytes of target (R544, R697). -/
def MemReq.size (r : MemReq) : Nat := if r.alu = 0 then 64 * sectorCount r.sectors else r.alu

/-- A request goes to its stack, through its partition's regulator (R535, R537, R541, R544, R698). -/
def State.memAsk (s : State) (r : MemReq) : State :=
  let id := s.mem.nextReq
  let s := s.setMem { s.mem with reqs := s.mem.reqs ++ [{ r with id, tracked := false, since := s.mt }], nextReq := id + 1 }
  match r.partition with
  | none => s.admitTracked
  | some p =>
    let stack := s.stackOf (r.line * 256)
    match (s.bucket p stack).spend (r.cls == .crit) r.size with
    | some b =>
      if r.cls != .crit && s.share.waits.any (fun w => w.partition == p && w.point == stack) then
        s.setShare { s.share with waits := s.share.waits ++ [⟨p, stack, r.size, none, id⟩] }
      else (s.putBucket p stack b).admitTracked
    | none => s.setShare { s.share with waits := s.share.waits ++ [⟨p, stack, r.size, none, id⟩] }

/-- A request that reads or writes whole sectors of a line. -/
def State.memRequest (s : State) (line : Nat) (sectors : BitVec 4) (write : Bool) (cls : MemClass) (agent partition ctx : Option Nat) :
    State :=
  s.memAsk { id := 0, line, sectors, write, part := 0, alu := 0, cls, tracked := false, agent, partition, ctx, since := 0 }

/-- A request that writes sectors of a line, some of them only in part (R854). -/
def State.memPart (s : State) (line : Nat) (sectors part : BitVec 4) (cls : MemClass) (partition ctx : Option Nat) : State :=
  s.memAsk { id := 0, line, sectors, write := true, part, alu := 0, cls, tracked := false, agent := none, partition, ctx, since := 0 }

/-- An operation of the memory ALU on a line, in the class of its requester (R536, R544). -/
def State.memAlu (s : State) (line bytes : Nat) (cls : MemClass) (partition ctx : Option Nat) : State :=
  s.memAsk { id := 0, line, sectors := 0xF, write := false, part := 0, alu := bytes, cls, tracked := false, agent := none, partition,
             ctx, since := 0 }

/-- BUCKET_ADMISSION (R698, R699): the oldest waiter of a bucket goes once the level reaches its size. -/
def execBucketAdmission (partition bucket : Nat) (s : State) : Host.Outcome State Fault Refusal :=
  .next (match s.share.waits.find? fun w => w.partition == partition && w.point == bucket with
    | none => s
    | some w =>
      match (s.bucket partition bucket).spend false w.size with
      | none => s
      | some b =>
        let t := (s.setShare { s.share with waits := s.share.waits.erase w }).putBucket partition bucket b
        match w.frame with
        | some f => t.sendOn (bucket - 16) f
        | none => t.admitTracked)

/-- READ_AGE_PROMOTE (R539). -/
def execReadAgePromote (req : Nat) (s : State) : Host.Outcome State Fault Refusal :=
  let due := fun (r : MemReq) =>
    r.id == req && !r.write && (r.cls == .bulk || r.cls == .background) && decide (r.since + 64000 ≤ s.mt)
  onEvent (s.mem.reqs.any due) (fun s =>
    (s.setMem { s.mem with reqs := s.mem.reqs.map fun r => if due r then { r with cls := .crit } else r }).admitTracked) s

/-- Bytes moved at a stack: its busy counter, and unless they are scrub or refresh the always-on counters (R562, R801). -/
def State.countMoved (s : State) (stack bytes : Nat) (write scrub : Bool) : State :=
  let s := s.setMem { s.mem with busy := s.mem.busy.modify stack fun v => (v + bytes) % 2 ^ 64 }
  if scrub then s else (s.count (if write then 5 else 4) bytes).count (40 + stack / 2) bytes

/-- HBM bytes of a context (R704). -/
def State.chargeHbm (s : State) (ctx : Option Nat) (write : Bool) (bytes : Nat) : State :=
  match ctx with
  | none => s
  | some c =>
    let x := s.ctx c
    if !x.counting then s
    else if write then s.putCtx c { x with acct := { x.acct with hbmWr := (x.acct.hbmWr + bytes) % 2 ^ 64 } }
    else s.putCtx c { x with acct := { x.acct with hbmRd := (x.acct.hbmRd + bytes) % 2 ^ 64 } }

/-- What checking a codeword, or the two of a sector, finds (R549). -/
inductive Verdict where
  | clean
  | corrected
  | uncorrectable
  /-- More symbols are bad than the code detects, and the data pass though they are wrong. -/
  | unnoticed
deriving DecidableEq, Repr

/-- The code at work on one codeword (R549): it corrects one bad symbol and detects up to three; what it makes of more the spec does
not say, and the outcome is free (log 131). -/
def State.codeword (s : State) (symbols : List Nat) : State × Verdict :=
  match (symbols.filter (· < 36)).eraseDups.length with
  | 0 => (s, .clean)
  | 1 => (s, .corrected)
  | 2 => (s, .uncorrectable)
  | 3 => (s, .uncorrectable)
  | _ => (s.fresh.2, if s.fresh.1.getLsbD 0 then .unnoticed else .uncorrectable)

/-- The worse of the verdicts of a sector's codewords. -/
def Verdict.worse : Verdict → Verdict → Verdict
  | .uncorrectable, _ => .uncorrectable
  | _, .uncorrectable => .uncorrectable
  | .unnoticed, _ => .unnoticed
  | _, .unnoticed => .unnoticed
  | .clean, v => v
  | v, _ => v

/-- A sector as its two codewords read (R549). -/
def State.readSector (s : State) (e : SectorErrors) : State × Verdict :=
  let a := s.codeword e.first
  let b := a.1.codeword e.second
  (b.1, a.2.worse b.2)

/-- The bytes of a sector are no longer what was written: each is a free value (log 131). -/
def State.corrupt (s : State) (sector : Nat) : State :=
  let bytes := (List.range 64).map fun i => (Config.freeWord (s.freeCtr + i)).truncate 8
  (s.setFreeCtr (s.freeCtr + 64)).setMem { s.mem with hbm := cellWrite s.mem.hbm (64 * sector) bytes }

/-- What a read of a sector leaves behind (R549, R550, R554, R801). -/
def State.sectorError (s : State) (sector : Nat) (v : Verdict) : State :=
  let place := (placeOf s.mem.regions (sector * 64)).getD ⟨0, 0, 0, 0, 0, 0⟩
  match v with
  | .clean => s
  | .corrected => (s.count 9 1).memError 1 place
  | .uncorrectable =>
    if s.mem.poison.contains sector then s
    else ((s.setMem { s.mem with poison := (s.mem.poison ++ [sector]).mergeSort (fun a b => decide (a ≤ b)) }).count 10 1).memError 2 place
  | .unnoticed => if s.mem.poison.contains sector then s else s.corrupt sector

/-- The corrected sector of a read is written back in class BACKGROUND (R550). -/
def State.correctBack (s : State) (sector : Nat) (v : Verdict) : State :=
  if v = .corrected then s.memRequest (sector / 4) (1#4 <<< (sector % 4)) true .background none none none else s

/-- A sector is read and checked; of a read what was corrected goes back (R549, R550, R854). -/
def State.checkSector (s : State) (write : Bool) (e : SectorErrors) : State :=
  let r := s.readSector e
  let t := r.1.sectorError e.sector r.2
  if write then t else t.correctBack e.sector r.2

/-- A request touches a sector. -/
def MemReq.touches (r : MemReq) (sector : Nat) : Bool := decide (sector / 4 = r.line) && r.sectors.getLsbD (sector % 4)

/-- Bytes of a request counted where it moved them; an operation of the memory ALU reads its target and writes it (R544, R562, R704,
R801). -/
def State.countRequest (s : State) (r : MemReq) : State :=
  let stack := s.stackOf (r.line * 256)
  let one := fun (t : State) (write : Bool) => (t.countMoved stack r.size write false).chargeHbm r.ctx write r.size
  if r.alu = 0 then one s r.write else one (one s false) true

/-- A request reads a sector as it is stored: a read, an operation of the memory ALU, and a write of less than the whole sector, which
merges what it writes (R854). -/
def MemReq.reads (r : MemReq) (sector : Nat) : Bool :=
  r.touches sector && (!r.write || r.part.getLsbD (sector % 4))

/-- A tracked request completes: it leaves its tracker, and is counted (R535, R538, R540, R549, R550, R562, R704, R854). -/
def State.endRequest (s : State) (r : MemReq) (errors : List SectorErrors) : State :=
  let p := s.linePlace r.line
  let s := (s.setMem { s.mem with reqs := s.mem.reqs.filter fun q => q.id != r.id }).visitRow p (!r.write)
  let s := if r.write then s.markDrain p else s
  ((errors.filter fun e => r.reads e.sector).foldl (fun t e => t.checkSector (r.write || r.alu != 0) e)
    (s.countRequest r)).admitTracked

/-! ### Scrub and refresh -/

/-- PATROL_SCRUB (R549, R550, R552): a read of one sector, which corrects or poisons it. -/
def execPatrolScrub (sector : Nat) (errors : SymbolErrors) (s : State) : Host.Outcome State Fault Refusal :=
  onEvent (s.inHbm (sector * 64) 64) (fun s =>
    ((s.countMoved (s.stackOf (sector * 64)) 64 false true).visitRow (s.linePlace (sector / 4)) true).checkSector
      false ⟨sector, errors.first, errors.second⟩) s

/-- REFRESH (R553): a per-bank refresh closes the bank's row; a refresh-management command also clears its activation count. -/
def execRefresh (stack channel pseudo bank : Nat) (manage : Bool) (s : State) : Host.Outcome State Fault Refusal :=
  let key := (channel * 2 + pseudo) * 32 + bank
  onEvent (s.ids.stackLive.getLsbD stack && decide (channel < 32) && decide (pseudo < 2) && decide (bank < 32)) (fun s =>
    let x := s.pseudoOf ⟨stack, channel, pseudo, bank, 0, 0⟩
    let t := s.putPseudo { x with rows := x.rows.filter fun b => b.1 != bank }
    if manage then
      t.setMem { t.mem with activations := t.mem.activations.filter fun a => !(a.1 == stack && a.2.1 == key) }
    else t) s

/-! ### Repair (R555 to R559) -/

/-- Rows of a bank that repairs have used spares for (R558). -/
def State.sparesUsed (s : State) (r : RepairRun) : Nat :=
  (s.mem.repairs.filter fun x =>
    x.stack == r.stack && x.channel == r.channel && x.pseudo == r.pseudo && x.bank == r.bank && !x.fenced).length

/-- A repair ends without success: the row is fenced, and the failure captured (R558). -/
def State.fenceRow (s : State) (r : RepairRun) : State :=
  let s := s.setMem { s.mem with
    repairs := s.mem.repairs ++ [⟨r.stack, r.channel, r.pseudo, r.bank, r.row, true⟩] }
  (s.memError 3 ⟨r.stack, r.channel, r.pseudo, r.bank, r.row, 0⟩).complete r.mbx stHwFault []

/-- The next repair starts, when none runs: one that finds no spare row ends at once (R556, R558, R559). -/
def State.startRepairs : Nat → State → State
  | 0, s => s
  | n + 1, s =>
    match s.mem.repairing, s.mem.repairQueue with
    | none, r :: rest =>
      let t := s.setMem { s.mem with repairQueue := rest }
      if 2 ≤ t.sparesUsed r then State.startRepairs n (t.fenceRow r)
      else t.setMem { t.mem with repairing := some r }
    | _, _ => s

/-- STACK_REPAIR (R184, R555). -/
def State.stackRepairStart (s : State) (n : Nat) : State :=
  let a0 := s.arg n 0
  let a1 := s.arg n 1
  let r : RepairRun := { mbx := n, stack := a0 % 16, channel := a0 / 256 % 32, pseudo := a0 / 65536 % 2, bank := a1 / 65536 % 32,
                         row := a1 % 2 ^ 14 }
  let bad := a0 / 16 % 16 ≠ 0 ∨ a0 / 2 ^ 13 % 8 ≠ 0 ∨ a0 / 2 ^ 17 ≠ 0 ∨ a1 / 2 ^ 14 % 4 ≠ 0 ∨ a1 / 2 ^ 21 ≠ 0
  if bad ∨ !(s.ids.stackLive.getLsbD r.stack) then s.complete n stBadArg []
  else
    let t := (s.begin_ n).setMem { s.mem with repairQueue := s.mem.repairQueue ++ [r] }
    State.startRepairs (t.mem.repairQueue.length + 1) t

/-- STACK_REPAIR (R556). -/
def execStackRepair (mbx : Nat) (s : State) : Host.Outcome State Fault Refusal :=
  runCommand mbx 0x0D01 (fun s => s.stackRepairStart mbx) s

/-- The row of a repair is read, corrected where it can be, written to its spare row and read back (R549, R556, R557, R562). -/
def State.copyRow (s : State) (r : RepairRun) (errors : List SectorErrors) : State :=
  let p : StackPlace := ⟨r.stack, r.channel, r.pseudo, r.bank, r.row, 0⟩
  let inRow := fun (e : SectorErrors) =>
    match placeOf s.mem.regions (e.sector * 64) with
    | some q => q.samePseudo p && q.bank == p.bank && q.row == p.row
    | none => false
  (errors.filter inRow).foldl (fun t e => t.checkSector true e)
    (((s.countMoved r.stack 4096 false false).countMoved r.stack 2048 true false).visitRow p true)

/-- STACK_REPAIR_DRAINED (R556 to R558): the paused channel has no tracked request left, and the row moves to a spare; a
repair that waits behind one that ran out of time starts. -/
def execStackRepairDrained (copy : RowCopy) (s : State) : Host.Outcome State Fault Refusal :=
  .next (match s.mem.repairing with
    | none => State.startRepairs (s.mem.repairQueue.length + 1) s
    | some r =>
      if s.mem.reqs.any fun q => q.tracked && (let p := s.linePlace q.line; p.stack == r.stack && p.channel == r.channel) then s
      else
        let t := (s.copyRow r copy.errors).setMem { (s.copyRow r copy.errors).mem with repairing := none }
        let t := if copy.compareOk then
            (t.setMem { t.mem with repairs := t.mem.repairs ++ [⟨r.stack, r.channel, r.pseudo, r.bank, r.row, false⟩] }).complete
              r.mbx stOk []
          else t.fenceRow r
        (State.startRepairs (t.mem.repairQueue.length + 1) t).admitTracked)

end Sys2Proof.Machine
end

