-- ==== Sys2Proof/Machine/Coherence.lean ====
section
/-!
DEFINITION. Caches, directories, coherence messages and atomics (10_coherence.md). Memory itself is flat: what lies in a cache
decides no value, only who holds a line, who is told, and where an atomic is performed.
-/

namespace Sys2Proof.Machine

/-! ### The not-recently-used rule (R497) -/

/-- The way that a new item of a set takes: the lowest free one, else the lowest of the oldest. A way in `busy`, with a fill or
a write-back in progress, is never chosen. -/
def nruWay {α : Type} (way age : α → Nat) (ways : Nat) (busy : List Nat) (set : List α) : Option Nat :=
  let able := (List.range ways).filter fun w => !(busy.contains w)
  match able.find? fun w => !(set.any fun y => way y == w) with
  | some w => some w
  | none =>
    let old := set.filter fun y => able.contains (way y)
    let top := (old.map age).foldl max 0
    able.find? fun w => old.any fun y => way y == w && age y == top

/-- A new item enters its set, in a free way, or in the place of the victim that R497 chooses, which is returned; the others
age as the search for the victim ages them. -/
def nruInsert {α : Type} (inSet : α → Bool) (way age : α → Nat) (withAge : α → Nat → α) (ways : Nat) (busy : List Nat)
    (x : Nat → α) (l : List α) : List α × Option α :=
  let set := l.filter inSet
  match nruWay way age ways busy set <|> nruWay way age ways [] set with
  | none => (l, none)
  | some w =>
    match set.find? fun y => way y == w with
    | none => (l ++ [x w], none)
    | some v =>
      (l.map fun y =>
        if inSet y then
          if way y = w then x w else if busy.contains (way y) then y else withAge y (age y + (3 - age v))
        else y, some v)

/-! ### Directories and holders (R503 to R508) -/

/-- The directory entry of a line (R507). -/
def State.dirOf (s : State) (line : Nat) : Option DirEntry := s.coh.dir.find? fun d => d.line == line

/-- A line's entry, or one that says that nobody holds it. -/
def State.dirEntry (s : State) (line : Nat) : DirEntry :=
  (s.dirOf line).getD { line, owned := false, sharers := 0, provider := none, owner := none, far := false, age := 0, way := 0 }

/-- Agents that the directory records as holders (R507). -/
def DirEntry.holders (d : DirEntry) : List Nat := (List.range 11).filter fun a => d.sharers.getLsbD a

/-- The line as an agent holds it. -/
def State.held (s : State) (agent line : Nat) : Option AgentLine :=
  s.coh.lines.find? fun l => l.agent == agent && l.line == line

/-- The L1 copies of a line behind an L2 go, but for one core's (R495). -/
def CohState.dropL1 (c : CohState) (tile line : Nat) (keep : Option (Nat × Nat)) : CohState :=
  { c with l1 := c.l1.filter fun x => !(x.line == line && x.cluster / 24 == tile && keep != some (x.cluster, x.core)) }

/-- An agent's copy of a line goes, with the L1 copies behind it (R495). -/
def CohState.dropLine (c : CohState) (agent line : Nat) : CohState :=
  let c := { c with lines := c.lines.filter fun l => !(l.agent == agent && l.line == line) }
  if agent < 8 then c.dropL1 agent line none else c

/-- Every copy of a line goes at once: dirty sectors are written to HBM (R507, R526, R527). -/
def State.dropCopies (s : State) (line : Nat) : State :=
  let mine := s.coh.lines.filter fun l => l.line == line
  let c := mine.foldl (fun c l => c.dropLine l.agent line) s.coh
  (mine.filter fun l => l.dirty != 0).foldl (fun t l => t.memRequest line l.dirty true .crit none none l.dirtyBy) (s.setCoh c)

/-- The state with another directory entry for a line; a set that is full gives up its victim's copies first (R507). The victim
is no line with a transaction. -/
def State.putDir (s : State) (d : DirEntry) : State :=
  let rest := s.coh.dir.filter fun e => e.line != d.line
  if d.sharers = 0 ∧ !d.far then s.setCoh { s.coh with dir := rest }
  else if (s.dirOf d.line).isSome then
    s.setCoh { s.coh with dir := s.coh.dir.map fun e => if e.line = d.line then { d with age := 0 } else e }
  else
    let key := fun (l : Nat) => (s.homeOf (l * 256), Config.cacheSet 4 l % 65536)
    let inSet := fun (e : DirEntry) => key e.line == key d.line
    let busy := (s.coh.dir.filter fun e => inSet e && s.coh.txns.any fun t => t.line == e.line).map (·.way)
    let r := nruInsert inSet DirEntry.way DirEntry.age (fun e a => { e with age := a }) 16 busy
      (fun way => { d with age := 0, way }) s.coh.dir
    let t := s.setCoh { s.coh with dir := r.1 }
    match r.2 with
    | some v => t.dropCopies v.line
    | none => t

/-- An agent leaves a line's directory entry. -/
def DirEntry.without (d : DirEntry) (agent : Nat) : DirEntry :=
  { d with
    sharers := d.sharers &&& ~~~ (1#11 <<< agent), provider := d.provider.filter (· != agent),
    owner := d.owner.filter (· != agent), owned := d.owned && d.owner != some agent }

/-- An agent takes a copy: as owner, as provider, or as a sharer (R503, R504); the FAR mark clears (R527). -/
def DirEntry.take (d : DirEntry) (agent : Nat) (st : LineSt) : DirEntry :=
  let d := { d with sharers := d.sharers ||| (1#11 <<< agent), far := false }
  match st with
  | .m => { d with sharers := 1#11 <<< agent, owner := some agent, owned := true, provider := none }
  | .e => { d with sharers := 1#11 <<< agent, owner := some agent, owned := true, provider := none }
  | .p => { d with provider := some agent, owner := none, owned := false }
  | .s => d
  | .i => d.without agent

/-- An agent gives up a line: a notice or a write-back goes to the home (R499, R506). -/
def State.evict (s : State) (l : AgentLine) : State :=
  s.setCoh { s.coh.dropLine l.agent l.line with
    evicts := s.coh.evicts ++ [{ agent := l.agent, line := l.line, dirty := l.dirty, dirtyBy := l.dirtyBy, taken := false, way := l.way }] }

/-- The cache of an agent: its structure number for the hash of sets, and the number of sets of 16 ways (R491). -/
def cacheShape (agent : Nat) : Nat × Nat :=
  if agent < 8 then (1, 24576) else if agent < 10 then (2, 16384) else (3, 1024)

/-- Two lines fall into one set of an agent's cache. -/
def sameSet (agent m n : Nat) : Bool :=
  let shape := cacheShape agent
  Config.cacheSet shape.1 m % shape.2 == Config.cacheSet shape.1 n % shape.2

/-- The lines of the set of an agent that a line falls into. -/
def State.setLines (s : State) (agent line : Nat) : List AgentLine :=
  s.coh.lines.filter fun x => x.agent == agent && sameSet agent x.line line

/-- The ways of that set with a write-back or a fill in progress (R497, R499). -/
def State.busyWays (s : State) (agent line : Nat) : List Nat :=
  ((s.coh.evicts.filter fun e => e.agent == agent && e.dirty != 0 && sameSet agent e.line line).map (·.way))
    ++ (((s.setLines agent line).filter fun x => s.coh.reqs.any fun q => q.agent == agent && q.line == x.line).map (·.way))

/-- A way is there for a line that the agent does not hold (R499). -/
def State.wayFor (s : State) (agent line : Nat) : Bool :=
  (nruWay AgentLine.way AgentLine.age 16 (s.busyWays agent line) (s.setLines agent line)).isSome

/-- A line is installed: a full set gives up its victim (R497 to R499, R503). -/
def State.install (s : State) (l : AgentLine) : State :=
  match s.held l.agent l.line with
  | some o =>
    s.setCoh { s.coh with
      lines := s.coh.lines.map fun x => if x = o then { o with st := l.st, valid := o.valid ||| l.valid, age := l.age } else x }
  | none =>
    let r := nruInsert (fun x => x.agent == l.agent && sameSet l.agent x.line l.line) AgentLine.way AgentLine.age
      (fun x a => { x with age := a }) 16 (s.busyWays l.agent l.line) (fun way => { l with way }) s.coh.lines
    let t := s.setCoh { s.coh with lines := r.1, prefetched := s.coh.prefetched.filter (· != (l.agent, l.line)) }
    match r.2 with
    | some v => t.evict v
    | none => t

/-- The flag watcher's copy of a line stands (R504, R508). -/
def State.watchHolds (s : State) (line : Nat) : Bool := s.abaom.watches.any fun w => w.line == line && w.held

/-- The home removes the watcher's copy: the wake of R162 (R508). -/
def State.removeWatch (s : State) (line : Nat) : State := s.wakeLines (line * 256) 1

/-! ### Atomics (R242 to R244, R288, R289, R525 to R529, R543) -/

/-- The new value of an atomic, its OP numbered within the lists of R268; for atom.cas `a` is the new value and `c` the
compare value. -/
def atomNew (op size old a c : Nat) : Nat :=
  let w := 8 * size
  match op % 16 with
  | 0 => (old + a) % 2 ^ w
  | 1 => min old a
  | 2 => max old a
  | 3 => if signedNat w old ≤ signedNat w a then old else a
  | 4 => if signedNat w old ≤ signedNat w a then a else old
  | 5 => old &&& a
  | 6 => old ||| a
  | 7 => old ^^^ a
  | 8 => a
  | 9 => if old = c then a else old
  | _ => (fAdd (if size = 4 then .fp32 else .fp64) .nearest old a).1

/-- An atomic on HBM: its old value is read and the new one written (R244). -/
def State.rmw (s : State) (pa op size a c : Nat) : State × Nat :=
  let m := 2 ^ (8 * size)
  let old := leNat (s.hbmRead pa size)
  (s.hbmWrite pa (leBytes size (atomNew op size old (a % m) (c % m))), old)

/-- The contention predictor's choice for an atomic of an agent of another die (R528); whether the home agent performs it. A new
entry has recorded no agent, so that its first requester raises C from 0 to 1 (log 117). -/
def State.predict (s : State) (home agent line : Nat) : State × Bool :=
  let group := line / 16
  let set := fun (g : Nat) => Config.cacheSet 5 g % 512
  match s.coh.predicts.find? fun p => p.home == home && p.group == group with
  | some p =>
    let count := if p.last = agent then p.count - 1 else min (p.count + 1) 7
    (s.setCoh { s.coh with
      predicts := s.coh.predicts.map fun q =>
        if q.home = home ∧ q.group = group then { q with count, last := agent, age := 0 } else q }, decide (3 ≤ p.count))
  | none =>
    let r := nruInsert (fun q => q.home == home && set q.group == set group) Predict.way Predict.age
      (fun q a => { q with age := a }) 8 [] (fun way => { home, group, count := 1, last := agent, age := 0, way }) s.coh.predicts
    (s.setCoh { s.coh with predicts := r.1 }, false)

/-- Whether the home agent or the memory ALU performs a cacheable atomic (R525). -/
def State.atomPlace (s : State) (agent line : Nat) : State × Bool :=
  let home := s.homeOf (line * 256)
  if agent = home then (s, true) else s.predict home agent line

/-- MEM_FARs (R562): operations of the memory ALU of a line's stack. -/
def State.countFar (s : State) (line cells atomics : Nat) : State :=
  let k := s.stackOf (line * 256)
  s.setMem { s.mem with
    farCells := s.mem.farCells.modify k (fun v => (v + cells) % 2 ^ 32),
    farAtomics := s.mem.farAtomics.modify k fun v => (v + atomics) % 2 ^ 32 }

/-- The memory ALU performs atomics or cell additions on a line, in the class of their requester: the line has no holder and is marked
FAR (R527, R536, R544, R697, R704). -/
def State.farLine (s : State) (line cells atomics : Nat) (cls : MemClass) (partition ctx : Option Nat) : State :=
  let t := ((s.dropCopies line).removeWatch line).putDir { s.dirEntry line with
    sharers := 0, provider := none, owner := none, owned := false, far := true }
  (t.countFar line cells atomics).memAlu line (32 * cells + 64 * atomics) cls partition ctx

/-- The home agent performs an atomic with the line in M in its own L2 (R526). -/
def State.homeLine (s : State) (line : Nat) (ctx : Option Nat) : State :=
  let home := s.homeOf (line * 256)
  let t := ((s.dropCopies line).removeWatch line).putDir ((s.dirEntry line).take home .m)
  t.install { agent := home, line, st := .m, valid := 0xF, dirty := 0xF, age := 0, clusters := 0, dirtyBy := ctx, way := 0 }

/-- The partition that an agent's requests belong to (R697). -/
def State.agentPartition (s : State) (agent : Nat) (ctx : Option Nat) : Option Nat :=
  if agent < 8 then some (s.partOf agent)
  else if agent < 10 then some 8
  else ctx.map fun c => (s.ctx c).partition

/-- What an engine's or a tie access's atomic does to the line's holders (R525 to R527). -/
def State.atomHolders (s : State) (agent pa : Nat) (cls : MemClass) (ctx : Option Nat) : State :=
  let line := pa / 256
  let r := s.atomPlace agent line
  if r.2 then r.1.homeLine line ctx else r.1.farLine line 0 1 cls (s.agentPartition agent ctx) ctx

/-! ### Transactions at the home (R505, R509 to R516) -/

/-- The sectors of a line, as a mask, that satisfy a condition on their first byte's address. -/
def sectorMask (line : Nat) (p : Nat → Bool) : BitVec 4 :=
  BitVec.ofNat 4 (((List.range 4).filter fun k => p (line * 256 + 64 * k)).map (2 ^ ·)).sum

/-- Sectors of a line that a run of bytes touches. -/
def lineSectors (pa n line : Nat) : BitVec 4 := sectorMask line fun x => decide (pa < x + 64) && decide (x < pa + n)

/-- Sectors of a line that a run of bytes covers only in part (R854). -/
def partSectors (pa n line : Nat) : BitVec 4 :=
  sectorMask line fun x => decide (pa < x + 64) && decide (x < pa + n) && !(decide (pa ≤ x) && decide (x + 64 ≤ pa + n))

/-- A message joins those in flight. -/
def State.sendCoh (s : State) (kind : MsgKind) (agent line : Nat) (sectors : BitVec 4) : State :=
  s.setCoh { s.coh with msgs := s.coh.msgs ++ [{ kind, agent, line, sectors }] }

/-- A message in flight is taken: the first of an agent and line that meets a condition. -/
def State.takeMsg (s : State) (agent line : Nat) (p : MsgKind → Bool) : Option (State × CohMsg) :=
  (s.coh.msgs.find? fun m => m.agent == agent && m.line == line && p m.kind).map fun m =>
    (s.setCoh { s.coh with msgs := s.coh.msgs.erase m }, m)

/-- The request that an agent has outstanding for a line (R511). -/
def State.agentReq (s : State) (agent line : Nat) : Option AgentReq :=
  s.coh.reqs.find? fun r => r.agent == agent && r.line == line

/-- The state with another request of an agent and line. -/
def State.putReq (s : State) (r : AgentReq) : State :=
  s.setCoh { s.coh with reqs := s.coh.reqs.map fun q => if q.agent = r.agent ∧ q.line = r.line then r else q }

/-- The transaction that keeps a line busy (R511). -/
def State.txnOf (s : State) (line : Nat) : Option CohTxn := s.coh.txns.find? fun t => t.line == line

/-- The state with another transaction of a line. -/
def State.putTxn (s : State) (t : CohTxn) : State :=
  s.setCoh { s.coh with txns := s.coh.txns.map fun q => if q.line = t.line then t else q }

/-- The class of an agent's reads (R536): a prefetch and a streaming fill are BULK. -/
def agentClass (agent age : Nat) : MemClass :=
  if 8 ≤ agent then .crit else if age = 0 then .high else .bulk

/-- A request installs a line at its requester, and ends with a Seated (R511). -/
def AskKind.installs : AskKind → Bool
  | .getS => true
  | .getX => true
  | .claim => true
  | .zero => true
  | .glance => false
  | .place _ _ => false
  | .atom _ => false

/-- A home accepts a request for an idle line (R505, R508, R513, R516, R525 to R527). -/
def State.acceptAsk (s : State) (r : AgentReq) : State :=
  let d := s.dirEntry r.line
  let others := d.holders.filter (· != r.agent)
  let mine := d.holders.contains r.agent
  let now := ((s.held r.agent r.line).map (·.st)).getD .s
  let kind := match r.kind with
    | .claim => if mine then AskKind.claim else AskKind.getX
    | k => k
  let source := (d.owner <|> d.provider).filter (· != r.agent)
  let shared := kind == .getS || kind == .glance
  let probed := if shared then source.toList else if kind.installs then others else d.holders
  let supply := match kind with
    | .claim => 0
    | .zero => 0
    | .place _ _ => 0
    | .atom _ => 0
    | _ => if shared && source.isSome then 0 else r.sectors
  let granted : LineSt :=
    if !kind.installs then .i
    else if !shared then (if mine && now == .m then .m else .e)
    else if mine then now
    else if source.isSome then .s
    else if others.isEmpty && !(s.watchHolds r.line) then .e
    else .p
  let s := if shared then s else s.removeWatch r.line
  let t : CohTxn := { line := r.line, agent := r.agent, kind, sectors := r.sectors, granted, probed, spills := [],
                      reading := supply != 0, supply, grantSent := false, ctx := r.ctx }
  let s := (s.setCoh { s.coh with txns := s.coh.txns ++ [t] }).putReq { r with accepted := true, kind }
  let s := probed.foldl (fun u a => u.sendCoh (if shared then .probeGive else .probeKill) a r.line r.sectors) s
  if supply != 0 then
    s.memRequest r.line supply false (agentClass r.agent r.age) (some r.agent) (s.agentPartition r.agent r.ctx) r.ctx
  else s

/-- What an accepted request does once every copy that stood in its way is gone. -/
def State.performAsk (s : State) (t : CohTxn) : State × MsgKind :=
  match t.kind with
  | .glance => (s, .grant .i)
  | .place off bytes =>
    ((s.hbmWrite (t.line * 256 + off) bytes).memPart t.line t.sectors (partSectors (t.line * 256 + off) bytes.length t.line)
      (agentClass t.agent 0) (s.agentPartition t.agent t.ctx) t.ctx, .grant .i)
  | .atom a =>
    let p := s.atomPlace a.agent t.line
    let u := if p.2 then p.1.homeLine t.line t.ctx else p.1.farLine t.line 0 1 (agentClass t.agent 0)
      (s.agentPartition t.agent t.ctx) t.ctx
    let r := u.rmw a.addr a.op a.width a.a a.c
    (r.1, .grantOld r.2)
  | .getS => (s.putDir ((s.dirEntry t.line).take t.agent t.granted), .grant t.granted)
  | .getX => (s.putDir ((s.dirEntry t.line).take t.agent t.granted), .grant t.granted)
  | .claim => (s.putDir ((s.dirEntry t.line).take t.agent t.granted), .grant t.granted)
  | .zero => (s.putDir ((s.dirEntry t.line).take t.agent t.granted), .grant t.granted)

/-- A transaction ends: the line is free, and the oldest reservation for it is accepted (R511, R514). -/
def State.endTxn (s : State) (line : Nat) : State :=
  let s := s.setCoh { s.coh with txns := s.coh.txns.filter fun t => t.line != line }
  match s.coh.reserves.find? fun r => r.line == line with
  | none => s
  | some r =>
    let t := s.setCoh { s.coh with reserves := s.coh.reserves.erase r }
    match t.agentReq r.agent line with
    | some q => t.acceptAsk q
    | none => t

/-- A transaction goes on when nothing is awaited: its effect, the Grant, and the data that the home supplies. -/
def State.settleTxn (s : State) (line : Nat) : State :=
  match s.txnOf line with
  | none => s
  | some t =>
    if t.grantSent || !t.probed.isEmpty || !t.spills.isEmpty || t.reading then s
    else
      let r := s.performAsk t
      let u := if t.supply = 0 then r.1 else r.1.sendCoh .cargo t.agent line t.supply
      let u := u.sendCoh r.2 t.agent line t.sectors
      if t.kind.installs then u.putTxn { t with grantSent := true } else u.endTxn line

/-- A home takes a request: it accepts it, or answers with Retry (R511 to R514). -/
def State.askHome (s : State) (r : AgentReq) : State :=
  if (s.txnOf r.line).isNone && !(s.coh.reserves.any fun v => v.line == r.line) then (s.acceptAsk r).settleTxn r.line
  else
    let s := s.count 15 1
    if r.starving then
      let t := (s.count 16 1).putReq { r with backing := true, reserved := true }
      (t.setCoh { t.coh with reserves := t.coh.reserves ++ [⟨r.line, r.agent⟩] }).sendCoh (.retry true) r.agent r.line 0
    else (s.putReq { r with backing := true }).sendCoh (.retry false) r.agent r.line 0

/-- The line lies in HBM and the agent exists (R491), and the tables give a path from the agent's die to the line's home (R32, R33);
agents are numbered as their dies (log 30). -/
def State.cohOk (s : State) (agent line : Nat) : Bool :=
  decide (agent ≤ 10) && s.inHbm (line * 256) 256 && (s.diePath agent (s.homeOf (line * 256))).isSome

/-- A home takes the request that the agent has sent, or a new one: an agent has at most one for each line (R511, R513). -/
def State.ask (s : State) (agent line : Nat) (sectors : BitVec 4) (ctx : Option Nat) (age : Nat) (kind : AskKind) : State :=
  if !(s.cohOk agent line) then s
  else
    match s.agentReq agent line with
    | some r => if r.accepted || r.backing || r.kind != kind then s else s.askHome r
    | none =>
      let r : AgentReq := { agent, line, kind, sectors, retries := 0, starving := false, reserved := false, backing := false,
                            accepted := false, granted := false, got := 0, ctx, age }
      (s.setCoh { s.coh with reqs := s.coh.reqs ++ [r] }).askHome r

/-- GETS (R505). -/
def execGets (req : CohReq) (s : State) : Host.Outcome State Fault Refusal :=
  .next (s.ask req.agent req.line req.sectors req.ctx req.age .getS)

/-- A line that an agent owns is zeroed whole, in its cache (R493, R502, R503). -/
def State.zeroLine (s : State) (agent line : Nat) : State :=
  let t := s.hbmWrite (line * 256) (List.replicate 256 0)
  t.setCoh { t.coh with
    lines := t.coh.lines.map fun x =>
      if x.agent = agent ∧ x.line = line then { x with st := .m, valid := 0xF, dirty := 0xF, dirtyBy := none, age := 0 } else x }

/-- The cbo.zero of a hart, in the last-level cache of its processor die: the line is zeroed at once where that cache owns it, and
else once it has come to own it (R502, R503). -/
def State.cboZero (s : State) (agent line : Nat) (ctx : Option Nat) (age : Nat) : State :=
  match s.held agent line with
  | some l =>
    if (l.st == .e || l.st == .m) && (s.agentReq agent line).isNone then s.zeroLine agent line
    else s.ask agent line 0 ctx age .zero
  | none => s.ask agent line 0 ctx age .zero

/-- GETX (R509), and a hart's cbo.zero (R502). -/
def execGetx (req : CohReq) (s : State) : Host.Outcome State Fault Refusal :=
  .next (if req.zero && (req.agent == 8 || req.agent == 9) then s.cboZero req.agent req.line req.ctx req.age
    else s.ask req.agent req.line req.sectors req.ctx req.age .getX)

/-- COHERENCE_CLAIM (R513, R516). -/
def execCoherenceClaim (req : CohReq) (s : State) : Host.Outcome State Fault Refusal :=
  .next (s.ask req.agent req.line req.sectors req.ctx req.age .claim)

/-- GLANCE (R509). -/
def execGlance (req : CohReq) (s : State) : Host.Outcome State Fault Refusal :=
  .next (s.ask req.agent req.line req.sectors req.ctx req.age .glance)

/-- PLACE (R509, R854): the bytes lie within the line. -/
def execPlace (req : CohReq) (offset : Nat) (bytes : List Byte) (s : State) : Host.Outcome State Fault Refusal :=
  onEvent (decide (offset + bytes.length ≤ 256)) (fun s =>
    s.ask req.agent req.line req.sectors req.ctx req.age (.place offset bytes)) s

/-- ATOM (R525): a naturally aligned atomic of 4 or 8 bytes. -/
def execAtom (req : AtomReq) (s : State) : Host.Outcome State Fault Refusal :=
  onEvent ((req.width == 4 || req.width == 8) && req.addr % req.width == 0 && decide (req.op % 16 ≤ 10)) (fun s =>
    s.ask req.agent (req.addr / 256) (1#4 <<< (req.addr / 64 % 4)) req.ctx 0 (.atom req)) s

/-! ### Evictions (R499, R506, R512) -/

/-- The eviction of an agent and line that is on its way, clean or dirty. -/
def State.eviction (s : State) (agent line : Nat) (dirty : Bool) : Option Evict :=
  s.coh.evicts.find? fun e => e.agent == agent && e.line == line && (e.dirty != 0) == dirty

/-- An eviction that the agent has sent, or that it sends now (R512). -/
def State.evictNow (s : State) (agent line : Nat) (dirty : Bool) : State × Option Evict :=
  match s.eviction agent line dirty with
  | some e => (s, some e)
  | none =>
    match s.held agent line with
    | some l => if (l.dirty != 0) == dirty then let t := s.evict l; (t, t.eviction agent line dirty) else (s, none)
    | none => (s, none)

/-- VACATE (R506, R512, R516): the home drops the agent as a holder. -/
def execVacate (req : CohReq) (s : State) : Host.Outcome State Fault Refusal :=
  .next (match s.evictNow req.agent req.line false with
    | (t, some e) =>
      let t := t.setCoh { t.coh with evicts := t.coh.evicts.erase e }
      t.putDir ((t.dirEntry req.line).without req.agent)
    | (t, none) => t)

/-- SPILL (R506, R512): the sectors follow in a SpillCargo. The cbo.flush or cbo.clean of a hart is the SPILL of agent 8 or 9, and
completes at that SpillCargo, when the dirty sectors go to HBM (R502; log 135). -/
def execSpill (req : CohReq) (s : State) : Host.Outcome State Fault Refusal :=
  .next (match s.evictNow req.agent req.line true with
    | (t, some e) =>
      if e.taken then t
      else
        let t := t.setCoh { t.coh with evicts := t.coh.evicts.map fun x => if x = e then { e with taken := true } else x }
        (t.putDir ((t.dirEntry req.line).without req.agent)).sendCoh .spillCargo req.agent req.line e.dirty
    | (t, none) => t)

/-! ### Probes and replies (R503, R505, R510, R516) -/

/-- A holder answers a probe whose line it no longer has: an eviction of it may be on its way (R516). -/
def State.absentReply (s : State) (agent line : Nat) : State :=
  s.sendCoh (.reply .i (s.eviction agent line true).isSome) agent line 0

/-- PROBE_GIVE (R505, R509, R516): the holder supplies the sectors, sends its dirty ones to the home, and keeps the line. -/
def execProbeGive (req : CohReq) (s : State) : Host.Outcome State Fault Refusal :=
  .next (match s.takeMsg req.agent req.line (· == .probeGive) with
    | none => s
    | some (t, m) =>
      match t.held req.agent req.line with
      | none => t.absentReply req.agent req.line
      | some l =>
        let to_ := ((t.txnOf req.line).map (·.agent)).getD req.agent
        let t := t.setCoh { t.coh with
          lines := t.coh.lines.map fun x => if x = l then { l with st := .p, dirty := 0, dirtyBy := none } else x }
        let t := if l.dirty = 0 then t else t.sendCoh .spillCargo req.agent req.line l.dirty
        (t.sendCoh .cargo to_ req.line m.sectors).sendCoh (.reply .p false) req.agent req.line l.dirty)

/-- PROBE_KILL (R495, R509, R516): the holder gives the line up, with its dirty sectors. -/
def execProbeKill (req : CohReq) (s : State) : Host.Outcome State Fault Refusal :=
  .next (match s.takeMsg req.agent req.line (· == .probeKill) with
    | none => s
    | some (t, _) =>
      match t.held req.agent req.line with
      | none => t.absentReply req.agent req.line
      | some l =>
        let t := t.setCoh (t.coh.dropLine req.agent req.line)
        let t := if l.dirty = 0 then t else t.sendCoh .spillCargo req.agent req.line l.dirty
        t.sendCoh (.reply .i false) req.agent req.line l.dirty)

/-- The directory after a holder's reply. -/
def DirEntry.replied (d : DirEntry) (agent : Nat) (st : LineSt) : DirEntry :=
  match st with
  | .p => { d with provider := some agent, owner := none, owned := false }
  | _ => d.without agent

/-- REPLY (R516): a probe is answered; dirty sectors are awaited. A probe for data that found nobody is served from HBM. -/
def execReply (req : CohReq) (s : State) : Host.Outcome State Fault Refusal :=
  .next (match s.takeMsg req.agent req.line (fun k => match k with | .reply _ _ => true | _ => false) with
    | none => s
    | some (t, m) =>
      match t.txnOf req.line, m.kind with
      | some x, .reply st pending =>
        let t := t.putDir ((t.dirEntry req.line).replied req.agent st)
        let wait := pending || m.sectors != 0
        let refetch := (x.kind == .getS || x.kind == .glance) && st == .i
        let x := { x with
          probed := x.probed.erase req.agent, spills := if wait then req.agent :: x.spills else x.spills,
          reading := x.reading || refetch, supply := if refetch then x.sectors else x.supply,
          granted := if refetch && x.kind == .getS then (if (t.dirEntry req.line).holders.isEmpty && !(t.watchHolds req.line) then .e else .p)
            else x.granted }
        let t := t.putTxn x
        let t := if refetch then
            t.memRequest req.line x.sectors false (agentClass x.agent 0) (some x.agent) (t.agentPartition x.agent x.ctx) x.ctx
          else t
        t.settleTxn req.line
      | _, _ => t)

/-- SPILL_CARGO (R499, R516): dirty sectors reach the home and go to HBM; the way is free. -/
def execSpillCargo (req : CohReq) (s : State) : Host.Outcome State Fault Refusal :=
  .next (match s.takeMsg req.agent req.line (· == .spillCargo) with
    | none => s
    | some (t, m) =>
      let ev := t.eviction req.agent req.line true
      let by_ := (ev.bind (·.dirtyBy)) <|> req.ctx
      let forced := (t.txnOf req.line).any fun x => x.spills.contains req.agent
      let t := t.setCoh { t.coh with evicts := t.coh.evicts.filter fun e => !(e.agent == req.agent && e.line == req.line && e.taken) }
      let t := t.memRequest req.line m.sectors true (if forced then .crit else agentClass req.agent 0) none
        (t.agentPartition req.agent by_) by_
      match t.txnOf req.line with
      | some x => (t.putTxn { x with spills := x.spills.erase req.agent }).settleTxn req.line
      | none => t)

/-! ### Grants, data and retries at the requester (R509, R511, R513, R514) -/

/-- The requester is done: the Seated goes out, or for a request that installs nothing the request just ends (R511). -/
def State.finishReq (s : State) (r : AgentReq) : State :=
  if r.granted && !(s.coh.msgs.any fun m => m.agent == r.agent && m.line == r.line && m.kind == .cargo) then
    let t := s.setCoh { s.coh with reqs := s.coh.reqs.filter fun q => !(q.agent == r.agent && q.line == r.line) }
    if r.kind.installs then t.sendCoh .seated r.agent r.line 0 else t
  else s

/-- The granted line is installed; a cbo.zero then zeroes it (R502, R509). -/
def State.seat (s : State) (r : AgentReq) (st : LineSt) : State :=
  let line : AgentLine :=
    { agent := r.agent, line := r.line, st, valid := r.got, dirty := 0, age := r.age, clusters := 0, dirtyBy := none, way := 0 }
  if r.kind == .zero then (s.install line).zeroLine r.agent r.line else s.install line

/-- GRANT (R509): the granted state is installed, once a way is there for it (R499); with an atomic the old value has come. -/
def execGrant (req : CohReq) (s : State) : Host.Outcome State Fault Refusal :=
  .next (match s.takeMsg req.agent req.line (fun k => match k with | .grant _ => true | .grantOld _ => true | _ => false) with
    | none => s
    | some (t, m) =>
      match t.agentReq req.agent req.line with
      | none => t
      | some r =>
        if r.kind.installs && (t.held r.agent r.line).isNone && !(t.wayFor r.agent r.line) then s
        else
          let r := { r with granted := true }
          let t := t.putReq r
          let t := match m.kind with
            | .grant st =>
              if r.kind.installs then t.seat r st else t
            | _ => t
          t.finishReq r)

/-- CARGO (R493, R509): the sectors are present. -/
def execCargo (req : CohReq) (s : State) : Host.Outcome State Fault Refusal :=
  .next (match s.takeMsg req.agent req.line (· == .cargo) with
    | none => s
    | some (t, m) =>
      match t.agentReq req.agent req.line with
      | none => t
      | some r =>
        let r := { r with got := r.got ||| m.sectors }
        let t := (t.putReq r).setCoh { (t.putReq r).coh with
          lines := t.coh.lines.map fun x =>
            if x.agent = r.agent ∧ x.line = r.line ∧ r.granted then { x with valid := x.valid ||| m.sectors } else x }
        t.finishReq r)

/-- SEATED (R511, R514): the line is free, and reserved requests are served. -/
def execSeated (req : CohReq) (s : State) : Host.Outcome State Fault Refusal :=
  .next (match s.takeMsg req.agent req.line (· == .seated) with
    | none => s
    | some (t, _) => (t.endTxn req.line).settleTxn req.line)

/-- RETRY (R513 to R515): the requester backs off, or waits for its reservation; at most 16 requests of an agent starve. -/
def execRetry (req : CohReq) (s : State) : Host.Outcome State Fault Refusal :=
  .next (match s.takeMsg req.agent req.line (fun k => match k with | .retry _ => true | _ => false) with
    | none => s
    | some (t, _) =>
      match t.agentReq req.agent req.line with
      | some r =>
        let others := t.coh.reqs.countP fun q => q.agent == r.agent && q.line != r.line && q.starving
        t.putReq { r with retries := r.retries + 1, starving := decide (8 ≤ r.retries + 1) && decide (others < 16) }
      | none => t)

/-- RETRY_RESEND (R513, R514): the request is on its way again, judged when the home takes it. -/
def execRetryResend (req : CohReq) (s : State) : Host.Outcome State Fault Refusal :=
  .next (match s.agentReq req.agent req.line with
    | some r =>
      if r.backing && !r.reserved && !(s.coh.msgs.any fun m => m.agent == r.agent && m.line == r.line) then
        s.putReq { r with backing := false }
      else s
    | none => s)

/-- MEMORY_REQUEST_COMPLETE (R535, R538, R540, R550): the request that the pseudo-channel serves next completes, and the home
that waits for its data goes on. -/
def execMemoryRequestComplete (req : Nat) (errors : List SectorErrors) (held : List Nat) (s : State) : Host.Outcome State Fault Refusal :=
  .next (match s.mem.reqs.find? fun r => r.id == req && r.tracked with
    | none => s
    | some r =>
      if !(s.servedNext r held) then s
      else
        let t := s.endRequest r errors
        match r.agent, t.txnOf r.line with
        | some _, some x => if r.write then t else (t.putTxn { x with reading := false }).settleTxn r.line
        | _, _ => t)

/-- PREDICTOR_DECAY (R528). -/
def execPredictorDecay (s : State) : Host.Outcome State Fault Refusal :=
  .next (s.setCoh { s.coh with predicts := s.coh.predicts.map fun p => { p with count := p.count - 1 } })

/-! ### Coherent accesses without messages of their own (R449, R485, R490, R491, R526) -/

/-- Lines that a run of bytes touches. -/
def linesOf (pa n : Nat) : List Nat := (List.range ((pa % 256 + n + 255) / 256)).map fun k => pa / 256 + k

/-- A line's sectors are read without being cached, as Glance reads them (R505, R509): an owner or provider supplies them, keeping the
line in P and sending its dirty sectors to HBM; else they are read from HBM in a class. -/
def State.glanceLine (s : State) (line : Nat) (sectors : BitVec 4) (cls : MemClass) (partition ctx : Option Nat) : State :=
  let d := s.dirEntry line
  match d.owner <|> d.provider with
  | some a =>
    let l := s.held a line
    let dirty := (l.map (·.dirty)).getD 0
    let by_ := l.bind (·.dirtyBy)
    let t := (s.setCoh { s.coh with
      lines := s.coh.lines.map fun x => if x.agent = a ∧ x.line = line then { x with st := .p, dirty := 0, dirtyBy := none } else x }).putDir
        (d.replied a .p)
    if dirty = 0 then t else t.memRequest line dirty true .crit none (t.agentPartition a by_) by_
  | none => s.memRequest line sectors false cls none partition ctx

/-- A line's sectors are written without being cached, some of them only in part, as Place writes them (R508, R509, R854): every copy
goes. -/
def State.placeLine (s : State) (line : Nat) (sectors part : BitVec 4) (cls : MemClass) (partition ctx : Option Nat) : State :=
  let t := (s.dropCopies line).putDir { s.dirEntry line with sharers := 0, provider := none, owner := none, owned := false }
  t.memPart line sectors part cls partition ctx

/-- The partition of a context's accesses at the hub (R697). -/
def State.ctxPartition (s : State) (ctx : Option Nat) : Option Nat := ctx.map fun c => (s.ctx c).partition

/-- The hub reads a run of bytes for a tie access or the service window, as agent 10 without caching (R485, R490, R491). -/
def State.glanceRange (s : State) (pa n : Nat) (cls : MemClass) (ctx : Option Nat) : State :=
  (linesOf pa n).foldl (fun t l => t.glanceLine l (lineSectors pa n l) cls (s.ctxPartition ctx) ctx) s

/-- A run of bytes is written so. The watcher's copies go with the bytes themselves (R508). -/
def State.placeRange (s : State) (pa n : Nat) (cls : MemClass) (ctx : Option Nat) : State :=
  (linesOf pa n).foldl (fun t l => t.placeLine l (lineSectors pa n l) (partSectors pa n l) cls (s.ctxPartition ctx) ctx) s

/-- The class of accesses through a window (R480, R485, R536). -/
def TieWindow.memClass (w : TieWindow) : MemClass := match w.cls with | 0 => .high | 1 => .bulk | _ => .background

/-- The walker of a tile reads a page-table entry coherently, in class CRIT: from its tile's L2 where that holds the sector (R449, R491,
R536). -/
def State.walkRead (s : State) (tile ctx pa : Nat) : State :=
  let sectors := lineSectors pa 8 (pa / 256)
  match s.held tile (pa / 256) with
  | some l => if l.valid &&& sectors = sectors then s
      else s.glanceLine (pa / 256) sectors .crit (some (s.partOf tile)) (some ctx)
  | none => s.glanceLine (pa / 256) sectors .crit (some (s.partOf tile)) (some ctx)

/-! ### Accesses of the engines of a tile (R494, R495, R498, R500, R501) -/

/-- A core's L1 holds a line. -/
def State.inL1 (s : State) (cluster core line : Nat) : Bool :=
  s.coh.l1.any fun x => x.cluster == cluster && x.core == core && x.line == line

/-- A load finds its line in the L1 or misses; a line that the L2 holds fills the L1 (R494, R495, R497). -/
def State.loadL1 (s : State) (cluster core ctx line : Nat) : State :=
  if s.inL1 cluster core line then
    (s.progCount cluster ctx 6 1).setCoh { s.coh with
      l1 := s.coh.l1.map fun x => if x.cluster = cluster ∧ x.core = core ∧ x.line = line then { x with age := 0 } else x }
  else
    let t := s.progCount cluster ctx 7 1
    match t.held (cluster / 24) line with
    | none => t
    | some l =>
      let key := fun (n : Nat) => Config.cacheSet 0 n % 64
      let r := nruInsert (fun x => x.cluster == cluster && x.core == core && key x.line == key line) L1Line.way L1Line.age
        (fun x a => { x with age := a }) 16 [] (fun way => { cluster, core, line, age := 0, way }) t.coh.l1
      t.setCoh { t.coh with
        l1 := r.1,
        lines := t.coh.lines.map fun x =>
          if x = l then { l with age := 0, clusters := l.clusters ||| (1#24 <<< (cluster % 24)) } else x }

/-- A store reaches the L2 of its tile: the other L1 copies go, and a line held in E or M becomes dirty (R494, R495, R503,
R704). -/
def State.storeL2 (s : State) (cluster core ctx line : Nat) (sectors : BitVec 4) : State :=
  let tile := cluster / 24
  let c := s.coh.dropL1 tile line (some (cluster, core))
  s.setCoh { c with
    lines := c.lines.map fun x =>
      if x.agent = tile ∧ x.line = line ∧ (x.st = .e ∨ x.st = .m) then
        { x with st := .m, valid := x.valid ||| sectors, dirty := x.dirty ||| sectors, dirtyBy := some ctx, age := 0 }
      else x }

/-- The stride detectors of a core (R500). -/
def State.detector (s : State) (cluster core blk grp pc : Nat) : Option Detector :=
  s.coh.detectors.find? fun d => d.cluster == cluster && d.core == core && d.blk == blk && d.grp == grp && d.pc == pc

/-- A detector after its stream's next access (R500). -/
def Detector.see (d : Detector) (line : Nat) : Detector :=
  let st : Int := (line : Int) - d.last
  if d.run = 0 then { d with last := line, stride := st, run := 1, breaks := 0, age := 0 }
  else if st = d.stride then { d with last := line, run := d.run + 1, breaks := 0, age := 0 }
  else if 3 ≤ d.run ∧ d.breaks = 0 then { d with last := line, breaks := 1, age := 0 }
  else { d with last := line, stride := st, run := 1, breaks := 0, age := 0 }

/-- A detector is trained: three successive accesses with one stride of 1 to 64 lines (R500). -/
def Detector.trained (d : Detector) : Bool := decide (3 ≤ d.run) && decide (1 ≤ d.stride.natAbs) && decide (d.stride.natAbs ≤ 64)

/-- A load's line address goes to its detector; a trained one requests up to four lines ahead within the page (R500, R501). -/
def State.prefetch (s : State) (cluster core ctx blk grp pc line : Nat) : State :=
  match s.detector cluster core blk grp pc with
  | none =>
    let r := nruInsert (fun x => x.cluster == cluster && x.core == core) Detector.way Detector.age (fun x a => { x with age := a })
      32 [] (fun way => { cluster, core, blk, grp, pc, last := line, stride := 0, run := 0, breaks := 0, age := 0, way })
      s.coh.detectors
    s.setCoh { s.coh with detectors := r.1 }
  | some d =>
    let d' := d.see line
    let tile := cluster / 24
    let ahead := if d.trained && d'.breaks == 0 then
        (((List.range 4).map fun k => (line : Int) + d'.stride * (k + 1)).filter fun x =>
            decide (0 ≤ x) && x.toNat / 256 == line / 256 && !(s.coh.prefetched.contains (tile, x.toNat))).map Int.toNat
      else []
    let t := s.setCoh { s.coh with
      detectors := s.coh.detectors.map (fun x => if x = d then d' else x),
      prefetched := s.coh.prefetched ++ ahead.map fun x => (tile, x) }
    ahead.foldl (fun t _ => t.progCount cluster ctx 0x13 1) t

end Sys2Proof.Machine
end

