-- ==== Sys2Proof/Machine/IsaMem.lean ====
section
/-!
DEFINITION. Loads, stores and atomics of lanes (R215, R240 to R244, R251, R252, R281 to R289, R464 to R466, R477 to R479).
-/

namespace Sys2Proof.Machine

/-! ### Addresses -/

/-- Address or block-memory offset of a lane (R283); atom.cas takes no offset (R288). -/
def At.addressOf (a : At) (size : Nat) (offset : Nat) (l : Nat) : Nat :=
  let i := a.i
  let base := a.scalar i.src1
  let idx := (a.g.operand l 1 (a.opd i.src2))
  match i.mode with
  | 0 => (base + offset) % 2 ^ 64
  | 1 => (base + idx * size + offset) % 2 ^ 64
  | 2 => (base + (BitVec.ofInt 64 (signedNat 32 idx)).toNat * size + offset) % 2 ^ 64
  | _ => (a.g.operand l (if i.blockMem then 1 else 2) (a.opd i.src1) + offset) % 2 ^ 64

/-- One lane's access. -/
structure LaneAccess where
  lane : Nat
  va : Nat
  size : Nat
deriving DecidableEq, Repr

/-- Lanes whose access meets a condition. -/
def badLanes (l : List LaneAccess) (p : LaneAccess → Bool) : List LaneAccess := l.filter p

/-- An exception of some lanes: INFO is the lowest lane's address or offset (R304, R309). -/
def raiseLanes (x : Exc) (l : List LaneAccess) : Effect :=
  .raise x (maskOf (l.map (·.lane))) ((l.head?.map (·.va)).getD 0)

/-- Block-memory offsets that lie outside the allocation (R285). -/
def At.outside (a : At) (l : List LaneAccess) : List LaneAccess := badLanes l fun x => !(a.b.holds x.va x.size)

/-! ### Translation (R458, R464 to R466) -/

/-- A part of a lane's access that lies in one 64 KiB page, and where it leads. -/
structure LanePiece where
  lane : Nat
  piece : Piece
deriving DecidableEq, Repr

/-- A lane's access cut at 64 KiB boundaries. -/
def LaneAccess.parts (x : LaneAccess) : List LaneAccess :=
  let room := 65536 - x.va % 65536
  if x.size ≤ room then [x] else [{ x with size := room }, { x with va := (x.va + room) % 2 ^ 64, size := x.size - room }]

/-- The walk that a page of an instruction's accesses asks for: every lane with an access in the page is in its mask. -/
def At.walkFor (a : At) (e : Engine) (k : AccKind) (parts : List LaneAccess) (page : Nat) : Option WalkReq :=
  let mine := parts.filter fun x => x.va / 65536 == page
  mine.head?.map fun x =>
    { ctx := a.b.ctx, va := x.va, kind := k, engine := e, by_ := .cluster a.b.cluster, who := a.waiter x.lane,
      site := some (a.site (maskOf ((mine.map (·.lane)).eraseDups)) x.va) }

/-- Every access translated, or walks asked for the pages that miss (R458, R466). -/
def At.translate (a : At) (e : Engine) (k : AccKind) (l : List LaneAccess) (s : State) : State × Option (List LanePiece) :=
  let parts := l.flatMap LaneAccess.parts
  let core := nth a.b.cores a.gi 0
  let look := fun (x : LaneAccess) => s.lookup a.b.cluster core e a.b.ctx x.va k
  let missed := ((parts.filter fun x => look x == .miss).map fun x => x.va / 65536).eraseDups
  if missed.isEmpty then
    (s, some (parts.filterMap fun x => match look x with
      | .hit t => some ⟨x.lane, ⟨t, x.va, x.size⟩⟩
      | .miss => none))
  else
    (missed.foldl (fun t p =>
      match a.walkFor e k parts p with
      | some w => t.missTlb core w
      | none => t) s, none)

/-! ### What a walk comes to (R448, R464) -/

/-- The copy of a name in a block. -/
def Block.copy (b : Block) (id : Nat) : Option Copy := b.copies.find? fun c => c.id == id

/-- What a walk request comes to (R464). -/
inductive WalkEnd where
  | entry (e : TlbEntry)
  /-- The leaf that the TLBs hold refuses the access: no walk is made (R460, R464). -/
  | denied (f : FaultInfo)
  | fault (f : FaultInfo)
  | poison
deriving DecidableEq, Repr

/-- The cluster that a walk is for. -/
def AccessBy.place : AccessBy → Nat
  | .cluster c => c
  | .control => 192

/-- The core of an access that waits (R28). -/
def State.waiterCore (s : State) (w : Waiter) : Nat :=
  match w with
  | .lane r _ => nth ((s.block r.blk).map (·.cores) |>.getD []) r.grp 0
  | .copy b k _ => (((s.block b).bind fun x => x.copy k).map (·.core)).getD 0
  | .engine b g _ _ => nth ((s.block b).map (·.cores) |>.getD []) g 0
  | .entry _ _ _ => 0
  | .coll _ _ => 0
  | .monument _ => 0

/-- A leaf held already that refuses the access (R460, R464). -/
def State.heldRefusal (s : State) (r : WalkReq) : Option FaultInfo :=
  (s.tlbFind r.by_.place (s.waiterCore r.who) r.engine r.ctx r.va).bind fun e => e.refuses r.kind

/-- A walk and its leaf's permission. -/
def State.walkEnd (s : State) (r : WalkReq) : WalkEnd :=
  let place := r.by_.place
  match s.heldRefusal r with
  | some f => .denied f
  | none =>
    match s.walk (some (place / 24)) place r.ctx r.va with
    | .poison => .poison
    | .fault f => .fault f
    | .leaf e =>
      match e.refuses r.kind with
      | some f => .fault f
      | none => .entry e

/-- What an exception record says when the walks of several lanes of one instruction fail: all the lanes, and the address of
the lowest (R304, R309). -/
def joinSites (a b : ExcSite) : ExcSite :=
  let m := BitVec.ofNat 32 a.lanes ||| BitVec.ofNat 32 b.lanes
  let low := fun (x : ExcSite) => (lanesOf (BitVec.ofNat 32 x.lanes)).headD 32
  { a with lanes := m.toNat, info := if low b < low a then b.info else a.info }

/-- Accesses that a walk is for: those of the lanes that asked for its page (R470 JOINED; log 98). -/
def WalkReq.accesses (r : WalkReq) : Nat :=
  match r.who, r.site with
  | .lane _ _, some x => max 1 (lanesOf (BitVec.ofNat 32 x.lanes)).length
  | _, _ => 1

/-! ### Far devices (R477 to R479) -/

/-- A tie read or atomic of `n` bytes that this lane has already sent. -/
def State.laneAsked (s : State) (blk grp lane va n : Nat) : Option TieOp :=
  s.xlat.tieOps.find? fun o => o.va == va && o.size == n && match o.who with
    | .lane r l => r.blk == blk && r.grp == grp && l == lane
    | _ => false

/-- The tie accesses of a sub-group's lanes are over. -/
def State.lanesTake (s : State) (a : At) : State :=
  s.tieTake fun w => match w with
    | .lane r l => r.blk == a.b.id && r.grp == a.gi && a.sg.mask.getLsbD l
    | _ => false

/-- The fault that a piece meets at once: an unreachable node, or a refusal of the device's own tie table (R479). -/
def State.pieceFault (s : State) (a : At) (k : AccKind) (p : LanePiece) : Option FaultInfo :=
  match p.piece.target with
  | .local_ _ => none
  | .tie node w off =>
    if s.ownNode node then
      match s.ownTie node w off p.piece.size k with
      | .inl f => some f
      | .inr _ => none
    else if (s.routePort s.fab.node node kTie a.b.ctx).isNone && (s.laneAsked a.b.id a.gi p.lane p.piece.va p.piece.size).isNone then
      some ⟨.tieLost, 7, 0, false, tieWhere node w 0⟩
    else none

/-- The tie faults of an instruction's lanes are recorded, and TRANSLATION is raised (R464, R465). -/
def State.tieFaults (s : State) (a : At) (e : Engine) (k : AccKind) (l : List LanePiece) : Option Effect :=
  let bad := l.filter fun p => (s.pieceFault a k p).isSome
  match bad with
  | [] => none
  | p :: _ =>
    let t := bad.foldl (fun t q =>
      match s.pieceFault a k q with
      | some f => (t.recordFault a.b.ctx q.piece.va k (.cluster a.b.cluster) e f 1).1
      | none => t) s
    some (.fault t (maskOf ((bad.map (·.lane)).eraseDups)) p.piece.va)

/-- Accesses whose pages miss wait for them, unless pieces of other lanes meet tie faults: then TRANSLATION is raised at once, for
those lanes and for the ones whose walks can end in no replayable fault either (R304, R309, R465); `t` is the state that waits. -/
def At.stalled (a : At) (e : Engine) (k : AccKind) (acc : List LaneAccess) (t s : State) : Effect :=
  let parts := acc.flatMap LaneAccess.parts
  let look := fun (x : LaneAccess) => s.lookup a.b.cluster (nth a.b.cores a.gi 0) e a.b.ctx x.va k
  let hits := parts.filterMap fun x => match look x with
    | .hit d => some (⟨x.lane, ⟨d, x.va, x.size⟩⟩ : LanePiece)
    | .miss => none
  let ties := hits.filterMap fun p => (s.pieceFault a k p).map fun f => (a.site (maskOf [p.lane]) p.piece.va, f, 1)
  let pages := ((parts.filter fun x => look x == .miss).map fun x => x.va / 65536).eraseDups
  let walks := (pages.filterMap (a.walkFor e k parts)).filterMap fun w => match s.walkEnd w with
    | .denied f => if f.replay then none else w.site.map fun x => (x, f, w.accesses)
    | .fault f => if f.replay then none else w.site.map fun x => (x, f, w.accesses)
    | _ => none
  match ties with
  | [] => .wait t
  | x :: _ =>
    let all := ties ++ walks
    let u := all.foldl (fun u y => (u.recordFault a.b.ctx y.1.info k (.cluster a.b.cluster) e y.2.1 y.2.2).1) s
    let site := (all.map (·.1)).foldl joinSites x.1
    .fault u (BitVec.ofNat 32 site.lanes) site.info

/-- Where a piece lies in this device's own HBM, directly or through its own tie table. -/
def State.pieceHome (s : State) (k : AccKind) (p : LanePiece) : Option Nat :=
  match p.piece.target with
  | .local_ pa => some pa
  | .tie node w off =>
    if s.ownNode node then
      match s.ownTie node w off p.piece.size k with
      | .inr pa => some pa
      | .inl _ => none
    else none

/-- A window of this device's own tie table, through which a piece of a lane's access comes home (R479). -/
def State.homeWindow (s : State) (p : LanePiece) : Option TieWindow :=
  match p.piece.target with
  | .local_ _ => none
  | .tie _ w _ => (s.xlat.ties.find? fun e => e.1 == w).map (·.2)

/-- Requests for far pieces that have not been sent yet go out (R477). -/
def State.askPieces (a : At) (e : Engine) (k : AccKind) (ask : Nat → TieAsk) : List LanePiece → State → State
  | [], s => s
  | p :: l, s =>
    match p.piece.target with
    | .local_ _ => State.askPieces a e k ask l s
    | .tie node w off =>
      if s.ownNode node || (s.laneAsked a.b.id a.gi p.lane p.piece.va p.piece.size).isSome then State.askPieces a e k ask l s
      else
        State.askPieces a e k ask l (s.tieAsk
          { id := 0, tag := 0, ctx := a.b.ctx, va := p.piece.va, who := a.waiter p.lane, kind := k, by_ := .cluster a.b.cluster,
            engine := e, node, window := w, size := p.piece.size,
            site := some (a.site (maskOf [p.lane]) p.piece.va), answer := none } off (ask p.lane)).1

/-- Far pieces all have their answers. -/
def State.allAnswered (s : State) (a : At) (l : List LanePiece) : Bool :=
  l.all fun p => match p.piece.target with
    | .local_ _ => true
    | .tie node _ _ => s.ownNode node || ((s.laneAsked a.b.id a.gi p.lane p.piece.va p.piece.size).bind (·.answer)).isSome

/-- Local bytes that a read or an atomic would take are poisoned (R551). -/
def State.piecesPoisoned (s : State) (k : AccKind) (l : List LanePiece) : Bool :=
  l.any fun p => match s.pieceHome k p with | some pa => s.poisoned pa p.piece.size | none => false

/-- Bytes of a piece: from memory, or from the far device's answer. -/
def State.pieceBytes (s : State) (a : At) (p : LanePiece) : List Byte :=
  match s.pieceHome .read p with
  | some pa => s.hbmRead pa p.piece.size
  | none => ((s.laneAsked a.b.id a.gi p.lane p.piece.va p.piece.size).bind (·.answer)).getD []

/-- Lines of local HBM that pieces touch. -/
def localLines (l : List LanePiece) : List Nat :=
  ((l.filterMap fun p => match p.piece.target with | .local_ pa => some (pa / 256) | .tie _ _ _ => none)).eraseDups

/-- An acquire or a release at system scope waits for acknowledgements as fence.sys does (R251, R252). -/
def At.sysWaits (a : At) (s : State) : Bool :=
  decide (a.i.order ≠ 0) && decide (a.i.scope = 3) && !a.i.blockMem && s.tieWritesBefore a.b.id a.gi

/-- An access of block memory comes after the group-collective instructions that precede it in program order (R223, R225). -/
def At.blockWaits (a : At) (write : Bool) (acc : List LaneAccess) : Bool :=
  a.sg.mask.getLsbD a.g.issuer && a.g.meetsPending a.b.regs write (acc.map fun x => (x.va, x.size))

/-! ### Loads -/

/-- Registers that a load of a size writes. -/
def sizeRegs (size : Nat) : Nat := if size = 16 then 4 else if size = 8 then 2 else 1

/-- A loaded value, sign-extended to 32 bits where the operation says so (R287). -/
def loadValue (size : Nat) (sgn : Bool) (bytes : List Byte) : Nat :=
  let v := leNat bytes
  if sgn then (BitVec.ofInt 32 (signedNat (8 * size) v)).toNat else v

/-- A load's result goes to DST: per lane, or once to one or two scalars (R286, R287). -/
def At.loadInto (a : At) (size : Nat) (v : Nat → Nat) : Group :=
  match a.opd a.i.dst with
  | .lane n => a.lanes.foldl (fun g l => g.setLanes32 l n (v l) (sizeRegs size)) a.g
  | .scalar n =>
    let x := v (a.lanes.headD 0)
    let g := a.g.setScalar n (x % 2 ^ 64)
    if size = 16 then g.setScalar (n + 1) (x / 2 ^ 64) else g
  | _ => a.g

/-- The accesses of a load: one for a scalar DST, else one per active lane (R286). -/
def At.loadAccesses (a : At) (size : Nat) : List LaneAccess :=
  let lanes := if (a.opd a.i.dst).isScalar then a.lanes.take 1 else a.lanes
  lanes.map fun l => ⟨l, a.addressOf size a.i.immediate l, size⟩

/-- Marks that a load leaves in its core's L1 and stride detectors (R494, R500). -/
def State.loadMarks (s : State) (a : At) (l : List LanePiece) : State :=
  let core := nth a.b.cores a.gi 0
  let lines := localLines l
  let s := l.foldl (fun t p => match s.pieceHome .read p, s.homeWindow p with
    | some pa, some w => t.glanceRange pa p.piece.size w.memClass (some w.ctx)
    | _, _ => t) s
  let s := lines.foldl (fun t n => t.loadL1 a.b.cluster core a.b.ctx n) s
  match lines with
  | [] => s
  | n :: _ => s.prefetch a.b.cluster core a.b.ctx a.b.id a.gi a.i.pc n

/-- A load (R241, R282 to R287). -/
def loadEffect (size : Nat) (sgn : Bool) (a : At) (s : State) : Effect :=
  let acc := a.loadAccesses size
  if a.i.blockMem then
    match a.outside acc with
    | [] =>
      if a.blockWaits false acc then .wait s
      else
        .done (a.loadInto size fun l =>
          loadValue size sgn (s.bmRead a.b (a.addressOf size a.i.immediate l) size)) s
    | bad => raiseLanes .blockRange bad
  else if a.sysWaits s then .wait s
  else
    match a.translate .alu .read acc s with
    | (t, none) => a.stalled .alu .read acc t s
    | (t, some l) =>
      match t.tieFaults a .alu .read l with
      | some e => e
      | none =>
        if t.piecesPoisoned .read l then .poison
        else
          let u := State.askPieces a .alu .read (fun _ => .read) l t
          if u.allAnswered a l then
            let v := fun (k : Nat) => loadValue size sgn ((l.filter fun p => p.lane == k).flatMap (u.pieceBytes a))
            .done (a.loadInto size v) ((u.loadMarks a l).lanesTake a)
          else .wait u

/-! ### Stores -/

/-- Data of a store from the DST field (R287). -/
def At.storeData (a : At) (size l : Nat) : List Byte :=
  match a.opd a.i.dst with
  | .scalar n => leBytes size (a.g.scalar n + (if size = 16 then 2 ^ 64 * a.g.scalar (n + 1) else 0))
  | o => leBytes size (a.g.operand l (sizeRegs size) o)

/-- One piece of a lane's store is written, or sent to its far device (R477, R494); one that comes home through the device's own tie table
is performed as at the far end (R479, R485). -/
def State.storeLane (s : State) (a : At) (e : Engine) (p : LanePiece) (bytes : List Byte) : State :=
  match s.pieceHome .write p with
  | some pa =>
    let t := s.hbmWrite pa bytes
    match s.homeWindow p with
    | some w => t.placeRange pa bytes.length w.memClass (some w.ctx)
    | none => (sectorsOf pa bytes.length).foldl (fun u k =>
      u.storeL2 a.b.cluster (nth a.b.cores a.gi 0) a.b.ctx (k / 4) (1#4 <<< (k % 4))) t
  | none =>
    match p.piece.target with
    | .tie node w off =>
      let id := s.xlat.nextTie
      let t := s.setXlat { s.xlat with nextTie := id + 1 }
      (t.tieSend a.b.ctx node w off bytes (.tieWrite id a.b.ctx p.piece.va a.b.cluster a.b.id a.gi e w .write)).getD t
    | .local_ _ => s

/-- A store's pieces in lane order, each with its part of the lane's data. -/
def State.storePieceList (a : At) (e : Engine) (data : Nat → List Byte) : List LanePiece → Nat → Nat → State → State
  | [], _, _, s => s
  | p :: l, lane, done, s =>
    let k := if p.lane = lane then done else 0
    State.storePieceList a e data l p.lane (k + p.piece.size) (s.storeLane a e p (((data p.lane).drop k).take p.piece.size))

/-- A store (R241, R282 to R285, R287): lanes in ascending order. -/
def storeEffect (size : Nat) (a : At) (s : State) : Effect :=
  let acc := a.lanes.map fun l => (⟨l, a.addressOf size a.i.immediate l, size⟩ : LaneAccess)
  if a.i.blockMem then
    match a.outside acc with
    | [] =>
      if a.blockWaits true acc then .wait s
      else .done a.g (acc.foldl (fun t x => t.bmWrite a.b x.va (a.storeData size x.lane)) s)
    | bad => raiseLanes .blockRange bad
  else if a.sysWaits s then .wait s
  else
    match a.translate .alu .write acc s with
    | (t, none) => a.stalled .alu .write acc t s
    | (t, some l) =>
      match t.tieFaults a .alu .write l with
      | some e => e
      | none => .done a.g (State.storePieceList a .alu (a.storeData size) l 32 0 t)

/-! ### Atomics -/

/-- Operand, and new value or compare value, of a lane's atomic (R288): for atom.cas the new value and the compare value. -/
def At.atomArgs (a : At) (op size l : Nat) : Nat × Nat :=
  let k := size / 4
  let b := a.g.operand l k (a.opd a.i.src2)
  if op % 16 = 9 then (a.g.operand l k (a.opd a.i.imm), b) else (b, 0)

/-- The atomic of one lane in local memory: its old value (R215, R242, R244). -/
def State.atomLane (s : State) (a : At) (op size : Nat) (p : LanePiece) : State × Nat :=
  match s.pieceHome .atomic p with
  | some pa =>
    let x := a.atomArgs op size p.lane
    let agent := match p.piece.target with | .local_ _ => a.b.cluster / 24 | .tie _ _ _ => 10
    (s.atomHolders agent pa (agentClass agent 0) (some a.b.ctx)).rmw pa op size x.1 x.2
  | none => (s, leNat ((((s.laneAsked a.b.id a.gi p.lane p.piece.va p.piece.size).bind (·.answer)).getD []).take size))

/-- The atomics of the lanes, in ascending lane order (R215), with the old values. -/
def State.atomLanes (a : At) (op size : Nat) : List LanePiece → State → State × List (Nat × Nat)
  | [], s => (s, [])
  | p :: l, s =>
    let r := s.atomLane a op size p
    let q := State.atomLanes a op size l r.1
    (q.1, (p.lane, r.2) :: q.2)

/-- The atomics of the lanes in block memory, in ascending lane order (R215, R251). -/
def State.atomBlock (a : At) (op size : Nat) : List LaneAccess → State → State × List (Nat × Nat)
  | [], s => (s, [])
  | x :: l, s =>
    let old := leNat (s.bmRead a.b x.va size)
    let v := a.atomArgs op size x.lane
    let q := State.atomBlock a op size l (s.bmWrite a.b x.va (leBytes size (atomNew op size old v.1 v.2)))
    (q.1, (x.lane, old) :: q.2)

/-- Old values go to DST; s0 discards them (R288). -/
def At.atomInto (a : At) (size : Nat) (olds : List (Nat × Nat)) : Group :=
  match a.opd a.i.dst with
  | .lane n => olds.foldl (fun g x => g.setLanes32 x.1 n x.2 (size / 4)) a.g
  | _ => a.g

/-- An atomic of lanes (R242, R282, R283, R288, R289). -/
def atomEffect (op size : Nat) (a : At) (s : State) : Effect :=
  let offset := if op % 16 = 9 then 0 else a.i.immediate
  let acc := a.lanes.map fun l => (⟨l, a.addressOf size offset l, size⟩ : LaneAccess)
  match badLanes acc fun x => x.va % size != 0 with
  | b :: l => raiseLanes .align (b :: l)
  | [] =>
    if a.i.blockMem then
      match a.outside acc with
      | [] =>
        if a.blockWaits true acc then .wait s
        else let r := State.atomBlock a op size acc s; .done (a.atomInto size r.2) r.1
      | bad => raiseLanes .blockRange bad
    else if a.sysWaits s then .wait s
    else
      match a.translate .alu .atomic acc s with
      | (t, none) => a.stalled .alu .atomic acc t s
      | (t, some l) =>
        match t.tieFaults a .alu .atomic l with
        | some e => e
        | none =>
          if t.piecesPoisoned .atomic l then .poison
          else
            let ask := fun (k : Nat) => let x := a.atomArgs op size k; TieAsk.atomic (16 + op % 16) size x.1 x.2
            let u := State.askPieces a .alu .atomic ask l t
            if u.allAnswered a l then
              let r := State.atomLanes a op size l u
              .done (a.atomInto size r.2) (r.1.lanesTake a)
            else .wait u

/-- LD_B8 (R283). -/
def execLdB8 (r : SubRef) (s : State) : Host.Outcome State Fault Refusal := onIssue 0x03 0 (loadEffect 1 false) r s

/-- LD_B16 (R283). -/
def execLdB16 (r : SubRef) (s : State) : Host.Outcome State Fault Refusal := onIssue 0x03 1 (loadEffect 2 false) r s

/-- LD_B32 (R283). -/
def execLdB32 (r : SubRef) (s : State) : Host.Outcome State Fault Refusal := onIssue 0x03 2 (loadEffect 4 false) r s

/-- LD_B64 (R287). -/
def execLdB64 (r : SubRef) (s : State) : Host.Outcome State Fault Refusal := onIssue 0x03 3 (loadEffect 8 false) r s

/-- LD_B128 (R287). -/
def execLdB128 (r : SubRef) (s : State) : Host.Outcome State Fault Refusal := onIssue 0x03 4 (loadEffect 16 false) r s

/-- LD_S8 (R287). -/
def execLdS8 (r : SubRef) (s : State) : Host.Outcome State Fault Refusal := onIssue 0x03 5 (loadEffect 1 true) r s

/-- LD_S16 (R287). -/
def execLdS16 (r : SubRef) (s : State) : Host.Outcome State Fault Refusal := onIssue 0x03 6 (loadEffect 2 true) r s

/-- ST_B8 (R287). -/
def execStB8 (r : SubRef) (s : State) : Host.Outcome State Fault Refusal := onIssue 0x03 8 (storeEffect 1) r s

/-- ST_B16 (R287). -/
def execStB16 (r : SubRef) (s : State) : Host.Outcome State Fault Refusal := onIssue 0x03 9 (storeEffect 2) r s

/-- ST_B32 (R287). -/
def execStB32 (r : SubRef) (s : State) : Host.Outcome State Fault Refusal := onIssue 0x03 10 (storeEffect 4) r s

/-- ST_B64 (R287). -/
def execStB64 (r : SubRef) (s : State) : Host.Outcome State Fault Refusal := onIssue 0x03 11 (storeEffect 8) r s

/-- ST_B128 (R287). -/
def execStB128 (r : SubRef) (s : State) : Host.Outcome State Fault Refusal := onIssue 0x03 12 (storeEffect 16) r s

/-- An atomic's row covers both widths: the 32-bit operation, and the 64-bit one that lies 0x10 above it (R268). -/
def onAtomic (op : Nat) (r : SubRef) (s : State) : Host.Outcome State Fault Refusal :=
  .next (s.issue (fun i => i.cls == 0x04 && (i.op == op || i.op == 16 + op))
    (fun a => atomEffect op (if a.i.op = op then 4 else 8) a) r)

/-- ATOM_ADD (R288). -/
def execAtomAdd (r : SubRef) (s : State) : Host.Outcome State Fault Refusal := onAtomic 0 r s

/-- ATOM_MIN_U (R288). -/
def execAtomMinU (r : SubRef) (s : State) : Host.Outcome State Fault Refusal := onAtomic 1 r s

/-- ATOM_MAX_U (R288). -/
def execAtomMaxU (r : SubRef) (s : State) : Host.Outcome State Fault Refusal := onAtomic 2 r s

/-- ATOM_MIN_S (R288). -/
def execAtomMinS (r : SubRef) (s : State) : Host.Outcome State Fault Refusal := onAtomic 3 r s

/-- ATOM_MAX_S (R288). -/
def execAtomMaxS (r : SubRef) (s : State) : Host.Outcome State Fault Refusal := onAtomic 4 r s

/-- ATOM_AND (R288). -/
def execAtomAnd (r : SubRef) (s : State) : Host.Outcome State Fault Refusal := onAtomic 5 r s

/-- ATOM_OR (R288). -/
def execAtomOr (r : SubRef) (s : State) : Host.Outcome State Fault Refusal := onAtomic 6 r s

/-- ATOM_XOR (R288). -/
def execAtomXor (r : SubRef) (s : State) : Host.Outcome State Fault Refusal := onAtomic 7 r s

/-- ATOM_EXCH (R288). -/
def execAtomExch (r : SubRef) (s : State) : Host.Outcome State Fault Refusal := onAtomic 8 r s

/-- ATOM_CAS (R288). -/
def execAtomCas (r : SubRef) (s : State) : Host.Outcome State Fault Refusal := onAtomic 9 r s

/-- ATOM_FADD (R289). -/
def execAtomFadd (r : SubRef) (s : State) : Host.Outcome State Fault Refusal := onAtomic 10 r s

end Sys2Proof.Machine
end

