-- ==== Sys2Proof/Machine/Matrix.lean ====
section
/-!
DEFINITION. Group-collective instructions of the matrix engine, the accumulator pair, and atom.xadd (R220 to R225, R290, R298,
R312 to R364, R545 to R548).
-/

namespace Sys2Proof.Machine

/-! ### The accumulator pair (R318 to R322) -/

/-- The state in which the issuing group owns the pair: it has it, or takes it now (R318, R319). -/
def State.takePair (s : State) (a : At) : State :=
  let core := nth a.b.cores a.gi 0
  if (s.pairOwner a.b.cluster core).isSome then s else s.givePair a.b.cluster core a.b.id a.gi

/-- ACCUMULATOR_GRANT (R319, R320): a free pair goes to the group first in line. -/
def execAccumulatorGrant (cluster core : Nat) (s : State) : Host.Outcome State Fault Refusal :=
  .next (match s.pairOwner cluster core, s.nextOwner cluster core with
    | none, some n => s.givePair cluster core n.1 n.2
    | _, _ => s)

/-- The pair of a group that has ended is free (R214, R321). -/
def State.settleGroup (s : State) (blk grp : Nat) : State :=
  match s.group blk grp with
  | some g =>
    if g.over then s.setCompute { s.compute with pairs := s.compute.pairs.filter fun p => !(p.blk == blk && p.grp == grp) } else s
  | none => s

/-- Accumulator tile `n` of a group. -/
def Group.acc (g : Group) (n : Nat) : AccTile := if n = 0 then g.a0 else g.a1

/-- The group with another accumulator tile. -/
def Group.setAcc (g : Group) (n : Nat) (t : AccTile) : Group := if n = 0 then { g with a0 := t } else { g with a1 := t }

/-- SR_ASTAT: INEXACT_LOW of a tile is bit 2n and OVERFLOW_HIGH bit 2n + 1 (R300, R350). -/
def Group.raiseAstat (g : Group) (bit : Nat) (on : Bool) : Group := if on then { g with astat := g.astat ||| (1#4 <<< bit) } else g

/-- What an operation of an engine makes of the group, with the bits that it sets and the cycle in which it does (R302). -/
def Group.raising (g : Group) (cycle : Nat) (f : Group → State × Group) : State × Group :=
  let r := f { g with astat := 0, vstat := 0, range := false }
  let old := if g.raised.cycle = cycle then g.raised else ⟨cycle, 0, 0, false⟩
  (r.1, { r.2 with
    astat := g.astat ||| r.2.astat, vstat := g.vstat ||| r.2.vstat, range := g.range || r.2.range,
    raised := ⟨cycle, old.astat ||| r.2.astat, old.vstat ||| r.2.vstat, old.range || r.2.range⟩ })

/-- A read of a tile that meets an out-of-window element sets OVERFLOW_HIGH (R350). -/
def Group.readAcc (g : Group) (n : Nat) : Group := g.raiseAstat (2 * n + 1) (g.acc n).anyOut

/-! ### Issue (R221 to R225, R314, R433) -/

/-- An exception of the issuer lane. -/
def At.raise (a : At) (x : Exc) (info : Nat) : Effect := .raise x (maskOf [a.g.issuer]) info

/-- The instruction joins its engine, with its scalar operands as they stand, behind those that its core has issued (R433). -/
def At.enqueue (a : At) (pipe : Pipe) (s : State) : Effect :=
  let before := (s.vectorOps a.b.cluster (nth a.b.cores a.gi 0)).map (·.order)
  .done { a.g with
      ops := a.g.ops ++ [{ pipe, pc := a.i.pc, word := a.i.word, ext := a.i.ext, s1 := a.scalar a.i.src1, s2 := a.scalar a.i.src2,
                           sd := a.scalar a.i.dst, seq := a.g.nextOp, order := before.foldl max 0 + 1 }],
      nextOp := a.g.nextOp + 1 } s

/-- An anchored tile is needed for slices, and one in the FP32 form raises OPERAND (R341). -/
def AccTile.isFp32 : AccTile → Bool
  | .fp32 _ => true
  | .anchored _ _ => false

/-- An mma issues (R298, R326, R331, R341): whether a slice product finds the anchored form is known once the instructions before it on
its tile have completed. -/
def mmaEffect (a : At) (s : State) : Effect :=
  let i := a.i
  let oa := a.scalar i.src1
  let ob := a.scalar i.src2
  let n := (a.opd i.dst).number
  let slices := decide (4 ≤ i.op)
  if oa % 64 ≠ 0 then a.raise .operand oa
  else if ob % 64 ≠ 0 then a.raise .operand ob
  else if slices && a.g.tilePending a.b.regs n then .wait s
  else if slices && (a.g.acc n).isFp32 then a.raise .operand oa
  else if !(a.b.holds oa (i.panelBytes 64)) then a.raise .blockRange oa
  else if !(a.b.holds ob (i.panelBytes 128)) then a.raise .blockRange ob
  else a.enqueue .multiply (s.takePair a)

/-- acc.anchor issues (R343, R344). -/
def anchorEffect (a : At) (s : State) : Effect :=
  let v := signedNat 64 (a.scalar a.i.src1)
  if a.i.mod = 0 ∧ (v < -4096 ∨ 4095 < v) then a.raise .operand (a.scalar a.i.src1)
  else a.enqueue .readout (s.takePair a)

/-- acc.read issues (R352, R353); raw output needs the anchored form, as a slice product does. -/
def accReadEffect (a : At) (s : State) : Effect :=
  let off := a.scalar a.i.src2
  let n := (a.opd a.i.src1).number
  if off % 64 ≠ 0 then a.raise .operand off
  else if a.i.mod = 2 ∧ a.g.tilePending a.b.regs n then .wait s
  else if a.i.mod = 2 ∧ (a.g.acc n).isFp32 then a.raise .operand off
  else if a.b.holds off (readBytes a.i.mod) then a.enqueue .readout (s.takePair a)
  else a.raise .blockRange off

/-- acc.zero issues (R335). -/
def accZeroEffect (a : At) (s : State) : Effect := a.enqueue .readout (s.takePair a)

/-- MMA_MX8 (R312). -/
def execMmaMx8 (r : SubRef) (s : State) : Host.Outcome State Fault Refusal := onIssue 0x10 0 mmaEffect r s

/-- MMA_MX6 (R312). -/
def execMmaMx6 (r : SubRef) (s : State) : Host.Outcome State Fault Refusal := onIssue 0x10 1 mmaEffect r s

/-- MMA_MX4 (R312). -/
def execMmaMx4 (r : SubRef) (s : State) : Host.Outcome State Fault Refusal := onIssue 0x10 2 mmaEffect r s

/-- MMA_XI8 (R312). -/
def execMmaXi8 (r : SubRef) (s : State) : Host.Outcome State Fault Refusal := onIssue 0x10 3 mmaEffect r s

/-- MMA_SF32 (R341, R357). -/
def execMmaSf32 (r : SubRef) (s : State) : Host.Outcome State Fault Refusal := onIssue 0x10 4 mmaEffect r s

/-- MMA_SF64 (R341, R358). -/
def execMmaSf64 (r : SubRef) (s : State) : Host.Outcome State Fault Refusal := onIssue 0x10 5 mmaEffect r s

/-- ACC_ANCHOR (R343). -/
def execAccAnchor (r : SubRef) (s : State) : Host.Outcome State Fault Refusal := onIssue 0x10 8 anchorEffect r s

/-- ACC_READ (R352). -/
def execAccRead (r : SubRef) (s : State) : Host.Outcome State Fault Refusal := onIssue 0x10 9 accReadEffect r s

/-- ACC_ZERO (R335). -/
def execAccZero (r : SubRef) (s : State) : Host.Outcome State Fault Refusal := onIssue 0x10 10 accZeroEffect r s

/-! ### Completion -/

/-- Engine time of the matrix engine (R703, R801, R806). -/
def State.matrixTime (s : State) (b : Block) (cycles : Nat) : State :=
  let x := s.ctx b.ctx
  (((s.count 0 cycles).count (24 + b.cluster / 24) cycles).progCount b.cluster b.ctx 2 cycles).putCtx b.ctx
    { x with acct := { x.acct with matrix := (x.acct.matrix + cycles) % 2 ^ 64 } }

/-- The multiply or read-out pipe performs an instruction on the group's tile (R312, R335 to R355). -/
def State.matrixOp (s : State) (b : Block) (g : Group) (o : GcOp) : State × Group :=
  let i := insnOf o.pc o.word o.ext
  let n := (opdOf b.regs i.dst).number
  match i.op with
  | 8 =>
    (s.matrixTime b 1,
     g.setAcc n (.anchored (if i.mod = 1 then none else some (signedNat 64 o.s1)) (List.replicate accSize AnchEl.zero)))
  | 9 =>
    let m := (opdOf b.regs i.src1).number
    ((s.bmWrite b o.s2 ((g.acc m).output i.mod)).matrixTime b (if i.mod = 0 then 64 else if i.mod = 1 then 128 else 512), g.readAcc m)
  | 10 => (s.matrixTime b 1, g.setAcc n AccTile.zero)
  | _ =>
    let r := mmaTile (mmaKind i.op i.mod) i.blk16 i.overwrite i.imm (s.bmRead b o.s1 (i.panelBytes 64))
      (s.bmRead b o.s2 (i.panelBytes 128)) (g.acc n)
    let t := s.matrixTime b (i.imm * mmaCycles i.op)
    (if r.2 then t.progCount b.cluster b.ctx 0x12 1 else t, (g.setAcc n r.1).raiseAstat (2 * n) r.2)

/-- MATRIX_OP_COMPLETE (R314, R315): the group's oldest instruction in the engines completes. -/
def execMatrixOpComplete (blk grp : Nat) (s : State) : Host.Outcome State Fault Refusal :=
  .next (match s.block blk, s.group blk grp with
    | some b, some g =>
      match g.ops with
      | o :: rest =>
        if o.pipe == .vector || g.stopped then s
        else
          let r := { g with ops := rest }.raising s.abaom.posts fun h => s.matrixOp b h o
          (r.1.putGroup blk grp r.2).settleGroup blk grp
      | [] => s
    | _, _ => s)

/-! ### Anchored cells (R290, R356, R545 to R548) -/

/-- A cell after one element of a sum of 192 bits, an anchor of 32 bits, and flags NAN PINF NINF HUGE_POS HUGE_NEG INX at their
places in word 3 (R546). -/
def cellAdd (cell : List Byte) (sum anchor flags : Nat) : List Byte :=
  let old := leNat (cell.take 24)
  let w3 := leNat (cell.drop 24)
  let f := flags &&& 0x7D
  if w3 / 128 % 2 = 0 then
    leBytes 24 ((old + sum) % 2 ^ 192) ++ leBytes 8 (2 ^ 32 * (anchor % 2 ^ 32) + (w3 % 2 ^ 32 ||| 0x80 ||| f))
  else if w3 / 2 ^ 32 = anchor % 2 ^ 32 then leBytes 24 ((old + sum) % 2 ^ 192) ++ leBytes 8 (w3 ||| f)
  else cell.take 24 ++ leBytes 8 (w3 ||| 0x100)

/-- The flags of an element as word 3 of a cell holds them (R545). -/
def AnchEl.cellFlags (el : AnchEl) : Nat :=
  flagNat el.inx + 4 * flagNat el.hugeNeg + 8 * flagNat el.hugePos + 16 * flagNat el.ninf + 32 * flagNat el.pinf + 64 * flagNat el.nan

/-- The memory ALU adds cells at consecutive addresses: sum, anchor and flags of each (R544, R546). -/
def State.addCells (s : State) (pa : Nat) : List (Nat × Nat × Nat) → State
  | [] => s
  | c :: l => (s.hbmWrite pa (cellAdd (s.hbmRead pa 32) c.1 c.2.1 c.2.2)).addCells (pa + 32) l

/-- Cells for a range of HBM, with what that does to the lines' holders (R527). -/
def State.farCells (s : State) (pa : Nat) (cells : List (Nat × Nat × Nat)) (cls : MemClass) (partition ctx : Option Nat) : State :=
  let lines := ((List.range cells.length).map fun k => (pa + 32 * k) / 256).eraseDups
  let t := lines.foldl (fun t n =>
    t.farLine n ((List.range cells.length).countP fun k => (pa + 32 * k) / 256 == n) 0 cls partition ctx) s
  t.addCells pa cells

/-- The cell that an anchored element sends (R356, R545). -/
def elementCell (anchor : Int) (el : AnchEl) : Nat × Nat × Nat :=
  ((el.sum.signExtend 192).toNat, (BitVec.ofInt 32 anchor).toNat, el.cellFlags)

/-- The payload of an XADD frame (R582). -/
def cellsPayload (cells : List (Nat × Nat × Nat)) : List Byte :=
  wordsPayload (cells.flatMap fun c =>
    [c.1 % 2 ^ 64, c.1 / 2 ^ 64 % 2 ^ 64, c.1 / 2 ^ 128 % 2 ^ 64, 2 ^ 32 * c.2.1 + 128 + c.2.2])

/-- One piece of a row of cells is added, or sent to its far device (R290, R478, R582). -/
def State.xaddPiece (s : State) (a : At) (p : LanePiece) (cells : List (Nat × Nat × Nat)) : State :=
  match s.pieceHome .atomic p with
  | some pa => s.farCells pa cells .high (some (s.partOf (a.b.cluster / 24))) (some a.b.ctx)
  | none =>
    match p.piece.target with
    | .tie node w off =>
      let id := s.xlat.nextTie
      let t := s.setXlat { s.xlat with nextTie := id + 1 }
      let bytes := cellsPayload cells
      (t.flowSend { t.headTo opXadd node kTie a.b.ctx with window := w, offset := off, length := bytes.length } bytes
        (.tieWrite id a.b.ctx p.piece.va a.b.cluster a.b.id a.gi .alu w .atomic)).getD t
    | .local_ _ => s

/-- The rows of an atom.xadd, as accesses of the issuer lane (R290). -/
def At.xaddRows (a : At) : List LaneAccess :=
  let cols := a.i.ext % 256
  (List.range (a.i.ext / 256 % 256)).map fun r =>
    ⟨a.g.issuer, (a.scalar a.i.src1 + r * a.scalar a.i.src2) % 2 ^ 64, 32 * cols⟩

/-- Each piece of the rows with the cells that go there, in row order. -/
def State.xaddAll (a : At) : List LanePiece → List (Nat × Nat × Nat) → State → State
  | [], _, s => s
  | p :: l, cells, s =>
    State.xaddAll a l (cells.drop (p.piece.size / 32)) (s.xaddPiece a p (cells.take (p.piece.size / 32)))

/-- The elements of the tile that an atom.xadd reads, in row order (R290). -/
def At.xaddElements (a : At) (els : List AnchEl) : List AnchEl :=
  (List.range (a.i.ext / 256 % 256)).flatMap fun r => (List.range (a.i.ext % 256)).map fun c => nth els (128 * r + c) AnchEl.zero

/-- The cells that the rows of an atom.xadd send, in row order. -/
def At.xaddCells (a : At) (anchor : Int) (els : List AnchEl) : List (Nat × Nat × Nat) :=
  (a.xaddElements els).map (elementCell anchor)

/-- Cells at consecutive offsets of the block's memory (R281, R290, R546). -/
def State.addBlockCells (b : Block) (off : Nat) : List (Nat × Nat × Nat) → State → State
  | [], s => s
  | c :: l, s => State.addBlockCells b (off + 32) l (s.bmWrite b off (cellAdd (s.bmRead b off 32) c.1 c.2.1 c.2.2))

/-- The rows of cells of an atom.xadd that names the block's memory, in row order. DEDUCED (R281 gives SPACE to the atomic class). -/
def State.xaddBlock (a : At) : List LaneAccess → List (Nat × Nat × Nat) → State → State
  | [], _, s => s
  | x :: l, cells, s =>
    State.xaddBlock a l (cells.drop (x.size / 32)) (State.addBlockCells a.b x.va (cells.take (x.size / 32)) s)

/-- The group after an atom.xadd: OVERFLOW_HIGH is set when an element that it reads is out of window (R350). -/
def At.xaddRead (a : At) (s : State) (n : Nat) (els : List AnchEl) : Group :=
  (a.g.raising s.abaom.posts fun g => (s, g.raiseAstat (2 * n + 1) ((a.xaddElements els).any AnchEl.out))).2

/-- The tile's cells go to memory; a pending anchor sends nothing (R356, R548). -/
def xaddSend (anchor : Option Int) (send : Int → State) (s : State) : State :=
  match anchor with
  | none => s
  | some v => send v

/-- atom.xadd (R242, R281, R285, R290, R304, R350, R356, R546, R548): it reads the tile as the instructions before it leave it. -/
def xaddEffect (a : At) (s : State) : Effect :=
  let n := (a.opd a.i.dst).number
  if a.g.tilePending a.b.regs n then .wait s
  else
    match a.g.acc n with
    | .fp32 _ => a.raise .operand (a.scalar a.i.src1)
    | .anchored anchor els =>
      match badLanes a.xaddRows fun x => x.va % 32 != 0 with
      | x :: _ => a.raise .align x.va
      | [] =>
        if a.i.blockMem then
          match a.outside a.xaddRows with
          | x :: _ => a.raise .blockRange x.va
          | [] =>
            if a.blockWaits true a.xaddRows then .wait s
            else
              let t := s.takePair a
              .done (a.xaddRead s n els) (xaddSend anchor (fun v => State.xaddBlock a a.xaddRows (a.xaddCells v els) t) t)
        else if a.sysWaits s then .wait s
        else
          match a.translate .alu .atomic a.xaddRows s with
          | (t, none) => a.stalled .alu .atomic a.xaddRows t s
          | (t, some l) =>
            match t.tieFaults a .alu .atomic l with
            | some e => e
            | none =>
              if t.piecesPoisoned .atomic l then .poison
              else
                let u := t.takePair a
                .done (a.xaddRead s n els) (xaddSend anchor (fun v => State.xaddAll a l (a.xaddCells v els) u) u)

/-- ATOM_XADD (R290). -/
def execAtomXadd (r : SubRef) (s : State) : Host.Outcome State Fault Refusal := onIssue 0x04 0x20 xaddEffect r s

end Sys2Proof.Machine
end

