-- ==== Sys2Proof/Machine/Vector.lean ====
section
/-!
DEFINITION. Group-collective instructions of the tile-vector engine (08_vector_engine.md).
-/

namespace Sys2Proof.Machine

/-! ### Issue -/

/-- An instruction that performs its global accesses, or fills a program slot, as it issues: the tile-vector instructions before it in its
group have completed by then (R223, R225, R409, R411; log 27). -/
def At.inOrder (a : At) (s : State) (k : Effect) : Effect := if a.g.vectorPending then .wait s else k

/-- A scalar as it would be shown in INFO. -/
def intInfo (v : Int) : Nat := (v % 2 ^ 64).toNat

/-- An instruction of the tile-vector engine joins it, and takes the pair where it names an accumulator (R319, R435). -/
def At.vector (a : At) (s : State) : Effect := a.enqueue .vector (if a.i.namesAcc a.b.regs then s.takePair a else s)

/-- vep.run issues (R422, R423, R427). -/
def vepRunEffect (a : At) (s : State) : Effect :=
  let i := a.i
  match vepCall a.b.regs a.g i (a.scalar i.src1) (a.scalar i.src2) (a.scalar i.dst) with
  | none => a.raise .operand (i.imm % 8)
  | some c =>
    let sh := c.shape
    let ports := [c.in0, c.in1, c.out]
    if !c.operandOk then a.raise .operand (a.scalar i.src1)
    else
      match ports.findSome? fun p => p.misaligned sh.1 sh.2 with
      | some x => a.raise .operand (intInfo x)
      | none =>
        match ports.findSome? fun p => p.beyond a.b.bmSize sh.1 sh.2 with
        | some x => a.raise .blockRange (intInfo x)
        | none => a.vector s

/-- vperm issues (R437). -/
def vpermEffect (a : At) (s : State) : Effect := a.vector s

/-- A summary issues (R442). -/
def vsumEffect (a : At) (s : State) : Effect := a.vector s

/-- Addresses of the 16 rows of vld.t and vst.t (R407): modulo 2^64 in global memory. -/
def At.tileRows (a : At) : List Int :=
  (List.range 16).map fun (r : Nat) => (a.scalar a.i.src1 : Int) + r * signedNat 64 (a.scalar a.i.src2)

/-- The rows as accesses of the issuer lane. -/
def At.tileAccesses (a : At) : List LaneAccess := a.tileRows.map fun v => ⟨a.g.issuer, intInfo v, 64⟩

/-- The operand check of vld.t and vst.t (R408). -/
def At.tileOperand (a : At) : Option Nat :=
  if a.scalar a.i.src1 % 4 ≠ 0 then some (a.scalar a.i.src1)
  else if a.scalar a.i.src2 % 4 ≠ 0 then some (a.scalar a.i.src2) else none

/-- The first row that extends beyond the allocation (R408). -/
def At.tileBeyond (a : At) : Option Int := a.tileRows.find? fun v => decide (v < 0) || decide ((a.b.bmSize : Int) < v + 64)

/-- The 256 words of 1,024 bytes (R406). -/
def tileWords (bytes : List Byte) : List Half := (elements 4 256 bytes).map (BitVec.ofNat 32)

/-- The bytes of a tile (R406). -/
def tileBytes (ws : List Half) : List Byte := ws.flatMap fun w => leBytes 4 w.toNat

/-- Bytes that the issuer's accesses read, once they have all come (R225). -/
def At.readAll (a : At) (acc : List LaneAccess) (s : State) (k : State → List Byte → Effect) : Effect :=
  match a.translate .vector .read acc s with
  | (t, none) => a.stalled .vector .read acc t s
  | (t, some l) =>
    match t.tieFaults a .vector .read l with
    | some e => e
    | none =>
      if t.piecesPoisoned .read l then .poison
      else
        let u := State.askPieces a .vector .read (fun _ => .read) l t
        if u.allAnswered a l then k u (l.flatMap (u.pieceBytes a)) else .wait u

/-- vld.t issues (R407 to R409). -/
def vldEffect (a : At) (s : State) : Effect :=
  match a.tileOperand with
  | some v => a.raise .operand v
  | none =>
    if a.i.blockMem then
      match a.tileBeyond with
      | some v => a.raise .blockRange (intInfo v)
      | none => a.vector s
    else
      a.inOrder s <| a.readAll a.tileAccesses s fun t bytes =>
        ({ a with g := { a.g with tiles := a.g.tiles.set (a.opd a.i.dst).number (tileWords bytes) } } : At).vector (t.lanesTake a)

/-- vst.t issues (R407 to R409). -/
def vstEffect (a : At) (s : State) : Effect :=
  match a.tileOperand with
  | some v => a.raise .operand v
  | none =>
    if a.i.blockMem then
      match a.tileBeyond with
      | some v => a.raise .blockRange (intInfo v)
      | none => a.vector s
    else
      a.inOrder s <|
        match a.translate .vector .write a.tileAccesses s with
        | (t, none) => a.stalled .vector .write a.tileAccesses t s
        | (t, some l) =>
          match t.tieFaults a .vector .write l with
          | some e => e
          | none =>
            let bytes := tileBytes (nth a.g.tiles (a.opd a.i.dst).number [])
            a.vector (State.storePieceList a .vector (fun _ => bytes) l 32 0 t)

/-- vep.load issues (R304, R410 to R412): the header and its checks, and then as many operation words as it names. -/
def vepLoadEffect (a : At) (s : State) : Effect :=
  a.inOrder s <|
    let va := a.scalar a.i.src1
    if va % 64 ≠ 0 then a.raise .operand va
    else
      a.readAll [⟨a.g.issuer, va, 64⟩] s fun t header =>
        if !(headerOk header) then a.raise .operand va
        else
          let n := imageOps header
          a.readAll [⟨a.g.issuer, (va + 64) % 2 ^ 64, 4 * n⟩] t fun u ops =>
            match parseProg header (elements 4 n ops) with
            | none => a.raise .operand va
            | some p =>
              ({ a with g := { a.g with progs := a.g.progs.set (a.i.imm % 8) (some p) } } : At).vector (u.lanesTake a)

/-- VEP_LOAD (R411). -/
def execVepLoad (r : SubRef) (s : State) : Host.Outcome State Fault Refusal := onIssue 0x11 0 vepLoadEffect r s

/-- VEP_RUN (R422). -/
def execVepRun (r : SubRef) (s : State) : Host.Outcome State Fault Refusal := onIssue 0x11 1 vepRunEffect r s

/-- VPERM (R437). -/
def execVperm (r : SubRef) (s : State) : Host.Outcome State Fault Refusal := onIssue 0x11 2 vpermEffect r s

/-- VLD_T (R407). -/
def execVldT (r : SubRef) (s : State) : Host.Outcome State Fault Refusal := onIssue 0x11 3 vldEffect r s

/-- VST_T (R407). -/
def execVstT (r : SubRef) (s : State) : Host.Outcome State Fault Refusal := onIssue 0x11 4 vstEffect r s

/-- VSUM_ANY (R443). -/
def execVsumAny (r : SubRef) (s : State) : Host.Outcome State Fault Refusal := onIssue 0x11 8 vsumEffect r s

/-- VSUM_ALL (R443). -/
def execVsumAll (r : SubRef) (s : State) : Host.Outcome State Fault Refusal := onIssue 0x11 9 vsumEffect r s

/-- VSUM_COUNT (R443). -/
def execVsumCount (r : SubRef) (s : State) : Host.Outcome State Fault Refusal := onIssue 0x11 10 vsumEffect r s

/-- VSUM_MIN (R444). -/
def execVsumMin (r : SubRef) (s : State) : Host.Outcome State Fault Refusal := onIssue 0x11 11 vsumEffect r s

/-- VSUM_MAX (R444). -/
def execVsumMax (r : SubRef) (s : State) : Host.Outcome State Fault Refusal := onIssue 0x11 12 vsumEffect r s

/-- VSUM_FIRST (R443). -/
def execVsumFirst (r : SubRef) (s : State) : Host.Outcome State Fault Refusal := onIssue 0x11 13 vsumEffect r s

/-! ### Completion -/

/-- Engine time of the tile-vector engine (R703, R801, R806). -/
def State.vectorTime (s : State) (b : Block) (cycles : Nat) : State :=
  let x := s.ctx b.ctx
  (((s.count 1 cycles).count (32 + b.cluster / 24) cycles).progCount b.cluster b.ctx 3 cycles).putCtx b.ctx
    { x with acct := { x.acct with vector := (x.acct.vector + cycles) % 2 ^ 64 } }

/-- A stored value in the stream type (R428). -/
def storedIn (t : SType) (rm : Rm) (f : PortFmt) (v : Nat) : Nat × Flags :=
  match f, t.fmt with
  | .float x, some y => if x = y then (v, 0) else fCvt x y rm v
  | .float x, none => fToInt x 32 rm v
  | .int32, some y => fOfInt y 32 rm v
  | .int32, none => (v, 0)

/-- An output in a storage format (R429). -/
def storedOut (t : SType) (rm : Rm) (f : PortFmt) (v : Nat) : Nat × Flags :=
  match f, t.fmt with
  | .float x, some y => if x = y then (v, 0) else fCvt y x rm v
  | .float x, none => fOfInt x 32 rm v
  | .int32, some y => fToInt y 32 rm v
  | .int32, none => (v, 0)

/-- An accumulator element in a stream type: FP32 first, then widened exactly or rounded (R428). -/
def accIn (t : SType) (rm : Rm) (acc : AccTile) (i : Nat) : Nat × Flags :=
  let v := match acc with
    | .fp32 els => (nth els i 0).toNat
    | .anchored _ _ => (encodeF .fp32 .nearest (acc.valueAt i)).1
  match t.fmt with
  | some y => if y = Fmt.fp32 then (v, 0) else fCvt .fp32 y rm v
  | none => (v, 0)

/-- Element (r, c) of an input port, with index `i`, and the flags of its conversion (R426, R428). -/
def State.portIn (s : State) (b : Block) (g : Group) (t : SType) (rm : Rm) (p : VPort) (i r c : Nat) : Nat × Flags :=
  match p with
  | .none_ => (0, 0)
  | .bad => (0, 0)
  | .tile n => (tileGet t (nth g.tiles n []) i, 0)
  | .acc n => accIn t rm (g.acc n) i
  | .value v => (v % 2 ^ t.bits, 0)
  | .mem f base row col => storedIn t rm f (leNat (s.bmRead b (memAddr base row col r c).toNat f.bytes))

/-- The outputs of a call over its shape, in index order, and the flags raised (R416, R417). -/
def State.vepOutputs (s : State) (b : Block) (g : Group) (c : VepCall) : List Nat × Flags :=
  let rm := Rm.ofField c.prog.rm
  let sh := c.shape
  let r := (List.range (sh.1 * sh.2)).map fun i =>
    let x := s.portIn b g c.t rm c.in0 i (i / sh.2) (i % sh.2)
    let y := s.portIn b g c.t rm c.in1 i (i / sh.2) (i % sh.2)
    let v := vepElement c.prog c.t g.ftz32 x.1 y.1 (i / sh.2) (i % sh.2)
    (v.1, v.2 ||| x.2 ||| y.2)
  (r.map (·.1), r.foldl (fun f x => f ||| x.2) 0)

/-- Bytes of a MEM input port that an output byte overlaps otherwise than element by element (R430). -/
def VPort.clashes (out inp : VPort) (rows cols : Nat) (at_ : Int) : Bool :=
  if out.addresses rows cols = inp.addresses rows cols then false
  else (inp.addresses rows cols).any fun x => decide (x ≤ at_) && decide (at_ < x + inp.bytes)

/-- Output elements laid down in block memory, one after another; bytes that overlap an input range are free (R430; log 27). -/
def State.vepStore (s : State) (b : Block) (c : VepCall) (f : PortFmt) (vals : List Nat) : State :=
  let sh := c.shape
  (List.zip (c.out.addresses sh.1 sh.2) vals).foldl (fun t x =>
    let bytes := leBytes f.bytes x.2
    let hit := fun (k : Nat) => c.out.clashes c.in0 sh.1 sh.2 (x.1 + k) || c.out.clashes c.in1 sh.1 sh.2 (x.1 + k)
    let r := if (List.range bytes.length).any hit then t.scramble hit bytes else (t, bytes)
    r.1.bmWrite b x.1.toNat r.2) s

/-- The outputs go to their place (R429): the state, the group, and the flags of the conversions. -/
def State.vepPut (s : State) (b : Block) (g : Group) (c : VepCall) (outs : List Nat) : State × Group × Flags :=
  let rm := Rm.ofField c.prog.rm
  match c.out with
  | .tile n => (s, { g with tiles := g.tiles.set n (tileOf c.t outs) }, 0)
  | .acc n =>
    let r := outs.map fun v => storedOut c.t rm (.float .fp32) v
    (s, g.setAcc n (.fp32 (r.map fun x => BitVec.ofNat 32 x.1)), r.foldl (fun f x => f ||| x.2) 0)
  | .mem f _ _ _ =>
    let r := outs.map fun v => storedOut c.t rm f v
    (s.vepStore b c f (r.map (·.1)), g, r.foldl (fun f x => f ||| x.2) 0)
  | _ => (s, g, 0)

/-- Elements per beat (R403). -/
def SType.rate : SType → Nat
  | .fp32 => 128
  | .fp64 => 64
  | .bf16 => 256
  | .int32 => 128

/-- Cycles of a run (R431). -/
def VepCall.cycles (c : VepCall) : Nat :=
  let sh := c.shape
  let slow := c.prog.ops.countP fun w => let o := (vepOp w).opc; decide (0x10 ≤ o) && decide (o ≤ 0x15)
  ((sh.1 * sh.2 + c.t.rate - 1) / c.t.rate) * (c.prog.ops.length + 7 * slow)

/-- vep.run (R416 to R430): where the program reads a port, a read of an out-of-window element sets OVERFLOW_HIGH (R350). -/
def State.vepRun (s : State) (b : Block) (g : Group) (c : VepCall) : State × Group :=
  let o := s.vepOutputs b g c
  let mark := fun (g : Group) (p : VPort) (sel : Nat) => match p with
    | .acc n => if c.prog.ops.any fun w => vepReads w sel then g.readAcc n else g
    | _ => g
  let g := mark (mark g c.in0 8) c.in1 9
  let r := s.vepPut b g c o.1
  (r.1.vectorTime b c.cycles, { r.2.1 with vstat := r.2.1.vstat ||| o.2 ||| r.2.2 })

/-- Elements that a summary reads, in index order (R442). -/
def summaryElements (g : Group) (t : SType) (o : Opd) (len : Nat) : List Nat :=
  match o with
  | .tile n => (List.range (if len = 0 then t.count else len)).map (tileGet t (nth g.tiles n []))
  | .acc n => (List.range accSize).map fun i => (accIn t .nearest (g.acc n) i).1
  | _ => []

def summaryOf (op : Nat) : Summary :=
  match op with
  | 8 => .any
  | 9 => .all
  | 10 => .count
  | 11 => .min
  | 12 => .max
  | _ => .first

/-- A summary (R442 to R444): where another sub-group has written the scalar since the summary issued, the summary's write, which is the
later, stands (R208; DESIGN CHOICE, log 140). The spec gives no reading of an accumulator's elements in INT32 (log 28). -/
def State.vsum (s : State) (b : Block) (g : Group) (i : Insn) : State × Group :=
  let o := opdOf b.regs i.src1
  let t := sTypeOf i.mod
  let d := (opdOf b.regs i.dst).scalarNo
  let g := if o.isAcc then g.readAcc o.number else g
  let s := s.vectorTime b (if o.isAcc then 64 else 4)
  if o.isAcc && decide (t = .int32) then (s.fresh.2, g.setScalar d (openSummary (summaryOf i.op) s.fresh.1).toNat)
  else (s, g.setScalar d (summary (summaryOf i.op) t g.ftz32 (summaryElements g t o (i.imm / 64))).toNat)

/-- The engine performs an instruction (R403 to R444); one with global accesses has performed them already. -/
def State.vectorOp (s : State) (b : Block) (g : Group) (o : GcOp) : State × Group :=
  let i := insnOf o.pc o.word o.ext
  let d := (opdOf b.regs i.dst).number
  match i.op with
  | 0 => (s.vectorTime b 16, g)
  | 1 =>
    match vepCall b.regs g i o.s1 o.s2 o.sd with
    | some c => s.vepRun b g c
    | none => (s, g)
  | 2 =>
    let r := permute (sTypeOf i.mod) (i.imm / 64) (nth g.tiles (opdOf b.regs i.src1).number []) (nth g.tiles (opdOf b.regs i.src2).number [])
    (s.vectorTime b 4, { g with tiles := g.tiles.set d r.1, range := g.range || r.2 })
  | 3 =>
    let s' := s.vectorTime b 8
    if i.blockMem then
      (s', { g with tiles := g.tiles.set d (tileWords ((List.range 16).flatMap fun r => s.bmRead b (o.row r) 64)) })
    else (s', g)
  | 4 =>
    let ws := tileBytes (nth g.tiles d [])
    let s' := s.vectorTime b 8
    if i.blockMem then
      ((List.range 16).foldl (fun t r => t.bmWrite b (o.row r) ((ws.drop (64 * r)).take 64)) s', g)
    else (s', g)
  | _ => s.vsum b g i

/-- The instruction is the oldest that its core's tile-vector engine holds (R433). -/
def State.vectorFirst (s : State) (b : Block) (grp : Nat) (o : GcOp) : Bool :=
  (s.vectorOps b.cluster (nth b.cores grp 0)).all fun x => decide (o.order ≤ x.order)

/-- VECTOR_OP_COMPLETE (R431, R433): the core's oldest instruction in the engine, which is its group's oldest, completes. -/
def execVectorOpComplete (blk grp : Nat) (s : State) : Host.Outcome State Fault Refusal :=
  .next (match s.block blk, s.group blk grp with
    | some b, some g =>
      match g.ops with
      | o :: rest =>
        if o.pipe != .vector || g.stopped || !(s.vectorFirst b grp o) then s
        else
          let r := { g with ops := rest }.raising s.abaom.posts fun h => s.vectorOp b h o
          (r.1.putGroup blk grp r.2).settleGroup blk grp
      | [] => s
    | _, _ => s)

end Sys2Proof.Machine
end

