-- ==== Sys2Proof/Machine/Trace.lean ====
section
/-!
DEFINITION. Programmable counters, station marks, trace units and the trigger (R804 to R824).
-/

namespace Sys2Proof.Machine

/-! ### Programmable counters (R804 to R808) -/

/-- COUNTER_CONFIG. -/
def State.counterConfig (s : State) (n : Nat) : State :=
  let a0 := s.arg n 0
  let a1 := s.arg n 1
  let owner := s.boundCtx n
  let part := match owner with | some c => (s.ctx c).partition | none => a0 / 2 ^ 8 % 16
  let k := 16 * part + a0 % 16
  let old := nth s.obs.sels k CounterSel.reset
  let mine := match owner with | some c => !old.fromK && old.owner == c | none => true
  if old.valid && !mine then s.complete n stResourceBusy []
  else
    let event := a1 % 256
    let sel : CounterSel :=
      if event = 0 then { old with valid := false }
      else
        { valid := true, fromK := owner.isNone, filter := owner.isSome || a1 / 2 ^ 15 % 2 == 1, owner := owner.getD 0,
          ctx := owner.getD (a1 / 2 ^ 8 % 64), event }
    let clear := a0 / 2 ^ 16 % 2 == 1
    let zero := fun (i v : Nat) => if clear && i % 16 == a0 % 16 && s.partOf (i / 16 / 24) == part then 0 else v
    (s.setObs { s.obs with sels := s.obs.sels.set k sel, prog := s.obs.prog.mapIdx zero }).complete n stOk []

/-- COUNTER_CONFIG (R805 to R807). -/
def execCounterConfig (mbx : Nat) (s : State) : Host.Outcome State Fault Refusal :=
  runCommand mbx 0x0C01 (fun s => s.counterConfig mbx) s

/-! ### Marks (R809, R810, R813, R821) -/

/-- A mark record reaches its unit: it is counted when accepted, and may be the trigger; with the category off no record is
made, and the condition of a trigger is met all the same (R813, R821). -/
def State.markRecord (s : State) (u id mt flags : Nat) (rec : List Word) : State :=
  let fire := fun (t : State) => if t.obs.trig.source = 3 ∧ t.obs.trig.matchKey = id then t.fireTrigger mt else t
  if !((s.unit u).mark) then fire s
  else
    match s.trace u mt flags rec with
    | (t, true) => fire (t.count 57 1)
    | (t, false) => t

/-- The value of a mark counter of a unit in a cluster; zero when it is disabled. -/
def State.markCounter (s : State) (cluster : Nat) (c : Option Nat) : Nat :=
  match c with
  | some j => nth s.obs.prog (16 * cluster + j) 0
  | none => 0

/-- mark.begin and mark.end (R296, R809). -/
def markEffect (ends : Bool) (a : At) (s : State) : Effect :=
  let u := a.b.cluster / 24
  let flags := s.plumbFlags u false false
  let mt := s.replica u
  let t := s.unit u
  .done a.g (s.markRecord u a.i.imm mt flags
    (recordOf [traceHead 0x01 u (flagNat ends) a.b.cluster (some a.b.ctx) flags, mt, a.i.imm, a.scalar a.i.src1,
      placed a.b.index 32 + a.gi, a.i.pc, s.markCounter a.b.cluster t.markA, s.markCounter a.b.cluster t.markB]))

/-- MARK_BEGIN (R809). -/
def execMarkBegin (r : SubRef) (s : State) : Host.Outcome State Fault Refusal := onIssue 0x08 0 (markEffect false) r s

/-- MARK_END (R809). -/
def execMarkEnd (r : SubRef) (s : State) : Host.Outcome State Fault Refusal := onIssue 0x08 1 (markEffect true) r s

/-- A MARK entry (R809, R810). -/
def State.markEntry (s : State) (watch k : Nat) (p : Pass) (e : Entry) : State :=
  if e.word 2 / 2 ^ 17 ≠ 0 ∨ e.word 4 ≠ 0 ∨ e.word 5 ≠ 0 ∨ e.word 6 ≠ 0 ∨ e.word 7 ≠ 0 then s.endEntry watch k stBadArg 0
  else
    let id := e.word 2 % 2 ^ 16
    let t := s.markRecord 8 id e.startMt e.startFlags
      (recordOf [traceHead 0x01 8 (2 + e.word 2 / 2 ^ 16 % 2) 0xFF (some p.ctx) e.startFlags, e.startMt, id, e.word 3,
        placed k 32, e.tag])
    t.endEntry watch k stOk 0

/-- MARK (R809). -/
def execMark (watch entry : Nat) (s : State) : Host.Outcome State Fault Refusal :=
  onEntry watch entry 6 (fun p e s => s.markEntry watch entry p e) s

/-! ### The commands of TRACE_CONFIG (R818, R819, R823) -/

/-- The units that a command names. -/
def State.namedUnits (s : State) (n : Nat) : List Nat :=
  let u := s.arg n 0 / 2 ^ 8 % 16
  if u = 15 then List.range 9 else [u]

/-- A TRACE_CONFIG with the given operation. -/
def runTrace (n op : Nat) (f : State → State) (s : State) : Host.Outcome State Fault Refusal :=
  runCommand n 0x0C00 (fun s => if s.arg n 0 % 16 = op then f s else s) s

/-- Byte size of a unit's buffer. -/
def TraceUnit.bytes (u : TraceUnit) : Nat := u.sizeMiB * 2 ^ 20

/-- Two runs of bytes overlap. -/
def overlaps (a n b m : Nat) : Bool := decide (a < b + m) && decide (b < a + n)

/-- SET (R818, R819). -/
def State.traceSet (s : State) (n : Nat) : State :=
  let us := s.namedUnits n
  let size := s.arg n 2
  let baseOf := fun (u : Nat) => s.arg n 1 + (if us.length = 1 then 0 else u * size * 2 ^ 20)
  let leaves := us.any fun u => !(s.inHbm (baseOf u) (size * 2 ^ 20))
  let meets := us.any fun u => (List.range 9).any fun v =>
    !(us.contains v) && (s.unit v).configured && overlaps (baseOf u) (size * 2 ^ 20) (s.unit v).base (s.unit v).bytes
  if us.any fun u => (s.unit u).st != .off then s.complete n stBadState []
  else if leaves || meets then s.complete n stBadArg []
  else
    let a3 := s.arg n 3
    let a4 := s.arg n 4
    let set := fun (t : State) (u : Nat) => t.putUnit u { t.unit u with
      configured := true, base := baseOf u, sizeMiB := size, mode := a3 % 4, mark := a3 / 2 ^ 8 % 2 == 1,
      sample := a3 / 2 ^ 9 % 2 == 1, quota := a3 / 2 ^ 16 % 2 ^ 16, interval := a4 % 2 ^ 16,
      markA := if a4 / 2 ^ 24 % 2 = 1 then some (a4 / 2 ^ 16 % 16) else none,
      markB := if a4 / 2 ^ 25 % 2 = 1 then some (a4 / 2 ^ 20 % 16) else none }
    (us.foldl set s).complete n stOk []

/-- TRACE_SET (R819). -/
def execTraceSet (mbx : Nat) (s : State) : Host.Outcome State Fault Refusal := runTrace mbx 0 (fun s => s.traceSet mbx) s

/-- ENABLE (R819): a unit that is OFF starts at slot 0 with a SYNC record (R814); one that runs goes on. -/
def State.enableUnit (s : State) (u : Nat) : State :=
  if (s.unit u).st != .off then s
  else
    (s.putUnit u { s.unit u with
      st := .running, wrapped := false, wptr := 0, written := 0, windowEnd := none, fullDrops := 0, fullFirst := 0,
      fullHead := 0, lastSample := s.mt }).syncUnit u

/-- ENABLE. -/
def State.traceEnable (s : State) (n : Nat) : State :=
  let us := s.namedUnits n
  if us.any fun u => !((s.unit u).configured) then s.complete n stBadState []
  else if us.any fun u => !(s.unitLive u) then s.complete n stNoResource []
  else (us.foldl State.enableUnit s).complete n stOk []

/-- TRACE_ENABLE (R819). -/
def execTraceEnable (mbx : Nat) (s : State) : Host.Outcome State Fault Refusal := runTrace mbx 1 (fun s => s.traceEnable mbx) s

/-- A DISABLE waits for the FIFO of some unit. -/
def State.drains (s : State) (n : Nat) : Bool := s.obs.units.any fun u => u.disabling.contains n

/-- Every unit whose FIFO has drained for a DISABLE is OFF; a DISABLE that waits for no unit any more ends (R819). -/
def State.settleDisable (s : State) : State :=
  let waiting := (s.obs.units.flatMap (·.disabling)).eraseDups
  let done := fun (u : TraceUnit) => !u.disabling.isEmpty && u.fifo.isEmpty
  let t := s.setObs { s.obs with units := s.obs.units.map fun u => if done u then { u with st := .off, disabling := [] } else u }
  (waiting.filter fun n => !t.drains n).foldl (fun t n => t.complete n stOk []) t

/-- DISABLE. -/
def State.traceDisable (s : State) (n : Nat) : State :=
  let us := s.namedUnits n
  let t := us.foldl (fun (t : State) u =>
    if (t.unit u).st == .off then t else t.putUnit u { t.unit u with disabling := n :: (t.unit u).disabling }) s
  if t.drains n then (t.begin_ n).settleDisable else t.complete n stOk []

/-- TRACE_DISABLE (R819). -/
def execTraceDisable (mbx : Nat) (s : State) : Host.Outcome State Fault Refusal := runTrace mbx 2 (fun s => s.traceDisable mbx) s

/-- The SRAM of a unit, oldest record first (R823). -/
def TraceUnit.dump (u : TraceUnit) : List Byte :=
  ((u.sram.drop u.lgNext ++ u.sram.take u.lgNext).flatMap id).flatMap fun w => leBytes 8 w.toNat

/-- DUMP: with every unit named, one after another in unit order. -/
def State.traceDump (s : State) (n : Nat) : State :=
  let us := s.namedUnits n
  if !(s.inHbm (s.arg n 1) (us.length * 65536)) then s.complete n stBadArg []
  else
    (us.zipIdx.foldl (fun (t : State) u => t.hubWrite (s.arg n 1 + 65536 * u.2) (t.unit u.1).dump) s).complete n stOk []

/-- TRACE_DUMP (R823). -/
def execTraceDump (mbx : Nat) (s : State) : Host.Outcome State Fault Refusal := runTrace mbx 4 (fun s => s.traceDump mbx) s

/-- The SRAM of a unit records again (R823). -/
def State.unfreeze (s : State) (u : Nat) : State := s.putUnit u { s.unit u with frozen := false }

/-- TRACE_RELEASE (R823). -/
def execTraceRelease (mbx : Nat) (s : State) : Host.Outcome State Fault Refusal :=
  runTrace mbx 5 (fun s => ((s.namedUnits mbx).foldl State.unfreeze s).complete mbx stOk []) s

/-- FROZEN_CLEAR (R823). -/
def execFrozenClear (unit : Nat) (s : State) : Host.Outcome State Fault Refusal :=
  onEvent (decide (unit < 9)) (fun s => s.unfreeze unit) s

/-! ### The trigger (R821, R822) -/

/-- Slots of a unit's buffer (R820). -/
def TraceUnit.slots (u : TraceUnit) : Nat := u.bytes / 64

/-- A unit takes the trigger: its TRIGGER record, and the quota of a WINDOW buffer (R813, R820, R821). -/
def State.triggerUnit (s : State) (u : Nat) : State :=
  let x := s.unit u
  let g := s.obs.trig
  let flags := s.hubFlags g.late
  let windowed := x.st == .running && x.mode == 2
  let at_ := if windowed then (x.wptr + x.fifo.length) % x.slots else 0
  let r := s.trace u g.mt flags
    (recordOf [traceHead 0x10 u 0 0xFF none flags, g.mt, placed g.matchKey 16 + g.source, if g.source = 1 then g.stake else 0, at_])
  let y := r.1.unit u
  if x.st != .running then r.1
  else
    r.1.putUnit u { y with
      st := .triggered,
      windowEnd := if windowed then some ((at_ + x.quota * 16384 - 1) % x.slots) else none }

/-- Every unit takes a trigger that has fired and waits to be taken (R821). -/
def State.takeTrigger (s : State) : State :=
  if s.obs.trig.pending then
    ((List.range 9).filter s.unitLive).foldl State.triggerUnit
      (s.setObs { s.obs with trig := { s.obs.trig with pending := false } })
  else s

/-- The armed trigger goes, and what it held is free. -/
def State.dropTrigger (s : State) : State :=
  let s := match s.obs.trig.alloc with | some id => s.dropAlloc id | none => s
  s.setTime { s.time with trigHeld := s.time.trigHeld && !(s.obs.trig.armed && s.obs.trig.source == 2) }

/-- The trigger armed with a source. -/
def State.armTrigger (s : State) (source key stake : Nat) (alloc : Option Nat) : State :=
  s.setObs { s.obs with trig := { s.obs.trig with
    armed := source != 0, fired := false, source, matchKey := key, stake, alloc, pending := false } }

/-- ARM. -/
def State.traceArm (s : State) (n : Nat) : State :=
  let source := s.arg n 1 % 16
  let key := s.arg n 1 / 2 ^ 16 % 2 ^ 16
  if source = 2 ∧ s.time.ppsTime then s.complete n stResourceBusy [0, placed 4 20 + placed 0xF 12]
  else if source = 1 then
    match s.dropTrigger.allocate 8 3 (s.arg n 2) (s.mailboxOwner n) .traceTrigger with
    | (t, .granted id) => (t.armTrigger source key (s.arg n 2) (some id)).complete n stOk []
    | (_, .busy w) =>
      match s.allocate 8 3 (s.arg n 2) (s.mailboxOwner n) .traceTrigger with
      | (_, .busy w') => s.complete n stResourceBusy [0, w']
      | _ => s.complete n stResourceBusy [0, w]
    | (_, .noResource) => s.complete n stNoResource []
  else
    let t := s.dropTrigger.armTrigger source key 0 none
    let t := if source = 2 then t.setTime { t.time with trigHeld := true } else t
    (if source = 5 then t.fireTrigger t.mt else t).complete n stOk []

/-- TRACE_ARM (R821, R822): a trigger that has fired is taken by its units first. -/
def execTraceArm (mbx : Nat) (s : State) : Host.Outcome State Fault Refusal :=
  runTrace mbx 6 (fun s => s.takeTrigger.traceArm mbx) s

/-- TRACE_TRIGGER (R821). -/
def execTraceTrigger (s : State) : Host.Outcome State Fault Refusal :=
  onEvent s.obs.trig.pending State.takeTrigger s

/-! ### Samples and the buffer (R813, R815, R816, R820) -/

/-- The three SAMPLE records of a cluster (R813). -/
def State.sampleCluster (s : State) (cluster mt : Nat) : State :=
  let u := cluster / 24
  let flags := s.plumbFlags u false false
  (List.range 3).foldl (fun t sub =>
    (t.trace u mt flags
      (recordOf ([traceHead 0x02 u sub cluster none flags, mt]
        ++ (List.range (if sub = 2 then 4 else 6)).map fun i => nth s.obs.prog (16 * cluster + 6 * sub + i) 0))).1) s

/-- The latest whole multiple of a unit's sampling interval, once it lies after its last sample. -/
def State.sampleDue (s : State) (u : Nat) : Option Nat :=
  let x := s.unit u
  let step := x.interval * 8000
  let due := s.mt / step * step
  if x.st != .off && x.sample && decide (0 < x.interval) && decide (x.lastSample < due) then some due else none

/-- Every cluster of a unit takes its sample. -/
def State.sampleUnit (s : State) (u : Nat) : State :=
  match s.sampleDue u with
  | none => s
  | some mt =>
    (((List.range 24).map (24 * u + ·)).filter s.clusterUp).foldl (fun t c => t.sampleCluster c mt)
      (s.putUnit u { s.unit u with lastSample := mt })

/-- TRACE_SAMPLE (R813). -/
def execTraceSample (s : State) : Host.Outcome State Fault Refusal :=
  .next ((List.range 8).foldl State.sampleUnit s)

/-- Bytes of a record as they lie in memory. -/
def recordBytes (rec : List Word) : List Byte := rec.flatMap fun w => leBytes 8 w.toNat

/-- A record written to a slot of a unit's buffer: the hub's own writes wake nobody (R164, R815). -/
def State.writeSlot (s : State) (u slot : Nat) (rec : List Word) : State :=
  let pa := (s.unit u).base + 64 * slot
  let t := s.placeRange pa 64 .background none
  if u = 8 then t.hubWrite pa (recordBytes rec) else t.hbmWrite pa (recordBytes rec)

/-- The buffer or its quota has no room for the next record (R820). -/
def TraceUnit.full (u : TraceUnit) : Bool :=
  u.st == .stopped || (u.mode == 0 && decide (u.slots ≤ u.wptr + 1)) || u.windowEnd == some u.wptr

/-- A record refused by a full buffer: the first makes the DROP record with FULL in the last slot, which takes the next SEQ and
lies in the last-gasp SRAM; each further one brings its COUNT and last stamp up to date (R816, R817, R820; log 57). -/
def State.refuseRecord (s : State) (u : Nat) (rec : List Word) : State :=
  let x := s.unit u
  let mt := (nth rec 1 0).toNat
  let begins := x.fullDrops == 0
  let first := if begins then mt else x.fullFirst
  let head := if begins then traceHead 0x11 u 1 0xFF none (s.hubFlags false) + x.seq else x.fullHead
  let drop := recordOf [head, first, x.fullDrops + 1, first, mt]
  let y := if begins then { ({ x with st := .off }).enter drop with dropRecs := (x.dropRecs + 1) % 2 ^ 32 } else x
  ((s.putUnit u { y with
      st := .stopped, fullDrops := x.fullDrops + 1, fullFirst := first, fullHead := head,
      dropped := (x.dropped + 1) % 2 ^ 32 }).count 56 1).writeSlot u x.wptr drop

/-- A record written to the next slot (R820). -/
def State.keepRecord (s : State) (u : Nat) (rec : List Word) : State :=
  let x := s.unit u
  (s.writeSlot u x.wptr rec).putUnit u { x with
    wptr := if x.mode = 0 then x.wptr + 1 else (x.wptr + 1) % x.slots, written := x.written + 1,
    wrapped := x.wrapped || (decide (x.mode ≠ 0) && decide (x.slots ≤ x.written)) }

/-- TRACE_BUFFER_WRITE: the oldest record of the FIFO goes to the buffer, and an owed DROP record takes its room (R816). -/
def State.bufferWrite (s : State) (u : Nat) : State :=
  let x := s.unit u
  match x.fifo with
  | [] => s
  | rec :: rest =>
    let t := s.putUnit u { x with fifo := rest }
    let t := if x.full then t.refuseRecord u rec else t.keepRecord u rec
    let t := t.putUnit u ((t.unit u).settle u (t.hubFlags false))
    if (t.unit u).disabling.isEmpty then t else t.settleDisable

/-- TRACE_BUFFER_WRITE (R815). -/
def execTraceBufferWrite (unit : Nat) (s : State) : Host.Outcome State Fault Refusal :=
  onEvent (decide (unit < 9) && (s.unit unit).st != .off) (fun s => s.bufferWrite unit) s

end Sys2Proof.Machine
end

