-- ==== Sys2Proof/Machine/Copies.lean ====
section
/-!
DEFINITION. Asynchronous copies (R226 to R237, R293, R294, R379 to R399, R436) and page-table walks (R448 to R476).
-/

namespace Sys2Proof.Machine

/-! ### Issue of xfer.cv -/

/-- Source length of an xfer.cv (R293). -/
def At.copyLength (a : At) : Nat := if a.i.mod / 4 % 2 = 1 then a.scalar (256 + a.i.imm) else a.i.ext / 2 ^ 41

/-- Block-memory offset of its counter (R293). -/
def At.copyCounter (a : At) : Nat := (a.scalar a.i.dst + 8 * (a.i.ext / 2 ^ 15 % 2 ^ 18)) % 2 ^ 64

/-- The stream slot of a block (R395). -/
def State.streamSlot (s : State) (b : Block) : Stream where
  key := s.bmRead b 0 32
  id := leNat (s.bmRead b 32 8)
  counter := leNat (s.bmRead b 40 8)

/-- The last instruction of the group in its engines that still has to write block memory (R223, R436). -/
def Group.lastWriter (g : Group) (regs : Nat) : Option Nat :=
  ((g.ops.filter fun o => !(o.writes regs g).isEmpty).getLast?).map (·.seq)

/-- xfer.cv (R226, R235, R293, R294, R383, R396): its checks, in the order of R304. A range of length 0 whose offset lies beyond the
allocation raises BLOCK_RANGE: whether an empty range extends beyond it is open (DESIGN CHOICE, log 138). -/
def xferEffect (a : At) (s : State) : Effect :=
  let len := a.copyLength
  let src := a.scalar a.i.src1
  let dst := a.scalar a.i.src2
  let ctr := a.copyCounter
  let srcBm := a.i.mod % 2 == 1
  let dstBm := a.i.mod / 2 % 2 == 1
  let core := nth a.b.cores a.gi 0
  match convOf (a.i.ext / 2 ^ 33 % 256) with
  | none => .raise .illegal a.sg.mask 0
  | some c =>
    if 4194304 < len then a.raise .operand len
    else
      match c.dstLen len with
      | none => a.raise .operand len
      | some out =>
        if !(c.aligned src dst) then a.raise .operand (if c.aligned src 0 then dst else src)
        else if ctr % 8 ≠ 0 then a.raise .align ctr
        else if !(a.b.holds ctr 8) then a.raise .blockRange ctr
        else if srcBm && !(a.b.holds src len) then a.raise .blockRange src
        else if dstBm && !(a.b.holds dst out) then a.raise .blockRange dst
        else if c.stochastic && decide (a.b.bmSize < 64) then a.raise .blockRange 0
        else if out = 0 then .done a.g s
        else
          let x : Copy := {
            id := a.b.nextCopy, core, group := a.gi, srcBm, src, dstBm, dst, len, conv := a.i.ext / 2 ^ 33 % 256,
            stream := if c.stochastic then s.streamSlot a.b else ⟨[], 0, 0⟩, counter := ctr, left := [(0, out)], sent := [],
            after := a.g.lastWriter a.b.regs }
          .done a.g (s.putBlock { a.b with copies := a.b.copies ++ [x], nextCopy := x.id + 1 })

/-- XFER_CV (R293). -/
def execXferCv (r : SubRef) (s : State) : Host.Outcome State Fault Refusal := onIssue 0x06 0 xferEffect r s

/-! ### Landing (R229, R230, R236) -/

/-- A part of a range that lies in one 64 KiB page. -/
def pageParts : Nat → Nat → Nat → List (Nat × Nat)
  | 0, _, _ => []
  | fuel + 1, va, n =>
    if n = 0 then []
    else
      let size := min n (65536 - va % 65536)
      (va, size) :: pageParts fuel ((va + size) % 2 ^ 64) (n - size)

/-- A walk for a copy: its fault finds it accepted long since (R465). -/
def copyWalk (b : Block) (c : Copy) (va : Nat) (k : AccKind) : WalkReq where
  ctx := b.ctx
  va := va
  kind := k
  engine := .copy
  by_ := .cluster b.cluster
  who := .copy b.id c.id va
  site := some (retiredSite b c.group va)

/-- A global range of a copy as pieces, or with walks asked for the pages that miss (R236, R458). -/
def State.copyPieces (s : State) (b : Block) (c : Copy) (k : AccKind) (va n : Nat) : State × Option (List Piece) :=
  let parts := pageParts (n / 65536 + 2) va n
  let look := fun (p : Nat × Nat) => s.lookup b.cluster c.core .copy b.ctx p.1 k
  let missed := parts.filter fun p => look p == .miss
  if missed.isEmpty then
    (s, some (splitPieces (parts.filterMap fun p => match look p with
      | .hit t => some ⟨t, p.1, p.2⟩
      | .miss => none)))
  else
    let waits := fun (va : Nat) => s.xlat.waits.any fun w => w.req.who == .copy b.id c.id va
    ((missed.filter fun p => !(waits p.1)).foldl (fun t p => t.missTlb c.core (copyWalk b c p.1 k)) s, none)

/-- A copy meets a fault that no replay can mend (R465, R479). -/
def State.copyFault (s : State) (b : Block) (c : Copy) (k : AccKind) (va : Nat) (f : FaultInfo) : State :=
  ((s.recordFault b.ctx va k (.cluster b.cluster) .copy f 1).1).takeException b .translation (retiredSite b c.group va)

/-- Source bytes that a range of destination bytes is made from: first and count. An MX run is taken whole. -/
def Conv.needs (c : Conv) (len lo count : Nat) : Nat × Nat :=
  match c with
  | .none => (lo, count)
  | .plain f d _ => (lo / d.bytes * f.bytes, ((lo + count - 1) / d.bytes - lo / d.bytes + 1) * f.bytes)
  | .quant _ _ _ _ _ => (0, len)
  | .dequant _ _ _ _ => (0, len)

/-- How the source of a range is read. -/
inductive CopyRead where
  | bytes (l : List Byte)
  | stop
deriving DecidableEq, Repr

/-- The source bytes of a range of a copy, wherever they lie. -/
def State.copySource (s : State) (b : Block) (c : Copy) (first n : Nat) : State × CopyRead :=
  if c.srcBm then (s, .bytes (s.bmRead b (c.src + first) n))
  else
    match s.copyPieces b c .read ((c.src + first) % 2 ^ 64) n with
    | (t, none) => (t, .stop)
    | (t, some l) =>
      match State.fetchPieces b.ctx (.copy b.id c.id 0) (.cluster b.cluster) .copy l t with
      | (u, .bytes x) => (u, .bytes x)
      | (u, .waits) => (u, .stop)
      | (u, .fault va f) => (u.copyFault b c .read va f, .stop)
      | (u, .poison) => (u.hwFault b.ctx, .stop)

/-- A copy's bytes go to their pieces; a far device's acknowledgement is awaited under the name of the piece (R477). -/
def State.copyStore (b : Block) (c : Copy) : List Piece → List Byte → State → State × Stored
  | [], _, s => (s, .done)
  | p :: l, bytes, s =>
    let id := s.xlat.nextTie
    let window := match p.target with | .tie _ w _ => w | .local_ _ => 0
    let t := s.setXlat { s.xlat with nextTie := id + 1 }
    match t.enginePiece b.ctx (.tieWrite id b.ctx p.va b.cluster b.id c.group .copy window .write) p (bytes.take p.size) with
    | (u, .done) => State.copyStore b c l (bytes.drop p.size) u
    | r => r

/-- The state with another copy, or without it when all of it has landed (R237). -/
def State.putCopy (s : State) (blk : Nat) (c : Copy) : State :=
  match s.block blk with
  | none => s
  | some b =>
    let gone := c.left.isEmpty && c.sent.isEmpty
    s.putBlock { b with copies := b.copies.flatMap fun d => if d.id = c.id then (if gone then [] else [c]) else [d] }

/-- A range taken out of a list of ranges, if it lies within one. -/
def takeRange : List (Nat × Nat) → Nat → Nat → Option (List (Nat × Nat))
  | [], _, _ => none
  | (a, n) :: l, lo, count =>
    if a ≤ lo ∧ lo + count ≤ a + n then
      some ((if a < lo then [(a, lo - a)] else []) ++ (if lo + count < a + n then [(lo + count, a + n - (lo + count))] else []) ++ l)
    else (takeRange l lo count).map fun r => (a, n) :: r

/-- Landed bytes are counted: the arrival counter (R229), the engine's time and the bytes (R703, R801, R806). -/
def State.countLanded (s : State) (b : Block) (c : Copy) (n : Nat) : State :=
  let x := s.ctx b.ctx
  let s := s.bmWrite b c.counter (leBytes 8 ((s.counterAt b c.counter + n) % 2 ^ 64))
  ((s.count 3 1).progCount b.cluster b.ctx 5 n).putCtx b.ctx { x with acct := { x.acct with copy := (x.acct.copy + 1) % 2 ^ 64 } }

/-- Destination bytes at global addresses lie with a far device, which has not acknowledged them. -/
def State.unackedCopy (s : State) (b : Block) (va n : Nat) : Bool :=
  s.fab.sends.any fun f => (f.unacked ++ f.waiting).any fun u =>
    match u.op with
    | .tieWrite _ _ v _ k _ e _ _ => k == b.id && e == .copy && decide (va ≤ v) && decide (v < va + n)
    | _ => false

/-- A converting copy whose ranges overlap leaves free values in the overlap (R384). -/
def State.copyScramble (s : State) (c : Copy) (out lo : Nat) (conv : Conv) (bytes : List Byte) : State × List Byte :=
  let same := c.srcBm == c.dstBm && conv != .none
  let hit := fun (i : Nat) => overlapAt c.src c.len c.dst (lo + i)
  if same && decide (0 < out) && (List.range bytes.length).any hit then s.scramble hit bytes else (s, bytes)

/-- A range of a copy is converted and lands, or goes to its far device. -/
def State.landRange (s : State) (b : Block) (c : Copy) (conv : Conv) (lo count : Nat) (left : List (Nat × Nat)) : State :=
  let need := conv.needs c.len lo count
  match s.copySource b c need.1 need.2 with
  | (t, .stop) => t
  | (t, .bytes data) =>
    let src := List.replicate need.1 0 ++ data ++ List.replicate (c.len - need.1 - need.2) 0
    let all := conv.apply c.stream c.dst src
    let r := t.copyScramble c all.length lo conv ((all.drop lo).take count)
    let taken := fun (u : State) => u.tieTake fun w => w == .copy b.id c.id 0
    if c.dstBm then
      let u := r.1.bmWrite b (c.dst + lo) r.2
      ((taken u).countLanded b c count).putCopy b.id { c with left }
    else
      let va := (c.dst + lo) % 2 ^ 64
      match t.copyPieces b c .write va count with
      | (u, none) => u
      | (_, some l) =>
        match State.copyStore b c l r.2 r.1 with
        | (u, .done) =>
          if u.unackedCopy b va count then (taken u).putCopy b.id { c with left, sent := c.sent ++ [(lo, count)] }
          else ((taken u).countLanded b c count).putCopy b.id { c with left }
        | (u, .fault va f) => u.copyFault b c .write va f
        | (u, .poison) => u.hwFault b.ctx

/-- The copy may start: the instructions of its group that were to write block memory before it have completed (R223, R436). -/
def State.copyReady (s : State) (b : Block) (c : Copy) : Bool :=
  match c.after, s.group b.id c.group with
  | some q, some g => !(g.ops.any fun o => decide (o.seq ≤ q))
  | _, _ => true

/-- A place in a copy's destination at which a landing may begin or end: not within a word of a code region, which changes whole (R262). -/
def State.wordBound (s : State) (b : Block) (c : Copy) (k : Nat) : Bool :=
  let va := (c.dst + k) % 2 ^ 64
  c.dstBm || va % 8 == 0 || !(s.compute.blocks.any fun x => x.ctx == b.ctx && decide (x.codeLo ≤ va) && decide (va < x.codeHi))

/-- A range of a copy that may land by itself. -/
def State.wholeWords (s : State) (b : Block) (c : Copy) (lo count : Nat) : Bool :=
  (c.left.any fun x => x.1 == lo || s.wordBound b c lo) && (c.left.any fun x => x.1 + x.2 == lo + count || s.wordBound b c (lo + count))

/-- COPY_LAND: a range that has not landed lands now, or a range sent to a far device is now acknowledged. -/
def State.copyLand (s : State) (b : Block) (c : Copy) (lo count : Nat) : State :=
  match convOf c.conv with
  | none => s
  | some conv =>
    if c.sent.contains (lo, count) then
      if s.unackedCopy b ((c.dst + lo) % 2 ^ 64) count then s
      else (s.countLanded b c count).putCopy b.id { c with sent := c.sent.erase (lo, count) }
    else
      match takeRange c.left lo count with
      | some left => if 0 < count && s.copyReady b c && s.wholeWords b c lo count then s.landRange b c conv lo count left else s
      | none => s

/-- COPY_LAND (R229). -/
def execCopyLand (blk copy lo count : Nat) (s : State) : Host.Outcome State Fault Refusal :=
  .next (match s.block blk with
    | some b =>
      match b.copy copy with
      | some c => s.copyLand b c lo count
      | none => s
    | none => s)

/-! ### Walks (R448 to R459, R464 to R471) -/

/-- The pointer entries of levels 4 to 1 that a walk passes, with their values: no bad one, and none that leads out of HBM
(R458, R459). -/
def State.walkPointers (s : State) (die : Option Nat) (ctx va : Nat) : Nat → Nat → List (Nat × Nat)
  | 0, _ => []
  | l + 1, node =>
    let addr := node + 8 * levelIndex (l + 1) va
    let e := s.entryValue die ctx addr
    let next := e % 2 ^ 52 / 256 * 256
    if e % 4 = 1 && !(badPointer (l + 1) e) && s.inHbm next (nodeBytes l) then
      (addr, e) :: s.walkPointers die ctx va l next
    else []

/-- A pointer enters the walker cache of a die, which holds 4,096 (R458). -/
def State.cachePointer (s : State) (x : WalkEntry) : State :=
  if s.xlat.walkCache.any fun w => w.die == x.die && w.ctx == x.ctx && w.addr == x.addr then s
  else
    let r := s.room (fun w => w.die == x.die) 4096 s.xlat.walkCache
    r.1.setXlat { r.1.xlat with walkCache := r.2 ++ [x] }

/-- The pointers of a walk enter the walker cache of the die (R458, R459). -/
def State.cachePointers (s : State) (die ctx va : Nat) : State :=
  (s.walkPointers (some die) ctx va 4 (s.ctx ctx).root).foldl (fun t p => t.cachePointer ⟨die, ctx, p.1, p.2⟩) s

/-- The sub-group of a lane's access. -/
def Waiter.sub : Waiter → Option SubRef
  | .lane r _ => some r
  | _ => none

/-- The other walks of the same instruction that end in a fault without replay. -/
def State.failedSiblings (s : State) (r : WalkReq) : List ExcSite :=
  (s.xlat.walks.filter fun w => w.who.sub.isSome && w.who.sub == r.who.sub).filterMap fun w =>
    match s.walkEnd w with
    | .denied f => if f.replay then none else w.site
    | .fault f => if f.replay then none else w.site
    | _ => none

/-- A walk that ends in a fault: its record, and then the access waits, or the exception is taken (R465 to R468). -/
def State.walkFault (s : State) (r : WalkReq) (f : FaultInfo) : State :=
  let others := s.failedSiblings r
  match s.recordFault r.ctx r.va r.kind r.by_ r.engine f r.accesses with
  | (t, .waits slot) => t.setXlat { t.xlat with waits := t.xlat.waits ++ [⟨r.ctx, slot, r⟩] }
  | (t, .exception) =>
    let site := match r.who with
      | .copy b k _ => (t.block b).map fun x => retiredSite x (((x.copy k).map (·.group)).getD 0) r.va
      | _ => r.site.map fun x => others.foldl joinSites x
    let blk := match r.who with
      | .lane x _ => t.block x.blk
      | .copy b _ _ => t.block b
      | .engine b _ _ _ => t.block b
      | .entry _ _ _ => none
      | .coll _ _ => none
      | .monument _ => none
    match blk, site with
    | some b, some x => t.takeException b .translation x
    | _, _ => t.teardown r.ctx stTranslationFault

/-- Entries that a walk of a die reads from memory: the pointers that its walker cache does not hold, and the one where it ends (R448,
R449, R458). -/
def State.walkEntries (s : State) (die ctx va : Nat) : List Nat :=
  if canonical va then
    let root := (s.ctx ctx).root
    let ps := s.walkPointers (some die) ctx va 4 root
    let last := match ps.getLast? with
      | some p => p.2 % 2 ^ 52 / 256 * 256
      | none => root
    (ps.filter fun p => (s.walkHit (some die) ctx p.1).isNone).map (·.1) ++ [last + 8 * levelIndex (4 - ps.length) va]
  else []

/-- A walk runs: it is counted (R806), its entries are read (R449), and the pointers that it passes are kept (R458). -/
def State.walked (s : State) (r : WalkReq) : State :=
  let place := r.by_.place
  let t := s.progCount place r.ctx 9 1
  if place < 192 then
    ((s.walkEntries (place / 24) r.ctx r.va).foldl (fun u a => u.walkRead (place / 24) r.ctx a) t).cachePointers (place / 24) r.ctx r.va
  else t

/-- A walk's leaf is kept by the cluster's TLB and by the L1 TLB of the engine that asked (R458). -/
def State.keepLeaf (s : State) (r : WalkReq) (e : TlbEntry) : State :=
  match r.by_ with
  | .cluster _ => (s.fillTlb e).fillL1 ⟨s.waiterCore r.who, r.engine, e⟩
  | .control => s

/-- The walker completes a walk. -/
def State.walkOne (s : State) (r : WalkReq) : State :=
  let s := s.setXlat { s.xlat with walks := s.xlat.walks.erase r }
  if (s.ctx r.ctx).st != .opened then s
  else
    match s.walkEnd r with
    | .denied f => s.walkFault r f
    | .poison => (s.progCount r.by_.place r.ctx 9 1).hwFault r.ctx
    | .fault f => (s.walked r).walkFault r f
    | .entry e => (s.walked r).keepLeaf r e

/-- A request is among the 64 that the walker of its die works on (R458). -/
def State.walkRuns (s : State) (k : Nat) (r : WalkReq) : Bool :=
  decide ((s.xlat.walks.take k).countP (fun w => w.by_.place / 24 == r.by_.place / 24) < 64)

/-- WALK (R448, R458). -/
def execWalk (request : Nat) (s : State) : Host.Outcome State Fault Refusal :=
  .next (match s.xlat.walks[request]? with
    | some r => if s.walkRuns request r then s.walkOne r else s
    | none => s)

end Sys2Proof.Machine
end

