-- ==== Sys2Proof/Machine/Fabric.lean ====
section
/-!
DEFINITION. Fabric ports and the Glolys Transport as frames arrive, are acknowledged, refused, sent again and lost (R563 to
R611, R861 to R863, R484, R485), shared by the rows of received frames, and the commands and events of the chapter.
-/

namespace Sys2Proof.Machine

/-! ### Commands (R575, R611) -/

/-- The fields of a route word; reserved bits are ignored (R16, R576). -/
def routeWord (w : Nat) : Word := BitVec.ofNat 64 (w / 2 ^ 63 * 2 ^ 63 + w / 2 ^ 48 % 256 * 2 ^ 48 + w % 2 ^ 32)

/-- ROUTE_SET: a route word for each of a run of nodes; VALID clears the unreachable mark. -/
def State.routeSet (s : State) (n : Nat) : State :=
  let first := s.arg n 0 % 2 ^ 14
  let one := fun (t : State) (i : Nat) =>
    let w := routeWord (s.arg n (1 + i))
    t.setFab { t.fab with
      routes := assocPut t.fab.routes (first + i) w,
      unreachable := if bitAt w 63 then t.fab.unreachable.filter (· != first + i) else t.fab.unreachable }
  ((List.range (s.arg n 0 / 2 ^ 16 % 2 ^ 16)).foldl one s).complete n stOk []

/-- ROUTE_SET (R575, R576). -/
def execRouteSet (mbx : Nat) (s : State) : Host.Outcome State Fault Refusal :=
  runCommand mbx 0x0600 (fun s => s.routeSet mbx) s

/-- A node has another epoch: its flows are discarded and what was unacknowledged ends (R606, R611). -/
def State.newEpoch (s : State) (node epoch : Nat) : State :=
  let s := s.setFab { s.fab with epochs := assocPut s.fab.epochs node epoch }
  let r := s.dropFlows (· == node)
  ((((r.1.dropClaims (· == node)).endOps r.2 endFenced).endTies node endFenced).endColls node stEpochFenced).settleInvs

/-- EPOCH_SET (R611). -/
def execEpochSet (mbx : Nat) (s : State) : Host.Outcome State Fault Refusal :=
  runCommand mbx 0x0602 (fun s =>
    (s.newEpoch (s.arg mbx 0 % 2 ^ 14) (s.arg mbx 0 / 2 ^ 16 % 2 ^ 16)).complete mbx stOk []) s

/-! ### The checks of a frame (R593, R579) -/

/-- Opcodes that R582 assigns. -/
def opAssigned (op : Nat) : Bool := (decide (1 ≤ op) && decide (op ≤ 6)) || (decide (0x10 ≤ op) && decide (op ≤ 0x15))

/-- TYPE of a CTRL message (R583). -/
def ctrlType (f : Frame) : Nat := f.word 0 / 2 ^ 48

/-- The CTRL types that R583 assigns. -/
def ctrlAssigned (t : Nat) : Bool := [0x0001, 0x0002, 0x0010, 0x0011, 0x0012, 0x0013, 0x0020, 0x0030].contains t

/-- The flow kind suits the opcode (R582). -/
def kindSuits (op kind : Nat) : Bool :=
  if op = opWrite ∨ op = opReadReq ∨ op = opReadRsp then kind == kTie || kind == kBulk
  else if op = opAtomic ∨ op = opAtomicRsp ∨ op = opXadd then kind == kTie
  else if op = opHeartbeat ∨ op = opBsx ∨ op = opCtrl then kind == kCtrl
  else if op = opColl then kind == kColl
  else true

/-- LENGTH is within its opcode's range (R581, R582, R596). -/
def lengthOk (f : Frame) : Bool :=
  let n := f.length
  decide (n ≤ 4096) &&
    (if f.op = opReadReq then decide (1 ≤ n)
     else if f.op = opAtomic then n == 24
     else if f.op = opAtomicRsp then n == 8
     else if f.op = opXadd then n % 32 == 0
     else if f.op = opAck ∨ f.op = opHeartbeat then n == 0
     else if f.op = opNak then n == 16
     else if f.op = opBsx then n == 32
     else true)

/-- Payload bytes that a frame's LENGTH promises. -/
def promised (f : Frame) : Nat := if f.op = opReadReq then 0 else f.length

/-- The bytes present agree with LENGTH, padding to 64 B of Ethernet frame left aside (R570). -/
def bytesAgree (f : Frame) : Bool :=
  f.payload.length == promised f || (decide (promised f < 14) && f.payload.length == 14)

/-- The frame without its padding. -/
def unpadded (f : Frame) : Frame := { f with payload := f.payload.take (promised f) }

/-- An ATOMIC names an operation and a width that exist, and its third word is zero but for a compare-and-swap (R593). -/
def atomicOk (f : Frame) : Bool :=
  let op := f.word 0 / 2 ^ 56
  let width := f.word 0 / 2 ^ 48 % 256
  decide (0x10 ≤ op) && decide (op ≤ 0x1A) && (width == 4 || width == 8) && (op == 0x19 || f.word 2 == 0)

/-- VERSION, the reserved bits of word 0, and DST (R579). -/
def headBad (f : Frame) : Bool := f.version != 1 || fieldNat f.w0 43 32 != 0 || decide (2 ^ 14 ≤ f.dst)

/-- A sequenced frame carries no epoch 0 (R863). -/
def epochZero (f : Frame) : Bool := !f.unseq && (f.sepoch == 0 || f.epoch == 0)

/-- Step 1 of R593. -/
def malformed (f : Frame) : Bool :=
  headBad f || decide (2 ^ 14 ≤ f.src) || (f.unseq != Frame.unsequenced f) || (f.unseq && f.seq != 0) || epochZero f
    || (opAssigned f.op && (!(lengthOk f) || !(kindSuits f.op f.kind))) || !(bytesAgree f)
    || (f.op == opAck && !f.ackv) || (f.op == opAtomic && !(atomicOk f))

/-- A pending bind names a node with an epoch (R608). -/
def State.bindPending (s : State) (node epoch : Nat) : Bool := s.fab.binds.any fun b => b.node == node && b.epoch == epoch

/-- A pending bind makes this device a node at an epoch (R579, R608). -/
def State.bindMine (s : State) (node epoch : Nat) : Bool :=
  s.fab.binds.any fun b => b.node == node && b.epoch == epoch && b.plat == s.fab.platPos

/-- A frame is held until the stake of a bind (R608). -/
def State.holdFrame (s : State) (p : Nat) (f : Frame) (stamp : Nat) : State :=
  s.setFab { s.fab with held := s.fab.held ++ [⟨p, f, stamp⟩] }

/-- A frame for another device goes on, or is refused (R579). -/
def State.forward (s : State) (p : Nat) (f : Frame) (stamp : Nat) : State :=
  if headBad f || epochZero f then s.refuse p f stamp nMalformed 0 0
  else
    let known := s.epochOf f.src
    if !f.unseq && newerEpoch known f.sepoch then s.refuse p f stamp nEpochFenced known 0
    else if s.bindMine f.dst f.epoch then s.holdFrame p f stamp
    else
      match s.routePort f.src f.dst f.kind f.context with
      | some q => s.sendOn q f
      | none => if unanswerable f then s else s.refuse p f stamp nDestLost 0 0

/-- Steps 4 and 5 of R593, by R608: whether the frame passes. -/
def State.epochCheck (s : State) (p : Nat) (f : Frame) (stamp : Nat) : State × Bool :=
  let known := s.epochOf f.src
  let own := s.fab.epoch
  if f.sepoch ≠ known then
    if newerEpoch known f.sepoch then (s.refuse p f stamp nEpochFenced known 0, false)
    else if s.bindPending f.src f.sepoch then (s.holdFrame p f stamp, false)
    else (s.refuse p f stamp nStaleEpoch known 0, false)
  else if f.epoch ≠ own then
    if newerEpoch own f.epoch then (s.refuse p f stamp nStaleEpoch own 0, false)
    else if s.bindMine f.dst f.epoch then (s.holdFrame p f stamp, false)
    else ((s.refuse p f stamp nDestLost 0 0).enterFenced f.epoch, false)
  else (s, true)

/-- The state of a receiving flow as a frame finds it, made anew by a FIRST frame with SEQ 0 (R591, R592, R862). -/
inductive FlowFound where
  | expects (s : State) (n : Nat)
  | noState
  | noRoom
deriving DecidableEq, Repr

/-- The receiving flow of a frame. -/
def State.findFlow (s : State) (f : Frame) (stamp : Nat) : FlowFound :=
  let r := s.recvFlow f.src f.kind f.context
  let first := f.first && f.seq == 0
  match r with
  | some r =>
    if first && decide (r.last + 8000000 ≤ stamp) then .expects s 0
    else .expects (s.putRecv { r with last := stamp }) r.expect
  | none =>
    if !first then .noState
    else if s.fab.recvs.length < 65536 then .expects s 0
    else
      match s.fab.recvs.find? fun q => decide (q.last + 80000000 ≤ stamp) with
      | some q => .expects (s.setFab { s.fab with recvs := s.fab.recvs.erase q }) 0
      | none => .noRoom

/-- SEQ lies before `n` in the order modulo 2^32. -/
def seqBefore (seq n : Nat) : Bool :=
  decide (0 < (n + 2 ^ 32 - seq) % 2 ^ 32) && decide ((n + 2 ^ 32 - seq) % 2 ^ 32 ≤ 2 ^ 31)

/-! ### Acknowledgement (R587) -/

/-- A flow that no port can carry any more ends, and with DEST_LOST its operations (R578). -/
def State.flowLost (s : State) (fl : SendFlow) : State :=
  (s.setFab { s.fab with sends := s.fab.sends.filter fun g => !(g.is fl.dst fl.kind fl.ctx) }).endOps
    ((fl.unacked ++ fl.waiting).map fun u => (fl.dst, u.op)) endLost

/-- The waiting frames of a flow go out while there is room, or end where there is no route (R578, R586). -/
def State.flowOn (s : State) (fl : SendFlow) : State :=
  if fl.waiting.isEmpty || fl.silent then s
  else if s.flowRouted fl then State.pump (fl.waiting.length + 1) s fl.dst fl.kind fl.ctx
  else s.flowLost fl

/-- Room has come for waiting frames: those of every flow (R586). -/
def State.pumpAll (s : State) : State := s.fab.sends.foldl State.flowOn s

/-- The report of an ATTEST has frames that its far device has not acknowledged (R145). -/
def State.reportOut (s : State) (n : Nat) : Bool := s.writesOut (· == .report n)

/-- A written entry whose far writes are now acknowledged ends now (R181). -/
def State.entryAcked (s : State) (op : FlowOp) : State :=
  match op with
  | .entry watch k _ _ _ =>
    match s.entry watch k with
    | some e =>
      let t := if e.phase == .ended && e.status == stOk && !(s.entryWrites watch k) then
        s.putEntry watch k { e with endMt := s.mt, endFlags := s.hubFlags false, latchEnd := s.obs.aon } else s
      t.settleList watch
    | none => s
  | .record watch _ _ _ _ => s.passGoOn watch
  | .report n => if s.waitsReport n && !(s.reportOut n) then s.complete n stOk [14373] else s
  | .coll ctx slot => s.collFinish ctx slot
  | _ => s

/-- A sender takes an ACK: the frames before it are performed, waiting frames go out, and what waited for them ends. -/
def State.takeAck (s : State) (src kind ctx n : Nat) : State :=
  match s.sendFlow src kind ctx with
  | none => s
  | some fl =>
    if fl.silent then s
    else
      let gone := fl.unacked.filter fun u => seqBefore u.seq n
      if gone.isEmpty then s
      else
        let t := s.putSend { fl with
          unacked := fl.unacked.filter (fun u => !(seqBefore u.seq n)), rounds := 0, progress := s.mt, busy := none }
        ((gone.map (·.op)).foldl State.entryAcked t.pumpAll).settleInvs

/-! ### Sending again (R589 to R592, R861) -/

/-- Frames of a flow from a SEQ on are sent again, on another port where the flow's own is no longer usable (R577, R578, R589). -/
def State.resend (s : State) (fl : SendFlow) (expect : Nat) : State :=
  if !(s.flowRouted fl) then s.flowLost fl
  else
  let port := if s.portUsable fl.port then fl.port
    else (s.routePort s.fab.node fl.dst fl.kind fl.ctx).getD fl.port
  let again := fl.unacked.filter fun u => !(seqBefore u.seq expect)
  let t := s.putSend { fl with port, lastSent := s.mt }
  again.foldl (fun t u => (t.sendRegulated port fl.ctx u.frame.retx).count 8 1) t

/-- The SEQ of a flow's oldest unacknowledged frame. -/
def SendFlow.oldest (fl : SendFlow) : Nat := ((fl.unacked.head?).map (·.seq)).getD fl.next

/-- A flow is reset: its unacknowledged operations end, and it sends nothing for 2 ms (R861). -/
def State.resetFlow (s : State) (fl : SendFlow) (e : FlowEnd) : State :=
  let t := s.putSend { fl with next := 0, unacked := [], rounds := 0, silent := true, busy := none }
  t.endOps (fl.unacked.map fun u => (fl.dst, u.op)) e

/-- The operation that a NAK refuses is over, and its frame carries none. -/
def State.endRefusedOp (s : State) (fl : SendFlow) (seq : Nat) (e : FlowEnd) : State :=
  match fl.unacked.find? fun u => u.seq == seq with
  | none => s
  | some u =>
    let t := s.putSend { fl with unacked := fl.unacked.map fun v => if v.seq = seq then { v with op := .none } else v }
    t.endOps [(fl.dst, u.op)] e

/-- STALE_SEEN, at most once in a millisecond (R610). -/
def State.staleSeen (s : State) (p seen : Nat) : State :=
  match s.fab.staleSeen with
  | some m =>
    if s.mt < m + 8000000 then s
    else (s.setFab { s.fab with staleSeen := some s.mt }).notify [0, 63] 0xB stEpochFenced 0 s.mt (s.hubFlags false)
      [s.fab.node + placed seen 16, p]
  | none => (s.setFab { s.fab with staleSeen := some s.mt }).notify [0, 63] 0xB stEpochFenced 0 s.mt (s.hubFlags false)
      [s.fab.node + placed seen 16, p]

/-- A refused CTRL message is sent again once, on the flow as it now stands, with the operation that waits for it (R611). -/
def State.resendControl (s : State) (fl : SendFlow) (u : Unacked) : State :=
  let t := s.putSend { fl with unacked := fl.unacked.map fun v => if v.seq = u.seq then { v with op := .none } else v }
  let h := { t.headTo opCtrl u.frame.dst kCtrl 0 with length := u.frame.payload.length }
  match t.routePort t.fab.node h.dst kCtrl 0 with
  | some p => t.flowPut (t.flowAt p h.dst kCtrl 0) ⟨0, h.frame u.frame.payload, u.op, true⟩
  | none => t.endOps [(fl.dst, u.op)] endLost

/-- STALE_EPOCH at the sender (R611): the refused operation ends with EPOCH_FENCED, and a tie access in TIE_REFUSED with the reason (R485,
R597). -/
def State.staleNak (s : State) (fl : Option SendFlow) (node seq seen : Nat) : State :=
  let known := s.epochOf node
  let hit := fl.bind fun f => f.unacked.find? fun u => u.seq == seq
  match fl, hit with
  | some f, some u =>
    let t := s.endRefusedOp f seq (endRefused nStaleEpoch)
    if newerEpoch known u.frame.epoch then (if u.frame.op == opCtrl && !u.resent then s.resendControl f u else t)
    else
      (t.setFab { t.fab with epochs := assocPut t.fab.epochs node seen }).loseNode node
  | _, _ =>
    if seen = known ∨ newerEpoch known seen then s
    else (s.setFab { s.fab with epochs := assocPut s.fab.epochs node seen }).loseNode node

/-- The unanswered tie read or atomic that a refused request made, where its frame is acknowledged already (R594). -/
def State.refuseAnswered (s : State) (f : Frame) (e : FlowEnd) : State :=
  match s.xlat.tieOps.find? fun o => o.node == f.src && o.ctx == f.context && o.tag == f.tag && o.answer.isNone with
  | some o => if f.kind = kTie then s.endOps [(f.src, .tieRead o.id)] e else s
  | none => s

/-- A sender takes a NAK (R589 to R597, R609 to R611, R861, R862). -/
def State.takeNak (s : State) (p : Nat) (f : Frame) (stamp : Nat) : State :=
  let reason := f.word 0 / 2 ^ 56
  let seen := f.word 0 / 2 ^ 32 % 2 ^ 16
  let seq := f.word 1 / 2 ^ 32
  let expect := f.word 1 % 2 ^ 32
  let s := (s.count 13 1).putPort p { s.port p with naks := ((s.port p).naks + 1) % 2 ^ 32 }
  let fl := s.sendFlow f.src f.kind f.context
  let silent := match fl with | some x => x.silent | none => false
  if reason = 0 ∨ nBusy < reason then s.violation p f stamp nMalformed false
  else if reason = nEpochFenced then
    if newerEpoch seen s.fab.epoch then s.enterFenced seen
    else if seen = s.fab.epoch then s.staleSeen p seen else s
  else if silent then s
  else if reason = nDestLost then s.markLost f.src
  else if reason = nStaleEpoch then s.staleNak fl f.src seq seen
  else
    match fl with
    | none => s.refuseAnswered f (endRefused reason)
    | some x =>
      if reason = nMalformed ∨ reason = nUnsupported then s.resetFlow x (endRefused reason)
      else if reason = nSeqGap then
        if seqBefore expect x.next && !(x.unacked.any fun u => u.seq == expect) then s.resetFlow x endLost
        else s.resend x expect
      else if reason = nBusy then s.putSend { x with busy := some s.mt }
      else if x.unacked.any (fun u => u.seq == seq) then s.endRefusedOp x seq (endRefused reason)
      else s.refuseAnswered f (endRefused reason)

/-! ### Arrival (R565, R595, R600, R602, R603, R609) -/

/-- MT by which a DIRECT port must hear a frame (R603). -/
def Port.deadline (p : Port) : Nat := p.lastGood + 32000

/-- A frame comes too late for its port: in a later cycle than its deadline's (R125, R127, R603). -/
def Port.lateFor (p : Port) (stamp : Nat) : Bool := !p.modeNow && decide (p.deadline + meetTicks ≤ stamp)

/-- A port hears a good frame (R128, R603, R801). -/
def State.hear (s : State) (p : Nat) (f : Frame) (stamp : Nat) : State :=
  let x := s.port p
  let near := !x.modeNow && s.meets x.deadline stamp
  let s := if near then s.nearMissed x.deadline stamp else s
  ((s.putPort p { x with lastGood := max x.lastGood stamp, near }).count 7 f.bytes).count (52 + p / 8) f.bytes

/-- What performing a frame leaves, and the reason of R593 steps 7 to 9 where it is refused. -/
structure Performed where
  state : State
  reason : Nat
deriving DecidableEq, Repr

/-- A frame that passes step 3 is performed in its place of the flow (R587, R588, R593, R594). -/
def State.inSequence (perform : Nat → Frame → Nat → State → Performed) (p : Nat) (f : Frame) (stamp : Nat) (s : State) : State :=
  match s.epochCheck p f stamp with
  | (t, false) => t
  | (t, true) =>
    let t := if f.ackv then t.takeAck f.src f.kind f.context f.ack else t
    match t.findFlow f stamp with
    | .noState => t.refuse p f stamp nSeqGap 0 0
    | .noRoom => t.refuse p f stamp nBusy 0 0
    | .expects t expect =>
      if f.seq ≠ expect then
        if seqBefore f.seq expect then
          match t.recvFlow f.src f.kind f.context with
          | some r => t.ackFlow r
          | none => t
        else t.refuse p f stamp nSeqGap 0 expect
      else
        let r := perform p f stamp (t.acceptSeq p f stamp)
        let t := if r.reason = 0 then r.state else r.state.refuse p f stamp r.reason 0 0
        t.ackIfDue f

/-- A sequenced frame, an ACK or a NAK at this device (R579, R593). -/
def State.atDevice (perform : Nat → Frame → Nat → State → Performed) (p : Nat) (f : Frame) (stamp : Nat) (s : State) : State :=
  if f.dst ≠ s.fab.node ∨ s.fab.epoch = 0 then
    if malformed f && decide (2 ^ 14 ≤ f.src) then s.refuse p f stamp nMalformed 0 0 else s.forward p f stamp
  else if malformed f then s.refuse p f stamp nMalformed 0 0
  else
    let f := unpadded f
    if !(opAssigned f.op) || (f.op == opCtrl && !(ctrlAssigned (ctrlType f))) then s.refuse p f stamp nUnsupported 0 0
    else if f.op = opAck then s.takeAck f.src f.kind f.context f.ack
    else if f.op = opNak then s.takeNak p f stamp
    else State.inSequence perform p f stamp s

/-- A frame arrives at a port that is UP: frames of a quarantined port and of a fenced device are dropped (R600, R609). -/
def State.arrive (perform : Nat → Frame → Nat → State → Performed) (p : Nat) (f : Frame) (stamp : Nat) (s : State) : State :=
  let x := s.port p
  if x.st != .up || x.lateFor stamp then s
  else
    let s := s.hear p f stamp
    if s.fab.fenced || x.quar then s else State.atDevice perform p f stamp s

/-- The meaning of a row of received frames: nothing unless the frame is one of the row's (log 4). -/
def onFrame (mine : Frame → Bool) (perform : Nat → Frame → Nat → State → Performed) (p : Nat) (f : Frame) (stamp : Nat)
    (s : State) : Host.Outcome State Fault Refusal :=
  onEvent (decide (p < 32) && mine f) (State.arrive perform p f stamp) s

/-- Nothing is performed: the frame's own handling is all. -/
def performNone (_ : Nat) (_ : Frame) (_ : Nat) (s : State) : Performed := ⟨s, 0⟩

/-- RX_ACK (R587). -/
def execRxAck (port : Nat) (frame : Frame) (stamp : Nat) (s : State) : Host.Outcome State Fault Refusal :=
  onFrame (fun f => f.op == opAck) performNone port frame stamp s

/-- RX_NAK (R597). -/
def execRxNak (port : Nat) (frame : Frame) (stamp : Nat) (s : State) : Host.Outcome State Fault Refusal :=
  onFrame (fun f => f.op == opNak) performNone port frame stamp s

/-- RX_UNSUPPORTED_OPCODE (R583, R593). -/
def execRxUnsupportedOpcode (port : Nat) (frame : Frame) (stamp : Nat) (s : State) : Host.Outcome State Fault Refusal :=
  onFrame (fun f => !(opAssigned f.op) || (f.op == opCtrl && !(ctrlAssigned (ctrlType f)))) performNone port frame stamp s

/-- A HEARTBEAT names the port's peer, in quarantine and in FENCED too (R600 to R603, R609). -/
def State.heartbeat (s : State) (p : Nat) (f : Frame) (stamp : Nat) : State :=
  let x := s.port p
  if x.st != .up || x.lateFor stamp then s
  else
    let s := s.hear p f stamp
    if malformed f then (if s.fab.fenced || x.quar then s else s.refuse p f stamp nMalformed 0 0)
    else s.putPort p { s.port p with peerValid := true, peer := f.src, peerEpoch := f.sepoch }

/-- RX_HEARTBEAT (R602). -/
def execRxHeartbeat (port : Nat) (frame : Frame) (stamp : Nat) (s : State) : Host.Outcome State Fault Refusal :=
  onEvent (decide (port < 32) && frame.op == opHeartbeat) (fun s => s.heartbeat port frame stamp) s

/-- A BSX frame (R89, R93, R595, R609). -/
def State.bsxFrame (s : State) (p : Nat) (f : Frame) (stamp : Nat) : State :=
  let x := s.port p
  if x.st != .up || x.lateFor stamp then s
  else
    let s := s.hear p f stamp
    if s.fab.fenced || x.quar then s
    else if malformed f then s.refuse p f stamp nMalformed 0 0
    else s.takeBsx p (unpadded f) stamp

/-- RX_BSX (R93). -/
def execRxBsx (port : Nat) (frame : Frame) (stamp : Nat) (s : State) : Host.Outcome State Fault Refusal :=
  onEvent (decide (port < 32) && frame.op == opBsx) (fun s => s.bsxFrame port frame stamp) s

/-- RX_LINK_ERROR (R565, R569). -/
def execRxLinkError (port : Nat) (s : State) : Host.Outcome State Fault Refusal :=
  onEvent (decide (port < 32)) (fun s => s.putPort port { s.port port with linkErrors := (s.port port).linkErrors + 1 }) s

/-! ### Tie accesses as they arrive (R484, R485, R520, R551, R582) -/

/-- A tie access that passes the window's checks, on behalf of the window's owner (R484, R705). -/
def State.throughWindow (s : State) (f : Frame) (n : Nat) (k : AccKind) (go : Nat → TieWindow → State → Performed) : Performed :=
  match s.tieCheck f.src f.window f.offset n k with
  | .inl r => ⟨s, r⟩
  | .inr (pa, w) => go pa w (s.chargeRx w.ctx f.bytes)

/-- The response to a request, on the reverse flow, for the window's owner (R585, R705). -/
def State.respond (s : State) (f : Frame) (op ctx : Nat) (bytes : List Byte) : State :=
  let h := { s.headTo op f.src f.kind f.context with tag := f.tag, length := bytes.length }
  match s.flowSend h bytes .none with
  | some t => if f.kind = kTie then t.chargeTx ctx (32 + bytes.length) else t
  | none => s

/-- WRITE (R485, R491, R582). -/
def performWrite (_ : Nat) (f : Frame) (_ : Nat) (s : State) : Performed :=
  s.throughWindow f f.length .write fun pa w t => ⟨(t.placeRange pa f.length w.memClass (some w.ctx)).hbmWrite pa f.payload, 0⟩

/-- READ_REQ (R485, R491, R582). -/
def performRead (_ : Nat) (f : Frame) (_ : Nat) (s : State) : Performed :=
  s.throughWindow f f.length .read fun pa w t =>
    if t.poisoned pa f.length then ⟨t, nPoisoned⟩ else ⟨(t.glanceRange pa f.length w.memClass (some w.ctx)).respond f opReadRsp w.ctx (t.hbmRead pa f.length), 0⟩

/-- ATOMIC (R525, R582): the old value goes back. -/
def performAtomic (_ : Nat) (f : Frame) (_ : Nat) (s : State) : Performed :=
  let size := f.word 0 / 2 ^ 48 % 256
  s.throughWindow f size .atomic fun pa w t =>
    if t.poisoned pa size then ⟨t, nPoisoned⟩
    else
      let r := (t.atomHolders 10 pa w.memClass (some w.ctx)).rmw pa (f.word 0 / 2 ^ 56) size (f.word 1) (f.word 2)
      ⟨r.1.respond f opAtomicRsp w.ctx (beBytes 8 r.2), 0⟩

/-- The cells of an XADD frame: sum, anchor and flags of each (R545, R582). -/
def cellsOf (f : Frame) : List (Nat × Nat × Nat) :=
  (List.range (f.length / 32)).map fun i =>
    let w := fun (j : Nat) => f.word (4 * i + j)
    (w 0 + 2 ^ 64 * w 1 + 2 ^ 128 * w 2, w 3 / 2 ^ 32, w 3 % 128)

/-- XADD (R546, R582). -/
def performXadd (_ : Nat) (f : Frame) (_ : Nat) (s : State) : Performed :=
  s.throughWindow f f.length .atomic fun pa w t =>
    if t.poisoned pa f.length then ⟨t, nPoisoned⟩ else ⟨t.farCells pa (cellsOf f) w.memClass (t.ctxPartition (some w.ctx)) (some w.ctx), 0⟩

/-- RX_WRITE (R593). -/
def execRxWrite (port : Nat) (frame : Frame) (stamp : Nat) (s : State) : Host.Outcome State Fault Refusal :=
  onFrame (fun f => f.op == opWrite) performWrite port frame stamp s

/-- RX_READ_REQ (R593). -/
def execRxReadReq (port : Nat) (frame : Frame) (stamp : Nat) (s : State) : Host.Outcome State Fault Refusal :=
  onFrame (fun f => f.op == opReadReq) performRead port frame stamp s

/-- RX_ATOMIC (R593). -/
def execRxAtomic (port : Nat) (frame : Frame) (stamp : Nat) (s : State) : Host.Outcome State Fault Refusal :=
  onFrame (fun f => f.op == opAtomic) performAtomic port frame stamp s

/-- RX_XADD (R582). -/
def execRxXadd (port : Nat) (frame : Frame) (stamp : Nat) (s : State) : Host.Outcome State Fault Refusal :=
  onFrame (fun f => f.op == opXadd) performXadd port frame stamp s

/-- The waiter of an answered access goes on, where it is an entry; a lane, copy or engine tries again by its own row. -/
def State.answered (s : State) (w : Waiter) : State :=
  match w with
  | .entry watch k _ =>
    match s.entry watch k with
    | some e => if e.phase == .waiting then s.runList watch else s
    | none => s
  | .coll ctx slot => s.driveColl ctx slot
  | _ => s

/-- A response reaches its request (R585, R705). -/
def State.takeAnswer (s : State) (f : Frame) (atomic : Bool) (bytes : List Byte) : State :=
  let hit := fun (o : TieOp) => o.node == f.src && o.ctx == f.context && o.tag == f.tag && o.answer.isNone
    && (o.kind == .atomic) == atomic
  match s.xlat.tieOps.find? hit with
  | none => s
  | some o =>
    let t := s.chargeRx f.context f.bytes
    let t := t.setXlat { t.xlat with tieOps := t.xlat.tieOps.map fun q => if q.id = o.id then { q with answer := some bytes } else q }
    (t.answered o.who).settleInvs.pumpAll

/-- ATOMIC_RSP (R585): the old value, taken as a word. -/
def performAtomicRsp (_ : Nat) (f : Frame) (_ : Nat) (s : State) : Performed :=
  ⟨s.takeAnswer f true (leBytes 8 (f.word 0)), 0⟩

/-- RX_ATOMIC_RSP (R585). -/
def execRxAtomicRsp (port : Nat) (frame : Frame) (stamp : Nat) (s : State) : Host.Outcome State Fault Refusal :=
  onFrame (fun f => f.op == opAtomicRsp) performAtomicRsp port frame stamp s

/-- RX_ALIGNED_NOTICE (R100). -/
def performAligned (p : Nat) (f : Frame) (_ : Nat) (s : State) : Performed := ⟨s.takeNotice p f, 0⟩

/-- RX_ALIGNED_NOTICE (R100). -/
def execRxAlignedNotice (port : Nat) (frame : Frame) (stamp : Nat) (s : State) : Host.Outcome State Fault Refusal :=
  onFrame (fun f => f.op == opCtrl && ctrlType f == 1) performAligned port frame stamp s

/-- A hall correction arrives (R101). -/
def performHall (p : Nat) (f : Frame) (_ : Nat) (s : State) : Performed := ⟨s.takeHall p f, 0⟩

/-- RX_HALL_CORRECTION (R101). -/
def execRxHallCorrection (port : Nat) (frame : Frame) (stamp : Nat) (s : State) : Host.Outcome State Fault Refusal :=
  onFrame (fun f => f.op == opCtrl && ctrlType f == 2) performHall port frame stamp s

/-! ### Timers of the transport -/

/-- VIOLATION_MS_TICK (R600). -/
def execViolationMsTick (s : State) : Host.Outcome State Fault Refusal := .next s.violWindow

/-- A HEARTBEAT, which names this device or, unbound, nothing (R602). -/
def State.sendHeartbeat (s : State) (p : Nat) : State :=
  let bound := s.fab.epoch ≠ 0
  let x := s.port p
  let h : Head := {
    op := opHeartbeat, unseq := true, src := if bound then s.fab.node else 0, dst := x.peer,
    epoch := x.peerEpoch, sepoch := s.fab.epoch, kind := kCtrl }
  s.sendOn p (h.frame [])

/-- HEARTBEAT_SEND (R602): a DIRECT port that has sent nothing for 500 ns. -/
def execHeartbeatSend (port : Nat) (s : State) : Host.Outcome State Fault Refusal :=
  onEvent (decide (port < 32) && (s.port port).st == .up && !(s.port port).modeNow
    && decide ((s.port port).lastSent + 4000 ≤ s.mt)) (fun s => s.sendHeartbeat port) s

/-- ACK_SEND (R587). -/
def execAckSend (flow : Nat) (s : State) : Host.Outcome State Fault Refusal :=
  .next (match s.fab.recvs[flow]? with
    | some r => if 0 < r.owed then s.ackFlow r else s
    | none => s)

/-- Twenty microseconds without progress: the flow is sent again, or after eight rounds its node is lost (R589, R590). -/
def State.retransmit (s : State) (fl : SendFlow) : State :=
  if 8 ≤ fl.rounds then s.loseNode fl.dst
  else s.resend { fl with rounds := fl.rounds + 1, progress := s.mt } fl.oldest

/-- RETRANSMIT_TIMEOUT (R589, R590). -/
def execRetransmitTimeout (flow : Nat) (s : State) : Host.Outcome State Fault Refusal :=
  .next (match s.fab.sends[flow]? with
    | some fl => if !fl.unacked.isEmpty && !fl.silent && decide (fl.progress + 160000 ≤ s.mt) then s.retransmit fl else s
    | none => s)

/-- BUSY_RESEND (R592): two microseconds after BUSY. -/
def execBusyResend (flow : Nat) (s : State) : Host.Outcome State Fault Refusal :=
  .next (match s.fab.sends[flow]? with
    | some fl =>
      match fl.busy with
      | some m => if m + 16000 ≤ s.mt then s.resend { fl with busy := none } fl.oldest else s
      | none => s
    | none => s)

/-- FLOW_STATE_EXPIRY (R591): a sending flow after 1 ms with nothing unacknowledged, or, counted on, a receiving flow after
10 ms of silence. -/
def execFlowStateExpiry (flow : Nat) (s : State) : Host.Outcome State Fault Refusal :=
  .next (match s.fab.sends[flow]? with
    | some fl =>
      if fl.unacked.isEmpty && fl.waiting.isEmpty && !fl.silent && decide (fl.progress + 8000000 ≤ s.mt) then
        s.setFab { s.fab with sends := s.fab.sends.filter fun g => !(g.is fl.dst fl.kind fl.ctx) }
      else s
    | none =>
      match s.fab.recvs[flow - s.fab.sends.length]? with
      | some r => if r.last + 80000000 ≤ s.mt then s.setFab { s.fab with recvs := s.fab.recvs.erase r } else s
      | none => s)

/-- FLOW_RESET_RESUME (R861 step 4): the frames that waited go out, the first with FIRST and SEQ 0. -/
def execFlowResetResume (flow : Nat) (s : State) : Host.Outcome State Fault Refusal :=
  .next (match s.fab.sends[flow]? with
    | some fl =>
      if fl.silent && decide (fl.lastSent + 16000000 ≤ s.mt) then
        (s.putSend { fl with silent := false, next := 0, progress := s.mt }).flowOn { fl with silent := false }
      else s
    | none => s)

/-! ### Ports (R99, R569, R603 to R605) -/

/-- Nodes that a lost port was the last usable way to (R604 step 4). -/
def State.nodesOver (s : State) (p : Nat) : List Nat :=
  let x := s.port p
  let routed := (s.fab.routes.filter fun e => bitAt e.2 63 && e.2.getLsbD p
    && !((List.range 32).any fun q => e.2.getLsbD q && s.portUsable q)).map (·.1)
  (if x.peerValid && x.peerEpoch != 0 then [x.peer] else []) ++ routed

/-- The backsight parent was lost: another is chosen and measured (R88, R99). -/
def State.reparent (s : State) : State :=
  match s.backsightParent with
  | some q => (s.setTime { s.time with parentPort := q }).measurePort q 16 none
  | none => s

/-- A port is lost (R604): a device whose parent it was, in any state, takes a new one (R99). -/
def State.portLost (s : State) (p : Nat) : State :=
  let parent := s.time.datumValid && s.time.parentPort == p && !s.isDatum
  let s := s.putPort p { s.port p with st := .lost }
  let lost := (s.nodesOver p).eraseDups
  let s := s.setShare { s.share with waits := s.share.waits.filter fun w => !(w.frame.isSome && w.point == 16 + p) }
  let s := lost.foldl State.loseNode s
  let s := (s.fab.sends.filter fun fl => fl.port == p && !fl.silent && !fl.unacked.isEmpty).foldl (fun t fl =>
    t.resend fl fl.oldest) s
  if parent then s.reparent else s

/-- PORT_LOSS (R603, R604): a frame that came in time and waits to be handled keeps the port (R126, R127). -/
def execPortLoss (port : Nat) (s : State) : Host.Outcome State Fault Refusal :=
  onTime (decide (port < 32) && (s.port port).st == .up && !(s.port port).modeNow
    && decide ((s.port port).deadline ≤ s.mt)
    && !(s.arriving fun p _ stamp => p == port && !((s.port port).lateFor stamp))) (fun s => s.portLost port) s

/-- The running firmware records the peer of a DIRECT port in the recovery source list, the oldest entry going when the list
holds eight (R761). -/
def State.recordSource (s : State) (p : Nat) : State :=
  let x := s.port p
  if x.modeNow || !x.peerValid then s
  else
    let l := if s.trust.sources.contains x.peer then s.trust.sources else s.trust.sources ++ [x.peer]
    s.setTrust { s.trust with sources := if 8 < l.length then l.drop 1 else l, sourcePfx := s.fab.v6pfx }

/-- A port is UP in the mode that it trained in; after a retrain it is measured again (R98, R601, R605, R761). -/
def State.portUp (s : State) (p : Nat) : State :=
  let x := s.port p
  let again := x.st == .lost
  let s := (s.putPort p { x with st := .up, modeNow := x.mode, lastGood := s.mt, lastSent := s.mt }).recordSource p
  if again then
    let parent := s.time.st == .aligned && s.time.datumValid && s.time.parentPort == p
    s.measurePort p 16 (if parent then some (s.mt + 80000000) else none)
  else s

/-- PORT_UP (R605, R840). -/
def execPortUp (port : Nat) (s : State) : Host.Outcome State Fault Refusal :=
  onEvent (decide (port < 32) && s.conn.lasers && ((s.port port).st == .training || (s.port port).st == .lost))
    (fun s => s.portUp port) s

end Sys2Proof.Machine
end

