-- ==== Sys2Proof/Machine/Joined.lean ====
section
/-!
DEFINITION. Launch trees (R612 to R628), the wake of a flag line (R162 to R166, R172, R629), and the rows of COLL frames (R629
to R637).
-/

namespace Sys2Proof.Machine

/-! ### The descriptor (R613, R614) -/

/-- JOB and ATTEMPT of a command's ARG0 (R612). -/
def jobOf (a : Nat) : Nat := a % 2 ^ 32
def attemptOf (a : Nat) : Nat := a / 2 ^ 48

/-- The descriptor's words, in the order of R613. -/
def descOf (w0 w1 w2 w3 : Nat) : LaunchDesc where
  mailbox := w0 / 2 ^ 32 % 64
  entries := w0 % 2 ^ 15
  record := w1
  collBase := w2
  collSlots := w3 % 2 ^ 13

/-- Words 0 to 3 of a descriptor (R613). -/
def LaunchDesc.words (d : LaunchDesc) : List Nat :=
  [placed 0x4C54 48 + placed 1 40 + placed d.mailbox 32 + d.entries, d.record, d.collBase, d.collSlots]

/-- An entry of the tree from its 32 bits (R613). -/
def treeEntry (v : Nat) : TreeEntry := ⟨v / 2 ^ 16 % 2 ^ 14, v % 2 ^ 14⟩

/-- The 32 bits of an entry. -/
def TreeEntry.word (e : TreeEntry) : Nat := placed e.node 16 + e.parent

/-- Entries of a descriptor in HBM. -/
def State.treeAt (s : State) (pa n : Nat) : List Nat :=
  (List.range n).map fun i => leNat (s.hbmRead (pa + 64 + 4 * i) 4)

/-- Each entry's PARENT is the entry before it or an ancestor of that (R614): `path` is the chain of ancestors of the entry
before, itself first. -/
def preorder : List Nat → Nat → List TreeEntry → Bool
  | _, _, [] => true
  | path, i, e :: l =>
    if path.contains e.parent then preorder (i :: path.dropWhile (· != e.parent)) (i + 1) l else false

/-- MAGIC, VERSION, a reserved field or a range of R613 is wrong. -/
def badHead (w0 w2 w3 : Nat) : Bool :=
  w0 / 2 ^ 48 != 0x4C54 || w0 / 2 ^ 40 % 2 ^ 8 != 1 || w0 / 2 ^ 38 % 4 != 0 || w0 / 2 ^ 15 % 2 ^ 17 != 0
    || w3 / 2 ^ 13 != 0 || w0 % 2 ^ 15 == 0 || decide (16384 < w0 % 2 ^ 15) || w2 % 256 != 0 || decide (4096 < w3 % 2 ^ 13)


/-- Words 4 to 7 of the descriptor, or a reserved field of an entry, are not zero (R613). -/
def badReserved (tail : List Nat) (entries : List Nat) : Bool :=
  tail.any (· != 0) || entries.any fun v => v / 2 ^ 30 != 0 || v / 2 ^ 14 % 4 != 0

/-- The tree breaks R614. -/
def badTree (own : Nat) (tree : List TreeEntry) : Bool :=
  match tree with
  | [] => true
  | e :: l =>
    e.node != own || !((tree.map (·.node)).Nodup : Bool) || !(preorder [0] 1 l)
      || (List.range tree.length).any fun i => decide (32 < (l.filter fun x => x.parent == i).length)

/-! ### Offers (R616 to R622) -/

/-- The offer of a job that this device holds or is taking in. -/
def State.offer (s : State) (job : Nat) : Option Offer := s.joined.offers.find? fun o => o.job == job

/-- The state with another offer of the same job. -/
def State.putOffer (s : State) (o : Offer) : State :=
  s.setJoined { s.joined with offers := s.joined.offers.map fun q => if q.job = o.job then o else q }

/-- The offer of a job is no longer held, and nothing is staked for it. -/
def State.dropOffer (s : State) (job : Nat) : State :=
  let t := (s.cancelEvent (.offerExpiry job)).cancelEvent (.abortStake job)
  t.setJoined { t.joined with offers := t.joined.offers.filter fun o => o.job != job }

/-- Entries of the subtree of entry `i` of a tree in preorder that starts at index `i` (R614): up to the next entry whose
PARENT lies before `i`. -/
def subtree (i : Nat) : List TreeEntry → List TreeEntry
  | [] => []
  | e :: l => e :: l.takeWhile fun x => decide (i ≤ x.parent)

/-- Children of an offer's own entry: their indices and nodes, in child order (R614). -/
def Offer.kids (o : Offer) : List (Nat × Nat) :=
  (o.tree.zipIdx.filter fun p => p.1.parent == o.own && p.2 != 0).map fun p => (o.own + p.2, p.1.node)

/-- The payload of one frame of an offer (R615). -/
def offerWords (o : Offer) (base frag frags : Nat) (part : List TreeEntry) : List Byte :=
  wordsPayload ([placed 0x10 48 + placed o.attempt 32 + o.job, o.deadline] ++ o.desc.words
    ++ [placed frag 48 + placed frags 32 + part.length, base]) ++ part.flatMap fun e => beBytes 4 e.word

/-- A list cut into runs of at most `n`. -/
def runs {α : Type} (n : Nat) : Nat → List α → List (List α)
  | 0, _ => []
  | fuel + 1, l => if l.isEmpty then [] else l.take n :: runs n fuel (l.drop n)

/-- A launch message to a node: where there is no route it ends with DEST_LOST (R578, R620, R624). -/
def State.launchTo (s : State) (dst : Nat) (payload : List Byte) (job : Nat) (commit : Bool) : State :=
  match s.flowSend { s.headTo opCtrl dst kCtrl 0 with length := payload.length } payload (.launch job dst commit) with
  | some t => t
  | none => s.endOp dst (.launch job dst commit) endLost

/-- The frames of an offer to one child (R616). -/
def State.offerTo (s : State) (o : Offer) (i node : Nat) : State :=
  let sub := subtree i (o.tree.drop (i - o.own))
  let parts := runs 1008 (sub.length / 1008 + 1) sub
  (parts.zipIdx.foldl (fun (t : State) p =>
    t.launchTo node (offerWords o (i + 1008 * p.2) p.2 parts.length p.1) o.job false) s)

/-- A positive acknowledgement, once every child has given one: upward, or the end of LAUNCH_OFFER at the root (R619, R622). -/
def State.tryAck (s : State) (job : Nat) : State :=
  match s.offer job with
  | none => s
  | some o =>
    if !o.held || o.acked || o.missed || o.neg.isSome || (o.abort.isSome && o.from_.isNone) || o.acks.length != o.kids.length then s
    else
      match o.from_ with
      | some up =>
        (s.putOffer { o with acked := true }).ctrl up
          [placed 0x11 48 + placed o.attempt 32 + job, o.tree.length] .control
      | none =>
        let t := s.putOffer { o with acked := true, acknowledged := o.mbx.isSome, mbx := none }
        match o.mbx with
        | some n => t.complete n stOk [2 ^ o.kids.length - 1, 0]
        | none => t

/-- The context of an offer, and whether its launch record can be written (R617 items 1 to 3). -/
def State.offerCheck (s : State) (o : Offer) : Option Nat :=
  match (s.boundCtx o.desc.mailbox).filter fun c => (s.ctx c).st == .opened with
  | none => some stNotBound
  | some c =>
    if o.desc.record % 32 ≠ 0 then some stBadArg
    else
      match s.cpTranslate c .write o.desc.record 32 with
      | .pieces _ => if 16 ≤ (s.joined.offers.filter (·.held)).length then some stNoResource else none
      | .poison => some stHwFault
      | .fault _ _ => some stTranslationFault

/-- A complete offer is checked, and goes on to the children, or is answered with its failure and let go (R616 to R620). -/
def State.holdOffer (s : State) (o : Offer) : State :=
  let fail := fun (t : State) (st : Nat) =>
    ((t.setJoined { t.joined with offers := t.joined.offers ++ [o] }).negativeAck o.job st t.fab.node).dropOffer o.job
  match s.offerCheck o with
  | some st => fail s st
  | none =>
    match s.allocate 8 0 (o.deadline + 800000000) .device (.offerExpiry o.job) with
    | (t, .granted id) =>
      let o := { o with held := true, alloc := some id }
      let t := t.setJoined { t.joined with offers := t.joined.offers ++ [o] }
      (o.kids.foldl (fun t k => t.offerTo o k.1 k.2) t).tryAck o.job
    | (t, _) => fail t stResourceBusy

/-- LAUNCH_OFFER: the descriptor is read and checked, and the offer goes down the tree (R614, R617, R618, R622). -/
def State.launchOffer (s : State) (n : Nat) : State :=
  let pa := s.arg n 2
  let job := jobOf (s.arg n 0)
  let attempt := attemptOf (s.arg n 0)
  if !(s.inHbm pa 64) then s.complete n stBadArg []
  else if s.poisoned pa 64 then s.complete n stHwFault []
  else
    let w := fun (i : Nat) => (s.hbmWord (pa + 8 * i)).toNat
    let count := w 0 % 2 ^ 15
    if badHead (w 0) (w 2) (w 3) || !(s.inHbm pa (64 + 4 * count)) then s.complete n stBadArg []
    else if s.poisoned pa (64 + 4 * count) then s.complete n stHwFault []
    else
      let raw := s.treeAt pa count
      let tree := raw.map treeEntry
      if badReserved [w 4, w 5, w 6, w 7] raw || badTree s.fab.node tree || decide (s.arg n 1 < s.mt + 800000) then
        s.complete n stBadArg []
      else if (match s.offer job with | some o => decide (attempt ≤ o.attempt) | none => false) then s.complete n stBadState []
      else
        ((s.dropOffer job).begin_ n).holdOffer {
          job, attempt, from_ := none, deadline := s.arg n 1, desc := descOf (w 0) (w 1) (w 2) (w 3), own := 0, tree,
          frags := 0, got := [], held := false, acks := [], acked := false, missed := false, neg := none, alloc := none,
          abort := none, acknowledged := false, mbx := some n }

/-- LAUNCH_OFFER (R622). -/
def execLaunchOffer (mbx : Nat) (s : State) : Host.Outcome State Fault Refusal :=
  runCommand mbx 0x0700 (fun s => s.launchOffer mbx) s

/-- The places of the children that have acknowledged, and the first negative acknowledgement (R622). -/
def Offer.results (o : Offer) : List Nat :=
  [((o.acks.map (·.1)).map (2 ^ ·)).sum, match o.neg with | some x => 2 ^ 63 + x.node | none => 0]

/-- An acknowledgement of an offer came before the deadline and waits to be handled (R126). -/
def State.ackArriving (s : State) (o : Offer) : Bool :=
  s.arriving fun _ f stamp => f.op == opCtrl && ctrlType f == 0x11 && f.word 0 % 2 ^ 32 == o.job && decide (stamp < o.deadline)

/-- LAUNCH_DEADLINE (R622): every LAUNCH_OFFER whose deadline has come ends with DEST_LOST, but for one whose acknowledgement came
in time and is still to be handled (R126). -/
def execLaunchDeadline (s : State) : Host.Outcome State Fault Refusal :=
  .next ((List.range 64).foldl (fun (t : State) n =>
    match (t.mbx n).cmd with
    | some c =>
      if c.opcode = 0x0700 ∧ c.begun ∧ t.arg n 1 ≤ t.mt then
        match t.joined.offers.find? fun o => o.mbx == some n with
        | some o => if t.ackArriving o then t else (t.putOffer { o with mbx := none }).complete n stDestLost o.results
        | none => t.complete n stDestLost [0, 0]
      else t
    | none => t) s)

/-! ### Offers and acknowledgements as they arrive (R616 to R621, R628) -/

/-- JOB and ATTEMPT of a launch message (R615). -/
def msgJob (f : Frame) : Nat := f.word 0 % 2 ^ 32
def msgAttempt (f : Frame) : Nat := f.word 0 / 2 ^ 32 % 2 ^ 16

/-- The entries that a frame of an offer carries. -/
def frameEntries (f : Frame) (n : Nat) : List TreeEntry :=
  (List.range n).map fun i => treeEntry (beNat ((f.payload.drop (64 + 4 * i)).take 4))

/-- One frame of an offer: frames come in order, and the last makes the offer complete (R616). -/
def State.takeOffer (s : State) (f : Frame) : State :=
  let job := msgJob f
  let attempt := msgAttempt f
  let frag := f.word 6 / 2 ^ 48
  let frags := f.word 6 / 2 ^ 32 % 2 ^ 16
  let count := f.word 6 % 2 ^ 16
  let part := frameEntries f count
  if f.payload.length ≠ 64 + 4 * count ∨ count = 0 ∨ 1008 < count ∨ frags ≤ frag then s
  else
    let old := s.offer job
    let newer := match old with | some o => decide (o.attempt < attempt) | none => true
    let add := fun (t : State) (o : Offer) =>
      let rest := t.joined.offers.filter fun q => q.job != job
      if frag + 1 = frags then (t.setJoined { t.joined with offers := rest }).holdOffer o
      else t.setJoined { t.joined with offers := rest ++ [o] }
    if frag = 0 then
      if newer then
        add (s.dropOffer job) {
          job, attempt, from_ := some f.src, deadline := f.word 1, desc := descOf (f.word 2) (f.word 3) (f.word 4) (f.word 5),
          own := f.word 7 % 2 ^ 14, tree := part, frags, got := [0], held := false, acks := [], acked := false, missed := false,
          neg := none, alloc := none, abort := none, acknowledged := false, mbx := none }
      else s
    else
      match old with
      | some o =>
        if o.attempt = attempt ∧ !o.held ∧ o.from_ = some f.src ∧ o.got.length = frag then
          add s { o with tree := o.tree ++ part, got := frag :: o.got }
        else s
      | none => s

/-- An acknowledgement of an offer comes too late for it: at the root once the attempt is aborted or LAUNCH_OFFER has completed, and
below it at or after the abort stake (R628). -/
def Offer.deaf (o : Offer) (stamp : Nat) : Bool :=
  match o.from_, o.abort with
  | none, a => a.isSome || o.mbx.isNone
  | some _, some a => decide (a ≤ stamp)
  | some _, none => false

/-- A child's acknowledgement (R619 to R622, R628). -/
def State.takeAckMsg (s : State) (f : Frame) (stamp : Nat) : State :=
  match s.offer (msgJob f) with
  | none => s
  | some o =>
    match o.kids.findIdx? fun k => k.2 == f.src with
    | none => s
    | some i =>
      if o.attempt ≠ msgAttempt f ∨ !o.held ∨ o.deaf stamp then s
      else if o.deadline ≤ stamp then s.putOffer { o with missed := true }
      else
        let s := s.nearMissed o.deadline stamp
        let status := f.word 1 / 2 ^ 48
        if status ≠ stOk then s.negativeAck o.job status (f.word 1 / 2 ^ 32 % 2 ^ 14)
        else if o.acks.any (fun a => a.1 == i) then s
        else (s.putOffer { o with acks := o.acks ++ [(i, f.word 1 % 2 ^ 15)] }).tryAck o.job

/-! ### COMMIT and ABORT (R623 to R628) -/

/-- A message to every child of an offer (R624). -/
def State.toKids (s : State) (o : Offer) (type w1 : Nat) : State :=
  o.kids.foldl (fun t k =>
    t.launchTo k.2 (wordsPayload [placed type 48 + placed o.attempt 32 + o.job, w1]) o.job true) s

/-- The offer is committed: its record is written, its tree becomes the job's reduction tree, the message goes on, and the start is
staked over the whole package in class LAUNCH, in the timer queue where a comparator is refused (R105, R107, R624, R625, R629;
log 67). -/
def State.commitOffer (s : State) (o : Offer) (stake : Nat) (near : Bool) : State :=
  let t := (s.launchRecord o 1 stake near).dropOffer o.job
  let l : Launch := { job := o.job, attempt := o.attempt, from_ := o.from_, desc := o.desc, own := o.own, tree := o.tree, stake,
                      ctx := (s.boundCtx o.desc.mailbox).getD 0 }
  let t := t.setJoined { t.joined with launches := t.joined.launches.filter (fun x => x.job != o.job) ++ [l] }
  ((t.toKids o 0x12 stake).stakeOrTimer 0xE 0 stake .device (.launchStart o.job)).1

/-- The offer is dropped, and its record says so (R625). -/
def State.endOffer (s : State) (o : Offer) (st stake : Nat) : State := (s.launchRecord o st stake false).dropOffer o.job

/-- The event of an offer's comparator, or timer, becomes another at another stake (R625). -/
def State.rearm (s : State) (old new : StakeEvent) (stake : Nat) : State :=
  s.setStakes { s.stakes with
    allocs := s.stakes.allocs.map fun a =>
      if a.event = old then { a with event := new, stake, armed := a.places, late := decide (stake ≤ s.mt) } else a,
    timers := s.stakes.timers.map fun t => if t.event = old then ⟨stake, new, decide (stake ≤ s.mt)⟩ else t }

/-- The offer is aborted: its comparator is re-armed at the abort stake, or, when that has come, it is dropped at once (R624,
R625, R628). -/
def State.abortOffer (s : State) (o : Offer) (stake : Nat) : State :=
  let t := s.toKids o 0x13 stake
  if stake ≤ t.mt then t.endOffer o 2 stake
  else ((t.putOffer { o with abort := some stake }).rearm (.offerExpiry o.job) (.abortStake o.job) stake)

/-- MT at which an offer expires (R618). -/
def Offer.expiry (o : Offer) : Nat := o.deadline + 800000000

/-- An offer whose expiry, or abort stake, the stamp of a message has reached goes first (R126, R628); a COMMIT wins over an expiry
in its own cycle (R127, R628). -/
def State.lapse (s : State) (job stamp : Nat) (commit : Bool) : State :=
  match s.offer job with
  | none => s
  | some o =>
    if !o.held then s
    else
      match o.abort with
      | some a => if a ≤ stamp then s.endOffer o 2 a else s
      | none => if o.expiry + (if commit then meetTicks else 0) ≤ stamp then s.endOffer o 3 0 else s

/-- LAUNCH_COMMIT (R623). -/
def State.launchCommit (s : State) (n : Nat) : State :=
  let job := jobOf (s.arg n 0)
  let attempt := attemptOf (s.arg n 0)
  let stake := s.arg n 1
  let s := s.lapse job s.mt false
  let o := (s.offer job).filter fun o => o.attempt == attempt && o.from_.isNone
  if (match o with | some o => decide (o.expiry ≤ stake) | none => false) then s.complete n stBadArg []
  else if s.joined.aborted.contains ⟨job, attempt⟩ then s.complete n stLaunchAborted []
  else
    match o with
    | some o => if o.acknowledged then (s.commitOffer o stake false).complete n stOk [] else s.complete n stBadState []
    | none => s.complete n stBadState []

/-- LAUNCH_COMMIT (R623). -/
def execLaunchCommit (mbx : Nat) (s : State) : Host.Outcome State Fault Refusal :=
  runCommand mbx 0x0701 (fun s => s.launchCommit mbx) s

/-- LAUNCH_ABORT (R623): an attempt that is not held has nothing to abort. -/
def State.launchAbort (s : State) (n : Nat) : State :=
  let job := jobOf (s.arg n 0)
  let attempt := attemptOf (s.arg n 0)
  let s := s.lapse job s.mt false
  if (s.launchOf job attempt).isSome then s.complete n stBadState []
  else
    match (s.offer job).filter fun o => o.attempt == attempt && o.from_.isNone && o.abort.isNone && o.held with
    | some o =>
      let t := s.setJoined { s.joined with aborted := ⟨job, attempt⟩ :: s.joined.aborted.filter (· != ⟨job, attempt⟩) }
      (t.abortOffer o (s.arg n 1)).complete n stOk []
    | none => s.complete n stOk []

/-- LAUNCH_ABORT (R623). -/
def execLaunchAbort (mbx : Nat) (s : State) : Host.Outcome State Fault Refusal :=
  runCommand mbx 0x0702 (fun s => s.launchAbort mbx) s

/-- COMMIT from the parent (R624 to R628). -/
def State.takeCommit (s : State) (f : Frame) (stamp : Nat) : State :=
  let s := s.lapse (msgJob f) stamp true
  match s.offer (msgJob f) with
  | none => s
  | some o =>
    if o.attempt ≠ msgAttempt f ∨ !o.held ∨ o.from_.isNone then s
    else (s.nearMissed o.expiry stamp).commitOffer o (f.word 1) (s.meets o.expiry stamp)

/-- ABORT from the parent (R624, R625, R628). -/
def State.takeAbort (s : State) (f : Frame) (stamp : Nat) : State :=
  let s := s.lapse (msgJob f) stamp false
  match s.offer (msgJob f) with
  | none => s
  | some o =>
    if o.attempt ≠ msgAttempt f ∨ !o.held ∨ o.from_.isNone ∨ o.abort.isSome then s else s.abortOffer o (f.word 1)

/-- A COMMIT of an offer came in time and waits to be handled (R126, R127, R628). -/
def State.commitArriving (s : State) (job : Nat) : Bool :=
  match s.offer job with
  | some o => o.held && o.abort.isNone && s.arriving fun _ f stamp =>
      f.op == opCtrl && ctrlType f == 0x12 && msgJob f == job && msgAttempt f == o.attempt && decide (stamp < o.expiry + meetTicks)
  | none => false

/-- The comparator of an offer fires: the offer is dropped and its record written (R625). -/
def State.offerFires (s : State) (job : Nat) : State :=
  match s.offer job with
  | some o =>
    match o.abort with
    | some a => s.endOffer o 2 a
    | none => s.endOffer o 3 0
  | none => s

/-! ### Launch messages as rows -/

/-- LAUNCH_OFFER arrives (R616). -/
def performOffer (_ : Nat) (f : Frame) (_ : Nat) (s : State) : Performed := ⟨s.takeOffer f, 0⟩

/-- LAUNCH_ACK arrives (R621). -/
def performLaunchAck (_ : Nat) (f : Frame) (stamp : Nat) (s : State) : Performed := ⟨s.takeAckMsg f stamp, 0⟩

/-- LAUNCH_COMMIT arrives (R625). -/
def performCommit (_ : Nat) (f : Frame) (stamp : Nat) (s : State) : Performed := ⟨s.takeCommit f stamp, 0⟩

/-- LAUNCH_ABORT arrives (R625). -/
def performAbort (_ : Nat) (f : Frame) (stamp : Nat) (s : State) : Performed := ⟨s.takeAbort f stamp, 0⟩

/-- The frame is a CTRL message of a type (R583). -/
def isCtrl (type : Nat) (f : Frame) : Bool := f.op == opCtrl && ctrlType f == type

/-- RX_LAUNCH_OFFER (R617). -/
def execRxLaunchOffer (port : Nat) (frame : Frame) (stamp : Nat) (s : State) : Host.Outcome State Fault Refusal :=
  onFrame (isCtrl 0x10) performOffer port frame stamp s

/-- RX_LAUNCH_ACK (R619). -/
def execRxLaunchAck (port : Nat) (frame : Frame) (stamp : Nat) (s : State) : Host.Outcome State Fault Refusal :=
  onFrame (isCtrl 0x11) performLaunchAck port frame stamp s

/-- RX_LAUNCH_COMMIT (R625). -/
def execRxLaunchCommit (port : Nat) (frame : Frame) (stamp : Nat) (s : State) : Host.Outcome State Fault Refusal :=
  onFrame (isCtrl 0x12) performCommit port frame stamp s

/-- RX_LAUNCH_ABORT (R625). -/
def execRxLaunchAbort (port : Nat) (frame : Frame) (stamp : Nat) (s : State) : Host.Outcome State Fault Refusal :=
  onFrame (isCtrl 0x13) performAbort port frame stamp s

/-! ### COLL frames as rows (R635 to R637) -/

/-- A COLL frame arrives. -/
def performColl (_ : Nat) (f : Frame) (stamp : Nat) (s : State) : Performed := ⟨s.takeColl f stamp, 0⟩

/-- The frame is a COLL frame of a phase. -/
def isColl (phase : Nat) (f : Frame) : Bool := f.op == opColl && collPhase f == phase

/-- RX_COLL_UP (R636). -/
def execRxCollUp (port : Nat) (frame : Frame) (stamp : Nat) (s : State) : Host.Outcome State Fault Refusal :=
  onFrame (isColl 0) performColl port frame stamp s

/-- RX_COLL_DOWN (R630). -/
def execRxCollDown (port : Nat) (frame : Frame) (stamp : Nat) (s : State) : Host.Outcome State Fault Refusal :=
  onFrame (isColl 1) performColl port frame stamp s

/-- RX_COLL_CREDIT (R636). -/
def execRxCollCredit (port : Nat) (frame : Frame) (stamp : Nat) (s : State) : Host.Outcome State Fault Refusal :=
  onFrame (isColl 2) performColl port frame stamp s

/-- RX_COLL_FAIL (R637). -/
def execRxCollFail (port : Nat) (frame : Frame) (stamp : Nat) (s : State) : Host.Outcome State Fault Refusal :=
  onFrame (isColl 3) performColl port frame stamp s

/-- The start stake of a launch passes: slots of its context that were posted before it start (R629). -/
def State.launchStarts (s : State) (job : Nat) : State :=
  match s.joined.launches.find? fun l => l.job == job with
  | some l => (s.abaom.watches.filter fun w => w.ctx == l.ctx).foldl (fun t w => (t.postSlot w).1) s
  | none => s

/-! ### The wake (R162 to R166) -/

/-- A registered line is taken again and read, and what its value asks for is done (R163, R165, R172, R536, R629). -/
def State.flagWake (s : State) (w : Watch) : State :=
  let s := s.setAbaom { s.abaom with
    watches := s.abaom.watches.map fun v => if v.id = w.id then { v with held := true, wake := false } else v }
  let s := s.glanceLine w.line 0xF .crit none none
  if s.poisoned (w.line * 256) 256 then s.countWake false
  else
    let took := w.isList && s.flagDevice w && (s.pass w.id).isNone
    let s := if took then s.takeList w else s
    let r := s.wakeWaits w.line
    let c := if w.isList then (r.1, false) else r.1.postSlot w
    if took || r.2 then c.1.countWake true else if c.2 then c.1 else c.1.countWake false

/-- FLAG_WAKE (R163). -/
def execFlagWake (watch : Nat) (s : State) : Host.Outcome State Fault Refusal :=
  .next (match s.watch watch with
    | some w => if w.wake then s.flagWake w else s
    | none => s)

end Sys2Proof.Machine
end

