-- ==== Sys2Proof/Machine/Power.lean ====
section
/-!
DEFINITION. Power and the plumb clock: plumb groups and their notices (R639 to R647), limits, gating, the required clock,
levelling load and hints, clock modes and apportioned energy (R714 to R746).
-/

namespace Sys2Proof.Machine

/-! ### The plumb clock (R639, R645) -/

/-- A plumb clock value: the multiple of 25 MHz from 700 to 1,400 MHz at or below a number (R639). -/
def plumbValue (mhz : Nat) : Nat := min 1400 (max 700 (mhz / 25 * 25))

/-- One step of at most 100 MHz toward the target (R645). -/
def PowerState.stepped (p : PowerState) : Nat :=
  if p.clock < p.target then min (p.clock + 100) p.target else max (p.clock - 100) p.target

/-- A step is staked. -/
def State.stepStaked (s : State) : Bool :=
  (s.stakes.allocs.any fun a => a.event == .clockStep) || s.stakes.timers.any fun t => t.event == .clockStep

/-- The clock steps, and the next step is staked 100 µs later on a package-wide comparator of class POWER, or in the timer
queue (R645). -/
def State.clockStep (s : State) (stake : Nat) : State :=
  let s := s.cancelEvent .clockStep
  if s.pwr.clock = s.pwr.target then s
  else
    let t := s.setPwr { s.pwr with clock := s.pwr.stepped }
    if t.pwr.clock = t.pwr.target then t else (t.stakeOrTimer 0xE 2 (stake + 800000) .device .clockStep).1

/-- The clock has a target: its first step falls at `stake`, unless a move is under way (R645). -/
def State.setTarget (s : State) (mhz stake : Nat) : State :=
  let t := s.setPwr { s.pwr with target := mhz }
  if t.stepStaked then t else t.clockStep stake

/-- The group has another target: the first step toward it falls at `stake`, whatever step was staked (R645; log 71). -/
def State.groupTarget (s : State) (mhz stake : Nat) : State :=
  if mhz = s.pwr.target then s.setTarget mhz stake else (s.cancelEvent .clockStep).setTarget mhz stake

/-- MT at which the staked step falls due. -/
def State.stepDue (s : State) : Option Nat :=
  ((s.stakes.allocs.find? fun a => a.event == .clockStep).map (·.stake))
    <|> (s.stakes.timers.find? fun t => t.event == .clockStep).map (·.due)

/-- CLOCK_STEP (R645). -/
def execClockStep (s : State) : Host.Outcome State Fault Refusal :=
  .next (match s.stepDue with
    | some m => if m ≤ s.mt then s.clockStep m else s
    | none => s)

/-! ### Notices (R641 to R647) -/

/-- A notice is active from its stake until 10 ms after it (R643). -/
def Throttle.active (n : Throttle) (mt : Nat) : Bool := decide (n.stake ≤ mt) && decide (mt < n.stake + 80000000)

/-- The lowest clock of some notices, or 1,400 MHz (R643). -/
def lowestClock (l : List Throttle) : Nat := l.foldl (fun m n => min m n.clock) 1400

/-- The group's target clock (R643). -/
def State.groupClock (s : State) : Nat := lowestClock (s.joined.notices.filter fun n => n.active s.mt)

/-- Notices by ORIGIN_MT and then by ORIGIN (R644). -/
def noticeBefore (a b : Throttle) : Bool :=
  if a.originMt = b.originMt then decide (a.origin ≤ b.origin) else decide (a.originMt < b.originMt)

/-- The batches of notices that are not yet applied, each as it takes in the notices whose ORIGIN_MT lies at least 10 µs before
the stake of its first (R644). -/
def batches : Nat → List Throttle → List (List Throttle)
  | 0, _ => []
  | _ + 1, [] => []
  | fuel + 1, n :: l =>
    (n :: l.filter fun m => decide (m.originMt + 80000 ≤ n.stake))
      :: batches fuel (l.filter fun m => !(decide (m.originMt + 80000 ≤ n.stake)))

/-- The batches of the device (R644). -/
def State.batches (s : State) : List (List Throttle) :=
  let l := (s.joined.notices.filter fun n => !n.applied).mergeSort noticeBefore
  Sys2Proof.Machine.batches (l.length + 1) l

/-- The stake of a batch: its latest (R644). -/
def batchStake (b : List Throttle) : Nat := b.foldl (fun m n => max m n.stake) 0

/-- The origin of a batch's lowest-clock notice (R647). -/
def batchOrigin (b : List Throttle) : Nat := ((b.find? fun n => n.clock == lowestClock b).map (·.origin)).getD 0

/-- A batch applies: the group's target is set, the clock takes its first step, and THROTTLE is posted (R644 to R647). -/
def State.applyBatch (s : State) (b : List Throttle) (viaTimer late : Bool) : State :=
  let stake := batchStake b
  let mark := fun (n : Throttle) =>
    if b.any (fun m => m.origin == n.origin && m.nseq == n.nseq) then { n with applied := true } else n
  let s := s.setJoined { s.joined with notices := s.joined.notices.map mark }
  let clock := min (lowestClock b) (lowestClock (s.joined.notices.filter fun n => n.applied && n.active s.mt))
  let s := (s.groupTarget clock stake).count 17 1
  let at_ := if late then s.mt else stake
  s.notify [0] 8 stOk 0 at_ (s.stampFlags (if viaTimer then 8 else 1) late false false) [clock, stake, batchOrigin b]

/-- Every batch whose stake has passed applies, and the others are staked anew (R644, R646). -/
def State.settleBatches (s : State) : State :=
  let s := s.cancelBatches
  if s.joined.group.isNone then s
  else
    s.batches.foldl (fun t b =>
      let m := batchStake b
      if m ≤ t.mt then t.applyBatch b false true else (t.stakeOrTimer 0xE 2 m .device (.throttleBatch m)).1) s

/-- The comparator, or the timer, of a batch fires (R644, R645). -/
def State.batchFires (s : State) (stake : Nat) (viaTimer late : Bool) : State :=
  let s := s.cancelEvent (.throttleBatch stake)
  if s.joined.group.isNone then s
  else
    match s.batches.find? fun b => batchStake b == stake with
    | some b => (s.applyBatch b viaTimer late).settleBatches
    | none => s

/-- This device records the notices of a group: it is a member, or is joining it (R640). -/
def State.records (s : State) (group : Nat) : Bool :=
  s.joined.group == some group || (match s.joined.joining with | some (_, g, _) => g == group | none => false)

/-- The words of a notice (R641). -/
def Throttle.words (n : Throttle) : List Nat :=
  [placed 0x20 48 + placed n.group 32 + n.origin, n.originMt, n.stake, placed n.nseq 32 + n.clock]

/-- The notices taken, with one more; those of its ORIGIN that lie half the sequence space back are forgotten, so that a number used
again after a wrap is a new one (R642). -/
def JoinedState.sees (j : JoinedState) (origin nseq : Nat) : List (Nat × Nat) :=
  (origin, nseq) :: j.seen.filter fun k => k.1 != origin || decide ((nseq + 2 ^ 32 - k.2) % 2 ^ 32 < 2 ^ 31)

/-- The first copy of a notice: it is flooded, and recorded by a member of its group (R642, R644). -/
def State.firstCopy (s : State) (n : Throttle) (but : Option Nat) : State :=
  let s := s.setJoined { s.joined with seen := s.joined.sees n.origin n.nseq }
  let s := (s.directPeers.filter fun q => some q.1 != but).foldl (fun t q => t.ctrlPeer q.1 n.words) s
  if s.records n.group then
    (s.setJoined { s.joined with notices := s.joined.notices ++ [n] }).settleBatches
  else s

/-- A THROTTLE notice arrives (R641, R642). -/
def State.takeThrottle (s : State) (p : Nat) (f : Frame) : State :=
  let n : Throttle := {
    group := f.word 0 / 2 ^ 32 % 2 ^ 16, origin := f.word 0 % 2 ^ 14, originMt := f.word 1, stake := f.word 2,
    nseq := f.word 3 / 2 ^ 32, clock := f.word 3 % 2 ^ 16, applied := false }
  if s.joined.seen.contains (n.origin, n.nseq) then s else s.firstCopy n (some p)

/-- A THROTTLE notice arrives. -/
def performThrottle (p : Nat) (f : Frame) (_ : Nat) (s : State) : Performed := ⟨s.takeThrottle p f, 0⟩

/-- RX_THROTTLE (R642). -/
def execRxThrottle (port : Nat) (frame : Frame) (stamp : Nat) (s : State) : Host.Outcome State Fault Refusal :=
  onFrame (isCtrl 0x20) performThrottle port frame stamp s

/-- A member's power manager originates a notice (R641, R642, R731). -/
def State.originate (s : State) (group : Nat) : State :=
  let n : Throttle := {
    group, origin := s.fab.node, originMt := s.mt, stake := s.mt + 160000, nseq := s.joined.nseq, clock := s.pwr.required,
    applied := false }
  let t := (s.setJoined { s.joined with nseq := (s.joined.nseq + 1) % 2 ^ 32, lastThrottle := some s.mt }).count 18 1
  (t.setPwr { t.pwr with throttles := (t.pwr.throttles + 1) % 2 ^ 16 }).firstCopy n none

/-- THROTTLE_ORIGINATE (R643, R731): the first notice at once, then one every 4 ms. -/
def execThrottleOriginate (s : State) : Host.Outcome State Fault Refusal :=
  .next (match s.joined.group with
    | some g =>
      let due := match s.joined.lastThrottle with | some m => decide (m + 32000000 ≤ s.mt) | none => true
      if decide (s.pwr.required < 1400) && !s.pwr.critMode && due then s.originate g else s
    | none => s)

/-- A notice is over: the clock moves toward the target that is left (R643, R645). -/
def State.expireThrottle (s : State) (n : Throttle) : State :=
  let s := s.setJoined { s.joined with
    notices := s.joined.notices.filter fun m => !(m.origin == n.origin && m.nseq == n.nseq) }
  let clock := lowestClock (s.joined.notices.filter fun m => m.applied && m.active s.mt)
  if s.joined.group.isSome ∧ n.applied ∧ clock ≠ s.pwr.target then s.groupTarget clock (n.stake + 80000000) else s

/-- THROTTLE_EXPIRY (R643). -/
def execThrottleExpiry (origin nseq : Nat) (s : State) : Host.Outcome State Fault Refusal :=
  .next (match s.joined.notices.find? fun n => n.origin == origin && n.nseq == nseq with
    | some n => if n.stake + 80000000 ≤ s.mt then s.expireThrottle n else s
    | none => s)

/-! ### Membership (R640, R743) -/

/-- PLUMB_JOIN. -/
def State.plumbJoin (s : State) (n : Nat) : State :=
  let group := s.arg n 0 % 2 ^ 16
  let stake := s.arg n 1
  if s.joined.group.isSome || s.joined.joining.isSome || s.pwr.critMode then s.complete n stBadState []
  else
    let t := s.setJoined { s.joined with joining := some (n, group, stake), notices := [] }
    ((t.stakeOrTimer 0xE 2 stake (s.mailboxOwner n) (.plumbJoin group)).1).begin_ n

/-- PLUMB_JOIN (R640). -/
def execPlumbJoin (mbx : Nat) (s : State) : Host.Outcome State Fault Refusal :=
  runCommand mbx 0x0703 (fun s => s.plumbJoin mbx) s

/-- The stake of a join passes: the device is a member and takes the group clock (R640, R643). -/
def State.joinFires (s : State) : State :=
  match s.joined.joining with
  | none => s
  | some (n, g, _) =>
    let past := fun (x : Throttle) => if x.stake ≤ s.mt then { x with applied := true } else x
    let s := (s.cancelEvent (.plumbJoin g)).cancelEvent .clockStep
    let clock := s.groupClock
    let s := s.setPwr { s.pwr with clock, target := clock }
    let s := s.setJoined { s.joined with
      group := some g, joining := none, lastThrottle := none, notices := s.joined.notices.map past }
    (s.complete n stOk [clock]).settleBatches

/-- PLUMB_LEAVE (R640): a group that the device does not belong to is none to leave. -/
def execPlumbLeave (mbx : Nat) (s : State) : Host.Outcome State Fault Refusal :=
  runCommand mbx 0x0704 (fun s =>
    if s.records (s.arg mbx 0 % 2 ^ 16) then s.leaveGroup.complete mbx stOk [] else s.complete mbx stBadState []) s

/-! ### Measurement (R718, R722) -/

/-- The mean of the newest samples of a window (R723); of those there are, while the window is not yet full. -/
def averageOf (n : Nat) (samples : List Nat) : Nat :=
  let l := samples.take n
  if l.isEmpty then 0 else l.sum / l.length

/-- A sample adds its energy, in µJ, and moves the averages (R722, R723). -/
def PowerState.sampled (p : PowerState) (vin watts : Nat) : PowerState :=
  let samples := (watts :: p.samples).take 100000
  { p with
    vin := vin % 2 ^ 16, samples, p10us := averageOf 10 samples % 2 ^ 16, p1ms := averageOf 1000 samples % 2 ^ 16,
    p100ms := averageOf 100000 samples % 2 ^ 16, energy := (p.energy + watts) % 2 ^ 64, msEnergy := p.msEnergy + watts }

/-- A compute die stands at 105 °C or above (R730). -/
def PowerState.hot (p : PowerState) : Bool :=
  p.readings.any fun r => (match r.rail with | .compute _ => true | _ => false) && decide (105 ≤ r.celsius)

/-- PMBUS_POLL (R718). -/
def execPmbusPoll (readings : List StageReading) (s : State) : Host.Outcome State Fault Refusal :=
  onEvent s.running (fun s => s.setPwr { s.pwr with readings }) s

/-! ### Gating and the required clock (R727 to R733) -/

/-- REASON bit of a cause (R723). -/
def reasonBit (b : Bool) (i : Nat) : BitVec 5 := if b then BitVec.ofNat 5 (2 ^ i) else 0

/-- The causes of gating now: sustained limit, peak limit, temperature, input, slope (R719, R729, R730, R733). -/
def PowerState.causes (p : PowerState) (input slope : Bool) : BitVec 5 :=
  reasonBit (decide (p.sustained ≤ Config.project100Ms p.samples)) 0
    ||| reasonBit (decide (98 * p.peak ≤ 100 * Config.projectMs p.samples)) 1 ||| reasonBit p.hot 2 ||| reasonBit input 3
    ||| reasonBit slope 4

/-- A cause for which a required clock is computed: sustained limit, temperature or input (R730). -/
def wantsClock (reason : BitVec 5) : Bool := reason.getLsbD 0 || reason.getLsbD 2 || reason.getLsbD 3

/-- The required clock from now on (R730): none lower than 1,400 MHz is asked for while nothing gates and none was asked for
before. -/
def PowerState.newRequired (p : PowerState) (reason : BitVec 5) : Nat :=
  if wantsClock reason || decide (p.required < 1400) then plumbValue (Config.requiredClock p.samples p.sustained) else 1400

/-- The share of cycles of each die while something gates: a free value below 64 for each (R728; log 11). -/
def State.gateShares (s : State) (gating : Bool) : State :=
  if gating then
    let free := fun (i : Nat) => (Config.freeWord (s.freeCtr + i)).toNat % 64
    (s.setFreeCtr (s.freeCtr + 8)).setPwr { s.pwr with gates := (List.range 8).map free }
  else s.setPwr { s.pwr with gates := List.replicate 8 64 }

/-- The device sets its own TARGET by R731 and R732. -/
def State.ownTarget (s : State) : Bool := s.joined.group.isNone || s.pwr.critMode

/-- The power manager decides: gating, REASON and the required clock, and outside a group a lower TARGET (R729 to R731). -/
def State.gatingDecision (s : State) (input slope : Bool) : State :=
  let p := s.pwr
  let reason := p.causes input slope
  let required := p.newRequired reason
  let s := s.setPwr { p with
    reason, required, lastLower := if p.required < required then s.mt else p.lastLower,
    gatedMs := p.gatedMs || reason != 0 }
  let s := s.gateShares (reason != 0)
  let s := if required = 1400 then s.setJoined { s.joined with lastThrottle := none } else s
  if s.ownTarget && decide (required < s.pwr.target) then s.setTarget required s.mt else s

/-- The input has stayed at 46 V or above for 1 ms, or has not (R719). -/
def State.inputCheck (s : State) (vin : Nat) : State × Bool :=
  match s.pwr.inputLow with
  | none => (s, false)
  | some m =>
    if vin < 4600 then (s.setPwr { s.pwr with inputLow := some s.mt }, true)
    else if m + 8000000 ≤ s.mt then (s.setPwr { s.pwr with inputLow := none }, false)
    else (s, true)

/-- INPUT_UNDERVOLTAGE (R719). -/
def execInputUndervoltage (s : State) : Host.Outcome State Fault Refusal :=
  onEvent s.running (fun s =>
    (s.setPwr { s.pwr with inputLow := some s.mt }).gatingDecision true (s.pwr.reason.getLsbD 4)) s

/-- TARGET_RESTORE (R732). -/
def execTargetRestore (s : State) : Host.Outcome State Fault Refusal :=
  onEvent (s.running && s.ownTarget && decide (s.pwr.target < s.pwr.required)
      && decide (s.pwr.lastLower + 80000000 ≤ s.mt)) (fun s => s.setTarget s.pwr.required s.mt) s

/-! ### Levelling load and hints (R733 to R741) -/

/-- Tenths of a watt that the draw may change in 1 µs under the slope limit (R714). -/
def slopeTenths : Nat := 63

/-- The highest draw that levelling load may make (R735). -/
def PowerState.ceiling (p : PowerState) : Nat := min (98 * p.sustained / 100) (98 * p.peak / 100)

/-- A PHASE_HEAVY hint holds the draw now (R739): one that is pending and lies at most 1,000 µs ahead, or one whose hold no
light hint has ended. -/
def PowerState.holding (p : PowerState) (mt : Nat) : Bool :=
  !p.heldHints.isEmpty || p.hints.any fun h => h.heavy && decide (h.phase ≤ mt + 8000000)

/-- A PHASE_HEAVY hint has begun its pre-ramp (R739). -/
def PowerState.preRamping (p : PowerState) (mt draw : Nat) : Bool :=
  p.hints.any fun h =>
    let rise := (10 * (p.targetW - draw) + slopeTenths - 1) / slopeTenths * 8000
    h.heavy && decide (h.phase ≤ mt + 8000000) && decide (h.phase ≤ mt + rise)

/-- The draw, in tenths of a watt, that levelling load would now make good: the held draw, the rising pre-ramp, or the falling
slope; and whether levelling load runs for it (R733, R735, R739). -/
def PowerState.wanted (p : PowerState) (mt last : Nat) : Nat :=
  let fill := p.fillDraw.getD last
  let ramp := if p.preRamping mt last then min (10 * last + slopeTenths) (10 * p.targetW) else 0
  let hold := if p.holding mt then 10 * min fill p.targetW else 0
  let fall := min (10 * last - slopeTenths) (10 * fill)
  min (max (max ramp hold) fall) (10 * p.ceiling)

/-- The engines' load after a sample, and what levelling load does about it (R733 to R735, R739). -/
def PowerState.levelled (p : PowerState) (mt last load cycles : Nat) : PowerState :=
  let on := !p.samples.isEmpty && decide (10 * load < p.wanted mt last)
  let part := p.levelPart + (if on then cycles else 0)
  let reached := fun (h : Nat × Bool) => (h.1, h.2 || decide (p.targetW ≤ load))
  { p with
    levelling := on, fillDraw := if on then some (p.fillDraw.getD last) else none,
    levelCycles := (p.levelCycles + part / 1024) % 2 ^ 48, levelPart := part % 1024, heldHints := p.heldHints.map reached }

/-- The span in which the matrix engines are busy without gating gives TARGET_W once it is 100 µs long (R738). -/
def PowerState.learn (p : PowerState) (watts : Nat) (busy : Bool) : PowerState :=
  if busy && !p.gating then
    let n := p.busyLen + 1
    let sum := p.busySum + watts
    { p with busyLen := n, busySum := sum, learned := if 100 ≤ n then some (sum / n % 2 ^ 16) else p.learned }
  else { p with busyLen := 0, busySum := 0 }

/-- POWER_SAMPLE: measurement always, and the power manager's decisions while the firmware runs. -/
def State.powerSample (s : State) (vin watts load : Nat) (busy : Bool) (cycles : Nat) : State :=
  let last := (s.pwr.samples.head?).getD watts
  let s := s.setPwr (s.pwr.sampled vin watts)
  if !s.running then s
  else
    let s := s.setPwr (((s.pwr.learn watts busy).levelled s.mt last load cycles))
    let r := s.inputCheck vin
    r.1.gatingDecision r.2 (decide (10 * last + slopeTenths < 10 * load))

/-- POWER_SAMPLE (R722): the input in units of 10 mV and the draw in W; `load` is the draw without levelling load, `busy` says
that the matrix engines were busy in at least half their cycles, and `cycles` counts core-cycles open to levelling. -/
def execPowerSample (vin watts load : Nat) (busy : Bool) (cycles : Nat) (s : State) : Host.Outcome State Fault Refusal :=
  onEvent (s.conn.phase != .off) (fun s => s.powerSample vin watts load busy cycles) s

/-- A hint acts at its phase time (R739, R741). -/
def State.actHint (s : State) (heavy : Bool) (phase : Nat) : State :=
  if heavy then s.setPwr { s.pwr with heldHints := (phase, false) :: s.pwr.heldHints }
  else s.setPwr { s.pwr with heldHints := s.pwr.heldHints.filter fun h => decide (phase < h.1) }

/-- A hint is registered (R736, R737): whether it was taken. -/
def State.registerHint (s : State) (heavy : Bool) (phase : Nat) (owner : Owner) : State × Bool :=
  let p := s.pwr
  if 16 ≤ p.hints.length then (s.setPwr { p with hintsDropped := (p.hintsDropped + 1) % 2 ^ 16 }, false)
  else if phase ≤ s.mt then
    ((s.setPwr { p with hintsLate := (p.hintsLate + 1) % 2 ^ 16 }).actHint heavy phase, true)
  else
    let r := s.stakeOrTimer 8 2 phase owner (.hintPhase p.nextHint)
    (r.1.setPwr { r.1.pwr with
      hints := r.1.pwr.hints ++ [⟨p.nextHint, heavy, phase, s.mt, r.2⟩], nextHint := p.nextHint + 1 }, true)

/-- A pending hint reaches its phase time; hints of one phase time act as one PHASE_HEAVY hint (R737, R739, R741). -/
def State.hintFires (s : State) (id : Nat) : State :=
  match s.pwr.hints.find? fun h => h.id == id with
  | none => s
  | some h =>
    let same := s.pwr.hints.filter fun g => g.phase == h.phase
    let s := same.foldl (fun t g => t.cancelEvent (.hintPhase g.id)) s
    let s := s.setPwr { s.pwr with hints := s.pwr.hints.filter fun g => g.phase != h.phase }
    s.actHint (h.heavy || decide (2 ≤ same.length)) h.phase

/-- PWR_HINT (R736, R737). -/
def execPwrHint (mbx : Nat) (s : State) : Host.Outcome State Fault Refusal :=
  runCommand mbx 0x0A01 (fun s =>
    match s.registerHint (s.arg mbx 0 % 2 == 1) (s.arg mbx 1) (s.mailboxOwner mbx) with
    | (t, true) => t.complete mbx stOk []
    | (t, false) => t.complete mbx stNoResource []) s

/-- HINT: the phase time is START_MT plus the lead time (R168, R736). -/
def execHint (watch entry : Nat) (s : State) : Host.Outcome State Fault Refusal :=
  onEntry watch entry 7 (fun p e s =>
    if 1000 < e.word 3 then s.endEntry watch entry stBadArg 0
    else
      match s.registerHint (e.word 2 % 2 == 1) (e.startMt + 8000 * e.word 3) (.context p.ctx) with
      | (t, true) => t.endEntry watch entry stOk 0
      | (t, false) => t.endEntry watch entry stNoResource 0) s

/-- HEAVY_HANDOVER_TIMEOUT (R739). -/
def execHeavyHandoverTimeout (s : State) : Host.Outcome State Fault Refusal :=
  .next (s.setPwr { s.pwr with
    heldHints := s.pwr.heldHints.filter fun h => h.2 || decide (s.mt < h.1 + 8000000) })

/-! ### Limits and modes (R724 to R726, R742) -/

/-- PWR_SET_LIMIT (R726). -/
def execPwrSetLimit (mbx : Nat) (s : State) : Host.Outcome State Fault Refusal :=
  runCommand mbx 0x0A00 (fun s =>
    let p := s.pwr
    let p' := if mbx = 63 then { p with sustM := s.arg mbx 0, peakM := s.arg mbx 1 }
      else { p with sustK := s.arg mbx 0, peakK := s.arg mbx 1 }
    (s.setPwr p').complete mbx stOk []) s

/-- PWR_MODE (R742). -/
def execPwrMode (mbx : Nat) (s : State) : Host.Outcome State Fault Refusal :=
  runCommand mbx 0x0A02 (fun s =>
    let crit := s.arg mbx 0 == 1
    let t := if crit && !s.pwr.critMode then (s.leaveGroup).cancelEvent .clockStep else s
    (t.setPwr { t.pwr with critMode := crit, critical := s.arg mbx 1 == 1 }).complete mbx stOk []) s

/-- A write of PWR_CTRL (R724). -/
def State.writeNoncrit (s : State) (v : Word) : State :=
  let n := fieldNat v 15 0
  if 1500 ≤ n ∧ n ≤ 4200 then s.setPwr { s.pwr with noncrit := n } else s

/-- NONCRIT_WRITE (R724). -/
def execNoncritWrite (value : Word) (s : State) : Host.Outcome State Fault Refusal :=
  onEvent s.hostUp (fun s => s.writeNoncrit value) s

/-! ### Apportioned energy (R745, R746) -/

/-- The weight of a context's engine time so far (R745). -/
def Account.weight (a : Account) : Nat := 16 * a.matrix + 4 * a.vector + 2 * a.copy + a.aluHalf

/-- Weight that a context has gained in the interval; one past step 5 of its teardown has no share (R746). -/
def State.intervalWeight (s : State) (c : Nat) : Nat :=
  if (s.ctx c).counting then (s.ctx c).acct.weight - nth s.pwr.msWeights c 0 else 0

/-- The energy of an interval is divided (R745). -/
def State.apportion (s : State) : State :=
  let e := s.pwr.msEnergy
  let weights := (List.range 64).map s.intervalWeight
  let total := weights.sum
  let share := fun (c : Nat) => if total = 0 then 0 else e * nth weights c 0 / total
  let give := fun (t : State) (c : Nat) =>
    let x := t.ctx c
    if share c = 0 then t
    else t.putCtx c { x with acct := { x.acct with energyUj := (x.acct.energyUj + share c) % 2 ^ 64 } }
  let rest := e - ((List.range 64).map share).sum
  let p := s.pwr
  ((List.range 64).foldl give s).setPwr { p with
    msEnergy := 0, msWeights := s.ctxs.map fun x => x.acct.weight, unapp := (p.unapp + rest) % 2 ^ 64,
    msIndex := s.mt / 8000000, gateMs := if p.gatedMs then (p.gateMs + 1) % 2 ^ 16 else p.gateMs, gatedMs := p.gating }

/-- ENERGY_APPORTION (R745): once a whole millisecond of MT has passed. -/
def execEnergyApportion (s : State) : Host.Outcome State Fault Refusal :=
  onEvent (s.running && s.pwr.msIndex != s.mt / 8000000) State.apportion s

end Sys2Proof.Machine
end

