-- ==== Sys2Proof/Machine/Monument.lean ====
section
/-!
DEFINITION. Monuments, restores and fill control (R648 to R679).
-/

namespace Sys2Proof.Machine

/-! ### The manifest (R651 to R654) -/

/-- A status, or what was asked for. -/
inductive Got (α : Type) where
  | ok (x : α)
  | status (st : Nat)

/-- Bytes at an address of a monument's memory that lie in this device's HBM (R134, R659). -/
def State.monuBytes (s : State) (ctx : Option Nat) (addr n : Nat) : Got (List Byte) :=
  match ctx with
  | none => if !(s.inHbm addr n) then .status stBadArg else if s.poisoned addr n then .status stHwFault else .ok (s.hbmRead addr n)
  | some c =>
    match s.cpTranslate c .read addr n with
    | .poison => .status stHwFault
    | .fault _ _ => .status stTranslationFault
    | .pieces l =>
      l.foldr (fun p r =>
        match r, p.target with
        | .ok b, .local_ pa => if s.poisoned pa p.size then .status stHwFault else .ok (s.hbmRead pa p.size ++ b)
        | .ok _, .tie _ _ _ => .status stTranslationFault
        | .status st, _ => .status st) (.ok [])

/-- Words that lie at the start of some bytes (R13). -/
def wordsOf (n : Nat) (b : List Byte) : List Word := (List.range n).map fun i => BitVec.ofNat 64 (leNat ((b.drop (8 * i)).take 8))

/-- REGIONS and STREAMS (R651). -/
def regionCount (h : List Word) : Nat := fieldNat (nth h 0 0) 14 0
def streamCount (h : List Word) : Nat := fieldNat (nth h 0 0) 28 16

/-- MAGIC, VERSION, a count or a reserved field of the header is wrong (R651, R659). -/
def badManifestHead (h : List Word) : Bool :=
  let w := nth h 0 0
  fieldNat w 63 48 != 0x4D4E || fieldNat w 47 40 != 1 || fieldNat w 39 29 != 0 || bitAt w 15 || decide (4096 < streamCount h)
    || regionCount h == 0 || decide (16384 < regionCount h)
    || [4, 6].any (fun i => (nth h i 0).toNat / 2 ^ 30 != 0 || fieldNat (nth h i 0) 15 12 != 0)
    || [11, 12, 13, 14, 15, 22, 23, 24, 25, 26, 27, 28, 29, 30, 31].any fun i => nth h i 0 != 0

/-- Offset of a layer's image (R651). -/
def layerOffset (h : List Word) (l : Nat) : Nat := (nth h (if l = 0 then 5 else if l = 1 then 8 else 7) 0).toNat

/-- The offset of a layer is misaligned (R651). -/
def badOffset (h : List Word) (l : Nat) : Bool := layerOffset h l % (if l = 1 then 2 ^ 20 else 256) != 0

/-- Region entries (R653), and the words they came from. -/
def regionsOf (h : List Word) (b : List Byte) : List (List Word) :=
  (List.range (regionCount h)).map fun i => wordsOf 4 (b.drop (256 + 32 * i))

/-- Stream entries (R654). -/
def streamsOf (h : List Word) (b : List Byte) : List (List Word) :=
  (List.range (streamCount h)).map fun i => wordsOf 8 (b.drop (256 + 32 * regionCount h + 64 * i))

/-- A region entry is misaligned, is empty, has a reserved bit, or, for a monument, SKIP (R653, R659). -/
def badRegion (restore : Bool) (w : List Word) : Bool :=
  fieldNat (nth w 0 0) 7 0 != 0 || fieldNat (nth w 1 0) 7 0 != 0 || nth w 1 0 == 0 || fieldNat (nth w 3 0) 63 1 != 0
    || (!restore && bitAt (nth w 3 0) 0)

/-- The region that an entry names. -/
def regionOf (w : List Word) : MonRegion where
  addr := (nth w 0 0).toNat
  len := (nth w 1 0).toNat
  label := (nth w 2 0).toNat
  skip := bitAt (nth w 3 0) 0

/-- A monument as MONUMENT_START or RESTORE finds it, not yet issued. -/
def newMonument (restore : Bool) (ctx : Option Nat) (manifest stake : Nat) (header : List Word) (regions : List MonRegion)
    (streams : List (List Word)) (layers : BitVec 3) (layer : Nat) : Monument where
  id := 0
  isRestore := restore
  ctx := ctx
  manifest := manifest
  header := header.take 16
  regions := regions
  streams := streams
  layers := layers
  sealedLayers := 0
  failedLayers := 0
  st := .waiting
  status := 0
  stake := stake
  alloc := none
  due := false
  layer := layer
  source := none
  startMt := 0
  startFlags := 0
  capturedMt := 0
  capturedFlags := 0
  endMt := 0
  endFlags := 0
  node := 0
  epoch := 0
  digest := []
  written := false
  sealOut := false
  broken := none
  bytes := [0, 0, 0]
  buffer := []
  asked := 0
  phase := .claiming
  sealBytes := []
  stored := []
  claim := none
  granted := false
  staged := 0

/-- The manifest read and checked (R659, R667): for a restore the source layer's offset alone, and STAGE_OFF where it is used. -/
def State.readManifest (s : State) (restore : Bool) (ctx : Option Nat) (addr stake : Nat) (layers : BitVec 3) (layer : Nat) :
    Got Monument :=
  if addr % 256 ≠ 0 then .status stBadArg
  else
    match s.monuBytes ctx addr 256 with
    | .status st => .status st
    | .ok b =>
      let h := wordsOf 32 b
      let offsets := if restore then [layer] else (List.range 3).filter fun l => layers.getLsbD l
      let staged := restore && layer == 1 && !(bitAt (nth h 9 0) 31)
      if badManifestHead h || offsets.any (badOffset h) || (staged && (nth h 10 0).toNat % 256 != 0) then .status stBadArg
      else
        match s.monuBytes ctx addr (256 + 32 * regionCount h + 64 * streamCount h) with
        | .status st => .status st
        | .ok b =>
          let rs := regionsOf h b
          let ss := streamsOf h b
          if rs.any (badRegion restore) || ss.any (fun w => nth w 7 0 != 0) then .status stBadArg
          else .ok (newMonument restore ctx addr stake h (rs.map regionOf) ss layers layer)

/-! ### MONUMENT_START, MONUMENT_QUERY, RESTORE (R659, R666, R667) -/

/-- The context that a monument command works in: none from mailbox 0 (R134). -/
def State.monuCtx (s : State) (n : Nat) : Option Nat := if n = 0 then none else s.boundCtx n

/-- The operation is issued at its stake: a RESILIENCE comparator, an ID, an answer (R659). -/
def State.issueMonument (s : State) (n : Nat) (m : Monument) : State :=
  let id := s.monu.nextId
  let ev : StakeEvent := if m.isRestore then .restore id else .capture id
  match s.allocate 8 1 m.stake (s.mailboxOwner n) ev with
  | (t, .granted a) =>
    let keep := fun (x : Monument) => !x.st.terminal || decide ((id + 2 ^ 16 - x.id) % 2 ^ 16 < 64)
    let m := { m with id, alloc := some a, phase := if m.isRestore then .claiming else .over_ }
    let t := t.setMonu { t.monu with items := t.monu.items.filter keep ++ [m], nextId := (id + 1) % 2 ^ 16 }
    (t.publish m).complete n stOk [id]
  | (t, .busy w) => t.complete n stResourceBusy [0, w]
  | (t, .noResource) => t.complete n stNoResource []

/-- The further statuses that MONUMENT_START and RESTORE share (R609, R659, R667). -/
def State.monuRefusal (s : State) (m : Monument) : Option Nat :=
  let live := s.monu.items.filter fun x => !x.st.terminal
  if s.fab.fenced && m.overFabric then some stEpochFenced
  else if live.any fun x => x.isRestore && x.ctx == m.ctx then some stBadState
  else if m.isRestore && live.any fun x => !x.isRestore && x.ctx == m.ctx && x.st == .capturing then some stBadState
  else if 4 ≤ live.length then some stNoResource
  else none

/-- MONUMENT_START or RESTORE once its arguments are in hand. -/
def State.startMonument (s : State) (n : Nat) (restore : Bool) (layers : BitVec 3) (layer : Nat) : State :=
  match s.readManifest restore (s.monuCtx n) (s.arg n 0) (s.arg n 2) layers layer with
  | .status st => s.complete n st []
  | .ok m =>
    match s.monuRefusal m with
    | some st => s.complete n st []
    | none => s.issueMonument n m

/-- MONUMENT_START (R659). -/
def execMonumentStart (mbx : Nat) (s : State) : Host.Outcome State Fault Refusal :=
  runCommand mbx 0x0800 (fun s =>
    let layers := BitVec.ofNat 3 (s.arg mbx 1)
    if layers = 0 then s.complete mbx stBadArg []
    else if s.fab.fenced && (layers.getLsbD 0 || layers.getLsbD 2) then s.complete mbx stEpochFenced []
    else s.startMonument mbx false layers 0) s

/-- RESTORE (R667). -/
def execRestore (mbx : Nat) (s : State) : Host.Outcome State Fault Refusal :=
  runCommand mbx 0x0802 (fun s =>
    let layer := s.arg mbx 1 % 4
    if layer = 3 then s.complete mbx stBadArg []
    else if s.fab.fenced && layer != 1 then s.complete mbx stEpochFenced []
    else s.startMonument mbx true 0 layer) s

/-- Image bytes of a monument that wait, or that no far device has acknowledged. -/
def State.unackedBytes (s : State) (id : Nat) : Nat :=
  (s.fab.sends.map fun f => (((f.unacked ++ f.waiting).filter fun u => u.op == .monument id && u.frame.op == opWrite).map
    fun u => u.frame.payload.length).sum).sum

/-- RES1 to RES3 of MONUMENT_QUERY (R666). -/
def State.layerBytes (s : State) (m : Monument) (l : Nat) : Nat :=
  let n := nth m.bytes l 0
  if l = m.layer ∧ !m.isRestore then n - min n (s.unackedBytes m.id) else n

/-- MONUMENT_QUERY (R666). -/
def execMonumentQuery (mbx : Nat) (s : State) : Host.Outcome State Fault Refusal :=
  runCommand mbx 0x0801 (fun s =>
    match s.monument (s.arg mbx 0 % 2 ^ 16) with
    | some m => s.complete mbx stOk
        ((m.stateWord + placed (flagNat m.isRestore) 47) :: (List.range 3).map (s.layerBytes m))
    | none => s.complete mbx stBadArg []) s

/-! ### The image and the layers (R655 to R658) -/

/-- Bytes of words as they lie in memory. -/
def bytesOf (ws : List Word) : List Byte := wordBytes (ws.map (·.toNat))

/-- The bytes of a region entry with SKIP clear (R655). -/
def MonRegion.bytes (r : MonRegion) : List Byte := wordBytes [r.addr, r.len, r.label, 0]

/-- Image bytes 0 to D - 1 (R655). -/
def Monument.headImage (m : Monument) : List Byte :=
  let b := bytesOf m.header ++ List.replicate 128 0 ++ m.regions.flatMap MonRegion.bytes ++ m.streams.flatMap bytesOf
  b ++ List.replicate (m.dataAt - m.headBytes) 0

/-- The seal (R656). -/
def Monument.seal (m : Monument) : List Byte :=
  wordBytes [placed 0x534C 48 + placed 1 40 + placed m.node 16 + m.epoch, (nth m.header 1 0).toNat, m.imageBytes, m.stake]
    ++ m.digest ++ List.replicate 192 0

/-- Node, window and offset of a far layer's image (R651). -/
def Monument.farPlace (m : Monument) (l : Nat) : Nat × Nat × Nat :=
  let w := nth m.header (if l = 0 then 4 else 6) 0
  (fieldNat w 29 16, fieldNat w 11 0, layerOffset m.header l)

/-- BULK WRITE frames of some bytes (R577, R582, R648): none where there is no route. -/
def State.bulkWrite (s : State) (id node window offset : Nat) (bytes : List Byte) : Option State :=
  ((chunks 4096 (bytes.length / 4096 + 1) bytes).foldl (fun (a : Option State × Nat) b =>
    (a.1.bind fun t =>
      t.flowSend { t.headTo opWrite node kBulk 0 with window, offset := a.2, length := b.length } b (.monument id),
     a.2 + b.length)) (some s, offset)).1

/-- A range lies in the local flash, 16 TiB (R9). -/
def inFlash (off n : Nat) : Bool := decide (off + n ≤ 2 ^ 44)

/-- Bytes written into a layer's image at an offset (R650): a missing route breaks the layer, and so does a range beyond the
local flash, which is a flash error (R9, R664; log 72). -/
def State.layerWrite (s : State) (m : Monument) (off : Nat) (bytes : List Byte) : State :=
  if m.layer = 1 then
    if inFlash (layerOffset m.header 1 + off) bytes.length then
      s.setMonu { s.monu with flash := cellWrite s.monu.flash (layerOffset m.header 1 + off) bytes }
    else s.breakMonument m.id none stHwFault
  else
    let p := m.farPlace m.layer
    match s.bulkWrite m.id p.1 p.2.1 (p.2.2 + off) bytes with
    | some t => t
    | none => s.breakMonument m.id none stDestLost

/-- A layer's seal is zeroed before anything else goes to it (R657). -/
def State.unseal (s : State) (m : Monument) : State := s.layerWrite m m.imageBytes (List.replicate 256 0)

/-- A whole image goes to the layer in hand (R655, R661). -/
def State.writeImage (s : State) (m : Monument) (image : List Byte) : State :=
  let t := s.layerWrite m 0 image
  match t.monument m.id with
  | some m' => t.putMonument { m' with written := true, bytes := m'.bytes.set m'.layer image.length, buffer := [] }
  | none => t

/-! ### Capture (R661 to R663) -/

/-- How reading the regions goes. -/
inductive Regions where
  | bytes (l : List Byte)
  | waits
  | fails (status : Nat)

/-- The parts of a monument's range that lie in this device's memory: address and length. -/
def State.monuParts (s : State) (m : Monument) (k : AccKind) (addr n : Nat) : List (Nat × Nat) :=
  match m.ctx with
  | none => if s.inHbm addr n then [(addr, n)] else []
  | some c =>
    match s.cpTranslate c k addr n with
    | .pieces l => l.filterMap fun p => match p.target with
      | .local_ pa => some (pa, p.size)
      | .tie _ _ _ => none
    | _ => []

/-- One region read (R649, R661, R664). -/
def State.readRegion (s : State) (m : Monument) (r : MonRegion) : State × Regions :=
  match m.ctx with
  | none =>
    if !(s.inHbm r.addr r.len) then (s, .fails stTranslationFault)
    else if s.poisoned r.addr r.len then (s, .fails stHwFault) else (s, .bytes (s.hbmRead r.addr r.len))
  | some c =>
    match s.cpTranslate c .read r.addr r.len with
    | .poison => (s, .fails stHwFault)
    | .fault _ _ => (s, .fails stTranslationFault)
    | .pieces l =>
      match State.fetchPieces c (.monument m.id) .control .copy (splitPieces l) s with
      | (t, .bytes b) => (t, .bytes b)
      | (t, .waits) => (t, .waits)
      | (t, .poison) => (t, .fails stHwFault)
      | (t, .fault _ _) => (t, .fails stTranslationFault)

/-- The regions read in entry order, in class BACKGROUND (R498, R536, R661). -/
def State.readRegions (m : Monument) : List MonRegion → State → State × Regions
  | [], s => (s, .bytes [])
  | r :: l, s =>
    match s.readRegion m r with
    | (t, .bytes b) =>
      let t := (t.monuParts m .read r.addr r.len).foldl (fun u p => u.glanceRange p.1 p.2 .background m.ctx) t
      match State.readRegions m l t with
      | (t', .bytes b') => (t', .bytes (b ++ b'))
      | x => x
    | x => x

/-- A layer of a monument comes after another in the order of R661, selected and not ended. -/
def Monument.layersLeft (m : Monument) : List Nat :=
  (List.range 3).filter fun l => m.layers.getLsbD l && !(m.sealedLayers.getLsbD l) && !(m.failedLayers.getLsbD l)

/-- The capture reads the regions and writes the image to the layer in hand, unsealed first (R655, R657, R661). -/
def State.capture (s : State) (id : Nat) : State :=
  match s.monument id with
  | none => s
  | some m =>
    if m.st != .capturing || m.written || m.broken.isSome then s
    else
      match State.readRegions m m.regions s with
      | (t, .waits) => t
      | (t, .fails st) => t.endMonument id st
      | (t, .bytes b) =>
        let t := t.tieTake fun w => w == .monument id
        let image := m.headImage ++ b
        let m := { m with digest := shake256 image }
        let t := (t.putMonument m).unseal m
        if ((t.monument id).map (·.broken.isSome)).getD true then t else t.writeImage m image

/-- A capture begins (R661 step 1, R663). -/
def State.beginCapture (s : State) (m : Monument) (late : Bool) : State :=
  let m := { m with
    st := .capturing, due := false, alloc := none, layer := (m.layersLeft.head?).getD 0, startMt := if late then s.mt else m.stake,
    startFlags := s.hubFlags late }
  (s.publish m).capture m.id

/-- Captures that wait, the first to run at the front: by stake, and then by take (R663). -/
def firstDue : List Monument → Option Monument
  | [] => none
  | m :: l =>
    match firstDue l with
    | none => if m.due && m.st == .waiting then some m else none
    | some k => if m.due && m.st == .waiting && decide (m.stake ≤ k.stake) then some m else some k

/-- The next capture begins, if none runs (R663). -/
def State.nextCapture (s : State) : State :=
  if s.monu.items.any fun m => m.st == .capturing then s
  else
    match firstDue s.monu.items with
    | some m => s.beginCapture m true
    | none => s

/-- The stake of a monument passes, perhaps late: the seal will name the node and epoch of now (R104, R656, R661, R663). -/
def State.captureFires (s : State) (id : Nat) (late : Bool) : State :=
  match s.monument id with
  | none => s
  | some m =>
    let m := { m with node := s.fab.node, epoch := s.fab.epoch }
    if m.st != .waiting then s
    else if s.monu.items.any (fun x => x.st == .capturing || (x.due && x.st == .waiting)) then
      (s.putMonument { m with due := true, alloc := none }).nextCapture
    else s.beginCapture m late

/-! ### Drain (R661 step 4, R663, R664) -/

/-- READ_REQ frames for bytes of a far image (R582, R648): none where there is no route. -/
def State.bulkRead (id node window : Nat) : Nat → Nat → Nat → State → Option State
  | 0, _, _, s => some s
  | fuel + 1, off, n, s =>
    if n = 0 then some s
    else
      let size := min n 4096
      let name := s.monu.nextRead
      let t := s.setMonu { s.monu with reads := s.monu.reads ++ [⟨name, id, node, 0, size⟩], nextRead := name + 1 }
      match t.flowSend { t.headTo opReadReq node kBulk 0 with window, offset := off, length := size } [] (.bulkRead name) with
      | some t' => State.bulkRead id node window fuel (off + size) (n - size) t'
      | none => none

/-- Bytes of an image asked of a far device; a missing route ends the reads. -/
def State.askBytes (s : State) (m : Monument) (place : Nat × Nat × Nat) (off n : Nat) : State :=
  match State.bulkRead m.id place.1 place.2.1 (n / 4096 + 1) (place.2.2 + off) n s with
  | some t => t
  | none => s.breakMonument m.id m.source stDestLost

/-- The layer that a drain reads: FLASH before PARTNER, of those sealed (R661, R664). -/
def Monument.drainSource (m : Monument) (but : Option Nat) : Option Nat :=
  [1, 0].find? fun l => m.sealedLayers.getLsbD l && l != m.layer && some l != but

/-- Another monument drains into a layer (R663). -/
def State.draining (s : State) (m : Monument) : Bool :=
  s.monu.items.any fun x => x.id != m.id && x.st == .draining && x.layer == m.layer && x.source.isSome

/-- A drain reads its source: the flash at once, a partner by READ_REQ (R661). -/
def State.readSource (s : State) (m : Monument) (src : Nat) : State :=
  let m := { m with source := some src, buffer := [], written := false, sealOut := false, broken := none }
  let t := (s.putMonument m).unseal m
  if ((t.monument m.id).map (·.broken.isSome)).getD true then t
  else if src = 1 then
    if inFlash (layerOffset m.header 1) m.imageBytes then
      t.writeImage m (cellRead t.monu.flash (layerOffset m.header 1) m.imageBytes)
    else t.breakMonument m.id (some 1) stHwFault
  else t.askBytes m (m.farPlace src) 0 m.imageBytes

/-- The monument is over: STORED when a layer holds it sealed, else FAILED (R660, R661 step 5). -/
def State.closeMonument (s : State) (m : Monument) : State :=
  s.finishMonument m (if m.sealedLayers = 0 then .failed else .sealed) m.status

/-- The monument goes on to the next layer of its drain, or is over; a drain with no source fails (R661, R664). -/
def State.nextDrain : Nat → State → Monument → State
  | 0, s, _ => s
  | fuel + 1, s, m =>
    match m.layersLeft with
    | [] => s.closeMonument m
    | l :: _ =>
      let m := { m with layer := l, source := none, written := false, sealOut := false, broken := none }
      match m.drainSource none with
      | none => State.nextDrain fuel s { m with failedLayers := m.failedLayers ||| BitVec.ofNat 3 (2 ^ l) }
      | some src =>
        let t := if m.st == .draining then s.putMonument m else s.publish { m with st := .draining }
        if t.draining m then t else t.readSource { m with st := .draining } src

/-- Drains that wait for a layer begin once it is free (R663). -/
def State.wakeDrains (s : State) : State :=
  s.monu.items.foldl (fun (t : State) x =>
    match t.monument x.id with
    | some m =>
      if m.st == .draining && m.source.isNone && m.broken.isNone && !(t.draining m) then State.nextDrain 4 t m else t
    | none => t) s

/-- What follows the end of a layer: its capture has ended too, when it was the first (R661, R663). -/
def State.layerEnds (s : State) (m : Monument) : State :=
  let first := m.st == .capturing
  let m := if first then { m with capturedMt := s.mt, capturedFlags := s.hubFlags false } else m
  let t := State.nextDrain 4 s m
  (if first then t.nextCapture else t).wakeDrains

/-- Frames of a monument that wait or are not acknowledged. -/
def State.monuBusy (s : State) (id : Nat) : Bool :=
  s.fab.sends.any fun f => (f.unacked ++ f.waiting).any fun u => u.op == .monument id

/-- MONUMENT_SEAL: once the image is in place the seal is written, and once that is in place the state advances (R657, R661). -/
def State.sealLayer (s : State) (m : Monument) : State :=
  let sealed := { m with sealedLayers := m.sealedLayers ||| BitVec.ofNat 3 (2 ^ m.layer), sealOut := true }
  if m.layer = 1 then
    if inFlash (layerOffset m.header 1 + m.imageBytes) 256 then (s.layerWrite m m.imageBytes m.seal).layerEnds sealed
    else s.breakMonument m.id none stHwFault
  else if m.sealOut then s.layerEnds sealed
  else (s.putMonument { m with sealOut := true }).layerWrite m m.imageBytes m.seal

/-- MONUMENT_SEAL (R657). -/
def execMonumentSeal (id layer : Nat) (s : State) : Host.Outcome State Fault Refusal :=
  .next (match s.monument id with
    | some m =>
      if m.layer == layer && (m.st == .capturing || m.st == .draining) && m.written && m.broken.isNone && !(s.monuBusy id) then
        s.sealLayer m
      else s
    | none => s)

/-- A layer fails: the capture begins again into the next layer, or the drain goes on (R664). -/
def State.failLayer (s : State) (m : Monument) (status : Nat) : State :=
  let m := { m with failedLayers := m.failedLayers ||| BitVec.ofNat 3 (2 ^ m.layer), status, broken := none }
  if m.st == .capturing then
    match m.layersLeft with
    | [] => ((s.closeMonument m).nextCapture).wakeDrains
    | l :: _ =>
      let m := { m with layer := l, written := false, sealOut := false }
      (s.putMonument m).capture m.id
  else s.layerEnds m

/-- A drain's source fails: the other sealed layer takes its place, or the drain fails (R664). -/
def State.failSource (s : State) (m : Monument) (src status : Nat) : State :=
  let t := s.setMonu { s.monu with reads := s.monu.reads.filter fun r => r.id != m.id }
  match m.drainSource (some src) with
  | some l => t.readSource { m with broken := none } l
  | none => t.failLayer m status

/-- LAYER_FAILURE (R664): a layer whose frames failed, or a flash error, which gives HW_FAULT. -/
def execLayerFailure (id layer status : Nat) (s : State) : Host.Outcome State Fault Refusal :=
  .next (match s.monument id with
    | some m =>
      if m.isRestore || m.st.terminal || !(m.st == .capturing || m.st == .draining) then s
      else
        let cause := match m.broken with
          | some b => if b.1 = layer then some b.2 else none
          | none => if layer = 1 ∧ status = stHwFault then some status else none
        match cause with
        | none => s
        | some st =>
          if layer = m.layer then s.failLayer m st
          else if m.source = some layer then s.failSource m layer st else s
    | none => s)

/-! ### Restore (R667 to R670) -/

/-- The place of the source image, where it lies in a far window (R668). -/
def Monument.sourcePlace (m : Monument) : Option (Nat × Nat × Nat) :=
  if m.layer = 1 then
    if bitAt (nth m.header 9 0) 31 then none
    else some (fieldNat (nth m.header 9 0) 29 16, fieldNat (nth m.header 9 0) 11 0, (nth m.header 10 0).toNat)
  else some (m.farPlace m.layer)

/-- The restore claims its source first (R668): a partner's window, or a staging window. -/
def Monument.claims (m : Monument) : Bool := m.layer == 0 || (m.layer == 1 && !(bitAt (nth m.header 9 0) 31))

/-- The image is staged by the far device (R668, R673). -/
def Monument.stages (m : Monument) : Bool := m.layer == 1 && !(bitAt (nth m.header 9 0) 31)

/-- Where a phase reads: offset in the image, and bytes (R669). -/
def Monument.phaseRange (m : Monument) : Nat × Nat :=
  match m.phase with
  | .seal => (m.imageBytes, 256)
  | .manifest => (0, m.dataAt)
  | .image => (0, m.imageBytes)
  | _ => (0, 0)

/-- Bytes of a region, or of the manifest, stored by a restore; whether it could (R649, R669). -/
def State.restoreStore (s : State) (m : Monument) (addr : Nat) (bytes : List Byte) : State × Bool :=
  match s.monuStore m addr bytes with
  | (t, .done) =>
    ((t.monuParts m .write addr bytes.length).foldl (fun u p => u.placeRange p.1 p.2 .background m.ctx) t, true)
  | (t, _) => (t, false)

/-- Image bytes from an offset on go to the regions that they belong to (R669 step 3). -/
def State.restoreRegions (m : Monument) (off : Nat) (bytes : List Byte) : Nat → List MonRegion → State → State × Bool
  | _, [], s => (s, true)
  | base, r :: l, s =>
    let lo := max base off
    let hi := min (base + r.len) (off + bytes.length)
    if r.skip ∨ hi ≤ lo then State.restoreRegions m off bytes (base + r.len) l s
    else
      match s.restoreStore m (r.addr + (lo - base)) ((bytes.drop (lo - off)).take (hi - lo)) with
      | (t, true) => State.restoreRegions m off bytes (base + r.len) l t
      | x => x

/-- The seal as read is no seal of this number (R669 step 2): BAD_STATE. -/
def Monument.sealWrong (m : Monument) : Bool :=
  let w := wordsOf 4 m.sealBytes
  fieldNat (nth w 0 0) 63 48 != 0x534C || nth w 1 0 != nth m.header 1 0

/-- The stored manifest, or the seal's length, differs from the restore's own (R669 step 2): BAD_ARG. -/
def Monument.storedWrong (m : Monument) : Bool :=
  let h := wordsOf 16 m.stored
  nth h 1 0 != nth m.header 1 0 || regionCount h != m.regions.length || streamCount h != m.streams.length
    || (nth (wordsOf 4 m.sealBytes) 2 0).toNat != m.imageBytes
    || ((regionsOf h m.stored).map fun w => (nth w 1 0).toNat) != m.regions.map (·.len)

/-- What a phase has read is taken, and the next phase follows (R669). -/
def State.phaseOver (s : State) (m : Monument) : State :=
  match m.phase with
  | .seal =>
    let m := { m with sealBytes := m.buffer, phase := .manifest, buffer := [], asked := 0 }
    if m.sealWrong then (s.putMonument m).endMonument m.id stBadState else s.putMonument m
  | .manifest =>
    let m := { m with stored := m.buffer, phase := .image, buffer := [], asked := 0 }
    if m.storedWrong then (s.putMonument m).endMonument m.id stBadArg else s.putMonument m
  | .image => s.putMonument { m with phase := .over_, capturedMt := s.mt, capturedFlags := s.hubFlags false }
  | _ => s

/-- Bytes of the present phase that have come are taken (R666, R669). -/
def State.takeBytes (s : State) (m : Monument) (b : List Byte) : State :=
  let off := (m.phaseRange).1 + m.buffer.length
  let m' := { m with
    buffer := m.buffer ++ b,
    bytes := if m.phase = .image then m.bytes.set m.layer (nth m.bytes m.layer 0 + b.length) else m.bytes }
  let t := s.putMonument m'
  let r := if m.phase = .image then State.restoreRegions m off b m.dataAt m.regions t else (t, true)
  if !r.2 then r.1.endMonument m.id stTranslationFault
  else if m'.buffer.length = (m'.phaseRange).2 then r.1.phaseOver m' else r.1

/-- A restore asks for what it may read of its present phase, or reads its own flash (R669, R673). -/
def State.driveRestore : Nat → State → Nat → State
  | 0, s, _ => s
  | fuel + 1, s, id =>
    match s.monument id with
    | none => s
    | some m =>
      let r := m.phaseRange
      if m.st != .reading || r.2 == 0 then s
      else
        match m.sourcePlace with
        | none =>
          if inFlash (layerOffset m.header 1 + r.1) r.2 then
            State.driveRestore fuel (s.takeBytes m (cellRead s.monu.flash (layerOffset m.header 1 + r.1) r.2)) id
          else s.endMonument id stHwFault
        | some p =>
          let upTo := if m.stages then min r.2 (m.staged - r.1) else r.2
          if upTo ≤ m.asked then s
          else (s.putMonument { m with asked := upTo }).askBytes m p (r.1 + m.asked) (upTo - m.asked)

/-- The stake of a restore passes, perhaps late: it claims its source, or begins to read (R103, R104, R668, R669). -/
def State.restoreFires (s : State) (id : Nat) (late : Bool) : State :=
  match s.monument id with
  | none => s
  | some m =>
    if m.st != .waiting then s
    else
      let m := { m with
        st := .reading, alloc := none, startMt := if late then s.mt else m.stake, startFlags := s.hubFlags late, node := s.fab.node,
        epoch := s.fab.epoch, phase := if m.claims then .claiming else .seal,
        claim := if m.claims then m.sourcePlace else none }
      let t := s.publish m
      match m.claim with
      | some (node, w, off) =>
        if (t.routePort t.fab.node node kCtrl 0).isNone then t.endMonument id stDestLost
        else t.fillMessage node 1 id [w, off] (.monument id)
      | none => State.driveRestore 4 t id

/-- Cursor and streams of the stored manifest go into the restore's own (R669 step 5). -/
def State.restoreCursor (s : State) (m : Monument) : State × Bool :=
  let cursor := (m.stored.drop 16).take 16
  match s.restoreStore m (m.manifest + 16) cursor with
  | (t, true) =>
    let at_ := 256 + 32 * m.regions.length
    if m.streams.isEmpty then (t, true)
    else t.restoreStore m (m.manifest + at_) ((m.stored.drop at_).take (64 * m.streams.length))
  | x => x

/-- RESTORE_COMPLETE: the digest decides (R669 steps 4 to 6). -/
def State.completeRestore (s : State) (m : Monument) : State :=
  if shake256 m.buffer ≠ (m.sealBytes.drop 32).take 32 then s.endMonument m.id stHwFault
  else
    match s.restoreCursor m with
    | (t, true) => t.finishMonument m .restored stOk
    | (t, false) => t.endMonument m.id stTranslationFault

/-- RESTORE_COMPLETE (R669). -/
def execRestoreComplete (id : Nat) (s : State) : Host.Outcome State Fault Refusal :=
  .next (match s.monument id with
    | some m => if m.isRestore && m.st == .reading && m.phase == .over_ then s.completeRestore m else s
    | none => s)

/-! ### Read data and fill control as they arrive (R585, R671 to R673) -/

/-- Read data of a monument or restore (R585, R661, R669). -/
def State.takeBulk (s : State) (f : Frame) : State :=
  match s.monu.reads.find? fun r => r.node == f.src && r.tag == f.tag with
  | none => s
  | some r =>
    let t := s.setMonu { s.monu with reads := s.monu.reads.filter fun q => q.name != r.name }
    match t.monument r.id with
    | none => t
    | some m =>
      if m.isRestore then State.driveRestore 4 (t.takeBytes m f.payload) m.id
      else if m.st != .draining then t
      else
        let m := { m with buffer := m.buffer ++ f.payload }
        if m.buffer.length < m.imageBytes then t.putMonument m else (t.putMonument m).writeImage m m.buffer

/-- Captures whose regions lie behind tie windows read on, once an answer is there (R655). -/
def State.captureOn (s : State) : State :=
  (s.monu.items.filter fun m => m.st == .capturing && !m.written).foldl (fun t m => t.capture m.id) s

/-- READ_RSP (R585). -/
def performReadRsp (_ : Nat) (f : Frame) (_ : Nat) (s : State) : Performed :=
  ⟨if f.kind = kBulk then s.takeBulk f else (s.takeAnswer f false f.payload).captureOn, 0⟩

/-- RX_READ_RSP (R585). -/
def execRxReadRsp (port : Nat) (frame : Frame) (stamp : Nat) (s : State) : Host.Outcome State Fault Refusal :=
  onFrame (fun f => f.op == opReadRsp) performReadRsp port frame stamp s

/-- SUB of a fill control message, the restore ID, and its words (R671). -/
def fillSub (f : Frame) : Nat := f.word 0 / 2 ^ 40 % 2 ^ 8
def fillId (f : Frame) : Nat := f.word 0 % 2 ^ 16

/-- The fill of a window and offset. -/
def State.fill (s : State) (window offset : Nat) : Option Fill :=
  s.monu.fills.find? fun g => g.window == window && g.offset == offset

/-- CLAIM (R672). -/
def State.takeClaim (s : State) (f : Frame) : State :=
  let w := f.word 1 % 2 ^ 12
  let off := f.word 2
  let me := (f.src, fillId f)
  match s.fill w off with
  | none =>
    (s.setMonu { s.monu with fills := s.monu.fills ++ [⟨w, off, some me, []⟩] }).fillMessage f.src 2 (fillId f) [w, off] .none
  | some g =>
    if 16 ≤ g.queue.length then s.fillMessage f.src 6 (fillId f) [placed stNoResource 48] .none
    else s.setMonu { s.monu with
      fills := s.monu.fills.map fun h => if h.window = w ∧ h.offset = off then { h with queue := h.queue ++ [me] } else h }

/-- RELEASE (R672). -/
def State.takeRelease (s : State) (f : Frame) : State :=
  let w := f.word 1 % 2 ^ 12
  let off := f.word 2
  let me := (f.src, fillId f)
  match s.fill w off with
  | none => s
  | some g =>
    if g.holder = some me then s.nextClaim g
    else s.setMonu { s.monu with
      fills := s.monu.fills.map fun h =>
        if h.window = w ∧ h.offset = off then { h with queue := h.queue.filter (· != me) } else h }

/-- The restore that a message from a holder answers. -/
def State.claimant (s : State) (f : Frame) : Option Monument :=
  (s.monument (fillId f)).filter fun m => m.isRestore && m.st == .reading && (m.claim.map (·.1)) == some f.src

/-- GRANT: reading begins, or staging is asked for (R672, R673). -/
def State.takeGrant (s : State) (f : Frame) : State :=
  match s.claimant f with
  | none => s
  | some m =>
    if m.granted then s
    else
      let m := { m with granted := true, phase := .seal }
      let t := s.putMonument m
      if m.stages then
        t.fillMessage f.src 4 m.id
          [layerOffset m.header 1, fieldNat (nth m.header 9 0) 11 0, (nth m.header 10 0).toNat, m.imageBytes + 256] (.monument m.id)
      else State.driveRestore 4 t m.id

/-- PROGRESS messages of a staged image: at every 64 MiB and at the end (R673). -/
def progressMarks (n : Nat) : List Nat := ((List.range (n / 2 ^ 26)).map fun i => (i + 1) * 2 ^ 26).filter (· != n) ++ [n]

/-- STAGE under a grant: the flash image is copied into the window (R673). -/
def State.takeStage (s : State) (f : Frame) : State :=
  let w := f.word 2 % 2 ^ 12
  let off := f.word 3
  let n := f.word 4
  if ((s.fill w off).bind (·.holder)) ≠ some (f.src, fillId f) then s
  else
    match s.tieWindow w with
    | some t =>
      if t.size < off + n then s.fillMessage f.src 6 (fillId f) [placed stBadArg 48] .none
      else if !(inFlash (f.word 1) n) then s.fillMessage f.src 6 (fillId f) [placed stHwFault 48] .none
      else
        let s := (s.placeRange (t.base + off) n .background (some t.ctx)).hubWrite (t.base + off) (cellRead s.monu.flash (f.word 1) n)
        (progressMarks n).foldl (fun t k => t.fillMessage f.src 5 (fillId f) [k] .none) s
    | none => s.fillMessage f.src 6 (fillId f) [placed stBadArg 48] .none

/-- PROGRESS (R673). -/
def State.takeProgress (s : State) (f : Frame) : State :=
  match s.claimant f with
  | some m => State.driveRestore 4 (s.putMonument { m with staged := max m.staged (f.word 1) }) m.id
  | none => s

/-- FAIL from a holder (R673). -/
def State.takeFillFail (s : State) (f : Frame) : State :=
  match s.claimant f with
  | some m => s.endMonument m.id (f.word 1 / 2 ^ 48)
  | none => s

/-- A fill control message arrives (R671). -/
def performFill (_ : Nat) (f : Frame) (_ : Nat) (s : State) : Performed :=
  ⟨match fillSub f with
   | 1 => s.takeClaim f
   | 2 => s.takeGrant f
   | 3 => s.takeRelease f
   | 4 => s.takeStage f
   | 5 => s.takeProgress f
   | 6 => s.takeFillFail f
   | _ => s, 0⟩

/-- The frame is a fill control message of a SUB. -/
def isFill (sub : Nat) (f : Frame) : Bool := isCtrl 0x30 f && fillSub f == sub

/-- RX_CLAIM (R672). -/
def execRxClaim (port : Nat) (frame : Frame) (stamp : Nat) (s : State) : Host.Outcome State Fault Refusal :=
  onFrame (isFill 1) performFill port frame stamp s

/-- RX_GRANT (R672). -/
def execRxGrant (port : Nat) (frame : Frame) (stamp : Nat) (s : State) : Host.Outcome State Fault Refusal :=
  onFrame (isFill 2) performFill port frame stamp s

/-- RX_RELEASE (R672). -/
def execRxRelease (port : Nat) (frame : Frame) (stamp : Nat) (s : State) : Host.Outcome State Fault Refusal :=
  onFrame (isFill 3) performFill port frame stamp s

/-- RX_STAGE (R673). -/
def execRxStage (port : Nat) (frame : Frame) (stamp : Nat) (s : State) : Host.Outcome State Fault Refusal :=
  onFrame (isFill 4) performFill port frame stamp s

/-- RX_PROGRESS (R673). -/
def execRxProgress (port : Nat) (frame : Frame) (stamp : Nat) (s : State) : Host.Outcome State Fault Refusal :=
  onFrame (isFill 5) performFill port frame stamp s

/-- RX_FAIL (R673). -/
def execRxFail (port : Nat) (frame : Frame) (stamp : Nat) (s : State) : Host.Outcome State Fault Refusal :=
  onFrame (isFill 6) performFill port frame stamp s

end Sys2Proof.Machine
end

