-- ==== Sys2Proof/Machine/Fire.lean ====
section
/-!
DEFINITION. Comparators and timer-queue entries as they fire (R103 to R106, R151), and the binding of a witness at its stake,
with the frames held for it (R574, R606 to R608).
-/

namespace Sys2Proof.Machine

/-! ### Frames held for a bind (R608) -/

/-- What performing a sequenced frame does, by its opcode and by the TYPE of a CTRL message (R582, R583). -/
def performAny (p : Nat) (f : Frame) (stamp : Nat) (s : State) : Performed :=
  if f.op = opWrite then performWrite p f stamp s
  else if f.op = opReadReq then performRead p f stamp s
  else if f.op = opReadRsp then performReadRsp p f stamp s
  else if f.op = opAtomic then performAtomic p f stamp s
  else if f.op = opAtomicRsp then performAtomicRsp p f stamp s
  else if f.op = opXadd then performXadd p f stamp s
  else if f.op = opColl then performColl p f stamp s
  else if f.op = opCtrl then
    match ctrlType f with
    | 0x0001 => performAligned p f stamp s
    | 0x0002 => performHall p f stamp s
    | 0x0010 => performOffer p f stamp s
    | 0x0011 => performLaunchAck p f stamp s
    | 0x0012 => performCommit p f stamp s
    | 0x0013 => performAbort p f stamp s
    | 0x0020 => performThrottle p f stamp s
    | 0x0030 => performFill p f stamp s
    | _ => performNone p f stamp s
  else performNone p f stamp s

/-- Held frames are checked again, in their order, once a bind has acted; a fenced device drops them (R608, R609). -/
def State.recheckHeld (s : State) : State :=
  let held := s.fab.held
  held.foldl (fun (t : State) h =>
    if t.fab.fenced || (t.port h.port).quar then t else State.atDevice performAny h.port h.frame h.stamp t)
    (s.setFab { s.fab with held := [] })

/-! ### WITNESS_BIND (R574, R606) -/

/-- This device takes a node ID with an epoch: every flow is discarded, and what was unacknowledged ends (R606). -/
def State.takeNode (s : State) (node epoch : Nat) : State :=
  let lost := (s.fab.sends.map (·.dst)).eraseDups
  let s := s.setFab { s.fab with node, epoch, epochs := assocPut s.fab.epochs node epoch }
  let r := s.dropFlows fun _ => true
  let s := (r.1.dropClaims fun _ => true).endOps r.2 endFenced
  (lost.foldl (fun t n => (t.endTies n endFenced).endColls n stEpochFenced) s).settleInvs

/-- A bind acts: the first of the three cases of R606 that applies, and then the frames held for it (R608). -/
def State.bindActs (s : State) (b : Bind) : State :=
  let s := s.setFab { s.fab with binds := s.fab.binds.erase b }
  let t :=
    if b.plat = s.fab.platPos then s.takeNode b.node b.epoch
    else if s.fab.epoch ≠ 0 ∧ s.fab.node = b.node then (s.newEpoch b.node b.epoch).enterFenced b.epoch
    else s.newEpoch b.node b.epoch
  t.recheckHeld

/-- The bind of a comparator or timer fires. -/
def State.bindFires (s : State) (node epoch plat stake : Nat) : State :=
  match s.fab.binds.find? fun b => b.node == node && b.epoch == epoch && b.plat == plat && b.stake == stake with
  | some b => s.bindActs b
  | none => s

/-- WITNESS_BIND: the bind waits for its stake, or acts at once when that has passed (R606). -/
def State.witnessBind (s : State) (n : Nat) : State :=
  let b : Bind := ⟨s.arg n 0 % 2 ^ 14, s.arg n 0 / 2 ^ 16 % 2 ^ 16, s.arg n 1 % 2 ^ 40, s.arg n 2⟩
  let s := s.setFab { s.fab with binds := s.fab.binds ++ [b] }
  let t := if b.stake ≤ s.mt then s.bindActs b
    else (s.stakeOrTimer 8 1 b.stake (s.mailboxOwner n) (.bind b.node b.epoch b.plat)).1
  t.complete n stOk []

/-- WITNESS_BIND (R606). -/
def execWitnessBind (mbx : Nat) (s : State) : Host.Outcome State Fault Refusal :=
  runCommand mbx 0x0603 (fun s => s.witnessBind mbx) s

/-! ### Firing (R103, R104, R106) -/

/-- What an event does when it fires, for the allocation or timer entry with this stake; `late` where that was set at or after its
stake, or stepped over (R104, R106). -/
def State.eventFires (s : State) (e : StakeEvent) (stake : Nat) (viaTimer late : Bool) : State :=
  match e with
  | .notice => s
  | .hallSlew corr => s.beginHallSlew corr
  | .bind node epoch plat => s.bindFires node epoch plat stake
  | .offerExpiry job => s.offerFires job
  | .abortStake job => s.offerFires job
  | .launchStart job => s.launchStarts job
  | .plumbJoin _ => s.joinFires
  | .throttleBatch stake => s.batchFires stake viaTimer late
  | .clockStep => s.clockStep stake
  | .hintPhase hint => s.hintFires hint
  | .capture id => s.captureFires id late
  | .restore id => s.restoreFires id late
  | .traceTrigger => s.fireTrigger (if late then s.mt else stake) late

/-- The event of an allocation takes place. One that STAKE_ALLOC made stays its owner's, and its owner is told (R151, R856); the
device's own comparators are free again. On time the event carries the stake as its stamp, and else the moment of firing,
with LATE (R103, R104). -/
def State.allocFires (s : State) (a : Alloc) : State :=
  match a.event with
  | .notice =>
    match s.ownerMailbox a.owner with
    | some n =>
      s.notify [n] 1 stOk (match a.owner with | .context c => c | _ => 0) (if a.late then s.mt else a.stake) (s.hubFlags a.late) [a.id]
    | none => s
  | e => ((if a.armed.isEmpty then s.dropAlloc a.id else s)).eventFires e a.stake false a.late

/-- The replica that the comparators of a location watch (R102). -/
def State.replicaAt (s : State) (loc : Nat) : Nat := if loc < 8 then s.replica loc else s.mt

/-- The allocation with one comparator less armed. -/
def Alloc.fired (a : Alloc) (place : Nat × Nat) : Alloc := { a with armed := a.armed.filter (· != place) }

/-- The comparator by whose firing an allocation acts: the hub's of a package-wide stake, and else its only one (R105). -/
def Alloc.acts (a : Alloc) (place : Nat × Nat) : Bool := place.1 == 8 || decide (a.places.length ≤ 1)

/-- One comparator of an allocation fires (R103, R105): the allocation acts by the hub's, and those of the device's own are free
once all have fired. -/
def State.placeFires (s : State) (a : Alloc) (place : Nat × Nat) : State :=
  let b := a.fired place
  let t := s.setStakes { s.stakes with allocs := s.stakes.allocs.map fun x => if x.id = a.id then b else x }
  if a.acts place then t.allocFires b
  else if b.armed.isEmpty && b.event != .notice then t.dropAlloc b.id
  else t

/-- COMPARATOR_FIRE (R103, R104): the armed comparator `index` of a location, whose replica is at or past its stake; an expiry
leaves the outcome to a COMMIT that came in time (R126). -/
def execComparatorFire (location index : Nat) (s : State) : Host.Outcome State Fault Refusal :=
  .next (match s.stakes.allocs.find? fun a => a.armed.contains (location, index) with
    | some a =>
      let wins := match a.event with | .offerExpiry job => s.commitArriving job | _ => false
      if a.stake ≤ s.replicaAt location ∧ !wins then s.placeFires a (location, index) else s
    | none => s)

/-- The first due entry of the timer queue. -/
def firstDueTimer (mt : Nat) : List Timer → Option Timer
  | [] => none
  | t :: l =>
    match firstDueTimer mt l with
    | none => if t.due ≤ mt then some t else none
    | some u => if t.due ≤ mt ∧ t.due ≤ u.due then some t else some u

/-- TIMER_QUEUE_EXPIRY (R106). -/
def execTimerQueueExpiry (s : State) : Host.Outcome State Fault Refusal :=
  .next (match firstDueTimer s.mt s.stakes.timers with
    | some t => (s.setStakes { s.stakes with timers := s.stakes.timers.erase t }).eventFires t.event t.due true t.late
    | none => s)

end Sys2Proof.Machine
end

