-- ==== Sys2Proof/Machine/Dies.lean ====
section
/-!
DEFINITION. Dies and die links: the modes of a bundle, replay and retraining in service, die service, and parts that leave
service (R24, R50 to R55, R719, R778 to R800); the saturation windows and the closure report (R561, R707, R708).
-/

namespace Sys2Proof.Machine

/-! ### Bundles (R787) -/

/-- The mode of one direction, by its bad lanes (R787). -/
def modeOf (bad : BitVec 68) : LaneMode :=
  let low := popBits (bad.extractLsb' 0 34)
  let high := popBits (bad.extractLsb' 34 34)
  if low + high ≤ 4 then .full
  else if low ≤ 2 then .halfLow
  else if high ≤ 2 then .halfHigh
  else .failed

/-- A bundle with other bad lanes, its modes chosen from them (R787, R788, R790). -/
def Bundle.withBad (b : Bundle) (out inn : BitVec 68) : Bundle :=
  { b with badOut := out, badIn := inn, modeOut := modeOf out, modeIn := modeOf inn }

/-- The state with another die link of port p of base die d. -/
def State.putLink (s : State) (d p : Nat) (l : DieLink) : State :=
  s.setDies { s.dies with links := s.dies.links.set (5 * d + p) l }

/-- A change of bundle b of a link. -/
def State.onBundle (s : State) (d p b : Nat) (f : Bundle → Bundle) : State :=
  let l := s.dieLink d p
  s.putLink d p { l with bundles := l.bundles.modify b f }

/-! ### Parts that leave service (R51, R53, R719, R800) -/

/-- Every link of a die is fenced (R793). -/
def State.fenceLinks (s : State) (code : Nat) : State :=
  let touches := fun (i : Nat) => i / 5 == code || ((portFar (i / 5) (i % 5)).map (·.1)) == some code
  s.setDies { s.dies with links := s.dies.links.mapIdx fun i l => if touches i && !l.bundles.isEmpty then { l with fenced := true } else l }

/-- Contexts with a block on a cluster that meets a condition are torn down with HW_FAULT (R719, R800). -/
def State.tearResident (s : State) (on : Nat → Bool) : State :=
  (((s.compute.blocks.filter fun b => on b.cluster).map (·.ctx)).eraseDups).foldl (fun t c => t.teardown c stHwFault) s

/-- A compute die leaves service (R50, R55, R719). -/
def State.dropCompute (s : State) (d : Nat) : State :=
  (s.setIds { s.ids with
    computeLive := s.ids.computeLive &&& ~~~(BitVec.twoPow 8 d), clusterLive := s.ids.clusterLive.set d 0 }).tearResident
      fun c => c / 24 == d

/-- A base die leaves service, and with it its compute die and both stacks; routes are redrawn, and every context is torn down
with HW_FAULT (R33, R34, R51, R53, R800). -/
def State.dropBase (s : State) (d : Nat) : State :=
  let live := s.ids.baseLive &&& ~~~(BitVec.twoPow 8 d)
  let s := s.setIds { s.ids with
    baseLive := live, computeLive := s.ids.computeLive &&& ~~~(BitVec.twoPow 8 d),
    clusterLive := s.ids.clusterLive.set d 0,
    stackLive := s.ids.stackLive &&& ~~~(BitVec.twoPow 16 (2 * d) ||| BitVec.twoPow 16 (2 * d + 1)), routes := routeTables s.linkInUse live }
  (List.range 64).foldl (fun t c => t.teardown c stHwFault) (s.fenceLinks d)

/-- A processor die leaves service (R719, R800). -/
def State.dropProc (s : State) (p : Nat) : State :=
  (s.setIds { s.ids with procLive := s.ids.procLive &&& ~~~(BitVec.twoPow 2 p) }).fenceLinks (8 + p)

/-- An optical engine leaves service: its eight ports are DOWN, and what went over them is lost (R604, R719, R800). -/
def State.dropOptical (s : State) (k : Nat) : State :=
  let s := s.setIds { s.ids with optLive := s.ids.optLive &&& ~~~(BitVec.twoPow 4 k) }
  (List.range 8).foldl (fun (t : State) i =>
    let p := 8 * k + i
    let t := if (t.port p).st == .up then t.portLost p else t
    t.putPort p { t.port p with st := .down }) s

/-- A die is fenced in service (R791, R800). -/
def State.fenceDie (s : State) (code : Nat) : State :=
  if code < 8 then s.dropBase code else if code < 10 then s.dropProc (code - 8) else s

/-- CLUSTER_FAULT (R24, R800). -/
def State.clusterFault (s : State) (c : Nat) : State :=
  (s.setIds { s.ids with
    clusterLive := s.ids.clusterLive.modify (c / 24) fun v => v &&& ~~~(BitVec.twoPow 24 (c % 24)) }).tearResident (· == c)

/-- CLUSTER_FAULT (R24). -/
def execClusterFault (cluster : Nat) (s : State) : Host.Outcome State Fault Refusal :=
  onEvent (decide (cluster < 192)) (fun s => s.clusterFault cluster) s

/-! ### Replay and retraining in service (R789 to R792) -/

/-- A bundle begins to retrain, at both ends of a link between two tiles (R790, R793). -/
def State.beginRetrain (s : State) (d p b : Nat) : State :=
  let mark := fun (x : Bundle) => { x with retraining := true }
  let t := s.onBundle d p b mark
  match portFar d p with
  | some (e, q) => if e < 8 then t.onBundle e q b mark else t
  | none => t

/-- The next bundle of a link with more than 64 replays in its millisecond retrains, when none of the link does (R789, R790). -/
def State.nextRetrain (s : State) (d p : Nat) : State :=
  let l := s.dieLink d p
  if l.bundles.any (·.retraining) then s
  else
    match l.bundles.findIdx? fun b => decide (64 < b.msReplays) && b.mode != .failed with
    | some b => s.beginRetrain d p b
    | none => s

/-- A flit is replayed at the inbound side of a bundle (R789). -/
def State.flitReplay (s : State) (d p b : Nat) : State :=
  let ms := s.mt / 8000000
  let up := fun (x : Bundle) => { x with
    replays := (x.replays + 1) % 2 ^ 32, msReplays := if x.ms = ms then x.msReplays + 1 else 1, ms }
  ((s.onBundle d p b up).count 12 1).nextRetrain d p

/-- FLIT_REPLAY (R789). -/
def execFlitReplay (tile port bundle : Nat) (s : State) : Host.Outcome State Fault Refusal :=
  onEvent (decide (tile < 8) && decide (port < 5) && decide (bundle < (s.dieLink tile port).bundles.length)
    && (s.dieLink tile port).used && !(s.dieLink tile port).fenced) (fun s => s.flitReplay tile port bundle) s

/-- The die that a FAILED bundle of a link fences, with the outcome of its two loopback tests (R791). -/
def failedFences (d p : Nat) (ownFails farFails : Bool) : Nat :=
  match portFar d p with
  | some (e, _) =>
    if e = 0xA then d
    else if e = 8 ∨ e = 9 then e
    else if ownFails && !farFails then d
    else if farFails && !ownFails then e
    else max d e
  | none => d

/-- One end of a bundle has been retrained (R790). -/
def State.retrained (s : State) (d p b : Nat) (out inn : BitVec 68) : State :=
  let l := s.dieLink d p
  let up := fun (x : Bundle) => { x.withBad (x.badOut ||| out) (x.badIn ||| inn) with retraining := false, msReplays := 0 }
  (s.putLink d p { l with bundles := l.bundles.modify b up, retrains := (l.retrains + 1) % 2 ^ 32 }).count 11 1

/-- A retrain, at both ends of a link between two tiles (R790, R793), and the fence of a bundle that fails (R791). -/
def State.bundleRetrain (s : State) (f : LaneFaults) (ownFails farFails : Bool) : State :=
  let s := s.retrained f.tile f.port f.bundle f.out f.inn
  let s := match portFar f.tile f.port with
    | some (e, q) => if e < 8 then (s.retrained e q f.bundle f.inn f.out).nextRetrain e q else s
    | none => s
  let s := s.nextRetrain f.tile f.port
  match (s.dieLink f.tile f.port).bundles[f.bundle]? with
  | some b => if b.mode == .failed then s.fenceDie (failedFences f.tile f.port ownFails farFails) else s
  | none => s

/-- BUNDLE_RETRAIN (R790). -/
def execBundleRetrain (faults : LaneFaults) (ownFails farFails : Bool) (s : State) : Host.Outcome State Fault Refusal :=
  .next (match (s.dieLink faults.tile faults.port).bundles[faults.bundle]? with
    | some b => if faults.tile < 8 ∧ faults.port < 5 ∧ b.retraining then s.bundleRetrain faults ownFails farFails else s
    | none => s)

/-! ### Die service (R794 to R799) -/

/-- A die service starts: the tile is checked, and takes no further block (R795, R796 steps 1 and 2). -/
def State.startService (s : State) (n : Nat) : State :=
  let d := s.arg n 0 % 8
  if !(s.ids.baseLive.getLsbD d) then s.complete n stHwFault []
  else
    let run : DieServiceRun := ⟨n, d, s.ids.computeLive.getLsbD d, s.takenAt n⟩
    (s.setIds { s.ids with computeLive := s.ids.computeLive &&& ~~~(BitVec.twoPow 8 d) }).setDies
      { s.dies with service := some run }

/-- The next die service starts, when none runs (R794). -/
def State.nextService : Nat → State → State
  | 0, s => s
  | k + 1, s =>
    match s.dies.service, s.dies.serviceQueue with
    | none, n :: rest => State.nextService k ((s.setDies { s.dies with serviceQueue := rest }).startService n)
    | _, _ => s

/-- DIE_SERVICE (R794). -/
def execDieService (mbx : Nat) (s : State) : Host.Outcome State Fault Refusal :=
  runCommand mbx 0x0D00 (fun s =>
    let t := (s.begin_ mbx).setDies { s.dies with serviceQueue := s.dies.serviceQueue ++ [mbx] }
    State.nextService t.dies.serviceQueue.length t) s

/-- The die is off and on again: L1 presence, cluster TLBs and block memory are gone, and the stop is recorded (R124, R796
steps 4 to 7, R799). -/
def State.powerCycle (s : State) (d stop : Nat) : State :=
  let s := s.setCoh { s.coh with
    lines := s.coh.lines.map fun l => if l.agent = d then { l with clusters := 0 } else l,
    l1 := s.coh.l1.filter (fun l => l.cluster / 24 != d), detectors := s.coh.detectors.filter fun x => x.cluster / 24 != d }
  let s := s.setXlat { s.xlat with
    l1 := s.xlat.l1.filter (fun x => x.entry.place / 24 != d), tlb := s.xlat.tlb.filter fun e => e.place / 24 != d }
  let s := s.setCompute { s.compute with
    bmem := s.compute.bmem.filter fun c => c.1 / 2 ^ 21 / 24 != d }
  let flags := s.plumbFlags d false true
  s.traceKept d s.mt flags (recordOf [traceHead 0x12 d 0 0xFF none flags, stop, s.mt])

/-- The drained die is switched off and on, retested, and returns with the clusters that passed (R796 steps 4 to 9). -/
def State.serviceEnds (s : State) (r : DieServiceRun) (passed : BitVec 24) (linkOk : Bool) (stop : Nat) : State :=
  let s := (s.powerCycle r.tile stop).setDies { s.dies with service := none }
  let s := if linkOk && passed != 0 then
      (s.setIds { s.ids with
        clusterLive := s.ids.clusterLive.set r.tile passed,
        computeLive := s.ids.computeLive ||| BitVec.twoPow 8 r.tile }).complete r.mbx stOk [passed.toNat]
    else (s.setIds { s.ids with clusterLive := s.ids.clusterLive.set r.tile 0 }).complete r.mbx stHwFault []
  State.nextService (s.dies.serviceQueue.length) s

/-- DIE_SERVICE_DRAINED (R796): no block is left on the tile, whose clocks have stopped (R124). A service that waits behind one
that ran out of time starts (R794). -/
def execDieServiceDrained (passed : Nat) (back : DieReturn) (s : State) : Host.Outcome State Fault Refusal :=
  .next (match s.dies.service with
    | some r =>
      if s.compute.blocks.any fun b => b.cluster / 24 == r.tile then s
      else s.serviceEnds r (BitVec.ofNat 24 passed) (back.linkOk && s.ids.baseLive.getLsbD r.tile) back.stop
    | none => State.nextService s.dies.serviceQueue.length s)

/-- DIE_SERVICE_TIMEOUT (R797): the drain has not ended 12 s after the take, and the service has had no effect; a cluster that was
fenced meanwhile stays fenced (R24). -/
def State.serviceTimesOut (s : State) (r : DieServiceRun) : State :=
  let s := (s.dropService r).complete r.mbx stTimeout []
  State.nextService (s.dies.serviceQueue.length) s

/-- DIE_SERVICE_TIMEOUT (R797). -/
def execDieServiceTimeout (s : State) : Host.Outcome State Fault Refusal :=
  .next (match s.dies.service with
    | some r =>
      if (s.compute.blocks.any fun b => b.cluster / 24 == r.tile) && decide (r.take + 96000000000 ≤ s.mt) then s.serviceTimesOut r
      else s
    | none => s)

/-! ### Saturation windows and the closure report (R561, R562, R707, R708) -/

/-- A stack moved less than half the bytes that it can move in 1,024 plumb cycles at `clock` MHz (R561): 2,048 GB/s. -/
def halfIdle (clock moved : Nat) : Bool := decide (2 * moved * clock < 2048000 * 1024)

/-- Bytes that stack `i` moved in the present window. -/
def MemState.moved (m : MemState) (i : Nat) : Nat := (nth m.busy i 0 + 2 ^ 64 - nth m.busyLast i 0) % 2 ^ 64

/-- The counters of the stacks and of the die-link ports (R561, R562): cycles in which some pseudo-channel of a stack had no
free entry, and in which a port's outbound credit pool was empty. -/
def State.judgeMemory (s : State) (full empty : List Nat) : State :=
  let m := s.mem
  let idle := fun (i : Nat) => halfIdle s.pwr.clock (m.moved i)
  let allIdle := (List.range 16).all fun i => !(s.ids.stackLive.getLsbD i) || idle i
  let sat := fun (l : List Nat) (i : Nat) => decide (512 ≤ nth l i 0)
  s.setMem { m with
    full := m.full.mapIdx (fun i v => (v + nth full i 0) % 2 ^ 64),
    swi := m.swi.mapIdx (fun i v => if sat full i && idle i then (v + 1) % 2 ^ 64 else v),
    linkSat := m.linkSat.mapIdx (fun i v => if sat empty i then (v + 1) % 2 ^ 32 else v),
    linkSwi := m.linkSwi.mapIdx (fun i v => if sat empty i && allIdle then (v + 1) % 2 ^ 32 else v),
    busyLast := m.busy }

/-- Index of the greatest number, the lowest of equals (R708). -/
def greatest : List Nat → Nat
  | [] => 0
  | [_] => 0
  | a :: l => let i := greatest l; if nth l i 0 ≤ a then 0 else i + 1

/-- What a window adds to the accounting record of a context that had a block resident in it (R707, R708). -/
def Account.judged (a : Account) (c : Option Clash) : Account :=
  let a := { a with active := (a.active + 1) % 2 ^ 64 }
  match c with
  | none => a
  | some c =>
    if c.cycles < 512 then a
    else
      let kind := greatest (c.kinds.take 3)
      let by_ := greatest (c.others.take 9)
      { a with
        contended := (a.contended + 1) % 2 ^ 64,
        contHbm := if kind = 0 then (a.contHbm + 1) % 2 ^ 64 else a.contHbm,
        contLink := if kind = 1 then (a.contLink + 1) % 2 ^ 64 else a.contLink,
        contFab := if kind = 2 then (a.contFab + 1) % 2 ^ 64 else a.contFab,
        contBy := a.contBy.modify by_ fun v => (v + 1) % 2 ^ 64 }

/-- The closure judgement of every open context (R707, R708). -/
def State.judgeContexts (s : State) (clashes : List Clash) : State :=
  let active := fun (c : Nat) => s.share.resident.contains c || s.compute.blocks.any fun b => b.ctx == c
  let up := fun (c : Nat) (x : Context) =>
    if x.st == .opened && active c then { x with acct := x.acct.judged (clashes.find? fun k => k.ctx == c) } else x
  (s.setCtxs (s.ctxs.mapIdx up)).setShare { s.share with resident := [] }

/-- SATURATION_WINDOW (R561, R707). -/
def execSaturationWindow (full empty : List Nat) (clashes : List Clash) (s : State) : Host.Outcome State Fault Refusal :=
  .next ((s.judgeMemory full empty).judgeContexts clashes)

end Sys2Proof.Machine
end

