-- ==== Sys2Proof/Machine/Boot.lean ====
section
/-!
DEFINITION. The measurement log, boot and start-up, and the module reset with what causes it (R62, R531 to R534, R715 to R719,
R747 to R760, R769, R778 to R791, R823, R826 to R842).
-/

namespace Sys2Proof.Machine

/-! ### The measurement log (R754 to R758) -/

/-- A digest as four words, output byte 0 in the low byte of the first (R751). -/
def digestWords (d : List Byte) : List Nat := (List.range 4).map fun i => imageWord d i

/-- A log entry is appended and the chain extended, unless the log is full (R754, R755, R758). -/
def State.logEvent (s : State) (kind svn reason : Nat) (digest : List Byte) : State :=
  if 64 ≤ s.trust.log.length then s
  else
    let e := recordOf ([placed kind 56 + placed svn 32 + placed (s.hubFlags false) 16 + placed reason 8, s.mt] ++ digestWords digest)
    s.setTrust { s.trust with
      log := s.trust.log ++ [e], chain := shake256 (s.trust.chain ++ e.flatMap fun w => leBytes 8 w.toNat) }

/-- The configuration record (R757). -/
def State.configRecord (s : State) (keySlot : Nat) : List Byte :=
  [placed 0x20 56 + placed s.trust.minSvn 32 + placed keySlot 16 + placed Config.dbgPolicy.toNat 8 + s.trust.revoke.toNat,
   Config.serial.toNat, 0, 0].flatMap (leBytes 8)

/-! ### The traverse (R778 to R783) -/

/-- A query from a port is answered as the wiring expects. -/
def linkAgrees (answers : List TraverseAnswer) (code port : Nat) : Bool :=
  match portFar code port with
  | some (e, q) => answers.any fun a => a.die == code && a.port == port && a.code == e && a.back == q
  | none => false

/-- The walk, breadth first from the hub, over the ports of each confirmed die in ascending order (R781). -/
def walkDies (answers : List TraverseAnswer) : Nat → List Nat → List Nat → List Nat
  | 0, _, confirmed => confirmed
  | _, [], confirmed => confirmed
  | n + 1, c :: rest, confirmed =>
    let found := ((List.range 8).filter (linkAgrees answers c)).filterMap fun p => (portFar c p).map (·.1)
    let fresh := (found.filter fun e => !(confirmed.contains e)).eraseDups
    walkDies answers n (rest ++ fresh) (confirmed ++ fresh)

/-- The codes of the dies that the traverse confirms, the hub's among them. -/
def confirmedDies (answers : List TraverseAnswer) : List Nat := walkDies answers 16 [0xA] [0xA]

/-- A link is used: both its dies are confirmed and its two ends agree (R781). -/
def linkUsed (answers : List TraverseAnswer) (confirmed : List Nat) (code port : Nat) : Bool :=
  match portFar code port with
  | some (e, q) => confirmed.contains code && confirmed.contains e && linkAgrees answers code port && linkAgrees answers e q
  | none => false

/-- The base dies of a set that reach the hub over used links between themselves (R782). -/
def reachHub (used : Nat → Nat → Bool) (bases : List Nat) : Nat → List Nat → List Nat
  | 0, seen => seen
  | n + 1, seen =>
    reachHub used bases n (bases.filter fun d => seen.contains d || used d 3
      || (List.range 3).any fun p => used d p && (match portFar d p with | some (e, _) => seen.contains e | none => false))

/-- The dies in service, of those given: base dies that reach the hub, processor dies with a link to one of them, optical
engines (R782). -/
def liveDies (used : Nat → Nat → Bool) (dies : List Nat) : List Nat :=
  let bases := reachHub used (dies.filter (· < 8)) 8 []
  let procs := (dies.filter fun c => c == 8 || c == 9).filter fun c =>
    (List.range 2).any fun p => used c p && (match portFar c p with | some (e, _) => bases.contains e | none => false)
  bases ++ procs ++ dies.filter (0xC ≤ ·)

/-- Codes as a mask. -/
def codeMask (l : List Nat) : Nat := (l.eraseDups.map (2 ^ ·)).sum

/-! ### Training (R787, R788, R791) -/

/-- The lanes of one end of a bundle that training finds bad, reported from either end. -/
def trainedLanes (found : StartInputs) (d p b : Nat) : BitVec 68 × BitVec 68 :=
  found.lanes.foldl (fun m f =>
    if f.bundle ≠ b then m
    else if f.tile = d ∧ f.port = p then (m.1 ||| f.out, m.2 ||| f.inn)
    else if portFar f.tile f.port = some (d, p) then (m.1 ||| f.inn, m.2 ||| f.out)
    else m) (0, 0)

/-- A used link after training. -/
def trainLink (found : StartInputs) (d p : Nat) (l : DieLink) : DieLink :=
  let one := fun (b : Nat) (x : Bundle) =>
    let m := trainedLanes found d p b
    { x.withBad (x.fusedOut ||| m.1) (x.fusedIn ||| m.2) with trained := true }
  { l with used := true, bundles := l.bundles.mapIdx one }

/-- All bundles train at once (R788). -/
def State.trainLinks (s : State) (found : StartInputs) (used : Nat → Nat → Bool) : State :=
  s.setDies { s.dies with
    links := s.dies.links.mapIdx fun i l => if used (i / 5) (i % 5) then trainLink found (i / 5) (i % 5) l else l }

/-- The dies that bundles FAILED at start-up fence (R791). -/
def State.failedDies (s : State) (found : StartInputs) : List Nat :=
  (List.range 40).flatMap fun i =>
    let d := i / 5
    let p := i % 5
    ((s.dieLink d p).bundles.zipIdx.filter fun x => x.1.trained && x.1.mode == .failed).map fun x =>
      let far := (portFar d p).getD (d, p)
      failedFences d p (found.loopFails.contains (d, p, x.2)) (found.loopFails.contains (far.1, far.2, x.2))

/-! ### Start-up (R531 to R534, R716, R753, R840) -/

/-- The interleave regions over the live stacks, by the setting recorded in flash (R531, R532). -/
def interleaveRegions (tiles : List Nat) (localMap : Nat) (up : BitVec 16) : List Region :=
  let part := fun (k : Nat) => nth tiles (k / 2) (k / 2)
  let isLocal := fun (p : Nat) => localMap / 2 ^ p % 2 == 1
  let live := (List.range 16).filter fun k => up.getLsbD k
  let shared := live.filter fun k => !(isLocal (part k))
  let locals := ((List.range 8).filter isLocal).map (fun p => live.filter fun k => part k == p)
  let sets := shared :: locals.filter fun l => !l.isEmpty
  (sets.foldl (fun (a : List Region × Nat) m => (a.1 ++ [⟨a.2, m⟩], a.2 + stackBytes * m.length)) ([], 0)).1

/-- The ID block, the regions and the route tables as start-up leaves them (R33, R49 to R55, R532, R782). -/
def State.setLive (s : State) (found : StartInputs) (live : List Nat) : State :=
  let base : BitVec 8 := BitVec.ofNat 8 (codeMask (live.filter (· < 8)))
  let stack : BitVec 16 := BitVec.ofNat 16
    ((((List.range 16).filter fun k => found.trained.getLsbD k && base.getLsbD (k / 2)).map (2 ^ ·)).sum)
  let proc := codeMask ((live.filter fun c => c == 8 || c == 9).map (· - 8))
  let opt := codeMask ((live.filter (0xC ≤ ·)).map (· - 0xC))
  let s := s.setIds { s.ids with
    traverseDone := true, procLive := BitVec.ofNat 2 proc, optLive := BitVec.ofNat 4 opt, baseLive := base,
    computeLive := base &&& found.computes, stackLive := stack, hbmGib := 64 * popBits stack,
    clusterLive := (List.range 8).map fun d => if (base &&& found.computes).getLsbD d then nth found.clusters d 0 else 0,
    routes := routeTables s.linkInUse base }
  s.setMem { s.mem with regions := interleaveRegions s.share.tiles s.share.localNext stack }

/-- The traverse, the training, and what they leave in service (R781 to R791): start-up fails without a base die or a
processor die, and otherwise the hub waits for time (R62, R783). -/
def State.startPackage (s : State) (found : StartInputs) : State :=
  let confirmed := confirmedDies found.answers
  let used := linkUsed found.answers confirmed
  let first := liveDies used confirmed
  let usedLive := fun (d p : Nat) =>
    used d p && first.contains d && (match portFar d p with | some (e, _) => e == 0xA || first.contains e | none => false)
  let s := s.trainLinks found usedLive
  let failed := s.failedDies found
  let live := liveDies used (first.filter fun c => !(failed.contains c))
  let all := List.range 10 ++ [0xC, 0xD, 0xE, 0xF]
  let s := s.setDies { s.dies with
    done := true, confirmed := BitVec.ofNat 16 (codeMask confirmed),
    fenced := BitVec.ofNat 16 (codeMask (all.filter fun c => !(live.contains c) && !(first.contains c && failed.contains c))) }
  let s := (all.filter fun c => !(live.contains c)).foldl State.fenceLinks s
  let s := s.setLive found live
  let bad := !(live.any (· < 8)) || !(live.any fun c => c == 8 || c == 9)
  s.setConn { s.conn with phase := if bad then .failed else .timeWait, waitFrom := s.mt }

/-- An image that passed its checks is logged and runs (R753 steps 4 to 6, R756, R765): `kind` is FW_BOOT or FW_FETCHED, with
the reason that sent the boot into recovery. -/
def State.runBoot (s : State) (found : StartInputs) (kind reason : Nat) : State :=
  let read := fun off n => cellRead s.trust.slot off n
  let i := imageHead (read 0 256)
  let im := runImage read
  let s := (s.logEvent 1 0 0 (shake256 (s.configRecord i.keySlot))).logEvent kind i.svn reason im.measurement
  let revoke := s.trust.revoke ||| (BitVec.ofNat 4 i.revoke &&& ~~~(BitVec.twoPow 4 i.keySlot))
  let s := s.setTrust { s.trust with
    revoke, image := some im, booted := true, recovery := none, session := none, optVersions := found.optics }
  let s := s.setConn { s.conn with railsUp := true }
  let s := s.setStakes { s.stakes with fwRuns := true }
  let s := s.startPackage found
  if s.trust.activeOwed then
    (s.setTrust { s.trust with activeOwed := false }).notify [0, 63] 0xA stOk 0 s.mt (s.hubFlags false) (digestWords im.measurement)
  else s

/-- Boot: the checks of the image, and what follows (R753, R759); what an invalid slot fails is a free value. -/
def State.boot (s : State) (found : StartInputs) : State :=
  let s := s.setConn { s.conn with found := some found }
  let r := s.fresh
  let reason := if s.trust.slotBad then some (r.1.toNat % 6 + 1)
    else s.imageCheck (fun off n => cellRead s.trust.slot off n) found.flashError
  let s := if s.trust.slotBad then r.2 else s
  match reason with
  | none => s.runBoot found 2 0
  | some k =>
    let t := (s.setTrust { s.trust with recovery := some {
      reason := k, since := s.mt, fetching := false, turned := s.mt, sent := s.mt, want := 1024, source := 0, offset := 0,
      attempts := 0 } }).setConn { s.conn with phase := .recovering }
    t.alertSince s

/-! ### The module reset (R17, R62, R769, R823, R833, R842) -/

/-- What a trace unit keeps in its last-gasp SRAM over a module reset: its records, the oldest in slot 0, frozen (R823; log
31). -/
def TraceUnit.gasp (u : TraceUnit) : TraceUnit :=
  { TraceUnit.reset with sram := u.sram.drop u.lgNext ++ u.sram.take u.lgNext }

/-- The fused and recorded values of the security engine and the hub's flash (R748, R749, R761, R769). -/
def TrustState.kept (t : TrustState) : TrustState :=
  { TrustState.reset with
    revoke := t.revoke, slot := t.slot, slotBad := t.slotBad, idx := t.idx, minSvn := t.minSvn, sources := t.sources,
    sourcePfx := t.sourcePfx, nextIndex := t.nextIndex, idxCopy := t.idxCopy, activeOwed := t.activeOwed, ir := t.ir }

/-- A bundle keeps its fused lanes (R786). -/
def Bundle.kept (b : Bundle) : Bundle := { Bundle.reset with fusedOut := b.fusedOut, fusedIn := b.fusedIn }

/-- A module reset with VSTBY up: every register takes its reset value (R17); flash, fuses, the always-on memory and the
management endpoint keep theirs, and a slot that was being written is invalid (R693, R749, R765, R769, R823, R831, R843; log 153). -/
def State.moduleReset (s : State) : State :=
  { State.reset with
    conn := { ModuleState.reset with
      resetN := s.conn.resetN, slotPins := s.conn.slotPins, tripped := s.conn.tripped, i3cAddr := s.conn.i3cAddr,
      eid := s.conn.eid, receiver := s.conn.receiver, events := s.conn.events, nextEvent := s.conn.nextEvent,
      sensors := s.conn.sensors, ibi := s.conn.ibi, slaac := s.conn.slaac, found := s.conn.found },
    fab := { FabricState.reset with slot := s.fab.slot },
    share := { ShareState.reset with tiles := s.share.tiles, localNext := s.share.localNext },
    mem := { MemState.reset with repairs := s.mem.repairs },
    monu := { MonumentState.reset with flash := s.monu.flash },
    trust := { s.trust.kept with slotBad := s.trust.slotBad || s.slotWriting },
    dies := { DiesState.reset with
      links := s.dies.links.map fun l => { DieLink.reset 0 with bundles := l.bundles.map Bundle.kept } },
    obs := { ObsState.reset with units := s.obs.units.map TraceUnit.gasp },
    freeCtr := s.freeCtr,
    outbox := s.outbox,
    pending := s.pending }

/-- VSTBY falls: what a module reset keeps in the always-on domain is lost too (R769, R823, R831). -/
def State.standbyFalls (s : State) : State :=
  let t := s.moduleReset
  let t := t.setConn { ModuleState.reset with phase := .off, resetN := s.conn.resetN, slotPins := s.conn.slotPins }
  let t := t.setFab FabricState.reset
  let t := t.setTrust { t.trust with idxCopy := none }
  t.setObs { t.obs with units := List.replicate 9 { TraceUnit.reset with frozen := false } }

/-- POWER_LOSS (R769). -/
def execPowerLoss (s : State) : Host.Outcome State Fault Refusal :=
  onEvent (s.conn.phase != .off) State.standbyFalls s

/-- VSTBY comes up: SLOT_ID is latched, and start-up begins unless RESET_N is low (R831, R832, R840). -/
def State.powerOn (s : State) (slot : Nat) (found : StartInputs) : State :=
  let s := (s.setConn { s.conn with phase := .inReset, slotPins := slot % 256 }).setFab { s.fab with slot := slot % 256 }
  if s.conn.resetN then s.boot found else s

/-- POWER_ON (R840). -/
def execPowerOn (slot : Nat) (found : StartInputs) (s : State) : Host.Outcome State Fault Refusal :=
  onEvent (s.conn.phase == .off) (fun s => s.powerOn slot found) s

/-- Sensors of a temperature (R850): the compute dies, stacks, processor dies, hub and optical engines. -/
def dieTemperature (id : Nat) : Bool :=
  (decide (0x10 ≤ id) && decide (id < 0x18)) || (decide (0x20 ≤ id) && decide (id < 0x32)) || id == 0x40
    || (decide (0x50 ≤ id) && decide (id < 0x54))

/-- Every temperature is below 95 °C (R837). -/
def State.cool (s : State) : Bool := s.conn.sensors.all fun x => !(dieTemperature x.id) || decide (x.value < 95)

/-- RESET_N falls for a millisecond (R832, R837). -/
def State.resetAssert (s : State) : State :=
  let s := s.setConn { s.conn with resetN := false }
  if s.conn.phase == .off then s
  else
    let t := s.moduleReset
    t.setConn { t.conn with tripped := t.conn.tripped && !t.cool }

/-- RESET_ASSERT (R832). -/
def execResetAssert (s : State) : Host.Outcome State Fault Refusal := .next s.resetAssert

/-- RESET_RELEASE (R832, R837, R840): start-up resumes, unless a thermal trip keeps the module in reset. -/
def State.resetRelease (s : State) (found : StartInputs) : State :=
  let s := s.setConn { s.conn with resetN := true }
  if s.conn.phase == .inReset && !s.conn.tripped then s.boot found else s

/-- RESET_RELEASE (R832). -/
def execResetRelease (found : StartInputs) (s : State) : Host.Outcome State Fault Refusal := .next (s.resetRelease found)

/-- INPUT_FAULT_RESET (R719). -/
def execInputFaultReset (s : State) : Host.Outcome State Fault Refusal := onEvent (s.conn.phase != .off) State.moduleReset s

/-- THERMAL_TRIP (R837): every rail but VSTBY is off, and the module is in reset. -/
def execThermalTrip (s : State) : Host.Outcome State Fault Refusal :=
  onEvent (s.conn.phase != .off) (fun s =>
    let t := s.moduleReset
    t.setConn { t.conn with tripped := true }) s

/-- A PLDM event waits for its acknowledgement, and goes to the receiver, if there is one (R836, R850). -/
def State.raiseEvent (s : State) (sensor band : Nat) : State :=
  let e : PldmEvent := ⟨sensor, band, s.conn.nextEvent⟩
  let t := s.setConn { s.conn with events := s.conn.events ++ [e], nextEvent := s.conn.nextEvent + 1 }
  let t := t.alertSince s
  match t.conn.receiver with
  | some a => t.emit (.pldm a 2 0x0A [(e.id : Int), (sensor : Int), (band : Int)])
  | none => t

/-- RAIL_FAULT (R719, R834, R836). -/
def State.railFault (s : State) (r : Rail) : State :=
  let e := s.raiseEvent 0x60 1
  let t := e.setConn { e.conn with faulted := r :: e.conn.faulted }
  match r with
  | .standby => s.standbyFalls
  | .hub => e.moduleReset
  | .flash => e.moduleReset
  | .compute d => t.dropCompute d
  | .base d => t.dropBase d
  | .memory d => t.dropBase d
  | .proc p => t.dropProc p
  | .optical k => t.dropOptical k

/-- The module has the rail (R715). -/
def railExists : Rail → Bool
  | .standby | .hub | .flash => true
  | .base d | .memory d | .compute d => decide (d < 8)
  | .proc p => decide (p < 2)
  | .optical k => decide (k < 4)

/-- RAIL_FAULT (R719): of a rail that is up. -/
def execRailFault (rail : Rail) (s : State) : Host.Outcome State Fault Refusal :=
  onEvent (railExists rail && s.conn.phase != .off && (s.conn.railsUp || rail == .standby)) (fun s => s.railFault rail) s

/-! ### Ports train, and Ready (R840, R841) -/

/-- Port training ends: untrained ports stay DOWN, every live port is measured, and the module is Ready after that (R92, R840
steps 8 to 10, R841). -/
def State.trainingEnds (s : State) : State :=
  let s := s.setFab { s.fab with ports := s.fab.ports.map fun p => if p.st == .training then { p with st := .down } else p }
  let live := s.livePorts
  if live.isEmpty then s.setConn { s.conn with phase := .ready }
  else
    (s.setConn { s.conn with phase := .exchanging }).setTime { s.time with meas := some (s.newMeasure live 64 none) }

/-- PORT_TRAINING_DEADLINE (R840): three seconds after the CLAIM, or as soon as no port is still training. -/
def execPortTrainingDeadline (s : State) : Host.Outcome State Fault Refusal :=
  onEvent (s.conn.phase == .training
    && (decide (s.conn.trainFrom + 24000000000 ≤ s.mt) || !(s.fab.ports.any fun p => p.st == .training))) State.trainingEnds s

/-! ### The status pins (R833 to R839) -/

/-- PWR_GOOD is high (R834). -/
def State.pwrGood (s : State) : Bool := s.conn.phase != .off && s.conn.railsUp && s.conn.faulted.isEmpty

/-- FAULT_N is asserted (R835). -/
def State.faultN (s : State) : Bool := s.conn.phase != .off && (s.conn.phase != .ready || s.fab.fenced)

/-- THERM_TRIP_N is asserted (R837). -/
def State.thermTripN (s : State) : Bool := s.conn.tripped

/-- MT_PPS_OUT is driven, and is not merely held low or tri-stated (R838). -/
def State.ppsDriven (s : State) : Bool :=
  s.conn.phase != .off && s.conn.phase != .inReset && s.time.ppsOutEn
    && (s.time.st == .hall || s.time.st == .aligned || s.time.st == .holdover)

end Sys2Proof.Machine
end

