-- ==== Sys2Proof/Machine/Trust.lean ====
section
/-!
DEFINITION. Firmware update and recovery, identity and attestation, the hub firewall and the IEEE 1149.1 TAP (R759 to R777).
-/

namespace Sys2Proof.Machine

/-! ### Update sessions (R764, R765) -/

/-- The open session of mailbox `n`. -/
def State.sessionOf (s : State) (n : Nat) : Option FwSession := s.trust.session.filter fun x => x.mbx == n

/-- Another update session, or none: in recovery ALERT_N follows (R836). -/
def State.setSession (s : State) (x : Option FwSession) : State := (s.setTrust { s.trust with session := x }).alertSince s

/-- A session opens with an empty staging buffer; in recovery a fetch from a neighbour stops (R760, R764). -/
def State.openSession (s : State) (n : Nat) : State :=
  let s := s.setTrust { s.trust with
    staging := [], recovery := s.trust.recovery.map fun r => { r with fetching := false } }
  (s.setSession (some ⟨n, s.arg n 0, s.arg n 1 % 2 == 1, s.mt⟩)).complete n stOk []

/-- FW_BEGIN. -/
def State.fwBegin (s : State) (n : Nat) : State :=
  match s.trust.session with
  | some x => if x.mbx = n then s.openSession n else s.complete n stResourceBusy []
  | none => s.openSession n

/-- FW_BEGIN (R764). -/
def execFwBegin (mbx : Nat) (s : State) : Host.Outcome State Fault Refusal :=
  runCommand mbx 0x0B01 (fun s => s.fwBegin mbx) s

/-- The data bytes of an FW_CHUNK: from ARG2 on, in memory order. -/
def State.chunkBytes (s : State) (n len : Nat) : List Byte :=
  (((List.range 222).map fun i => leBytes 8 (s.arg n (2 + i))).flatten).take len

/-- FW_CHUNK. -/
def State.fwChunk (s : State) (n : Nat) : State :=
  match s.sessionOf n with
  | none => s.complete n stBadState []
  | some x =>
    let s := s.setTrust { s.trust with session := some { x with last := s.mt } }
    if x.size < s.arg n 0 + s.arg n 1 then s.complete n stBadArg []
    else
      (s.setTrust { s.trust with staging := cellWrite s.trust.staging (s.arg n 0) (s.chunkBytes n (s.arg n 1)) }).complete n stOk []

/-- FW_CHUNK (R765). -/
def execFwChunk (mbx : Nat) (s : State) : Host.Outcome State Fault Refusal :=
  runCommand mbx 0x0B02 (fun s => s.fwChunk mbx) s

/-- The slot holds the staged image, and the SVN counter follows it (R765 steps 2 to 4). -/
def State.programSlot (s : State) : State :=
  let i := imageHead (s.staged 0 256)
  s.setTrust { s.trust with
    slot := s.trust.staging, slotBad := false, minSvn := if i.raiseSvn then max s.trust.minSvn i.svn else s.trust.minSvn }

/-- Live activation: the new image, which the slot holds, runs, is logged and is told (R766). -/
def State.activate (s : State) : State :=
  let im := runImage fun off n => cellRead s.trust.slot off n
  let s := (s.logEvent 4 im.svn 0 im.measurement).setTrust { (s.logEvent 4 im.svn 0 im.measurement).trust with image := some im }
  s.notify [0, 63] 0xA stOk 0 s.mt (s.hubFlags false) (digestWords im.measurement)

/-- A pause of some length begins: a loss deadline that falls within it is put off by that length (R197; log 134). -/
def State.beginPause (s : State) (length : Nat) : State :=
  let b := s.abaom.beat
  let s := s.setTrust { s.trust with pause := .until_ (s.mt + length) }
  if b.live ∧ s.mt ≤ b.deadline ∧ b.deadline < s.mt + length then
    s.setAbaom { s.abaom with beat := { b with deadline := b.deadline + length } }
  else s

/-- The pause of a live activation goes on in a cycle: it begins once no command is BUSY, for a free length of at most 20 ms, and at
its end the new image runs (R148, R766; log 134). -/
def State.pauseTick (s : State) : State :=
  match s.trust.pause with
  | .off => s
  | .asked =>
    if (List.range 64).any fun n => (s.mbx n).st == .busy then s
    else
      let r := s.fresh
      r.2.beginPause (r.1.toNat % 160000001)
  | .until_ t => if t ≤ s.mt then (s.setTrust { s.trust with pause := .off }).activate else s

/-- An image verified in recovery boots (R759 step 4). -/
def State.bootFetched (s : State) : State :=
  match s.conn.found, s.trust.recovery with
  | some found, some r => s.runBoot found 3 r.reason
  | _, _ => s

/-- FW_COMMIT of a session (R765): `verified` is whether the slot reads back as written. -/
def State.fwCommit (s : State) (n : Nat) (x : FwSession) (verified : Bool) : State :=
  let i := imageHead (s.staged 0 256)
  let bad := (s.imageCheck s.staged false).isSome || x.size != i.bodyBytes + 2820
  if bad then (s.complete n stSigInvalid []).setSession none
  else if !verified then
    ((s.setTrust { s.trust with slotBad := true }).complete n stTimeout []).setSession none
  else
    let live := x.live && i.liveOk && some i.abaom == s.trust.image.map (·.abaom) && decide (s.trust.log.length < 64)
    let s := (s.programSlot.complete n stOk (digestWords (shake256 (s.staged 0 i.bodyBytes)))).setSession none
    if s.conn.phase == .recovering then s.bootFetched
    else if live then s.setTrust { s.trust with pause := .asked }
    else s.setTrust { s.trust with activeOwed := true }

/-- FW_COMMIT (R765). -/
def execFwCommit (mbx : Nat) (verified : Bool) (s : State) : Host.Outcome State Fault Refusal :=
  runCommand mbx 0x0B03 (fun s => match s.sessionOf mbx with
    | none => s.complete mbx stBadState []
    | some x => s.fwCommit mbx x verified) s

/-- FW_SESSION_TIMEOUT (R764). -/
def execFwSessionTimeout (s : State) : Host.Outcome State Fault Refusal :=
  .next (match s.trust.session with
    | some x => if x.last + 80000000000 ≤ s.mt then s.setSession none else s
    | none => s)

/-! ### Recovery by signed re-fetch (R759 to R763) -/

/-- The words of a fetch request or reply (R762). -/
def fetchWords (op len off : Nat) : List Byte := beBytes 8 (placed 0x5246 48 + placed op 32 + len) ++ beBytes 8 off

/-- The bytes that the next request asks for. -/
def Recovery.length (r : Recovery) : Nat := min 1024 (r.want - r.offset)

/-- The present request is sent (R762). -/
def State.askFetch (s : State) (r : Recovery) : State :=
  match s.trust.sources[r.source]? with
  | some node =>
    (s.setTrust { s.trust with recovery := some { r with sent := s.mt, attempts := r.attempts + 1 } }).emit
      (.datagram (fabricAddress s.trust.sourcePfx node) 0xB2E6 (fetchWords 1 r.length r.offset))
  | none => s

/-- A source is turned to, or, when the list is exhausted, the wait of step 2 begins again (R759). -/
def State.turnTo (s : State) (r : Recovery) (source : Nat) : State :=
  if source < s.trust.sources.length then
    (s.setTrust { s.trust with staging := [] }).askFetch
      { r with fetching := true, source, turned := s.mt, offset := 0, attempts := 0, want := 1024 }
  else s.setTrust { s.trust with recovery := some { r with fetching := false, since := s.mt, source := 0, attempts := 0 } }

/-- RECOVERY_FETCH (R759 step 3): 60 s have passed and no session is open. -/
def execRecoveryFetch (s : State) : Host.Outcome State Fault Refusal :=
  .next (match s.trust.recovery with
    | some r =>
      if s.conn.phase == .recovering && !r.fetching && s.trust.session.isNone && decide (r.since + 480000000000 ≤ s.mt) then
        s.turnTo r 0
      else s
    | none => s)

/-- FETCH_RETRY (R759, R762): no reply within 1 ms; after eight attempts, or 20 s, the next source is tried. -/
def execFetchRetry (s : State) : Host.Outcome State Fault Refusal :=
  .next (match s.trust.recovery with
    | some r =>
      if s.conn.phase == .recovering && r.fetching && decide (r.sent + 8000000 ≤ s.mt) then
        if 8 ≤ r.attempts ∨ r.turned + 160000000000 ≤ s.mt then s.turnTo r (r.source + 1) else s.askFetch r
      else s
    | none => s)

/-- The whole image has come: it is checked, written and booted, or discarded (R759 step 4, R763). -/
def State.fetchDone (s : State) (r : Recovery) (verified : Bool) : State :=
  if (s.imageCheck s.staged false).isSome then s.turnTo r (r.source + 1)
  else if !verified then (s.setTrust { s.trust with slotBad := true }).turnTo r (r.source + 1)
  else s.programSlot.bootFetched

/-- The bytes of a reply are placed (R762, R763). -/
def State.takeFetched (s : State) (r : Recovery) (bytes : List Byte) (verified : Bool) : State :=
  let s := s.setTrust { s.trust with staging := cellWrite s.trust.staging r.offset bytes }
  let size := imageWord (s.staged 0 16) 1
  let r := { r with offset := r.offset + bytes.length, attempts := 0, want := if bodyOk size then size + 2820 else 0 }
  if r.want = 0 ∨ r.turned + 160000000000 ≤ s.mt then s.turnTo r (r.source + 1)
  else if r.want ≤ r.offset then s.fetchDone r verified
  else s.askFetch r

/-- NEIGHBOUR_FETCH_REPLY (R762). -/
def execNeighbourFetchReply (addr : Nat) (bytes : List Byte) (verified : Bool) (s : State) : Host.Outcome State Fault Refusal :=
  .next (match s.trust.recovery with
    | some r =>
      let node := s.trust.sources[r.source]?
      if s.conn.phase == .recovering && r.fetching && (node.map (fabricAddress s.trust.sourcePfx)) == some addr
          && bytes.take 16 == fetchWords 2 r.length r.offset && bytes.length == 16 + r.length then
        s.takeFetched r (bytes.drop 16) verified
      else s
    | none => s)

/-- RECOVERY_FETCH_REQUEST (R763): a running device serves its own slot image while no FW_COMMIT writes it. -/
def execRecoveryFetchRequest (addr port : Nat) (bytes : List Byte) (s : State) : Host.Outcome State Fault Refusal :=
  let w := beNat (bytes.take 8)
  let off := beNat ((bytes.drop 8).take 8)
  let len := w % 2 ^ 32
  onEvent (s.running && s.trust.booted && !s.slotWriting && decide (bytes.length = 16) && w / 2 ^ 32 == 0x52460001
    && decide (1 ≤ len) && decide (len ≤ 1024) && decide (off + len ≤ 4194304)) (fun s =>
      s.emit (.datagram addr port (fetchWords 2 len off ++ cellRead s.trust.slot off len))) s

/-! ### Identity and attestation (R767 to R773) -/

/-- INVASIVE debug is open. -/
def TrustState.invasive (t : TrustState) : Bool := t.scope == 2

/-- The index block after a signature: the next block is reserved when 256 indices of the open one remain (R768). -/
def TrustState.useIndex (t : TrustState) : TrustState :=
  let next := t.nextIndex + 1
  let idx := if 4096 * t.idx = next + 256 then t.idx + 1 else t.idx
  { t with nextIndex := next, idx, idxCopy := some idx }

/-- The signature of a report: its index in the first five bytes, 9,893 B in all (R772). -/
def signature (index : Nat) (body : List Byte) : List Byte :=
  let g := Config.xmssSign index body
  beBytes 5 index ++ (List.range 9888).map fun i => nth g i 0

/-- The words of a report's header (R773). -/
def State.reportHead (s : State) (a : WaitingAttest) : List Nat :=
  let t := s.trust
  let im := t.image.getD ⟨0, 0, 0, 0, []⟩
  let opt := fun (l : List Nat) (on : Nat → Bool) => ((List.range 4).map fun k => if on k then placed (nth l k 0 % 2 ^ 16) (16 * k) else 0).sum
  [0x4154010026A51180, Config.serial.toNat, idDevice, s.fab.platPos,
   placed (flagNat s.fab.fenced) 63 + placed t.scope 61 + placed s.abaom.beat.epoch 32 + placed s.fab.epoch 16 + s.fab.node,
   placed im.fwVersion 48 + placed im.svn 32 + placed t.minSvn 16 + placed im.keySlot 8 + a.log.length,
   s.mt, placed (s.hubFlags false) 48 + placed a.mbx 40 + placed ((s.boundCtx a.mbx).getD 0) 32]
  ++ (List.range 4).map (fun i => s.arg a.mbx i) ++ digestWords a.chain ++ digestWords im.measurement
  ++ [opt t.optVersions s.ids.optLive.getLsbD, opt t.optDrops fun _ => true] ++ List.replicate 10 0

/-- The body of a report (R772). -/
def State.reportBody (s : State) (a : WaitingAttest) : List Byte :=
  let log := (a.log.flatMap id) ++ List.replicate (8 * (64 - a.log.length)) 0
  (s.reportHead a).flatMap (leBytes 8) ++ log.flatMap (fun w => leBytes 8 w.toNat)
    ++ (List.range 68).map (fun i => nth Config.identityKey i 0) ++ List.replicate 60 0

/-- A report goes to the address that an ATTEST names: physical from mailboxes 0 and 63, else the context's (R134, R190, R771);
none where it is not writable and mapped throughout. -/
def State.storeReport (s : State) (n addr : Nat) (bytes : List Byte) : Option State :=
  match s.boundCtx n with
  | none => if s.inHbm addr bytes.length then some (s.hubWrite addr bytes) else none
  | some c =>
    match s.cpTranslate c .write addr bytes.length with
    | .pieces l =>
      match State.engineStore c (.report n) l bytes s with
      | (t, .done) => some t
      | _ => none
    | _ => none

/-- A signing (R770, R771): the index is used, and the command ends, once a report that went through a tie is acknowledged (R145). -/
def State.sign (s : State) (a : WaitingAttest) : State :=
  let n := a.mbx
  if 2 ^ 28 ≤ s.trust.idx ∨ s.trust.invasive then s.complete n stAuthFail []
  else
    let body := s.reportBody a
    match s.storeReport n (s.arg n 4) (body ++ signature s.trust.nextIndex body) with
    | none => s.complete n stBadArg []
    | some t =>
      let t := t.setTrust t.trust.useIndex
      if t.reportOut n then t.begin_ n else t.complete n stOk [14373]

/-- ATTEST: it waits while the identity state is being rebuilt (R753, R770). -/
def State.attest (s : State) (n : Nat) : State :=
  let a := s.attestTaken n
  if s.trust.rebuilt then s.sign a
  else (s.begin_ n).setTrust { s.trust with attests := s.trust.attests ++ [a] }

/-- ATTEST (R771). -/
def execAttest (mbx : Nat) (s : State) : Host.Outcome State Fault Refusal :=
  runCommand mbx 0x0B00 (fun s => s.attest mbx) s

/-- The identity state is there: after a clean reset at the recorded index, else in a new block (R753 step 7, R768, R769). -/
def State.rebuild (s : State) : State :=
  let t := s.trust
  let t := if t.idxCopy = some t.idx then t
    else { t with nextIndex := 4096 * t.idx, idx := t.idx + 1, idxCopy := some (t.idx + 1) }
  let waiting := t.attests
  waiting.foldl State.sign (s.setTrust { t with rebuilt := true, attests := [] })

/-- IDENTITY_STATE_REBUILT (R753). -/
def execIdentityStateRebuilt (s : State) : Host.Outcome State Fault Refusal :=
  onEvent (s.trust.image.isSome && !s.trust.rebuilt) State.rebuild s

/-! ### The hub firewall (R774) -/

/-- FIREWALL_DROP (R774). -/
def execFirewallDrop (engine : Nat) (s : State) : Host.Outcome State Fault Refusal :=
  onEvent (decide (engine < 4)) (fun s =>
    s.setTrust { s.trust with optDrops := s.trust.optDrops.modify engine fun v => min (v + 1) 0xFFFF }) s

/-! ### The TAP (R775 to R777) -/

/-- The bits of a number, least significant first, as TDO shifts them. -/
def bitsOf (w n : Nat) : List Bool := (List.range w).map fun i => n.testBit i

/-- The TAP answers: it is powered with the security engine (R747). -/
def State.tapUp (s : State) : Bool := s.conn.phase != .off

/-- The instruction register takes a code. -/
def State.setIr (s : State) (code : Nat) : State := s.setTrust { s.trust with ir := code % 256 }

/-- An instruction acts as BYPASS: one bit between TDI and TDO. -/
def State.tapBypass (s : State) (code : Nat) : State := (s.setIr code).emit (.tdo [false])

/-- A code acts as BYPASS (R775). -/
def actsAsBypass (scope code : Nat) : Bool :=
  !(code == 0x01 || code == 0x10 || code == 0x11 || (decide (1 ≤ scope) && (code == 0x02 || code == 0x03))
    || (scope == 2 && decide (0x20 ≤ code) && decide (code < 0x30)))

/-- BYPASS (R775): its own code, and every other that has no instruction open. -/
def execBypass (code : Nat) (s : State) : Host.Outcome State Fault Refusal :=
  onEvent (s.tapUp && decide (code < 256) && actsAsBypass s.trust.scope code) (fun s => s.tapBypass code) s

/-- IDCODE (R775). -/
def execIdcode (s : State) : Host.Outcome State Fault Refusal :=
  onEvent s.tapUp (fun s => (s.setIr 0x01).emit (.tdo (bitsOf 32 0x2010856B))) s

/-- A fresh challenge: 256 free bits (R775). -/
def State.drawChallenge (s : State) : Nat × State :=
  let a := s.fresh
  let b := a.2.fresh
  let c := b.2.fresh
  let d := c.2.fresh
  (a.1.toNat + placed b.1.toNat 64 + placed c.1.toNat 128 + placed d.1.toNat 192, d.2)

/-- AUTH_CHAL (R775). -/
def execAuthChal (s : State) : Host.Outcome State Fault Refusal :=
  onEvent s.tapUp (fun s =>
    let r := s.drawChallenge
    ((r.2.setTrust { r.2.trust with challenge := r.1, spent := false }).setIr 0x10).emit (.tdo (bitsOf 256 r.1))) s

/-- DBG_POLICY allows a scope (R748). -/
def policyAllows (policy scope : Nat) : Bool :=
  match policy with
  | 0 => scope == 1 || scope == 2
  | 1 => scope == 1
  | _ => false

/-- A token is accepted (R776, R777). -/
def State.tokenOk (s : State) (token : List Byte) : Bool :=
  let w := imageWord token
  let key := (token.drop 64).take 68
  token.length == 3076 && w 0 / 2 ^ 48 == 0x4454 && w 1 == Config.serial.toNat && !s.trust.spent
    && leNat ((token.drop 16).take 32) == s.trust.challenge && decide (s.mt < w 6) && shake256 key == Config.dbgKey
    && Config.xmssVerify key (token.take 256) (token.drop 256) && policyAllows Config.dbgPolicy.toNat (w 0 % 4)
    && decide (s.trust.log.length < 64)

/-- AUTH_RESP (R777): the challenge is spent, and an accepted token is logged and opens its scope. -/
def State.authResp (s : State) (token : List Byte) : State :=
  let ok := s.tokenOk token
  let s := (s.setTrust { s.trust with spent := true }).setIr 0x11
  if ok then
    let t := s.logEvent 5 0 0 (shake256 (token.take 256))
    t.setTrust { t.trust with scope := max t.trust.scope (imageWord token 0 % 4) }
  else s

/-- AUTH_RESP (R777). -/
def execAuthResp (token : List Byte) (s : State) : Host.Outcome State Fault Refusal :=
  onEvent s.tapUp (fun s => s.authResp token) s

/-- SAMPLE/PRELOAD (R775): the levels at the pins shift out and the cells are loaded. -/
def execSamplePreload (levels cells : List Bool) (s : State) : Host.Outcome State Fault Refusal :=
  onEvent s.tapUp (fun s =>
    if s.trust.scope = 0 then s.tapBypass 0x02
    else ((s.setTrust { s.trust with boundary := cells }).setIr 0x02).emit (.tdo levels)) s

/-- EXTEST (R775): the cells drive the pins, the levels at the pins shift out, and the cells shifted in drive them next. -/
def execExtest (levels cells : List Bool) (s : State) : Host.Outcome State Fault Refusal :=
  onEvent s.tapUp (fun s =>
    if s.trust.scope = 0 then s.tapBypass 0x03
    else
      let t := ((s.setIr 0x03).emit (.pins s.trust.boundary)).emit (.tdo levels)
      (t.setTrust { t.trust with boundary := cells }).emit (.pins cells)) s

/-- VENDOR_DEBUG (R775): what these instructions do while INVASIVE is open the spec does not say; while it is not open they
act as BYPASS. -/
def execVendorDebug (code : Nat) (s : State) : Host.Outcome State Fault Refusal :=
  if s.tapUp && s.trust.invasive && decide (0x20 ≤ code) && decide (code < 0x30) then .refused .vendorDebug
  else onEvent (s.tapUp && decide (0x20 ≤ code) && decide (code < 0x30)) (fun s => s.tapBypass code) s

end Sys2Proof.Machine
end

