-- ==== Sys2Proof/Machine/Registers.lean ====
section
/-!
DEFINITION. The control space: what each offset reads as and what a write of it does (R16, R42 to R46, R66, R137, R166,
R469, R562, R601, R723, R793, R803, R808, R824), and the accesses that the hub refuses (R38, R44, R56 to R59).
-/

namespace Sys2Proof.Machine

/-! ### Reads -/

/-- ID offsets (R46). -/
def State.idRead (s : State) (off : Nat) : Option Nat :=
  if off = 0x00 then some idDevice
  else if off = 0x08 then some s.idTopo
  else if off = 0x10 then some s.idStack
  else if off = 0x18 then some s.idBadacc
  else if 0x40 ≤ off ∧ off < 0x80 then some (s.clusterLive ((off - 0x40) / 8)).toNat
  else none

/-- MT offsets (R66). -/
def State.mtRead (s : State) (off : Nat) : Option Nat :=
  if off = 0x00 then some s.mt
  else if off = 0x08 then some s.mtStatus
  else if off = 0x10 then some (asWord s.time.offset)
  else if off = 0x18 then some s.mtDatum
  else if off = 0x20 then some s.mtCtrl
  else if off = 0x28 then some s.time.nearMiss
  else if off = 0x30 then some (s.usedAt 8)
  else if 0x38 ≤ off ∧ off < 0x78 then some (s.usedAt ((off - 0x38) / 8))
  else if 0x80 ≤ off ∧ off < 0x180 then some (s.linkDelay ((off - 0x80) / 8))
  else none

/-- FLAGW offsets (R166). -/
def State.flagwRead (s : State) (off : Nat) : Option Nat :=
  if off = 0 then some s.flagwStatus
  else if off = 8 then some (placed s.abaom.acted 32 + s.abaom.spurious)
  else none

/-- MEM_REGIONr (R534, R562). -/
def State.regionWord (s : State) (r : Nat) : Nat :=
  match s.mem.regions[r]? with
  | none => 0
  | some x =>
    if x.members.isEmpty then 0
    else placed 1 63 + placed x.mask 32 + placed (x.base / 2 ^ 30) 16 + 64 * x.members.length

/-- MEM_ERRLOG (R562). -/
def MemState.errWord (m : MemState) : Nat :=
  let p := m.errPlace
  placed (flagNat m.errValid) 63 + placed (flagNat m.errOverrun) 62 + placed m.errKind 60 + placed p.stack 56
    + placed p.channel 51 + placed p.pseudo 50 + placed p.bank 45 + placed p.row 31 + placed m.errSector 26

/-- The registers of R562, by their offset from 0x8_0000. -/
def State.memRead (s : State) (off : Nat) : Option Nat :=
  let m := s.mem
  if off < 0x48 then some (s.regionWord (off / 8))
  else if off = 0x80 then some m.errWord
  else if 0x100 ≤ off ∧ off < 0x300 then
    let k := (off - 0x100) / 0x20
    match off % 0x20 / 8 with
    | 0 => some (nth m.busy k 0)
    | 1 => some (nth m.full k 0)
    | 2 => some (nth m.swi k 0)
    | _ => some (placed (nth m.farCells k 0) 32 + nth m.farAtomics k 0)
  else if 0x300 ≤ off ∧ off < 0x500 ∧ off % 0x40 < 0x28 then
    let i := 5 * ((off - 0x300) / 0x40) + off % 0x40 / 8
    some (placed (nth m.linkSat i 0) 32 + nth m.linkSwi i 0)
  else none

/-- FAB_CFG (R601). -/
def FabricState.cfgWord (f : FabricState) : Nat :=
  placed f.etherType 48 + placed f.udpPort 32 + placed f.quarThresh 16 + placed f.dscp 10

/-- FAB_SELF (R601). -/
def FabricState.selfWord (f : FabricState) : Nat := placed (flagNat f.fenced) 63 + placed f.epoch 16 + f.node

/-- The registers of R601, by their offset from 0x9_0000. -/
def State.fabRead (s : State) (off : Nat) : Option Nat :=
  let f := s.fab
  if off = 0x00 then some f.cfgWord
  else if off = 0x08 then some f.v6pfx
  else if off = 0x10 then some (Config.fabMacBase % 2 ^ 48)
  else if off = 0x18 then some f.selfWord
  else if off = 0x20 then some (placed f.vHead 32 + f.vTotal)
  else if 0x100 ≤ off ∧ off < 0x200 then some (s.port ((off - 0x100) / 8)).word
  else if 0x200 ≤ off ∧ off < 0x300 then
    let p := s.port ((off - 0x200) / 8)
    some (placed p.naks 32 + p.viols)
  else if 0x1000 ≤ off ∧ off < 0x5000 then
    some (nth (nth f.ring ((off - 0x1000) / 0x40) []) (off % 0x40 / 8) 0).toNat
  else none

/-- DL_TRAVERSE (R793). -/
def DiesState.traverseWord (d : DiesState) : Nat :=
  placed (flagNat d.done) 63 + placed d.fenced.toNat 16 + d.confirmed.toNat

/-- The registers of R793, by their offset from 0xA_0000. -/
def State.linkRead (s : State) (off : Nat) : Option Nat :=
  if off < 0x200 ∧ off % 0x40 < 0x28 then some (s.dlLink (off / 0x40) (off % 0x40 / 8))
  else if off = 0x800 then some s.dies.traverseWord
  else if 0x1000 ≤ off ∧ off % 0x200 < 0x140 then
    some (s.dlLane ((off - 0x1000) / 0x200) (off % 0x200 / 0x40) (off % 0x40 / 8))
  else none

/-- CNT offsets (R562, R601, R793, R803, R808). -/
def State.cntRead (s : State) (off : Nat) : Option Nat :=
  if off < 0x200 then some (nth s.obs.aon (off / 8) 0)
  else if 0x10000 ≤ off ∧ off < 0x1C000 ∧ off % 0x100 < 0x80 then
    some (nth s.obs.prog (16 * ((off - 0x10000) / 0x100) + off % 0x100 / 8) 0)
  else if 0x20000 ≤ off ∧ off < 0x20400 then some (nth s.obs.sels ((off - 0x20000) / 8) CounterSel.reset).word
  else if 0x80000 ≤ off ∧ off < 0x81000 then s.memRead (off - 0x80000)
  else if 0x90000 ≤ off ∧ off < 0xA0000 then s.fabRead (off - 0x90000)
  else if 0xA0000 ≤ off ∧ off < 0xA2000 then s.linkRead (off - 0xA0000)
  else none

/-- TRC_STATUSu (R824). -/
def TraceUnit.statusWord (u : TraceUnit) : Nat :=
  placed u.st.code 62 + placed u.mode 60 + placed (flagNat u.frozen) 59 + placed (flagNat u.wrapped) 58 + u.wptr

/-- TRC_TRIG (R824). -/
def TriggerState.word (g : TriggerState) : Nat :=
  placed (flagNat g.armed) 63 + placed (flagNat g.fired) 62 + placed (flagNat g.lost) 61 + placed g.source 56
    + placed g.matchKey 16

/-- TRC offsets (R824). -/
def State.trcRead (s : State) (off : Nat) : Option Nat :=
  if off < 0x48 then some (s.unit (off / 8)).statusWord
  else if 0x80 ≤ off ∧ off < 0xC8 then
    let u := s.unit ((off - 0x80) / 8)
    some (placed u.dropped 32 + u.dropRecs)
  else if 0x100 ≤ off ∧ off < 0x148 then
    let u := s.unit ((off - 0x100) / 8)
    some (placed u.lgTotal 32 + u.lgNext)
  else if off = 0x180 then some s.obs.trig.word
  else if off = 0x188 then some s.obs.trig.mt
  else if 0x10000 ≤ off ∧ off < 0xA0000 then
    some (nth (nth (s.unit ((off - 0x10000) / 0x10000)).sram (off % 0x10000 / 64) []) (off % 64 / 8) 0).toNat
  else none

/-- The register at a control-space offset, if the offset is not reserved (R42 to R46). -/
def State.ctrlRead (s : State) (off : Nat) : Option Nat :=
  if off % 8 ≠ 0 then none
  else if off < 0x10000 then s.idRead off
  else if off < 0x50000 then s.mbxPage ((off - 0x10000) / 0x1000) (off % 0x1000)
  else if off < 0x100000 then none
  else if off < 0x200000 then s.mtRead (off - 0x100000)
  else if off < 0x300000 then s.flagwRead (off - 0x200000)
  else if off < 0x400000 then s.pwrRead (off - 0x300000)
  else if off < 0x500000 then s.cntRead (off - 0x400000)
  else if off < 0x600000 then s.trcRead (off - 0x500000)
  else if off < 0x700000 then s.svcRead (off - 0x600000)
  else none

/-! ### Writes (R16) -/

/-- The captured access of ID_BADACC (R57). -/
def IdState.capture (i : IdState) (e : Nat × Nat × Nat) : IdState :=
  { i with badValid := true, badKind := e.1, badHart := e.2.1, badOffset := e.2.2 }

/-- The bad access of a list from the lowest hart (R58). -/
def lowestHart : List (Nat × Nat × Nat) → Option (Nat × Nat × Nat)
  | [] => none
  | e :: l => match lowestHart l with
    | none => some e
    | some f => if f.2.1 < e.2.1 then some f else some e

/-- A write of ID_BADACC (R56): the bits written 1 clear, but VALID stays where a bad access came in the same cycle, with that
access captured (R18, R59). -/
def State.writeBadacc (s : State) (v : Word) : State :=
  let i := s.ids
  let i' := { i with badOverrun := i.badOverrun && !(bitAt v 62) }
  s.setIds (if bitAt v 63 then
      match lowestHart i.badNow with
      | some e => { i'.capture e with badOverrun := decide (1 < i.badNow.length) }
      | none => { i' with badValid := false }
    else { i' with badOverrun := i'.badOverrun || (i.badOverrun && !i.badNow.isEmpty) })

/-- A write of MBX_NOTE: TAIL, in every STATE (R143, R149). -/
def State.writeTail (s : State) (n : Nat) (v : Word) : State := s.putMbx n { s.mbx n with tail := fieldNat v 3 0 }

/-- A write of an argument word, which has no effect while BUSY (R143). -/
def State.writeArg (s : State) (n i : Nat) (v : Word) : State :=
  if (s.mbx n).st == .busy then s else s.putMbx n { s.mbx n with args := (s.mbx n).args.set i v }

/-- A write of MBX_BEAT at the present MT: a claim, or else a beat (R193, R195). -/
def State.writeBeat (s : State) (v : Word) : State :=
  if bitAt v 31 then s.claim s.mt else if bitAt v 30 then s.beat (fieldNat v 15 0) s.mt else s

/-- A write to a mailbox page (R137). -/
def State.writePage (s : State) (n off : Nat) (v : Word) : State :=
  if off = 0x000 then s.writeHdr n v
  else if off = 0x010 then s.writeTail n v
  else if off = 0x018 then if n = 0 then s.writeBeat v else s
  else if off = 0x020 then if n = 63 then s else s.writeIrq n v
  else if 0x100 ≤ off ∧ off < 0x800 then s.writeArg n ((off - 0x100) / 8) v
  else s

/-- The release of a quarantined port (R600), which a quarantine that begins in the same cycle outlives (R18). -/
def State.releasePort (s : State) (p : Nat) : State :=
  if (s.port p).quar then s.putPort p { s.port p with quar := false, viol := 0 } else s

/-- A write of a register of R601 or R562. -/
def State.writeCnt (s : State) (off : Nat) (v : Word) : State :=
  if off = 0x80080 then
    s.setMem (s.mem.writeErrlog v)
  else if off = 0x90000 then
    s.setFab { s.fab with
      etherType := fieldNat v 63 48, udpPort := fieldNat v 47 32, quarThresh := fieldNat v 31 16, dscp := fieldNat v 15 10 }
  else if off = 0x90008 then s.setFab { s.fab with v6pfx := v.toNat }
  else if 0x90100 ≤ off ∧ off < 0x90200 then
    let p := (off - 0x90100) / 8
    let s := s.putPort p { s.port p with mode := bitAt v 61 }
    if s.clears (0x400000 + off) v 60 then s.releasePort p else s
  else s

/-- A write of TRC_STATUSu.FROZEN or TRC_TRIG.LOST (R823, R824). -/
def State.writeTrc (s : State) (off : Nat) (v : Word) : State :=
  if off < 0x48 then if s.clears (0x500000 + off) v 59 then s.unfreeze (off / 8) else s
  else if off = 0x180 then
    s.setObs { s.obs with trig := { s.obs.trig with lost := s.obs.trig.lost && !(s.clears 0x500180 v 61) } }
  else s

/-- A host's write to a register: RW fields take the value, W1C bits clear, WO fields act, and the rest ignores it; a write
to mailbox 63 has no effect (R16, R136). -/
def State.ctrlWrite (s : State) (off : Nat) (v : Word) : State :=
  if off < 0x10000 then if off = 0x18 then s.writeBadacc v else s
  else if off < 0x50000 then
    let n := (off - 0x10000) / 0x1000
    if n = 63 then s else s.writePage n (off % 0x1000) v
  else if off = 0x100020 then s.writeMtCtrl v
  else if off = 0x300028 then s.writeNoncrit v
  else if 0x400000 ≤ off ∧ off < 0x500000 then s.writeCnt (off - 0x400000) v
  else if 0x500000 ≤ off ∧ off < 0x600000 then s.writeTrc (off - 0x500000) v
  else if off = 0x600008 then s.setXlat { s.xlat with svcEnable := bitAt v 0, svcWrite := bitAt v 1 }
  else s

/-! ### Refused accesses (R38, R44, R56 to R59) -/

/-- KIND of a bad access, 0 for one that the hub performs (R44, R56). -/
def State.accessKind (s : State) (a : CtrlAccess) : Nat :=
  if a.size ≠ 8 ∨ a.offset % 8 ≠ 0 then 2 else if (s.ctrlRead a.offset).isNone then 1 else 0

/-- A host access to the control space: the hart exists and the offset lies in its 4 GiB (R36, R56). -/
def fromHost (a : CtrlAccess) : Bool := decide (a.hart < 144) && decide (a.offset < 2 ^ 32)

/-- One bad access: a read returns zero, the hart faults, and the access is captured or overruns (R44, R57, R58). -/
def State.badAccess (s : State) (a : CtrlAccess) : State :=
  let i := s.ids
  let e := (s.accessKind a, a.hart, a.offset)
  let i' := { i with badNow := i.badNow ++ [e] }
  let t := s.setIds (if !i.badValid then i'.capture e
    else if i.badNow.contains (i.badKind, i.badHart, i.badOffset) ∧ a.hart < i.badHart then { i'.capture e with badOverrun := true }
    else { i' with badOverrun := true })
  let t := if a.write then t else t.emit (.readValue a.hart 0)
  t.emit (.hartFault a.hart)

/-- The bad accesses of one cycle in the order in which the hub captures them: the lowest hart first (R58). -/
def byHart : List CtrlAccess → List CtrlAccess
  | [] => []
  | a :: l =>
    let rest := byHart l
    rest.takeWhile (fun b => decide (b.hart < a.hart)) ++ a :: rest.dropWhile fun b => decide (b.hart < a.hart)

/-- BAD_ACCESS (R44): the bad ones of the accesses of one cycle, in which software may write 1 to VALID (R59). -/
def execBadAccess (accesses : List CtrlAccess) (clearing : Bool) (s : State) : Host.Outcome State Fault Refusal :=
  let bad := byHart (accesses.filter fun a => fromHost a && s.accessKind a != 0)
  onEvent (s.hostUp && !bad.isEmpty) (fun s =>
    bad.foldl State.badAccess (if clearing then s.setIds { s.ids with badValid := false } else s)) s

/-- Who issues physical accesses (R40). -/
inductive Issuer where
  | hostHart
  | engine
  | controlProcessor
  | managementAgent
deriving DecidableEq, Repr

/-- The regions of the physical address map (R36). -/
inductive Region36 where
  | hbm
  | platform
  | control
  | reserved
deriving DecidableEq, Repr

/-- The region that holds a physical address (R36, R37). -/
def State.regionAt (s : State) (addr : Nat) : Region36 :=
  if s.inHbm addr 1 then .hbm
  else if 0xFD00000000000 ≤ addr ∧ addr < 0xFD00010000000 then .platform
  else if 0xFE00000000000 ≤ addr ∧ addr < 0xFE00100000000 then .control
  else .reserved

/-- Which agent may reach which region (R40): a management agent reaches HBM only through the service window and mailbox 63
only through its interfaces, neither by a physical address. -/
def mayReach : Issuer → Region36 → Bool
  | .hostHart, .reserved => false
  | .hostHart, _ => true
  | .engine, r => r == .hbm
  | .controlProcessor, .reserved => false
  | .controlProcessor, _ => true
  | .managementAgent, _ => false

/-- A physical address that no region of R36 gives a host: reserved, or HBM at or beyond HBM_GIB GiB (R37, R38). -/
def State.reservedForHost (s : State) (addr : Nat) : Bool :=
  !(mayReach .hostHart (s.regionAt addr))

/-- HOST_RESERVED_ACCESS (R38). -/
def execHostReservedAccess (hart addr : Nat) (s : State) : Host.Outcome State Fault Refusal :=
  onEvent (s.hostUp && decide (hart < 144) && s.reservedForHost addr) (fun s => s.emit (.hartFault hart)) s

/-! ### Register writes -/

/-- QUAR_RELEASE (R600). -/
def execQuarRelease (port : Nat) (s : State) : Host.Outcome State Fault Refusal :=
  onEvent (s.hostUp && decide (port < 32))
    (fun s => if s.ids.hot.contains (0x490100 + 8 * port, 60) then s else s.releasePort port) s

/-- REGISTER_WRITE (R16): an 8-byte write; one that is not aligned or meets a reserved offset is a bad access (R44). -/
def execRegisterWrite (hart offset : Nat) (value : Word) (s : State) : Host.Outcome State Fault Refusal :=
  let a : CtrlAccess := ⟨hart, offset, 8, true⟩
  onEvent (s.hostUp && fromHost a) (fun s => if s.accessKind a = 0 then s.ctrlWrite offset value else s.badAccess a) s

end Sys2Proof.Machine
end

