-- ==== Sys2Proof/Machine/Mgmt.lean ====
section
/-!
DEFINITION. The management interfaces: mailbox 63 and the service window over MCTP, the MCTP control commands, PLDM, and
address resolution (R486 to R490, R567, R569, R843 to R850). The command and completion codes of MCTP control and PLDM are
those of DSP0236, DSP0240 and DSP0248 (PRESUMED, log 29).
-/

namespace Sys2Proof.Machine

/-! ### Vendor-defined messages (R847, R848) -/

/-- Largest message on an agent's interface (R843, R845). -/
def transferUnit : Agent → Nat
  | .i3c _ => 64
  | .ether _ _ => 1024

/-- Bytes before the fields of a vendor-defined message (R847). -/
def headBytes : Nat := 9

/-- Mailbox 63, POS_SET and, but for its refusals, the service window answer (R760, R783, R839). -/
def State.mbx63Up (s : State) : Bool := s.running || s.conn.phase == .recovering || s.conn.phase == .failed

/-- The window answers, if only with a refusal (R783, R839). -/
def State.windowUp (s : State) : Bool := s.running || s.conn.phase == .failed

/-- A reply to an agent. -/
def State.reply (s : State) (a : Agent) (command tag status : Nat) (fields : List Byte) : State :=
  s.emit (.message a (vendorMessage command (tag % 256) status fields))

/-- Every word of the run is a register of the page of mailbox 63 (R137). -/
def State.pageRun (s : State) (off n : Nat) : Bool :=
  decide (off + 8 * n ≤ 0x1000) && (List.range n).all fun i => (s.mbxPage 63 (off + 8 * i)).isSome

/-- The run of words covers an offset. -/
def covers (off n at_ : Nat) : Bool := decide (off ≤ at_) && decide (at_ < off + 8 * n)

/-- MBX_READ (R836, R847). -/
def State.agentRead (s : State) (a : Agent) (tag off n : Nat) : State :=
  if 255 < n ∨ transferUnit a < headBytes + 8 * n then s.reply a 0x01 tag stBadLength []
  else if !(s.pageRun off n) then s.reply a 0x01 tag stBadArg []
  else
    let words := (List.range n).map fun i => (s.mbxPage 63 (off + 8 * i)).getD 0
    let s := if covers off n 8 then s.setConn { s.conn with doneUnread := false } else s
    s.reply a 0x01 tag stOk (words.map fun w => beBytes 8 w).flatten

/-- MBX_READ (R847). -/
def execMbxRead (agent : Agent) (tag offset count : Nat) (s : State) : Host.Outcome State Fault Refusal :=
  onEvent s.mbx63Up (fun s => s.agentRead agent tag offset count) s

/-- The words of one message, written in turn (R848). -/
def State.writeWords (s : State) (off : Nat) : List Word → State
  | [] => s
  | w :: ws => State.writeWords (s.writePage 63 off w) (off + 8) ws

/-- MBX_WRITE (R847, R848). -/
def State.agentWrite (s : State) (a : Agent) (tag off n : Nat) (words : List Word) : State :=
  if 255 < n ∨ words.length ≠ n ∨ transferUnit a < headBytes + 3 + 8 * n then s.reply a 0x02 tag stBadLength []
  else if !(s.pageRun off n) then s.reply a 0x02 tag stBadArg []
  else
    let s := if covers off n 0 then s.setConn { s.conn with record := some a } else s
    (s.writeWords off words).reply a 0x02 tag stOk []

/-- MBX_WRITE (R848). -/
def execMbxWrite (agent : Agent) (tag offset count : Nat) (words : List Word) (s : State) : Host.Outcome State Fault Refusal :=
  onEvent s.mbx63Up (fun s => s.agentWrite agent tag offset count words) s

/-! ### The service window (R486 to R490) -/

/-- A refused move or access (R488, R847). -/
def State.refuseWindow (s : State) (a : Agent) (command tag status : Nat) : State :=
  (s.setXlat { s.xlat with svcRefused := (s.xlat.svcRefused + 1) % 2 ^ 32 }).reply a command tag status []

/-- An access performed (R488). -/
def State.countAccess (s : State) : State := s.setXlat { s.xlat with svcAccesses := (s.xlat.svcAccesses + 1) % 2 ^ 32 }

/-- SVC_MOVE (R489, R783). -/
def State.svcMove (s : State) (a : Agent) (tag base : Nat) : State :=
  if s.conn.phase == .failed || base % 2 ^ 26 != 0 || !(s.inHbm base (2 ^ 26)) then s.refuseWindow a 0x03 tag stAuthFail
  else (s.setXlat { s.xlat with svcBase := base }).reply a 0x03 tag stOk []

/-- SVC_MOVE (R489). -/
def execSvcMove (agent : Agent) (tag base : Nat) (s : State) : Host.Outcome State Fault Refusal :=
  onEvent s.windowUp (fun s => s.svcMove agent tag base) s

/-- The run is made of aligned 8-byte words (R490, R847). -/
def wordRun (off n : Nat) : Bool := off % 8 == 0 && n % 8 == 0

/-- An access through the window is refused (R490, R783). -/
def State.windowRefuses (s : State) (off n : Nat) (write : Bool) : Bool :=
  s.conn.phase == .failed || !s.xlat.svcEnable || (write && !s.xlat.svcWrite) || !(s.inHbm (s.xlat.svcBase + off) n)

/-- SVC_READ (R490, R491, R536, R551, R847): a refused access is counted, and one of anything but aligned 8-byte words ends with BAD_ARG
(log 86). -/
def State.svcLoad (s : State) (a : Agent) (tag off n : Nat) : State :=
  let pa := s.xlat.svcBase + off
  if transferUnit a < headBytes + n then s.reply a 0x04 tag stBadLength []
  else if s.windowRefuses off n false then s.refuseWindow a 0x04 tag stAuthFail
  else if !(wordRun off n) then s.refuseWindow a 0x04 tag stBadArg
  else if s.poisoned pa n then s.refuseWindow a 0x04 tag stHwFault
  else (s.countAccess.glanceRange pa n .bulk none).reply a 0x04 tag stOk (s.hbmRead pa n)

/-- SVC_READ (R490). -/
def execSvcRead (agent : Agent) (tag offset length : Nat) (s : State) : Host.Outcome State Fault Refusal :=
  onEvent s.windowUp (fun s => s.svcLoad agent tag offset length) s

/-- Bytes written as 8-byte accesses in ascending order (R490): `n` of them. -/
def State.storeWords (s : State) (pa : Nat) (bytes : List Byte) : Nat → State
  | 0 => s
  | n + 1 => State.storeWords (s.hbmWrite pa (bytes.take 8)) (pa + 8) (bytes.drop 8) n

/-- SVC_WRITE (R490, R491, R536, R847; log 86). -/
def State.svcStore (s : State) (a : Agent) (tag off n : Nat) (bytes : List Byte) : State :=
  if bytes.length ≠ n ∨ transferUnit a < headBytes + 6 + n then s.reply a 0x05 tag stBadLength []
  else if s.windowRefuses off n true then s.refuseWindow a 0x05 tag stAuthFail
  else if !(wordRun off n) then s.refuseWindow a 0x05 tag stBadArg
  else ((s.countAccess.placeRange (s.xlat.svcBase + off) n .bulk none).storeWords (s.xlat.svcBase + off) bytes (n / 8)).reply a 0x05 tag stOk []

/-- SVC_WRITE (R490). -/
def execSvcWrite (agent : Agent) (tag offset length : Nat) (bytes : List Byte) (s : State) :
    Host.Outcome State Fault Refusal :=
  onEvent s.windowUp (fun s => s.svcStore agent tag offset length bytes) s

/-! ### POS_SET (R571, R849) -/

/-- POS_SET (R847, R849): from an agent on I3C, while no logical ID is held. -/
def State.posSet (s : State) (a : Agent) (tag hall row rack device : Nat) : State :=
  match a with
  | .ether _ _ => s.reply a 0x06 tag stAuthFail []
  | .i3c _ =>
    if s.fab.epoch ≠ 0 then s.reply a 0x06 tag stBadState []
    else
      (s.setFab { s.fab with
        hall := hall % 256, row := row % 256, rack := rack % 256, device := device % 256 }).reply a 0x06 tag stOk []

/-- POS_SET (R849). -/
def execPosSet (agent : Agent) (tag hall row rack device : Nat) (s : State) : Host.Outcome State Fault Refusal :=
  onEvent (s.running || s.conn.phase == .failed) (fun s => s.posSet agent tag hall row rack device) s

/-! ### I3C and the MCTP control commands (R843, R847; log 29) -/

/-- VSTBY is up, and with it the management interfaces (R843, R844). -/
def State.standby (s : State) : Bool := s.conn.phase != .off

/-- DYNAMIC_ADDRESS_ASSIGNMENT (R843): with whether the controller enables in-band interrupts. -/
def execDynamicAddressAssignment (addr : Nat) (ibi : Bool) (s : State) : Host.Outcome State Fault Refusal :=
  onEvent s.standby (fun s => s.setConn { s.conn with i3cAddr := some (addr % 128), ibi }) s

/-- SET_ENDPOINT_ID (R847): an endpoint ID from 8 to 254. -/
def State.setEndpoint (s : State) (a : Agent) (eid : Nat) : State :=
  if 8 ≤ eid ∧ eid ≤ 254 then (s.setConn { s.conn with eid }).emit (.control a 1 [0, eid])
  else s.emit (.control a 1 [2])

/-- SET_ENDPOINT_ID (R847). -/
def execSetEndpointId (agent : Agent) (eid : Nat) (s : State) : Host.Outcome State Fault Refusal :=
  onEvent s.standby (fun s => s.setEndpoint agent eid) s

/-- GET_ENDPOINT_ID (R847). -/
def execGetEndpointId (agent : Agent) (s : State) : Host.Outcome State Fault Refusal :=
  onEvent s.standby (fun s => s.emit (.control agent 2 [0, s.conn.eid])) s

/-- Message types: control, PLDM, and the vendor-defined one of R847. -/
def messageTypes : List Nat := [0x00, 0x01, 0x7F]

/-- GET_MCTP_VERSION_SUPPORT (R847): of a message type, or of MCTP itself. -/
def execGetMctpVersionSupport (agent : Agent) (kind : Nat) (s : State) : Host.Outcome State Fault Refusal :=
  onEvent s.standby (fun s =>
    s.emit (.control agent 4 (if (0xFF :: messageTypes).contains kind then [0, Config.mctpVersion kind] else [0x80]))) s

/-- GET_MESSAGE_TYPE_SUPPORT (R847): the types besides control. -/
def execGetMessageTypeSupport (agent : Agent) (s : State) : Host.Outcome State Fault Refusal :=
  onEvent s.standby (fun s => s.emit (.control agent 5 (0 :: messageTypes.tail))) s

/-- GET_VENDOR_DEFINED_MESSAGE_SUPPORT (R847): one set, Troinzor's enterprise number. -/
def execGetVendorDefinedMessageSupport (agent : Agent) (selector : Nat) (s : State) : Host.Outcome State Fault Refusal :=
  onEvent s.standby (fun s => s.emit (.control agent 6 (if selector = 0 then [0, 0xFF, 1, 0xD6F1] else [2]))) s

/-! ### Sensors (R850) -/

/-- The numeric sensors of R850. -/
def numericSensor (id : Nat) : Bool := (decide (1 ≤ id) && decide (id ≤ 5)) || dieTemperature id

/-- Thresholds of a numeric sensor in its unit: lower fatal, lower critical, upper critical, upper fatal (R850). -/
def State.thresholds (s : State) (id : Nat) : List (Option Int) :=
  if id = 1 then [some 42, some 46, none, some 60]
  else if id = 2 then [none, none, some (s.pwr.peak : Int), none]
  else if id = 4 then [none, none, some 40, none]
  else if 0x20 ≤ id ∧ id < 0x30 then [none, none, some 85, some 115]
  else if dieTemperature id then [none, none, some 105, some 115]
  else [none, none, none, none]

/-- Band of the input voltage, given in units of 10 mV (R719, R850). -/
def inputBand (vin : Nat) : Nat := if vin < 4200 ∨ 6000 < vin then 2 else if vin < 4600 then 1 else 0

/-- Band of a sensor's value: 0 normal, 1 critical, 2 fatal (R850). -/
def State.bandOf (s : State) (id : Nat) (v : Int) : Nat :=
  if id = 1 then inputBand s.pwr.vin
  else if id = 2 then if (s.pwr.peak : Int) < v then 1 else 0
  else if id = 4 then if 40 ≤ v then 1 else 0
  else if 0x20 ≤ id ∧ id < 0x30 then if 115 ≤ v then 2 else if 85 ≤ v then 1 else 0
  else if dieTemperature id then if 115 ≤ v then 2 else if 105 ≤ v then 1 else 0
  else 0

/-- The value that a sensor of the state has, or else the value measured (R850). -/
def State.measured (s : State) (id : Nat) (v : Int) : Int :=
  if id = 1 then (s.pwr.vin / 100 : Nat)
  else if id = 2 then (s.pwr.p1ms : Int)
  else if id = 3 then (s.pwr.energy / 1000000 : Nat)
  else v

/-- A sensor's last update. -/
def State.sensor (s : State) (id : Nat) : Option Sensor := s.conn.sensors.find? fun x => x.id == id

/-- Refresh doubles while a stack is hotter than 85 °C (R553). -/
def State.noteHeat (s : State) (id : Nat) (v : Int) : State :=
  if 0x20 ≤ id ∧ id < 0x30 then
    let others := s.mem.hot.filter (· != id - 0x20)
    s.setMem { s.mem with hot := if 85 < v then (id - 0x20) :: others else others }
  else s

/-- SENSOR_UPDATE (R850): the value is stored, and an event is raised when it lies in another band than before. -/
def State.sensorUpdate (s : State) (id : Nat) (value : Int) : State :=
  let v := s.measured id value
  let band := s.bandOf id v
  let old := ((s.sensor id).map (·.band)).getD 0
  let s := s.noteHeat id v
  let s := s.setConn { s.conn with sensors := (s.conn.sensors.filter fun x => x.id != id) ++ [⟨id, v, band⟩] }
  if band = old then s else s.raiseEvent id band

/-- SENSOR_UPDATE (R850). -/
def execSensorUpdate (sensor : Nat) (value : Int) (s : State) : Host.Outcome State Fault Refusal :=
  onEvent (s.standby && numericSensor sensor) (fun s => s.sensorUpdate sensor value) s

/-! ### PLDM (R850; log 29) -/

/-- GET_TID (R850). -/
def execGetTid (agent : Agent) (s : State) : Host.Outcome State Fault Refusal :=
  onEvent s.standby (fun s => s.emit (.pldm agent 0 0x02 [0, (Config.pldmTid : Int)])) s

/-- GET_PLDM_VERSION (R850): of type 0, base, or 2, platform monitoring and control. -/
def execGetPldmVersion (agent : Agent) (kind : Nat) (s : State) : Host.Outcome State Fault Refusal :=
  onEvent s.standby (fun s =>
    s.emit (.pldm agent 0 0x03 (if [0, 2].contains kind then [0, (Config.pldmVersion kind : Int)] else [0x83]))) s

/-- GET_PLDM_TYPES (R850). -/
def execGetPldmTypes (agent : Agent) (s : State) : Host.Outcome State Fault Refusal :=
  onEvent s.standby (fun s => s.emit (.pldm agent 0 0x04 [0, 0, 2])) s

/-- The commands of a PLDM type that the device supports (R850). -/
def pldmCommands (kind : Nat) : List Int :=
  if kind = 0 then [0, 0x02, 0x03, 0x04, 0x05] else if kind = 2 then [0, 0x04, 0x0A, 0x11, 0x21, 0x51] else [0x83]

/-- GET_PLDM_COMMANDS (R850). -/
def execGetPldmCommands (agent : Agent) (kind : Nat) (s : State) : Host.Outcome State Fault Refusal :=
  onEvent s.standby (fun s => s.emit (.pldm agent 0 0x05 (pldmCommands kind))) s

/-- Every sensor of R850, in ascending order. -/
def sensorIds : List Nat :=
  [1, 2, 3, 4, 5] ++ (List.range 8).map (0x10 + ·) ++ (List.range 16).map (0x20 + ·) ++ [0x30, 0x31, 0x40]
    ++ (List.range 4).map (0x50 + ·) ++ [0x60, 0x61, 0x62]

/-- A descriptor record: its sensor and thresholds, each as whether it has one and its value. -/
def State.descriptor (s : State) (id : Nat) : List Int :=
  (id : Int) :: ((s.thresholds id).map fun t => [((flagNat t.isSome : Nat) : Int), t.getD 0]).flatten

/-- GET_PDR (R850): record n describes the n-th sensor; 0 asks for the first, and the answer names the next, 0 at the end. -/
def State.getPdr (s : State) (a : Agent) (record : Nat) : State :=
  let n := if record = 0 then 1 else record
  match sensorIds[n - 1]? with
  | some id =>
    s.emit (.pldm a 2 0x51 ([0, ((if n < sensorIds.length then n + 1 else 0 : Nat) : Int)] ++ s.descriptor id))
  | none => s.emit (.pldm a 2 0x51 [0x82])

/-- GET_PDR (R850). -/
def execGetPdr (agent : Agent) (record : Nat) (s : State) : Host.Outcome State Fault Refusal :=
  onEvent s.standby (fun s => s.getPdr agent record) s

/-- GET_SENSOR_READING (R850): whether there is a reading, its band, and its value. -/
def State.sensorReading (s : State) (id : Nat) : List Int :=
  if numericSensor id then
    match s.sensor id with
    | some x => [0, 0, (x.band : Int), x.value]
    | none => [0, 3]
  else [0x80]

/-- GET_SENSOR_READING (R850). -/
def execGetSensorReading (agent : Agent) (sensor : Nat) (s : State) : Host.Outcome State Fault Refusal :=
  onEvent s.standby (fun s => s.emit (.pldm agent 2 0x11 (s.sensorReading sensor))) s

/-- The rails in the order of R715. -/
def rails : List Rail :=
  [.standby, .hub] ++ (List.range 8).map Rail.base ++ (List.range 8).map Rail.memory ++ (List.range 8).map Rail.compute
    ++ (List.range 2).map Rail.proc ++ (List.range 4).map Rail.optical ++ [.flash]

/-- State of a rail: 0 off, 1 in regulation, 2 faulted since the module reset (R834, R850). -/
def State.railState (s : State) (r : Rail) : Nat :=
  if s.conn.faulted.contains r then 2 else if r == .standby || s.conn.railsUp then 1 else 0

/-- States of a state sensor (R850): the rails, the MT state, FENCED. -/
def State.stateReadings (s : State) (id : Nat) : List Int :=
  if id = 0x60 then 0 :: rails.map fun r => (s.railState r : Int)
  else if id = 0x61 then [0, (s.time.st.code : Int)]
  else if id = 0x62 then [0, (flagNat s.fab.fenced : Int)]
  else [0x80]

/-- GET_STATE_SENSOR_READINGS (R850). -/
def execGetStateSensorReadings (agent : Agent) (sensor : Nat) (s : State) : Host.Outcome State Fault Refusal :=
  onEvent s.standby (fun s => s.emit (.pldm agent 2 0x21 (s.stateReadings sensor))) s

/-- SET_EVENT_RECEIVER (R848, R850). -/
def execSetEventReceiver (agent : Agent) (receiver : Option Agent) (s : State) : Host.Outcome State Fault Refusal :=
  onEvent s.standby (fun s => (s.setConn { s.conn with receiver }).emit (.pldm agent 2 0x04 [0])) s

/-- PLDM_EVENT_ACKNOWLEDGEMENT (R836): by the event receiver. -/
def execPldmEventAcknowledgement (agent : Agent) (event : Nat) (s : State) : Host.Outcome State Fault Refusal :=
  onEvent (s.standby && s.conn.receiver == some agent) (fun s =>
    s.setConn { s.conn with events := s.conn.events.filter fun e => e.id != event }) s

/-! ### Address resolution (R565, R567, R569, R844) -/

/-- The interface identifier of a MAC address by RFC 4291 (R844): its modified EUI-64. -/
def interfaceId (mac : Nat) : Nat := ((mac / 2 ^ 24 * 2 ^ 40 + 0xFFFE * 2 ^ 24 + mac % 2 ^ 24) ^^^ 2 ^ 57)

/-- MAC address of the management port (R844). -/
def managementMac : Nat := portMac 32

/-- Link-local address of the management port (R844). -/
def linkLocal6 : Nat := 0xFE80 * 2 ^ 112 + interfaceId managementMac

/-- A ROUTED port that sends and receives (R569, R600, R609). -/
def State.routedPort (s : State) (p : Nat) : Bool :=
  decide (p < 32) && (s.port p).st == .up && (s.port p).modeNow && !(s.port p).quar && !s.fab.fenced

/-- A solicitation at a port, 32 being the management port, asks for an address of the device (R567, R569, R844). -/
def State.solicits (s : State) (p target : Nat) : Bool :=
  if p = 32 then s.standby && (target == linkLocal6 || s.conn.slaac.contains target)
  else s.routedPort p && s.fab.epoch != 0 && target == fabricAddress s.fab.v6pfx s.fab.node

/-- NEIGHBOR_SOLICITATION (R569, R844). -/
def execNeighborSolicitation (port target : Nat) (s : State) : Host.Outcome State Fault Refusal :=
  onEvent (s.solicits port target) (fun s => s.emit (.neighborAdvertisement port target)) s

/-- A router advertises itself at a ROUTED port, or a prefix on the management Ethernet (R569, R844). -/
def State.advertised (s : State) (p mac router : Nat) (pfx : Option Nat) : State :=
  if p = 32 then
    match pfx with
    | some x =>
      let a := x % 2 ^ 64 * 2 ^ 64 + interfaceId managementMac
      if s.conn.slaac.contains a then s else s.setConn { s.conn with slaac := s.conn.slaac ++ [a] }
    | none => s
  else s.putPort p { s.port p with router := some (mac, router) }

/-- ROUTER_ADVERTISEMENT (R569). -/
def execRouterAdvertisement (port mac router : Nat) (pfx : Option Nat) (s : State) : Host.Outcome State Fault Refusal :=
  onEvent (if port = 32 then s.standby else s.routedPort port) (fun s => s.advertised port mac router pfx) s

/-- ARP_REQUEST (R844). -/
def execArpRequest (target : Nat) (s : State) : Host.Outcome State Fault Refusal :=
  onEvent (s.standby && target == Config.linkLocal4) (fun s => s.emit (.arpReply target)) s

end Sys2Proof.Machine
end

