-- ==== Sys2Proof/Machine/Dispatch.lean ====
section
/-!
DEFINITION. The dispatch: one arm per row of the opcode table, in its order, each a direct call of that row's meaning.
-/

namespace Sys2Proof.Machine

/-- What a command or event does to everything but the queue. -/
def exec (i : Instr) (s : State) : Host.Outcome State Fault Refusal :=
  match i with
  | .powerOn slot found => Sys2Proof.Machine.execPowerOn slot found s
  | .powerLoss => Sys2Proof.Machine.execPowerLoss s
  | .timeWaitExpiry => Sys2Proof.Machine.execTimeWaitExpiry s
  | .resetAssert => Sys2Proof.Machine.execResetAssert s
  | .resetRelease found => Sys2Proof.Machine.execResetRelease found s
  | .inputUndervoltage => Sys2Proof.Machine.execInputUndervoltage s
  | .inputFaultReset => Sys2Proof.Machine.execInputFaultReset s
  | .railFault rail => Sys2Proof.Machine.execRailFault rail s
  | .thermalTrip => Sys2Proof.Machine.execThermalTrip s
  | .powerSample vin watts load busy cycles => Sys2Proof.Machine.execPowerSample vin watts load busy cycles s
  | .pmbusPoll readings => Sys2Proof.Machine.execPmbusPoll readings s
  | .energyApportion => Sys2Proof.Machine.execEnergyApportion s
  | .targetRestore => Sys2Proof.Machine.execTargetRestore s
  | .throttleOriginate => Sys2Proof.Machine.execThrottleOriginate s
  | .throttleExpiry origin nseq => Sys2Proof.Machine.execThrottleExpiry origin nseq s
  | .clockStep => Sys2Proof.Machine.execClockStep s
  | .heavyHandoverTimeout => Sys2Proof.Machine.execHeavyHandoverTimeout s
  | .ppsEdge stamp => Sys2Proof.Machine.execPpsEdge stamp s
  | .ppsOut => Sys2Proof.Machine.execPpsOut s
  | .ptpMessage message stamp => Sys2Proof.Machine.execPtpMessage message stamp s
  | .refLoss => Sys2Proof.Machine.execRefLoss s
  | .refReturn => Sys2Proof.Machine.execRefReturn s
  | .forwardStep => Sys2Proof.Machine.execForwardStep s
  | .slewEnd => Sys2Proof.Machine.execSlewEnd s
  | .backsightRepeat => Sys2Proof.Machine.execBacksightRepeat s
  | .alignedNoticeRepeat => Sys2Proof.Machine.execAlignedNoticeRepeat s
  | .hallCorrection ahead => Sys2Proof.Machine.execHallCorrection ahead s
  | .parentRemeasureTimeout => Sys2Proof.Machine.execParentRemeasureTimeout s
  | .comparatorFire location index => Sys2Proof.Machine.execComparatorFire location index s
  | .timerQueueExpiry => Sys2Proof.Machine.execTimerQueueExpiry s
  | .stakeAllocPass => Sys2Proof.Machine.execStakeAllocPass s
  | .commandTake => Sys2Proof.Machine.execCommandTake s
  | .commandTimeout mbx => Sys2Proof.Machine.execCommandTimeout mbx s
  | .mbxPost mbx hdr => Sys2Proof.Machine.execMbxPost mbx hdr s
  | .mbxWithdraw mbx hdr => Sys2Proof.Machine.execMbxWithdraw mbx hdr s
  | .mbxReturnIdle mbx hdr => Sys2Proof.Machine.execMbxReturnIdle mbx hdr s
  | .mbxIrqWrite mbx value => Sys2Proof.Machine.execMbxIrqWrite mbx value s
  | .claim value stamp => Sys2Proof.Machine.execClaim value stamp s
  | .beat value stamp => Sys2Proof.Machine.execBeat value stamp s
  | .hostLossDeadline => Sys2Proof.Machine.execHostLossDeadline s
  | .identify mbx => Sys2Proof.Machine.execIdentify mbx s
  | .queryCaps mbx => Sys2Proof.Machine.execQueryCaps mbx s
  | .ctxOpen mbx => Sys2Proof.Machine.execCtxOpen mbx s
  | .ctxClose mbx => Sys2Proof.Machine.execCtxClose mbx s
  | .ctxQuery mbx => Sys2Proof.Machine.execCtxQuery mbx s
  | .listRegister mbx => Sys2Proof.Machine.execListRegister mbx s
  | .watchFlag mbx => Sys2Proof.Machine.execWatchFlag mbx s
  | .unwatchFlag mbx => Sys2Proof.Machine.execUnwatchFlag mbx s
  | .tlbInvalidate mbx => Sys2Proof.Machine.execTlbInvalidate mbx s
  | .faultReplay mbx => Sys2Proof.Machine.execFaultReplay mbx s
  | .mtQuery mbx => Sys2Proof.Machine.execMtQuery mbx s
  | .stakeAlloc mbx => Sys2Proof.Machine.execStakeAlloc mbx s
  | .stakeFree mbx => Sys2Proof.Machine.execStakeFree mbx s
  | .backsightRun mbx => Sys2Proof.Machine.execBacksightRun mbx s
  | .routeSet mbx => Sys2Proof.Machine.execRouteSet mbx s
  | .tieSet mbx => Sys2Proof.Machine.execTieSet mbx s
  | .epochSet mbx => Sys2Proof.Machine.execEpochSet mbx s
  | .witnessBind mbx => Sys2Proof.Machine.execWitnessBind mbx s
  | .launchOffer mbx => Sys2Proof.Machine.execLaunchOffer mbx s
  | .launchCommit mbx => Sys2Proof.Machine.execLaunchCommit mbx s
  | .launchAbort mbx => Sys2Proof.Machine.execLaunchAbort mbx s
  | .launchDeadline => Sys2Proof.Machine.execLaunchDeadline s
  | .plumbJoin mbx => Sys2Proof.Machine.execPlumbJoin mbx s
  | .plumbLeave mbx => Sys2Proof.Machine.execPlumbLeave mbx s
  | .monumentStart mbx => Sys2Proof.Machine.execMonumentStart mbx s
  | .monumentQuery mbx => Sys2Proof.Machine.execMonumentQuery mbx s
  | .restore mbx => Sys2Proof.Machine.execRestore mbx s
  | .monumentSeal id layer => Sys2Proof.Machine.execMonumentSeal id layer s
  | .layerFailure id layer status => Sys2Proof.Machine.execLayerFailure id layer status s
  | .restoreComplete id => Sys2Proof.Machine.execRestoreComplete id s
  | .partSet mbx => Sys2Proof.Machine.execPartSet mbx s
  | .regSet mbx => Sys2Proof.Machine.execRegSet mbx s
  | .acctRead mbx => Sys2Proof.Machine.execAcctRead mbx s
  | .pwrSetLimit mbx => Sys2Proof.Machine.execPwrSetLimit mbx s
  | .pwrHint mbx => Sys2Proof.Machine.execPwrHint mbx s
  | .pwrMode mbx => Sys2Proof.Machine.execPwrMode mbx s
  | .attest mbx => Sys2Proof.Machine.execAttest mbx s
  | .fwBegin mbx => Sys2Proof.Machine.execFwBegin mbx s
  | .fwChunk mbx => Sys2Proof.Machine.execFwChunk mbx s
  | .fwCommit mbx verified => Sys2Proof.Machine.execFwCommit mbx verified s
  | .fwSessionTimeout => Sys2Proof.Machine.execFwSessionTimeout s
  | .traceSet mbx => Sys2Proof.Machine.execTraceSet mbx s
  | .traceEnable mbx => Sys2Proof.Machine.execTraceEnable mbx s
  | .traceDisable mbx => Sys2Proof.Machine.execTraceDisable mbx s
  | .traceDump mbx => Sys2Proof.Machine.execTraceDump mbx s
  | .traceRelease mbx => Sys2Proof.Machine.execTraceRelease mbx s
  | .traceArm mbx => Sys2Proof.Machine.execTraceArm mbx s
  | .counterConfig mbx => Sys2Proof.Machine.execCounterConfig mbx s
  | .dieService mbx => Sys2Proof.Machine.execDieService mbx s
  | .dieServiceDrained passed back => Sys2Proof.Machine.execDieServiceDrained passed back s
  | .dieServiceTimeout => Sys2Proof.Machine.execDieServiceTimeout s
  | .stackRepair mbx => Sys2Proof.Machine.execStackRepair mbx s
  | .stackRepairDrained moved => Sys2Proof.Machine.execStackRepairDrained moved s
  | .badAccess accesses clearing => Sys2Proof.Machine.execBadAccess accesses clearing s
  | .hostReservedAccess hart addr => Sys2Proof.Machine.execHostReservedAccess hart addr s
  | .ppsTimeWrite value => Sys2Proof.Machine.execPpsTimeWrite value s
  | .noncritWrite value => Sys2Proof.Machine.execNoncritWrite value s
  | .quarRelease port => Sys2Proof.Machine.execQuarRelease port s
  | .frozenClear unit => Sys2Proof.Machine.execFrozenClear unit s
  | .registerWrite hart offset value => Sys2Proof.Machine.execRegisterWrite hart offset value s
  | .flagWake watch => Sys2Proof.Machine.execFlagWake watch s
  | .stakedDispatch watch entry => Sys2Proof.Machine.execStakedDispatch watch entry s
  | .nopEntry watch entry => Sys2Proof.Machine.execNopEntry watch entry s
  | .dispatch watch entry => Sys2Proof.Machine.execDispatch watch entry s
  | .copy watch entry => Sys2Proof.Machine.execCopy watch entry s
  | .write watch entry => Sys2Proof.Machine.execWrite watch entry s
  | .wait watch entry => Sys2Proof.Machine.execWait watch entry s
  | .waitDeadline watch entry => Sys2Proof.Machine.execWaitDeadline watch entry s
  | .fenceEntry watch entry => Sys2Proof.Machine.execFenceEntry watch entry s
  | .mark watch entry => Sys2Proof.Machine.execMark watch entry s
  | .hint watch entry => Sys2Proof.Machine.execHint watch entry s
  | .entryComplete watch entry => Sys2Proof.Machine.execEntryComplete watch entry s
  | .blockPlace watch entry cluster => Sys2Proof.Machine.execBlockPlace watch entry cluster s
  | .blockStakeRelease blk => Sys2Proof.Machine.execBlockStakeRelease blk s
  | .blockEnd blk => Sys2Proof.Machine.execBlockEnd blk s
  | .exception r => Sys2Proof.Machine.execException r s
  | .contextTeardown ctx cause => Sys2Proof.Machine.execContextTeardown ctx cause s
  | .add r => Sys2Proof.Machine.execAdd r s
  | .sub r => Sys2Proof.Machine.execSub r s
  | .mulLo r => Sys2Proof.Machine.execMulLo r s
  | .mulHi r => Sys2Proof.Machine.execMulHi r s
  | .div r => Sys2Proof.Machine.execDiv r s
  | .rem r => Sys2Proof.Machine.execRem r s
  | .and r => Sys2Proof.Machine.execAnd r s
  | .or r => Sys2Proof.Machine.execOr r s
  | .xor r => Sys2Proof.Machine.execXor r s
  | .shl r => Sys2Proof.Machine.execShl r s
  | .shr r => Sys2Proof.Machine.execShr r s
  | .min r => Sys2Proof.Machine.execMin r s
  | .max r => Sys2Proof.Machine.execMax r s
  | .cmp r => Sys2Proof.Machine.execCmp r s
  | .sel r => Sys2Proof.Machine.execSel r s
  | .mov r => Sys2Proof.Machine.execMov r s
  | .laneId r => Sys2Proof.Machine.execLaneId r s
  | .rdlane r => Sys2Proof.Machine.execRdlane r s
  | .popc r => Sys2Proof.Machine.execPopc r s
  | .clz r => Sys2Proof.Machine.execClz r s
  | .fadd r => Sys2Proof.Machine.execFadd r s
  | .fsub r => Sys2Proof.Machine.execFsub r s
  | .fmul r => Sys2Proof.Machine.execFmul r s
  | .ffma r => Sys2Proof.Machine.execFfma r s
  | .fdiv r => Sys2Proof.Machine.execFdiv r s
  | .fsqrt r => Sys2Proof.Machine.execFsqrt r s
  | .fmin r => Sys2Proof.Machine.execFmin r s
  | .fmax r => Sys2Proof.Machine.execFmax r s
  | .fcmp r => Sys2Proof.Machine.execFcmp r s
  | .fcvt r => Sys2Proof.Machine.execFcvt r s
  | .fcvtI r => Sys2Proof.Machine.execFcvtI r s
  | .fcvtF r => Sys2Proof.Machine.execFcvtF r s
  | .br r => Sys2Proof.Machine.execBr r s
  | .brC r => Sys2Proof.Machine.execBrC r s
  | .brR r => Sys2Proof.Machine.execBrR r s
  | .call r => Sys2Proof.Machine.execCall r s
  | .callR r => Sys2Proof.Machine.execCallR r s
  | .ret r => Sys2Proof.Machine.execRet r s
  | .exit r => Sys2Proof.Machine.execExit r s
  | .trap r => Sys2Proof.Machine.execTrap r s
  | .nop r => Sys2Proof.Machine.execNop r s
  | .ldB8 r => Sys2Proof.Machine.execLdB8 r s
  | .ldB16 r => Sys2Proof.Machine.execLdB16 r s
  | .ldB32 r => Sys2Proof.Machine.execLdB32 r s
  | .ldB64 r => Sys2Proof.Machine.execLdB64 r s
  | .ldB128 r => Sys2Proof.Machine.execLdB128 r s
  | .ldS8 r => Sys2Proof.Machine.execLdS8 r s
  | .ldS16 r => Sys2Proof.Machine.execLdS16 r s
  | .stB8 r => Sys2Proof.Machine.execStB8 r s
  | .stB16 r => Sys2Proof.Machine.execStB16 r s
  | .stB32 r => Sys2Proof.Machine.execStB32 r s
  | .stB64 r => Sys2Proof.Machine.execStB64 r s
  | .stB128 r => Sys2Proof.Machine.execStB128 r s
  | .atomAdd r => Sys2Proof.Machine.execAtomAdd r s
  | .atomMinU r => Sys2Proof.Machine.execAtomMinU r s
  | .atomMaxU r => Sys2Proof.Machine.execAtomMaxU r s
  | .atomMinS r => Sys2Proof.Machine.execAtomMinS r s
  | .atomMaxS r => Sys2Proof.Machine.execAtomMaxS r s
  | .atomAnd r => Sys2Proof.Machine.execAtomAnd r s
  | .atomOr r => Sys2Proof.Machine.execAtomOr r s
  | .atomXor r => Sys2Proof.Machine.execAtomXor r s
  | .atomExch r => Sys2Proof.Machine.execAtomExch r s
  | .atomCas r => Sys2Proof.Machine.execAtomCas r s
  | .atomFadd r => Sys2Proof.Machine.execAtomFadd r s
  | .atomXadd r => Sys2Proof.Machine.execAtomXadd r s
  | .fence r => Sys2Proof.Machine.execFence r s
  | .barGroup r => Sys2Proof.Machine.execBarGroup r s
  | .barGroupRelease blk grp => Sys2Proof.Machine.execBarGroupRelease blk grp s
  | .barBlock r => Sys2Proof.Machine.execBarBlock r s
  | .barBlockRelease blk => Sys2Proof.Machine.execBarBlockRelease blk s
  | .arrWait r => Sys2Proof.Machine.execArrWait r s
  | .arrWaitRelease r => Sys2Proof.Machine.execArrWaitRelease r s
  | .xferCv r => Sys2Proof.Machine.execXferCv r s
  | .copyLand blk copy lo count => Sys2Proof.Machine.execCopyLand blk copy lo count s
  | .stakeWait r => Sys2Proof.Machine.execStakeWait r s
  | .stakeWaitRelease r => Sys2Proof.Machine.execStakeWaitRelease r s
  | .mtRead r => Sys2Proof.Machine.execMtRead r s
  | .markBegin r => Sys2Proof.Machine.execMarkBegin r s
  | .markEnd r => Sys2Proof.Machine.execMarkEnd r s
  | .srRead r => Sys2Proof.Machine.execSrRead r s
  | .srWrite r => Sys2Proof.Machine.execSrWrite r s
  | .srClr r => Sys2Proof.Machine.execSrClr r s
  | .mmaMx8 r => Sys2Proof.Machine.execMmaMx8 r s
  | .mmaMx6 r => Sys2Proof.Machine.execMmaMx6 r s
  | .mmaMx4 r => Sys2Proof.Machine.execMmaMx4 r s
  | .mmaXi8 r => Sys2Proof.Machine.execMmaXi8 r s
  | .mmaSf32 r => Sys2Proof.Machine.execMmaSf32 r s
  | .mmaSf64 r => Sys2Proof.Machine.execMmaSf64 r s
  | .accAnchor r => Sys2Proof.Machine.execAccAnchor r s
  | .accRead r => Sys2Proof.Machine.execAccRead r s
  | .accZero r => Sys2Proof.Machine.execAccZero r s
  | .matrixOpComplete blk grp => Sys2Proof.Machine.execMatrixOpComplete blk grp s
  | .accumulatorGrant cluster core => Sys2Proof.Machine.execAccumulatorGrant cluster core s
  | .vepLoad r => Sys2Proof.Machine.execVepLoad r s
  | .vepRun r => Sys2Proof.Machine.execVepRun r s
  | .vperm r => Sys2Proof.Machine.execVperm r s
  | .vldT r => Sys2Proof.Machine.execVldT r s
  | .vstT r => Sys2Proof.Machine.execVstT r s
  | .vsumAny r => Sys2Proof.Machine.execVsumAny r s
  | .vsumAll r => Sys2Proof.Machine.execVsumAll r s
  | .vsumCount r => Sys2Proof.Machine.execVsumCount r s
  | .vsumMin r => Sys2Proof.Machine.execVsumMin r s
  | .vsumMax r => Sys2Proof.Machine.execVsumMax r s
  | .vsumFirst r => Sys2Proof.Machine.execVsumFirst r s
  | .vectorOpComplete blk grp => Sys2Proof.Machine.execVectorOpComplete blk grp s
  | .walk request => Sys2Proof.Machine.execWalk request s
  | .gets req => Sys2Proof.Machine.execGets req s
  | .getx req => Sys2Proof.Machine.execGetx req s
  | .coherenceClaim req => Sys2Proof.Machine.execCoherenceClaim req s
  | .glance req => Sys2Proof.Machine.execGlance req s
  | .place req offset bytes => Sys2Proof.Machine.execPlace req offset bytes s
  | .atom req => Sys2Proof.Machine.execAtom req s
  | .vacate req => Sys2Proof.Machine.execVacate req s
  | .spill req => Sys2Proof.Machine.execSpill req s
  | .probeGive req => Sys2Proof.Machine.execProbeGive req s
  | .probeKill req => Sys2Proof.Machine.execProbeKill req s
  | .reply req => Sys2Proof.Machine.execReply req s
  | .grant req => Sys2Proof.Machine.execGrant req s
  | .seated req => Sys2Proof.Machine.execSeated req s
  | .retry req => Sys2Proof.Machine.execRetry req s
  | .retryResend req => Sys2Proof.Machine.execRetryResend req s
  | .cargo req => Sys2Proof.Machine.execCargo req s
  | .spillCargo req => Sys2Proof.Machine.execSpillCargo req s
  | .predictorDecay => Sys2Proof.Machine.execPredictorDecay s
  | .readAgePromote req => Sys2Proof.Machine.execReadAgePromote req s
  | .patrolScrub sector errors => Sys2Proof.Machine.execPatrolScrub sector errors s
  | .refresh stack channel pseudo bank manage => Sys2Proof.Machine.execRefresh stack channel pseudo bank manage s
  | .saturationWindow full empty clashes => Sys2Proof.Machine.execSaturationWindow full empty clashes s
  | .rxWrite port frame stamp => Sys2Proof.Machine.execRxWrite port frame stamp s
  | .rxReadReq port frame stamp => Sys2Proof.Machine.execRxReadReq port frame stamp s
  | .rxReadRsp port frame stamp => Sys2Proof.Machine.execRxReadRsp port frame stamp s
  | .rxAtomic port frame stamp => Sys2Proof.Machine.execRxAtomic port frame stamp s
  | .rxAtomicRsp port frame stamp => Sys2Proof.Machine.execRxAtomicRsp port frame stamp s
  | .rxXadd port frame stamp => Sys2Proof.Machine.execRxXadd port frame stamp s
  | .rxAck port frame stamp => Sys2Proof.Machine.execRxAck port frame stamp s
  | .rxNak port frame stamp => Sys2Proof.Machine.execRxNak port frame stamp s
  | .rxHeartbeat port frame stamp => Sys2Proof.Machine.execRxHeartbeat port frame stamp s
  | .rxBsx port frame stamp => Sys2Proof.Machine.execRxBsx port frame stamp s
  | .rxAlignedNotice port frame stamp => Sys2Proof.Machine.execRxAlignedNotice port frame stamp s
  | .rxHallCorrection port frame stamp => Sys2Proof.Machine.execRxHallCorrection port frame stamp s
  | .rxLaunchOffer port frame stamp => Sys2Proof.Machine.execRxLaunchOffer port frame stamp s
  | .rxLaunchAck port frame stamp => Sys2Proof.Machine.execRxLaunchAck port frame stamp s
  | .rxLaunchCommit port frame stamp => Sys2Proof.Machine.execRxLaunchCommit port frame stamp s
  | .rxLaunchAbort port frame stamp => Sys2Proof.Machine.execRxLaunchAbort port frame stamp s
  | .rxThrottle port frame stamp => Sys2Proof.Machine.execRxThrottle port frame stamp s
  | .rxClaim port frame stamp => Sys2Proof.Machine.execRxClaim port frame stamp s
  | .rxGrant port frame stamp => Sys2Proof.Machine.execRxGrant port frame stamp s
  | .rxRelease port frame stamp => Sys2Proof.Machine.execRxRelease port frame stamp s
  | .rxStage port frame stamp => Sys2Proof.Machine.execRxStage port frame stamp s
  | .rxProgress port frame stamp => Sys2Proof.Machine.execRxProgress port frame stamp s
  | .rxFail port frame stamp => Sys2Proof.Machine.execRxFail port frame stamp s
  | .rxCollUp port frame stamp => Sys2Proof.Machine.execRxCollUp port frame stamp s
  | .rxCollDown port frame stamp => Sys2Proof.Machine.execRxCollDown port frame stamp s
  | .rxCollCredit port frame stamp => Sys2Proof.Machine.execRxCollCredit port frame stamp s
  | .rxCollFail port frame stamp => Sys2Proof.Machine.execRxCollFail port frame stamp s
  | .collectiveDeadline ctx slot => Sys2Proof.Machine.execCollectiveDeadline ctx slot s
  | .violationMsTick => Sys2Proof.Machine.execViolationMsTick s
  | .heartbeatSend port => Sys2Proof.Machine.execHeartbeatSend port s
  | .ackSend flow => Sys2Proof.Machine.execAckSend flow s
  | .retransmitTimeout flow => Sys2Proof.Machine.execRetransmitTimeout flow s
  | .busyResend flow => Sys2Proof.Machine.execBusyResend flow s
  | .flowStateExpiry flow => Sys2Proof.Machine.execFlowStateExpiry flow s
  | .flowResetResume flow => Sys2Proof.Machine.execFlowResetResume flow s
  | .portLoss port => Sys2Proof.Machine.execPortLoss port s
  | .portUp port => Sys2Proof.Machine.execPortUp port s
  | .neighborSolicitation port target => Sys2Proof.Machine.execNeighborSolicitation port target s
  | .routerAdvertisement port mac router pfx => Sys2Proof.Machine.execRouterAdvertisement port mac router pfx s
  | .arpRequest target => Sys2Proof.Machine.execArpRequest target s
  | .flitReplay tile port bundle => Sys2Proof.Machine.execFlitReplay tile port bundle s
  | .bundleRetrain faults ownFails farFails => Sys2Proof.Machine.execBundleRetrain faults ownFails farFails s
  | .recoveryFetch => Sys2Proof.Machine.execRecoveryFetch s
  | .fetchRetry => Sys2Proof.Machine.execFetchRetry s
  | .recoveryFetchRequest addr port bytes => Sys2Proof.Machine.execRecoveryFetchRequest addr port bytes s
  | .bypass code => Sys2Proof.Machine.execBypass code s
  | .idcode => Sys2Proof.Machine.execIdcode s
  | .authChal => Sys2Proof.Machine.execAuthChal s
  | .authResp token => Sys2Proof.Machine.execAuthResp token s
  | .samplePreload levels cells => Sys2Proof.Machine.execSamplePreload levels cells s
  | .extest levels cells => Sys2Proof.Machine.execExtest levels cells s
  | .vendorDebug code => Sys2Proof.Machine.execVendorDebug code s
  | .traceSample => Sys2Proof.Machine.execTraceSample s
  | .traceBufferWrite unit => Sys2Proof.Machine.execTraceBufferWrite unit s
  | .traceTrigger => Sys2Proof.Machine.execTraceTrigger s
  | .mbxRead agent tag offset count => Sys2Proof.Machine.execMbxRead agent tag offset count s
  | .mbxWrite agent tag offset count words => Sys2Proof.Machine.execMbxWrite agent tag offset count words s
  | .svcMove agent tag base => Sys2Proof.Machine.execSvcMove agent tag base s
  | .svcRead agent tag offset length => Sys2Proof.Machine.execSvcRead agent tag offset length s
  | .svcWrite agent tag offset length bytes => Sys2Proof.Machine.execSvcWrite agent tag offset length bytes s
  | .posSet agent tag hall row rack device => Sys2Proof.Machine.execPosSet agent tag hall row rack device s
  | .setEndpointId agent eid => Sys2Proof.Machine.execSetEndpointId agent eid s
  | .getEndpointId agent => Sys2Proof.Machine.execGetEndpointId agent s
  | .getMctpVersionSupport agent kind => Sys2Proof.Machine.execGetMctpVersionSupport agent kind s
  | .getMessageTypeSupport agent => Sys2Proof.Machine.execGetMessageTypeSupport agent s
  | .getVendorDefinedMessageSupport agent selector => Sys2Proof.Machine.execGetVendorDefinedMessageSupport agent selector s
  | .dynamicAddressAssignment addr ibi => Sys2Proof.Machine.execDynamicAddressAssignment addr ibi s
  | .getTid agent => Sys2Proof.Machine.execGetTid agent s
  | .getPldmVersion agent kind => Sys2Proof.Machine.execGetPldmVersion agent kind s
  | .getPldmTypes agent => Sys2Proof.Machine.execGetPldmTypes agent s
  | .getPldmCommands agent kind => Sys2Proof.Machine.execGetPldmCommands agent kind s
  | .getPdr agent record => Sys2Proof.Machine.execGetPdr agent record s
  | .getSensorReading agent sensor => Sys2Proof.Machine.execGetSensorReading agent sensor s
  | .getStateSensorReadings agent sensor => Sys2Proof.Machine.execGetStateSensorReadings agent sensor s
  | .setEventReceiver agent receiver => Sys2Proof.Machine.execSetEventReceiver agent receiver s
  | .sensorUpdate sensor value => Sys2Proof.Machine.execSensorUpdate sensor value s
  | .ptpLockLoss => Sys2Proof.Machine.execPtpLockLoss s
  | .ppsSeenExpiry => Sys2Proof.Machine.execPpsSeenExpiry s
  | .backsightExchange => Sys2Proof.Machine.execBacksightExchange s
  | .memoryRequestComplete req errors held => Sys2Proof.Machine.execMemoryRequestComplete req errors held s
  | .bucketAdmission partition bucket => Sys2Proof.Machine.execBucketAdmission partition bucket s
  | .rxUnsupportedOpcode port frame stamp => Sys2Proof.Machine.execRxUnsupportedOpcode port frame stamp s
  | .rxLinkError port => Sys2Proof.Machine.execRxLinkError port s
  | .identityStateRebuilt => Sys2Proof.Machine.execIdentityStateRebuilt s
  | .neighbourFetchReply addr bytes verified => Sys2Proof.Machine.execNeighbourFetchReply addr bytes verified s
  | .pldmEventAcknowledgement agent event => Sys2Proof.Machine.execPldmEventAcknowledgement agent event s
  | .firewallDrop engine => Sys2Proof.Machine.execFirewallDrop engine s
  | .clusterFault cluster => Sys2Proof.Machine.execClusterFault cluster s
  | .portTrainingDeadline => Sys2Proof.Machine.execPortTrainingDeadline s

end Sys2Proof.Machine
end

