-- ==== Sys2Proof/Machine/Tick.lean ====
section
/-!
DEFINITION. The tick: one cycle of the reference, in which MT counts, regulator buckets fill and plumb cycles elapse (R77, R82,
R695, R801, R806; log 21), and the control processor goes on with what it has in hand (R148, R175, R307, R686).
-/

namespace Sys2Proof.Machine

/-- Tokens that a bucket gains in one reference cycle of 6.4 ns, in fifths of a byte (R695). -/
def Bucket.gain (b : Bucket) : Bucket :=
  if b.rate = 0 then b else { b with level := min (b.level + 32 * b.rate) (5 * b.burst) }

/-- Sub-groups held by a barrier, by arr.wait or by stake.wait count their cycles (R806). -/
def State.countHeld (s : State) (n : Nat) : State :=
  let code := fun (h : Hold) => match h with
    | .none => 0
    | .barGroup => 0x0D
    | .barBlock => 0x0D
    | .arrWait _ _ => 0x0C
    | .stakeWait _ => 0x11
  s.compute.blocks.foldl (fun t b => (b.groups.flatMap (·.subs)).foldl (fun t x =>
    if code x.hold = 0 then t else t.progCount b.cluster b.ctx (code x.hold) n) t) s

/-- Lanes of a sub-group whose access waits on a pending fault record (R466, R806). -/
def State.faultLanes (s : State) (blk grp : Nat) (x : SubGroup) : Nat :=
  let mine := s.xlat.waits.filter fun w => w.req.who.sub == some ⟨blk, grp, x.id⟩
  let lanes := mine.foldl (fun (m : Nat) w => m ||| (w.req.site.map (·.lanes)).getD 0) 0
  ((List.range 32).filter fun i => lanes.testBit i).length

/-- Lanes that wait on replayable faults count their cycles (R806). -/
def State.countFaulted (s : State) (n : Nat) : State :=
  s.compute.blocks.foldl (fun t b => b.groups.zipIdx.foldl (fun t g => g.1.subs.foldl (fun t x =>
    let k := s.faultLanes b.id g.2 x
    if k = 0 then t else t.progCount b.cluster b.ctx 0x10 (n * k)) t) t) s

/-- A group waits for the accumulator pair that another group of its core owns (R319). -/
def State.pairHeld (s : State) (b : Block) (gi : Nat) (g : Group) : Bool :=
  match s.pairOwner b.cluster (nth b.cores gi 0) with
  | some o => !(o.blk == b.id && o.grp == gi) && s.wantsPair b gi g
  | none => false

/-- Groups that wait for the accumulator pair count their cycles (R319, R806). -/
def State.countPairWaits (s : State) (n : Nat) : State :=
  if s.obs.sels.any fun c => c.valid && c.event == 0x0E then
    s.compute.blocks.foldl (fun t b => b.groups.zipIdx.foldl (fun t g =>
      if s.pairHeld b g.2 g.1 then t.progCount b.cluster b.ctx 0x0E n else t) t) s
  else s

/-- Plumb cycles pass (R801, R806). -/
def State.plumbCycles (s : State) : State :=
  let part := s.pwr.plumbPart + 64 * s.pwr.clock
  let n := part / 10000
  let s := s.setPwr { s.pwr with plumbPart := part % 10000 }
  let s := s.count 59 n
  let s := if s.pwr.gates.any fun g => decide (g < 64) then s.count 19 n else s
  if s.obs.sels.any (·.valid) then
    ((((List.range 192).foldl (fun (t : State) c => t.progCount c 64 1 n) s).countHeld n).countFaulted n).countPairWaits n
  else s

/-- One reference cycle passes: MT counts (R77, R82), the buckets fill (R695) and plumb cycles elapse (log 21); what arrived in
the cycle before is no longer of this one (R18, R146), and what was sent has left (R580). -/
def State.tick (s : State) : State :=
  if s.conn.phase == .off then s
  else
    let t := s.time
    let r := s.slew
    let ticks : Int := (if t.cyc = 4 then 52 else 51) + r.1
    let s := s.setTime { t with
      mt := (t.mt + ticks.toNat) % 2 ^ 64, cyc := (t.cyc + 1) % 5, slewLeft := r.2.1, slewCyc := r.2.2,
      hallDiff := t.hallDiff - 16 * r.1, ppsDue := t.ppsDue || crossesSecond t.mt ticks.toNat }
    let s := (s.setIds { s.ids with hot := [], badNow := [] }).setMem { s.mem with errNow := [] }
    let s := s.setFab { s.fab with sentMark := s.outbox.length }
    let s := s.setAbaom { s.abaom with posts := s.abaom.posts + 1 }
    ((s.setShare { s.share with buckets := s.share.buckets.map fun l => l.map Bucket.gain }).plumbCycles).goOn.pauseTick

end Sys2Proof.Machine
end

