-- ==== Sys2Proof/Safety.lean ====
section
/-!
DEFINITION. What counts as a safe run, in the terms that statements use: the canonical form of the stored contents, a
command that completes, and the conditions under which an instruction issues and a frame is taken.
-/

namespace Sys2Proof.Machine

/-- Command or event `c` completes in `s`: the machine answers a next state, neither a fault nor a refusal. -/
def Completes (c : Instr) (s : State) : Prop := ∃ t, exec c s = .next t

/-- The canonical form of stacked memory (log 5): addresses rise strictly, and no entry is what an unlisted byte reads as. -/
def State.hbmWf (s : State) : Prop := Memory.wf s.mem.hbm = true

/-- A run of steps that meets neither a fault nor a refusal. -/
def safeRun : Nat → State → Bool
  | 0, _ => true
  | n + 1, s =>
    match step s with
    | .next t => safeRun n t
    | .fault _ => false
    | .refused _ => false

/-- `n` idle steps: what the machine is after so many reference cycles with no command waiting. -/
def idleRun : Nat → State → Option State
  | 0, s => some s
  | n + 1, s =>
    match step s with
    | .next t => idleRun n t
    | .fault _ => none
    | .refused _ => none

/-- The instruction that sub-group `r` would execute now, at its place with the sub-groups that merge into its own merged,
and how many those are: its block, group and sub-group exist, the sub-group is ready, the word at its program counter is fetched, its
operands are available and its engine accepts it (R205), it is legal, and a collective instruction is in the issuer's sub-group
(R221). -/
def State.issuing (s : State) (r : SubRef) : Option (At × Nat) :=
  match s.choose r with
  | .insn a merges =>
    if a.i.legal a.b.regs && (!(isCollective a.i.cls a.i.op) || a.sg.mask.getLsbD a.g.issuer) then some (a, merges) else none
  | _ => none

/-- The machine after sub-group `a` has executed its instruction, its group left as `g` and the rest as `t`: the sub-group
goes on past the instruction, and the issue is counted (R703, R801, R806). -/
def State.executed (t : State) (a : At) (merges : Nat) (g : Group) : State :=
  (t.putGroup a.b.id a.gi (g.replace a.sg.id [{ a.sg with pc := a.next }])).countIssue a merges

/-- The same, where the instruction puts other sub-groups in the place of the one that executed it. -/
def State.executedInto (t : State) (a : At) (merges : Nat) (g : Group) (subs : List SubGroup) : State :=
  (t.putGroup a.b.id a.gi (g.replace a.sg.id subs)).countIssue a merges

/-- A group as an engine's instruction leaves it: the flags that it raises join the group's, and those of its reference cycle (R302). -/
def Group.raisedIn (g : Group) (s : State) (x : Group) : Group :=
  let old := if g.raised.cycle = s.abaom.posts then g.raised else ⟨s.abaom.posts, 0, 0, false⟩
  { x with
    astat := g.astat ||| x.astat, vstat := g.vstat ||| x.vstat, range := g.range || x.range,
    raised := ⟨s.abaom.posts, old.astat ||| x.astat, old.vstat ||| x.vstat, old.range || x.range⟩ }

/-- The command of mailbox `n` ends in `t` with a status and results (R145), and the machine goes on. -/
def endsWith (t : State) (n status : Nat) (res : List Nat) : Host.Outcome State Fault Refusal := .next (t.complete n status res)

/-- The machine once port `p` has heard a frame and taken the acknowledgement that it carries (R587, R603). -/
def State.heard (s : State) (p : Nat) (f : Frame) (stamp : Nat) : State :=
  let t := s.hear p f stamp
  if f.ackv then t.takeAck f.src f.kind f.context f.ack else t

/-- A sequenced frame at port `p` passes every check before it is performed: the port is UP, not late and not quarantined and
the device not FENCED (R600, R603, R609), it is addressed to this device, which holds a logical ID (R579), it is well formed and
its opcode and type are assigned (R593 steps 1 to 3), both epochs are the known ones (R608), and its SEQ is the one that its
flow expects (R591, R593 step 6). -/
def State.takes (s : State) (p : Nat) (f : Frame) (stamp : Nat) : Prop :=
  let flow := (s.heard p f stamp).recvFlow f.src f.kind f.context
  p < 32 ∧ (s.port p).st = .up ∧ ((s.port p).modeNow = true ∨ stamp < (s.port p).lastGood + 32052) ∧ (s.port p).quar = false
  ∧ s.fab.fenced = false ∧ f.dst = s.fab.node ∧ s.fab.epoch ≠ 0 ∧ malformed f = false ∧ opAssigned f.op = true
  ∧ (f.op = opCtrl → ctrlAssigned (ctrlType (unpadded f)) = true) ∧ Frame.unsequenced f = false
  ∧ f.sepoch = s.epochOf f.src ∧ f.epoch = s.fab.epoch
  ∧ ((∃ r, flow = some r ∧ r.expect = f.seq ∧ (f.first = true → f.seq = 0 → stamp < r.last + 8000000))
    ∨ (flow = none ∧ f.first = true ∧ f.seq = 0 ∧ (s.heard p f stamp).fab.recvs.length < 65536))

/-- The machine in which such a frame is performed: it has taken its place in its flow (R587, R594). -/
def State.inHand (s : State) (p : Nat) (f : Frame) (stamp : Nat) : State := (s.heard p f stamp).acceptSeq p (unpadded f) stamp

end Sys2Proof.Machine
end

