-- ==== Sys2Proof/Certificates/Slice0/Obligations.lean ====
section
/-!
DEFINITION. The statements: what the commands and events of the block do, by the rules of spec/.
-/

open Sys2Proof Sys2Proof.Machine

/-! ### The machine as a whole -/

/-- Every command runs alone, at the front of the queue: a step with a command waiting is that command's effect on the state
without it. -/
def Obligations.StepRunsFrontCommand : Prop :=
  ∀ (c : Instr) (rest : List Instr) (s : State), s.pending = c :: rest → step s = exec c (s.setPending rest)

/-- R77, R82 (an empty queue's step is a reference cycle: the model's choice, log 21): five idle steps that start at the
first cycle of five move MT by exactly 256 ticks when nothing is being slewed, four steps of 51 and one of 52; the queue
stays empty and the count of cycles is back where it was. A cycle in which the control processor has nothing in hand (no list,
exception, teardown or pause) leaves the contexts, mailboxes, groups, translations, fabric and stacked memory as they were. R82: while a correction of one tick or more is being slewed, MT
gains or loses one tick beyond its count in every 64th reference cycle while no comparator is armed, and in every 1,024th
while one is. -/
def Obligations.IdleSteps : Prop :=
  ((∀ s : State, s.pending = [] → s.conn.phase ≠ .off → s.time.slewing = false →
     ∃ t, step s = .next t ∧ t.pending = []
       ∧ t.time.mt = (s.time.mt + if s.time.cyc = 4 then 52 else 51) % 2 ^ 64
       ∧ t.time.cyc = (s.time.cyc + 1) % 5 ∧ t.time.slewing = false ∧ t.abaom.posts = s.abaom.posts + 1)
   ∧ (∀ s : State, s.pending = [] → s.conn.phase ≠ .off → s.abaom.passes = [] →
       s.ctxs.any (fun c => c.exc.isSome || c.ending) = false → s.trust.pause = .off →
     ∃ t, step s = .next t ∧ t.conn = s.conn ∧ t.mem = { s.mem with errNow := [] } ∧ t.mbxs = s.mbxs ∧ t.compute = s.compute
       ∧ t.ctxs = s.ctxs ∧ t.xlat = s.xlat ∧ t.fab = s.fab)
   ∧ (∀ s : State, s.pending = [] → s.conn.phase ≠ .off → s.time.slewing = false → s.time.cyc = 0 → s.time.mt < 2 ^ 64 →
     ∃ t, idleRun 5 s = some t ∧ t.time.cyc = 0 ∧ t.time.mt = (s.time.mt + 256) % 2 ^ 64))
  ∧ (∀ (s : State), s.pending = [] → s.conn.phase ≠ .off → s.time.slewing = true → 16 ≤ s.time.slewLeft.natAbs →
       let wait := if s.stakes.allocs.any (fun a => !a.armed.isEmpty) then 1024 else 64
       let base := if s.time.cyc = 4 then 52 else 51
       ∃ t, step s = .next t ∧
         (s.time.slewCyc + 1 < wait → t.time.mt = (s.time.mt + base) % 2 ^ 64 ∧ t.time.slewLeft = s.time.slewLeft
           ∧ t.time.slewCyc = s.time.slewCyc + 1)
         ∧ (wait ≤ s.time.slewCyc + 1 → 0 < s.time.slewLeft →
           t.time.mt = (s.time.mt + base + 1) % 2 ^ 64 ∧ t.time.slewLeft = s.time.slewLeft - 16 ∧ t.time.slewCyc = 0)
         ∧ (wait ≤ s.time.slewCyc + 1 → s.time.slewLeft < 0 →
           t.time.mt = (s.time.mt + base - 1) % 2 ^ 64 ∧ t.time.slewLeft = s.time.slewLeft + 16 ∧ t.time.slewCyc = 0))

/-- The stacked memory that a module reset leaves is in the canonical form (log 5). -/
def Obligations.ResetMemoryCanonical : Prop := State.reset.hbmWf

/-- Every step keeps stacked memory in its canonical form (log 5), whatever command it runs and in every state. -/
def Obligations.StepKeepsMemoryCanonical : Prop := ∀ s t : State, s.hbmWf → step s = .next t → t.hbmWf

/-- A step takes exactly the front command off the queue, and no command puts another there. -/
def Obligations.StepConsumesFrontCommand : Prop := ∀ s t : State, step s = .next t → t.pending = s.pending.tail

/-- Every command and event completes in every state, but vendor debug while INVASIVE is open (R775): no state of the machine
stops a run. -/
def Obligations.EveryCommandCompletes : Prop :=
  ∀ (c : Instr) (s : State), (∀ code, c = .vendorDebug code → s.trust.invasive = false) → Completes c s

/-- R537, R551 (log 5 for a byte that nothing has written): bytes written to unpoisoned stacked memory read back, every byte
outside them reads as before, and no other part of the machine but the watcher's lines changes. R551, R854: a write that
covers a poisoned sector whole replaces it and clears its poison; one that covers part of it leaves the sector as it was,
poison and all. R162, R164: a write that touches a watched line takes the line from the watcher and leaves a wake pending
for exactly the watches of the lines it touches. -/
def Obligations.StackedMemoryWrites : Prop :=
  (∀ (s : State) (pa : Nat) (bytes : List Byte), s.hbmWf → s.poisoned pa bytes.length = false →
     let t := s.hbmWrite pa bytes
     t.hbmRead pa bytes.length = bytes
     ∧ (∀ a, (a < pa ∨ pa + bytes.length ≤ a) → cellGet t.mem.hbm a = cellGet s.mem.hbm a)
     ∧ t.hbmWf ∧ t.mem.poison = s.mem.poison ∧ t.compute = s.compute ∧ t.mbxs = s.mbxs ∧ t.ctxs = s.ctxs ∧ t.xlat = s.xlat
     ∧ t.time = s.time ∧ t.fab = s.fab)
  ∧ (∀ (s : State) (sector pa : Nat) (bytes : List Byte), s.hbmWf → s.sectorLost sector = false → sector ∈ s.mem.poison →
       pa < sector * 64 + 64 → sector * 64 < pa + bytes.length →
       let t := s.sectorWrite sector pa bytes
       (pa ≤ sector * 64 → sector * 64 + 64 ≤ pa + bytes.length →
         sector ∉ t.mem.poison ∧ t.hbmRead (sector * 64) 64 = (bytes.drop (sector * 64 - pa)).take 64
         ∧ ∀ k ∈ s.mem.poison, k ≠ sector → k ∈ t.mem.poison)
       ∧ ((sector * 64 < pa ∨ pa + bytes.length < sector * 64 + 64) → t = s))
  ∧ (∀ (s : State) (pa : Nat) (bytes : List Byte), bytes ≠ [] →
       ∀ w ∈ (s.hbmWrite pa bytes).abaom.watches,
         ∃ v ∈ s.abaom.watches, w.id = v.id ∧ w.line = v.line ∧ w.kind = v.kind ∧ w.ctx = v.ctx ∧ w.va = v.va ∧
           (if v.line * 256 < pa + bytes.length ∧ pa < v.line * 256 + 256 then w.wake = true ∧ w.held = false else w = v))

/-- R150: a notice takes the slot at HEAD and HEAD advances modulo 16, unless HEAD + 1 is TAIL; then it is lost and LOST
counts it. No other slot and no other mailbox changes. -/
def Obligations.NoticeRing : Prop :=
  ∀ (s : State) (n : Nat) (words : List Word), n < s.mbxs.length → (s.mbx n).slots.length = 16 → (s.mbx n).head < 16 →
    let m := s.mbx n
    let t := s.postNotice n words
    (∀ k, k ≠ n → t.mbx k = s.mbx k) ∧ t.mem = s.mem ∧ t.ctxs = s.ctxs
    ∧ ((m.head + 1) % 16 = m.tail → t.mbx n = { m with lost := (m.lost + 1) % 2 ^ 16 })
    ∧ ((m.head + 1) % 16 ≠ m.tail →
        t.mbx n = { m with slots := m.slots.set m.head words, head := (m.head + 1) % 16 } ∧ nth (t.mbx n).slots m.head [] = words)

/-! ### Lane and scalar instructions -/

/-- R269 to R272: what each integer instruction writes to its DST, per active lane on 32 or 64 bits, or once on 64 bits for a
scalar DST, as a function of its operands; it goes on past itself and changes nothing else but the counts of R703 and R801. -/
def Obligations.IntegerInstructionResults : Prop :=
  ∀ (s : State) (r : SubRef) (a : At) (n : Nat), s.issuing r = some (a, n) → a.i.cls = 0x00 →
    ∀ k, k = (if a.i.isWide64 || (a.opd a.i.dst).isScalar then 2 else 1) →
    let out := fun (f : Nat → BitVec (32 * k)) => Host.Outcome.next (ρ := Refusal) (φ := Fault)
      (s.executed a n (a.write k fun l => (f l).toNat))
    let A := fun (l : Nat) => BitVec.ofNat (32 * k) (a.g.operand l k (a.opd a.i.src1))
    let B := fun (l : Nat) => BitVec.ofNat (32 * k)
      (if a.i.immSrc then a.i.immediate else a.g.operand l k (a.opd a.i.src2))
    let holds := fun (c : Nat) (x y : BitVec (32 * k)) =>
      let lt := fun (p q : BitVec (32 * k)) => if a.i.isSigned then p.slt q else p.ult q
      match c with
      | 0 => x == y
      | 1 => x != y
      | 2 => lt x y
      | 3 => !(lt y x)
      | 4 => lt y x
      | _ => !(lt x y)
    (a.i.op = 0 → exec (.add r) s = out fun l => A l + B l)
    ∧ (a.i.op = 1 → exec (.sub r) s = out fun l => A l - B l)
    ∧ (a.i.op = 2 → exec (.mulLo r) s = out fun l => A l * B l)
    ∧ (a.i.op = 3 → exec (.mulHi r) s = out fun l =>
        if a.i.isSigned then BitVec.ofInt _ ((A l).toInt * (B l).toInt / 2 ^ (32 * k))
        else BitVec.ofNat _ ((A l).toNat * (B l).toNat / 2 ^ (32 * k)))
    ∧ (a.i.op = 4 → exec (.div r) s = out fun l =>
        if B l = 0 then BitVec.allOnes _ else if a.i.isSigned then (A l).sdiv (B l) else A l / B l)
    ∧ (a.i.op = 5 → exec (.rem r) s = out fun l =>
        if B l = 0 then A l else if a.i.isSigned then (A l).srem (B l) else A l % B l)
    ∧ (a.i.op = 6 → exec (.and r) s = out fun l => A l &&& B l)
    ∧ (a.i.op = 7 → exec (.or r) s = out fun l => A l ||| B l)
    ∧ (a.i.op = 8 → exec (.xor r) s = out fun l => A l ^^^ B l)
    ∧ (a.i.op = 9 → exec (.shl r) s = out fun l => A l <<< ((B l).toNat % (32 * k)))
    ∧ (a.i.op = 10 → exec (.shr r) s = out fun l =>
        if a.i.isSigned then (A l).sshiftRight ((B l).toNat % (32 * k)) else A l >>> ((B l).toNat % (32 * k)))
    ∧ (a.i.op = 11 → exec (.min r) s = out fun l => if holds 3 (A l) (B l) then A l else B l)
    ∧ (a.i.op = 12 → exec (.max r) s = out fun l => if holds 3 (A l) (B l) then B l else A l)
    ∧ (a.i.op = 13 → exec (.cmp r) s = out fun l => if holds (a.i.mod / 2 % 8) (A l) (B l) then 1 else 0)
    ∧ (a.i.op = 14 → exec (.sel r) s = out fun l =>
        if a.g.operand l k (a.opd (a.i.imm % 512)) ≠ 0 then A l else B l)
    ∧ (a.i.op = 15 → exec (.mov r) s = out fun l => if a.i.immSrc then B l else A l)
    ∧ (a.i.op = 16 → exec (.laneId r) s = .next (s.executed a n (a.write k fun l => l)))
    ∧ (a.i.op = 17 → exec (.rdlane r) s = .next (s.executed a n (a.write 2 fun _ =>
        a.g.operand (a.lanes.headD 0) (if a.i.isWide64 then 2 else 1) (a.opd a.i.src1))))
    ∧ (a.i.op = 18 → exec (.popc r) s = out fun l =>
        BitVec.ofNat _ ((List.range (32 * k)).filter (A l).getLsbD).length)
    ∧ (a.i.op = 19 → exec (.clz r) s = out fun l =>
        BitVec.ofNat _ (if A l = 0 then 32 * k else 32 * k - 1 - (A l).toNat.log2))

/-- R273 to R275, R392 to R394: what each float instruction writes to its DST and which sticky flags it raises, per active
lane and per element of its type, for every type and rounding field. -/
def Obligations.FloatInstructionResults : Prop :=
  ∀ (s : State) (r : SubRef) (a : At) (n : Nat), s.issuing r = some (a, n) → a.i.cls = 0x01 →
    let ty := a.i.mod % 4
    let k := if ty = 1 then 2 else 1
    let fmt := match ty with | 0 => Fmt.fp32 | 1 => Fmt.fp64 | 2 => Fmt.fp16 | _ => Fmt.bf16
    let rm := Rm.ofField (a.i.mod / 4 % 4)
    let A := fun (l : Nat) => a.g.operand l k (a.opd a.i.src1)
    let B := fun (l : Nat) => a.g.operand l k (a.opd a.i.src2)
    let C := fun (l : Nat) => a.g.operand l k (a.opd (a.i.imm % 512))
    let each := fun (f : Nat → Nat → Nat → Nat × Flags) (x y z : Nat) =>
      if 2 ≤ ty then
        let lo := f (x % 2 ^ 16) (y % 2 ^ 16) (z % 2 ^ 16)
        let hi := f (x / 2 ^ 16 % 2 ^ 16) (y / 2 ^ 16 % 2 ^ 16) (z / 2 ^ 16 % 2 ^ 16)
        (lo.1 % 2 ^ 16 + 2 ^ 16 * hi.1, lo.2 ||| hi.2)
      else f x y z
    let out := fun (f : Nat → Nat → Nat → Nat × Flags) => Host.Outcome.next (ρ := Refusal) (φ := Fault)
      (s.executed a n (a.writeF k fun l => each f (A l) (B l) (C l)))
    (a.i.op = 0 → exec (.fadd r) s = out fun x y _ => fAdd fmt rm x y)
    ∧ (a.i.op = 1 → exec (.fsub r) s = out fun x y _ => fSub fmt rm x y)
    ∧ (a.i.op = 2 → exec (.fmul r) s = out fun x y _ => fMul fmt rm x y)
    ∧ (a.i.op = 3 → exec (.ffma r) s = out fun x y z => fFma fmt rm x y z)
    ∧ (a.i.op = 4 → exec (.fdiv r) s = out fun x y _ => fDiv fmt rm x y)
    ∧ (a.i.op = 5 → exec (.fsqrt r) s = out fun x _ _ => fSqrt fmt rm x)
    ∧ (a.i.op = 6 → exec (.fmin r) s = out fun x y _ => fMin fmt x y)
    ∧ (a.i.op = 7 → exec (.fmax r) s = out fun x y _ => fMax fmt x y)
    ∧ (a.i.op = 8 → exec (.fcmp r) s = out fun x y _ => fCmp fmt (a.i.imm % 8) x y)
    ∧ (a.i.op = 9 → exec (.fcvt r) s = .next
        (let dt := a.i.imm % 4
         let cv := fun v => fCvt fmt (floatFmt dt) rm v
         let regs := fun t => if 2 ≤ t then 1 else 2 * floatRegs t
         if 2 ≤ ty ∨ 2 ≤ dt then
           s.executed a n (a.writeF (regs dt) fun l =>
             let v := a.g.operand l (regs ty) (a.opd a.i.src1)
             let lo := cv (v % 2 ^ fmt.width)
             let hi := cv (v / 2 ^ fmt.width % 2 ^ fmt.width)
             (lo.1 + 2 ^ (floatFmt dt).width * hi.1, lo.2 ||| hi.2))
         else s.executed a n (a.writeF (floatRegs dt) fun l => cv (A l))))
    ∧ (a.i.op = 10 → exec (.fcvtI r) s = out fun x _ _ => fToInt fmt fmt.width rm x)
    ∧ (a.i.op = 11 → exec (.fcvtF r) s = out fun x _ _ => fOfInt fmt fmt.width rm x)

/-- R209, R210, R214, R276 to R280: where each control instruction takes the sub-group, for every form: a lane condition
splits it by lanes, a call deeper than 16 and a return at depth 0 raise CALL_DEPTH, an absolute target that is no multiple of
8 raises ALIGN, trap raises TRAP with its code, exit ends the lanes. -/
def Obligations.ControlFlow : Prop :=
  ∀ (s : State) (r : SubRef) (a : At) (n : Nat), s.issuing r = some (a, n) → a.i.cls = 0x02 →
    let goTo := fun (sg : SubGroup) (pc : Nat) => s.executedInto a n a.g [{ sg with pc }]
    let relative :=
      if a.i.wide then (a.i.pc + a.i.ext) % 2 ^ 64
      else (a.i.pc + (BitVec.ofInt 64 (signedNat 16 a.i.imm)).toNat * 8) % 2 ^ 64
    let past := (a.i.pc + if a.i.wide then 16 else 8) % 2 ^ 64
    let deeper : SubGroup := { a.sg with rets := List.replicate 32 past :: a.sg.rets }
    let trapped := fun (x : Exc) (info : Nat) => s.takeException a.b x (a.site a.sg.mask info)
    let target := a.g.scalar (a.opd a.i.src1).scalarNo
    let test := fun (w v : Nat) => brCond (a.i.mod % 8) w v
    (a.i.op = 0 → exec (.br r) s = .next (goTo a.sg relative))
    ∧ (a.i.op = 1 → exec (.brC r) s = .next
        (match a.opd a.i.src1 with
         | .lane v =>
           let taken := maskOf (a.lanes.filter fun l => test 32 (a.g.lane l v).toNat)
           if taken = a.sg.mask then goTo a.sg relative
           else if taken = 0 then goTo a.sg past
           else
             (s.progCount a.b.cluster a.b.ctx 0x0A 1).executedInto a n { a.g with nextSub := a.g.nextSub + 1 }
               [{ a.sg with pc := relative, mask := taken },
                { a.sg with id := a.g.nextSub, pc := past, mask := a.sg.mask &&& ~~~ taken }]
         | o => if test 64 (a.g.scalar o.scalarNo) then goTo a.sg relative else goTo a.sg past))
    ∧ (a.i.op = 2 → exec (.brR r) s = .next
        (if target % 8 ≠ 0 then trapped .align target else goTo a.sg target))
    ∧ (a.i.op = 3 → exec (.call r) s = .next
        (if 16 ≤ a.sg.rets.length then trapped .callDepth 0 else goTo deeper relative))
    ∧ (a.i.op = 4 → exec (.callR r) s = .next
        (if 16 ≤ a.sg.rets.length then trapped .callDepth 0
         else if target % 8 ≠ 0 then trapped .align target else goTo deeper target))
    ∧ (a.i.op = 5 → exec (.ret r) s = .next
        (match a.sg.rets with
         | [] => trapped .callDepth 0
         | frame :: rest =>
           s.executedInto a n { a.g with nextSub := a.g.nextSub + 32 } (returnGroups a.sg frame rest a.g.nextSub)))
    ∧ (a.i.op = 6 → exec (.exit r) s = .next
        (let g := a.g.exit a.sg.mask
         (if g.over then
            s.setCompute { s.compute with pairs := s.compute.pairs.filter fun p => !(p.blk == a.b.id && p.grp == a.gi) }
          else s).executedInto a n g []))
    ∧ (a.i.op = 7 → exec (.trap r) s = .next (trapped .trap a.i.imm))
    ∧ (a.i.op = 8 → exec (.nop r) s = .next (s.executed a n a.g))

/-- R241, R282 to R287: a load from block memory writes, per active lane or once for a scalar DST, the bytes at its offset,
zero-extended or sign-extended to 32 bits; an offset outside the block's allocation raises BLOCK_RANGE. A load from
addresses that the TLB holds and that lie in this device's memory, unpoisoned, writes the bytes of HBM there. R241, R282 to
R287: a store writes each active lane's data, in lane order, to block memory or to this device's memory; an offset outside
the block's allocation raises BLOCK_RANGE and stores nothing. R215, R242, R282, R288, R289: an atomic of either width reads
each lane's old value and writes the new one, in ascending lane order, in block memory or in this device's memory, and DST
takes the old values; a misaligned address raises ALIGN. R223, R225: an access of block memory waits while it meets what an
instruction before it in program order has still to write or, where it writes, to read. -/
def Obligations.LaneMemoryInstructions : Prop :=
  (∀ (s : State) (r : SubRef) (a : At) (n : Nat), s.issuing r = some (a, n) → a.i.cls = 0x03 →
     ∀ (c : Instr) (size : Nat) (sgn : Bool),
       (c, a.i.op, size, sgn) ∈ [(.ldB8 r, 0, 1, false), (.ldB16 r, 1, 2, false), (.ldB32 r, 2, 4, false),
         (.ldB64 r, 3, 8, false), (.ldB128 r, 4, 16, false), (.ldS8 r, 5, 1, true), (.ldS16 r, 6, 2, true)] →
     let acc := a.loadAccesses size
     let value := fun (bytes : List Byte) =>
       if sgn then (BitVec.ofInt 32 (signedNat (8 * size) (leNat bytes))).toNat else leNat bytes
     (a.i.blockMem = true → (∀ x ∈ acc, x.va + size ≤ a.b.bmSize) →
       exec c s = .next (if a.blockWaits false acc then s else s.executed a n (a.loadInto size fun l =>
         value (s.bmRead a.b (a.addressOf size a.i.immediate l) size))))
     ∧ (a.i.blockMem = true → ∀ x xs, acc.filter (fun y => decide (a.b.bmSize < y.va + size)) = x :: xs →
       exec c s = .next (s.takeException a.b .blockRange (a.site (maskOf ((x :: xs).map (·.lane))) x.va)))
     ∧ (a.i.blockMem = false → a.sysWaits s = false → ∀ l, a.translate .alu .read acc s = (s, some l) →
       (∀ p ∈ l, ∃ pa, p.piece.target = .local_ pa ∧ s.poisoned pa p.piece.size = false) →
       exec c s = .next (((s.loadMarks a l).lanesTake a).executed a n (a.loadInto size fun k =>
         value ((l.filter fun p => p.lane == k).flatMap fun p =>
           match p.piece.target with
           | .local_ pa => s.hbmRead pa p.piece.size
           | .tie _ _ _ => [])))))
  ∧ (∀ (s : State) (r : SubRef) (a : At) (n : Nat), s.issuing r = some (a, n) → a.i.cls = 0x03 →
       ∀ (c : Instr) (size : Nat),
         (c, a.i.op, size) ∈ [(.stB8 r, 8, 1), (.stB16 r, 9, 2), (.stB32 r, 10, 4), (.stB64 r, 11, 8), (.stB128 r, 12, 16)] →
       let acc := a.lanes.map fun l => (⟨l, a.addressOf size a.i.immediate l, size⟩ : LaneAccess)
       (a.i.blockMem = true → (∀ x ∈ acc, x.va + size ≤ a.b.bmSize) →
         exec c s = .next (if a.blockWaits true acc then s
           else (acc.foldl (fun t x => t.bmWrite a.b x.va (a.storeData size x.lane)) s).executed a n a.g))
       ∧ (a.i.blockMem = true → ∀ x xs, acc.filter (fun y => decide (a.b.bmSize < y.va + size)) = x :: xs →
         exec c s = .next (s.takeException a.b .blockRange (a.site (maskOf ((x :: xs).map (·.lane))) x.va)))
       ∧ (a.i.blockMem = false → a.sysWaits s = false → ∀ l, a.translate .alu .write acc s = (s, some l) →
         (∀ p ∈ l, ∃ pa, p.piece.target = .local_ pa) →
         exec c s = .next ((State.storePieceList a .alu (a.storeData size) l 32 0 s).executed a n a.g)))
  ∧ (∀ (s : State) (r : SubRef) (a : At) (n : Nat), s.issuing r = some (a, n) → a.i.cls = 0x04 →
       ∀ (c : Instr) (op : Nat),
         (c, op) ∈ [(.atomAdd r, 0), (.atomMinU r, 1), (.atomMaxU r, 2), (.atomMinS r, 3), (.atomMaxS r, 4), (.atomAnd r, 5),
           (.atomOr r, 6), (.atomXor r, 7), (.atomExch r, 8), (.atomCas r, 9), (.atomFadd r, 10)] →
       ∀ size, (a.i.op = op ∧ size = 4) ∨ (a.i.op = 16 + op ∧ size = 8) →
       let acc := a.lanes.map fun l =>
         (⟨l, a.addressOf size (if op = 9 then 0 else a.i.immediate) l, size⟩ : LaneAccess)
       (∀ x xs, acc.filter (fun y => y.va % size != 0) = x :: xs →
         exec c s = .next (s.takeException a.b .align (a.site (maskOf ((x :: xs).map (·.lane))) x.va)))
       ∧ ((∀ x ∈ acc, x.va % size = 0) → a.i.blockMem = true → (∀ x ∈ acc, x.va + size ≤ a.b.bmSize) →
         let q := State.atomBlock a op size acc s
         exec c s = .next (if a.blockWaits true acc then s else q.1.executed a n (a.atomInto size q.2)))
       ∧ ((∀ x ∈ acc, x.va % size = 0) → a.i.blockMem = false → a.sysWaits s = false →
         ∀ l, a.translate .alu .atomic acc s = (s, some l) →
         (∀ p ∈ l, ∃ pa, p.piece.target = .local_ pa ∧ s.poisoned pa p.piece.size = false) →
         let q := State.atomLanes a op size l s
         exec c s = .next ((q.1.lanesTake a).executed a n (a.atomInto size q.2))))

/-- R216, R218, R231, R252, R279, R291, R292, R295 to R297, R300, R809: fences, barriers and waits hold or pass the
sub-group, mt.read reads the die's replica, the status registers read, are written and are cleared as listed, and a mark
makes its record. -/
def Obligations.SynchronisationAndStatusInstructions : Prop :=
  ∀ (s : State) (r : SubRef) (a : At) (n : Nat), s.issuing r = some (a, n) →
    let past := (a.i.pc + if a.i.wide then 16 else 8) % 2 ^ 64
    let held := fun (h : Hold) => s.executedInto a n a.g [{ a.sg with pc := past, hold := h }]
    let src1 := a.g.scalar (a.opd a.i.src1).scalarNo
    let src2 := a.g.scalar (a.opd a.i.src2).scalarNo
    let toDst := fun (v : Nat) => Host.Outcome.next (ρ := Refusal) (φ := Fault)
      (s.executed a n (a.g.setScalar (a.opd a.i.dst).scalarNo v))
    (a.i.cls = 0x05 →
      (a.i.op = 0 → (a.i.mod / 8 % 4 ≠ 3 ∨ s.tieWritesBefore a.b.id a.gi = false) →
        exec (.fence r) s = .next (s.executed a n a.g))
      ∧ (a.i.op = 0 → a.i.mod / 8 % 4 = 3 → s.tieWritesBefore a.b.id a.gi = true → exec (.fence r) s = .next s)
      ∧ (a.i.op = 1 → exec (.barGroup r) s = .next (held .barGroup))
      ∧ (a.i.op = 2 → exec (.barBlock r) s = .next (held .barBlock))
      ∧ (a.i.op = 3 → exec (.arrWait r) s = .next
          (if src1 % 8 ≠ 0 then s.takeException a.b .align (a.site a.sg.mask src1)
           else if src1 + 8 ≤ a.b.bmSize then held (.arrWait src1 src2)
           else s.takeException a.b .blockRange (a.site a.sg.mask src1))))
    ∧ (a.i.cls = 0x07 →
      (a.i.op = 0 → exec (.stakeWait r) s = .next (held (.stakeWait src1)))
      ∧ (a.i.op = 1 → exec (.mtRead r) s = toDst (s.replica (a.b.cluster / 24))))
    ∧ (a.i.cls = 0x08 →
      let mark := fun (ends : Nat) =>
        let u := a.b.cluster / 24
        let flags := s.plumbFlags u false false
        (s.markRecord u a.i.imm (s.replica u) flags
          (recordOf [traceHead 0x01 u ends a.b.cluster (some a.b.ctx) flags, s.replica u, a.i.imm, src1,
            placed a.b.index 32 + a.gi, a.i.pc, s.markCounter a.b.cluster (s.unit u).markA,
            s.markCounter a.b.cluster (s.unit u).markB])).executed a n a.g
      (a.i.op = 0 → exec (.markBegin r) s = .next (mark 0)) ∧ (a.i.op = 1 → exec (.markEnd r) s = .next (mark 1)))
    ∧ (a.i.cls = 0x09 →
      (a.i.op = 0 → exec (.srRead r) s = toDst
        (match a.i.imm with
         | 0x00 => a.b.cluster / 24
         | 0x01 => a.b.cluster
         | 0x02 => a.b.index
         | 0x03 => a.b.blocks
         | 0x04 => a.gi
         | 0x05 => a.b.groups.length
         | 0x06 => a.b.ctx
         | 0x07 => a.b.bmSize
         | 0x08 => a.b.args
         | 0x09 => a.g.issuer * 2 ^ 32 + a.sg.mask.toNat
         | 0x10 => a.g.fstat.toNat
         | 0x11 => a.g.astat.toNat
         | 0x12 => (if a.g.range then 256 else 0) + a.g.vstat.toNat
         | _ => if a.g.ftz32 then 1 else 0))
      ∧ (a.i.op = 1 → exec (.srWrite r) s = .next (s.executed a n { a.g with ftz32 := src1.testBit 0 }))
      ∧ (a.i.op = 2 →
          let now := a.sg.mask.getLsbD a.g.issuer = false ∧ a.g.raised.cycle = s.abaom.posts
          exec (.srClr r) s = .next (s.executed a n
          (match a.i.imm with
           | 0x10 => { a.g with fstat := a.g.fstat &&& ~~~ (BitVec.ofNat 5 src1) }
           | 0x11 => { a.g with
               astat := (a.g.astat &&& ~~~ (BitVec.ofNat 4 src1)) ||| (if now then a.g.raised.astat else 0) }
           | _ => { a.g with
               vstat := (a.g.vstat &&& ~~~ (BitVec.ofNat 5 src1)) ||| (if now then a.g.raised.vstat else 0),
               range := (a.g.range && !(src1.testBit 8)) || (decide now && a.g.raised.range) }))))

/-- R132, R216, R218, R231: the barrier and wait releases let go exactly what they hold, once every lane has arrived, every
group has arrived, the arrival counter has reached its value, or the replica its MT; before that they change nothing. -/
def Obligations.BarriersRelease : Prop :=
  ∀ (s : State),
    (∀ blk grp g, s.group blk grp = some g → g.stopped = false → g.ops = [] → (∀ x ∈ g.subs, x.hold = .barGroup) →
      exec (.barGroupRelease blk grp) s =
        .next (s.putGroup blk grp { g with subs := g.subs.map fun x => { x with hold := .none } }))
    ∧ (∀ blk grp g, s.group blk grp = some g → (∃ x ∈ g.subs, x.hold ≠ .barGroup) →
      exec (.barGroupRelease blk grp) s = .next s)
    ∧ (∀ blk b, s.block blk = some b → (∀ g ∈ b.groups, g.stopped = false ∧ ∀ x ∈ g.subs, x.hold = .barBlock) →
      exec (.barBlockRelease blk) s = .next (s.putBlock { b with groups := b.groups.map fun g =>
        { g with subs := g.subs.map fun x => { x with hold := .none } } }))
    ∧ (∀ blk b, s.block blk = some b → (∃ g ∈ b.groups, ∃ x ∈ g.subs, x.hold ≠ .barBlock) →
      exec (.barBlockRelease blk) s = .next s)
    ∧ (∀ r b g x off v, s.subGroup r = some (b, g, x) → x.hold = .arrWait off v →
      exec (.arrWaitRelease r) s = .next
        (if v ≤ leNat (s.bmRead b off 8) then s.putGroup r.blk r.grp (g.replace x.id [{ x with hold := .none }]) else s))
    ∧ (∀ r b g x m, s.subGroup r = some (b, g, x) → x.hold = .stakeWait m →
      exec (.stakeWaitRelease r) s = .next
        (if m ≤ s.replica (b.cluster / 24) then s.putGroup r.blk r.grp (g.replace x.id [{ x with hold := .none }]) else s))

/-- R220 to R223, R298, R319, R341 to R344, R352, R353: a matrix instruction of the issuer's sub-group, once its group has the
accumulator pair or is first in line for it, takes the pair and joins the engine with its scalar operands as they stand; an
operand out of its range raises OPERAND, a panel outside block memory BLOCK_RANGE. Slice products and raw output wait for the
instructions before them on their tile, whose form they need (R223, R341). -/
def Obligations.MatrixInstructionsIssue : Prop :=
  ∀ (s : State) (r : SubRef) (a : At) (n : Nat), s.issuing r = some (a, n) → a.i.cls = 0x10 →
    let t := s.takePair a
    let order := ((t.vectorOps a.b.cluster (nth a.b.cores a.gi 0)).map (·.order)).foldl max 0 + 1
    let oa := a.scalar a.i.src1
    let ob := a.scalar a.i.src2
    let joins := fun (pipe : Pipe) => t.executed a n { a.g with
      ops := a.g.ops ++ [{ pipe, pc := a.i.pc, word := a.i.word, ext := a.i.ext, s1 := oa, s2 := ob, sd := a.scalar a.i.dst,
                           seq := a.g.nextOp, order }],
      nextOp := a.g.nextOp + 1 }
    let raises := fun (x : Exc) (info : Nat) => s.takeException a.b x (a.site (maskOf [a.g.issuer]) info)
    let panels :=
      if a.b.bmSize < oa + a.i.panelBytes 64 then raises .blockRange oa
      else if a.b.bmSize < ob + a.i.panelBytes 128 then raises .blockRange ob
      else joins .multiply
    (∀ c op, (c, op) ∈ [(Instr.mmaMx8 r, 0), (.mmaMx6 r, 1), (.mmaMx4 r, 2), (.mmaXi8 r, 3)] → a.i.op = op →
      exec c s = .next
        (if oa % 64 ≠ 0 then raises .operand oa else if ob % 64 ≠ 0 then raises .operand ob else panels))
    ∧ (∀ c op, (c, op) ∈ [(Instr.mmaSf32 r, 4), (.mmaSf64 r, 5)] → a.i.op = op →
      exec c s = .next
        (if oa % 64 ≠ 0 then raises .operand oa else if ob % 64 ≠ 0 then raises .operand ob
         else if a.g.tilePending a.b.regs (a.opd a.i.dst).number then s
         else if (a.g.acc (a.opd a.i.dst).number).isFp32 then raises .operand oa else panels))
    ∧ (a.i.op = 8 → exec (.accAnchor r) s = .next
        (if a.i.mod = 0 ∧ (signedNat 64 oa < -4096 ∨ 4095 < signedNat 64 oa) then raises .operand oa else joins .readout))
    ∧ (a.i.op = 9 → exec (.accRead r) s = .next
        (if ob % 64 ≠ 0 then raises .operand ob
         else if a.i.mod = 2 ∧ a.g.tilePending a.b.regs (a.opd a.i.src1).number = true then s
         else if a.i.mod = 2 ∧ (a.g.acc (a.opd a.i.src1).number).isFp32 = true then raises .operand ob
         else if ob + (match a.i.mod with | 0 => 32768 | 1 => 65536 | _ => 262144) ≤ a.b.bmSize then joins .readout
         else raises .blockRange ob))
    ∧ (a.i.op = 10 → exec (.accZero r) s = .next (joins .readout))

/-- R314, R335, R343, R352: the completion of a matrix instruction does its work: acc.zero and acc.anchor set their tile,
acc.read writes the tile's output to block memory, a multiplication adds its panels' products to its tile and raises
INEXACT_LOW when it loses low bits; and it leaves the engine. -/
def Obligations.MatrixInstructionsComplete : Prop :=
  ∀ (s : State) (blk grp : Nat) (b : Block) (g : Group) (o : GcOp) (rest : List GcOp),
    s.block blk = some b → s.group blk grp = some g → g.ops = o :: rest → g.stopped = false → o.pipe ≠ .vector →
    let i := insnOf o.pc o.word o.ext
    let k := (opdOf b.regs i.dst).number
    let h := { g with ops := rest, astat := 0, vstat := 0, range := false }
    let leaves := fun (t : State) (x : Group) => exec (.matrixOpComplete blk grp) s =
      .next ((t.putGroup blk grp (g.raisedIn s x)).settleGroup blk grp)
    (i.op = 10 → leaves (s.matrixTime b 1) (h.setAcc k AccTile.zero))
    ∧ (i.op = 8 → leaves (s.matrixTime b 1)
        (h.setAcc k (.anchored (if i.mod = 1 then none else some (signedNat 64 o.s1)) (List.replicate accSize AnchEl.zero))))
    ∧ (i.op = 9 → leaves
        ((s.bmWrite b o.s2 ((g.acc (opdOf b.regs i.src1).number).output i.mod)).matrixTime b
          (if i.mod = 0 then 64 else if i.mod = 1 then 128 else 512))
        (h.readAcc (opdOf b.regs i.src1).number))
    ∧ (i.op < 6 →
        let p := mmaTile (mmaKind i.op i.mod) i.blk16 i.overwrite i.imm (s.bmRead b o.s1 (i.panelBytes 64))
          (s.bmRead b o.s2 (i.panelBytes 128)) (g.acc k)
        let t := s.matrixTime b (i.imm * mmaCycles i.op)
        leaves (if p.2 then t.progCount b.cluster b.ctx 0x12 1 else t) ((h.setAcc k p.1).raiseAstat (2 * k) p.2))

/-- R318 to R320: a free accumulator pair goes to the group that is first in line, and a pair that is owned stays with its
owner. R290, R356, R544 to R548: atom.xadd adds the elements of an anchored tile to the cells at its rows, in row order, and
reads the tile, once the instructions before it on the tile have completed; a pending anchor sends nothing; a tile in the FP32 form raises OPERAND, a row that is no multiple of 32
ALIGN. R281, R285: with SPACE 1 the cells are the block memory's (DEDUCED, log 115), and a row outside it raises BLOCK_RANGE. -/
def Obligations.AccumulatorPairsAndAnchors : Prop :=
  (∀ (s : State) (cluster core : Nat),
     (∀ blk grp, s.pairOwner cluster core = none → s.nextOwner cluster core = some (blk, grp) →
       exec (.accumulatorGrant cluster core) s = .next (s.setCompute { s.compute with
         pairs := s.compute.pairs ++ [{ cluster, core, blk, grp }] }))
     ∧ (∀ o, s.pairOwner cluster core = some o → exec (.accumulatorGrant cluster core) s = .next s))
  ∧ (∀ (s : State) (r : SubRef) (a : At) (n : Nat), s.issuing r = some (a, n) → a.i.cls = 0x04 → a.i.op = 0x20 →
       a.g.tilePending a.b.regs (a.opd a.i.dst).number = false →
       let t := s.takePair a
       let k := (a.opd a.i.dst).number
       let rows := a.i.ext / 256 % 256
       let cols := a.i.ext % 256
       let reads := fun (els : List AnchEl) => a.g.raisedIn s
         ({ a.g with astat := 0, vstat := 0, range := false }.raiseAstat (2 * k + 1)
           ((List.range rows).any fun i => (List.range cols).any fun j => (nth els (128 * i + j) AnchEl.zero).out))
       (∀ els, a.g.acc k = .fp32 els →
         exec (.atomXadd r) s = .next (s.takeException a.b .operand (a.site (maskOf [a.g.issuer]) (a.scalar a.i.src1))))
       ∧ (∀ v els x xs, a.g.acc k = .anchored v els → a.xaddRows.filter (fun y => y.va % 32 != 0) = x :: xs →
         exec (.atomXadd r) s = .next (s.takeException a.b .align (a.site (maskOf [a.g.issuer]) x.va)))
       ∧ (∀ v els, a.g.acc k = .anchored v els → (∀ y ∈ a.xaddRows, y.va % 32 = 0) → a.i.blockMem = true →
         (∀ x xs, a.outside a.xaddRows = x :: xs →
           exec (.atomXadd r) s = .next (s.takeException a.b .blockRange (a.site (maskOf [a.g.issuer]) x.va)))
         ∧ (a.outside a.xaddRows = [] → a.blockWaits true a.xaddRows = false → exec (.atomXadd r) s = .next
             ((match v with
               | none => t
               | some anchor => State.xaddBlock a a.xaddRows (a.xaddCells anchor els) t).executed a n (reads els))))
       ∧ (∀ v els l, a.g.acc k = .anchored v els → (∀ y ∈ a.xaddRows, y.va % 32 = 0) → a.i.blockMem = false →
         a.sysWaits s = false → a.translate .alu .atomic a.xaddRows s = (s, some l) →
         (∀ p ∈ l, ∃ pa, p.piece.target = .local_ pa ∧ s.poisoned pa p.piece.size = false) →
         exec (.atomXadd r) s = .next
           ((match v with
             | none => t
             | some anchor => State.xaddAll a l (a.xaddCells anchor els) t).executed a n (reads els))))

/-- R407 to R412, R422, R427, R433, R437, R442: a tile-vector instruction that its engine can accept joins it, with its scalar
operands as they stand and in its core's order, once its operands pass their checks, and takes the accumulator pair where it names
an accumulator; vld.t, vst.t and vep.load with block or local addresses move their bytes in program order; the header of a program
is checked before its operation words are read. -/
def Obligations.VectorInstructionsIssue : Prop :=
  ∀ (s : State) (r : SubRef) (a : At) (n : Nat), s.issuing r = some (a, n) → a.i.cls = 0x11 →
    let taken := fun (t : State) => if a.i.namesAcc a.b.regs then t.takePair a else t
    let joins := fun (t : State) (g : Group) => Host.Outcome.next (ρ := Refusal) (φ := Fault) ((taken t).executed a n { g with
      ops := g.ops ++ [{ pipe := .vector, pc := a.i.pc, word := a.i.word, ext := a.i.ext, s1 := g.scalar (a.opd a.i.src1).scalarNo,
                         s2 := g.scalar (a.opd a.i.src2).scalarNo, sd := g.scalar (a.opd a.i.dst).scalarNo, seq := g.nextOp,
                         order := (((taken t).vectorOps a.b.cluster (nth a.b.cores a.gi 0)).map (·.order)).foldl max 0 + 1 }],
      nextOp := g.nextOp + 1 })
    let raises := fun (x : Exc) (info : Nat) => Host.Outcome.next (ρ := Refusal) (φ := Fault)
      (s.takeException a.b x (a.site (maskOf [a.g.issuer]) info))
    let s1 := a.scalar a.i.src1
    let s2 := a.scalar a.i.src2
    let vsums : List (Instr × Nat) := [(.vsumAny r, 8), (.vsumAll r, 9), (.vsumCount r, 10), (.vsumMin r, 11), (.vsumMax r, 12),
      (.vsumFirst r, 13)]
    (a.i.op = 2 → exec (.vperm r) s = joins s a.g)
    ∧ (∀ c op, (c, op) ∈ vsums → a.i.op = op → exec c s = joins s a.g)
    ∧ (a.i.op = 1 → vepCall a.b.regs a.g a.i s1 s2 (a.scalar a.i.dst) = none →
      exec (.vepRun r) s = raises .operand (a.i.imm % 8))
    ∧ (a.i.op = 1 → ∀ c, vepCall a.b.regs a.g a.i s1 s2 (a.scalar a.i.dst) = some c →
      (c.operandOk = false → exec (.vepRun r) s = raises .operand s1)
      ∧ (c.operandOk = true →
        (∀ p ∈ [c.in0, c.in1, c.out], p.misaligned c.shape.1 c.shape.2 = none ∧ p.beyond a.b.bmSize c.shape.1 c.shape.2 = none) →
        exec (.vepRun r) s = joins s a.g))
    ∧ (∀ c op, (c, op) ∈ [(Instr.vldT r, 3), (.vstT r, 4)] → a.i.op = op →
      (s1 % 4 ≠ 0 → exec c s = raises .operand s1)
      ∧ (s1 % 4 = 0 → s2 % 4 ≠ 0 → exec c s = raises .operand s2)
      ∧ (s1 % 4 = 0 → s2 % 4 = 0 → a.i.blockMem = true →
        (∀ v ∈ a.tileRows, 0 ≤ v ∧ v + 64 ≤ (a.b.bmSize : Int)) → exec c s = joins s a.g)
      ∧ (s1 % 4 = 0 → s2 % 4 = 0 → a.i.blockMem = true → ∀ v, a.tileBeyond = some v →
        exec c s = raises .blockRange (v % 2 ^ 64).toNat)
      ∧ (s1 % 4 = 0 → s2 % 4 = 0 → a.i.blockMem = false → a.g.vectorPending = false →
        ∀ l, a.translate .vector (if op = 3 then .read else .write) a.tileAccesses s = (s, some l) →
        (∀ p ∈ l, ∃ pa, p.piece.target = .local_ pa ∧ s.poisoned pa p.piece.size = false) →
        let bytes := l.flatMap fun p => match p.piece.target with
          | .local_ pa => s.hbmRead pa p.piece.size
          | .tie _ _ _ => []
        exec c s =
          if op = 3 then
            joins (s.lanesTake a) { a.g with tiles := a.g.tiles.set (a.opd a.i.dst).number (tileWords bytes) }
          else
            joins (State.storePieceList a .vector (fun _ => tileBytes (nth a.g.tiles (a.opd a.i.dst).number [])) l 32 0 s) a.g))
    ∧ (a.i.op = 0 → a.g.vectorPending = true → exec (.vepLoad r) s = .next s)
    ∧ (a.i.op = 0 → a.g.vectorPending = false → s1 % 64 ≠ 0 → exec (.vepLoad r) s = raises .operand s1)
    ∧ (a.i.op = 0 → a.g.vectorPending = false → s1 % 64 = 0 →
      ∀ pa m, a.translate .vector .read [⟨a.g.issuer, s1, 64⟩] s = (s, some [⟨a.g.issuer, ⟨.local_ pa, s1, 64⟩⟩]) →
      s.poisoned pa 64 = false → m = imageOps (s.hbmRead pa 64) →
      (headerOk (s.hbmRead pa 64) = false → exec (.vepLoad r) s = raises .operand s1)
      ∧ ∀ pb, a.translate .vector .read [⟨a.g.issuer, (s1 + 64) % 2 ^ 64, 4 * m⟩] s =
          (s, some [⟨a.g.issuer, ⟨.local_ pb, (s1 + 64) % 2 ^ 64, 4 * m⟩⟩]) →
      s.poisoned pb (4 * m) = false →
      ∀ p, parseProg (s.hbmRead pa 64) (elements 4 m (s.hbmRead pb (4 * m))) = some p →
      exec (.vepLoad r) s = joins (s.lanesTake a) { a.g with progs := a.g.progs.set (a.i.imm % 8) (some p) })

/-- R403 to R444: the completion of a tile-vector instruction does its work: the engine's time is counted, and vld.t, vst.t,
vperm, vep.run and the summaries write their destinations, those of an accumulator in INT32 aside, for which the spec gives no
reading. R433: the instruction that completes is the oldest that its core's engine holds. -/
def Obligations.VectorInstructionsComplete : Prop :=
  ∀ (s : State) (blk grp : Nat) (b : Block) (g : Group) (o : GcOp) (rest : List GcOp),
    s.block blk = some b → s.group blk grp = some g → g.ops = o :: rest → g.stopped = false → o.pipe = .vector →
    s.vectorFirst b grp o = true →
    let i := insnOf o.pc o.word o.ext
    let d := (opdOf b.regs i.dst).number
    let h := { g with ops := rest, astat := 0, vstat := 0, range := false }
    let row := fun (k : Nat) => ((o.s1 : Int) + k * signedNat 64 o.s2).toNat
    let leaves := fun (t : State) (x : Group) => exec (.vectorOpComplete blk grp) s =
      .next ((t.putGroup blk grp (g.raisedIn s x)).settleGroup blk grp)
    (i.op = 0 → leaves (s.vectorTime b 16) h)
    ∧ (∀ c, i.op = 1 → vepCall b.regs h i o.s1 o.s2 o.sd = some c → leaves (s.vepRun b h c).1 (s.vepRun b h c).2)
    ∧ (i.op = 2 →
        let p := permute (sTypeOf i.mod) (i.imm / 64) (nth g.tiles (opdOf b.regs i.src1).number [])
          (nth g.tiles (opdOf b.regs i.src2).number [])
        leaves (s.vectorTime b 4) { h with tiles := g.tiles.set d p.1, range := p.2 })
    ∧ (i.op = 3 → i.blockMem = true → leaves (s.vectorTime b 8)
        { h with tiles := g.tiles.set d (tileWords ((List.range 16).flatMap fun k => s.bmRead b (row k) 64)) })
    ∧ (i.op = 4 → i.blockMem = true →
        let ws := tileBytes (nth g.tiles d [])
        leaves ((List.range 16).foldl (fun t k => t.bmWrite b (row k) ((ws.drop (64 * k)).take 64)) (s.vectorTime b 8)) h)
    ∧ ((i.op = 3 ∨ i.op = 4) → i.blockMem = false → leaves (s.vectorTime b 8) h)
    ∧ (8 ≤ i.op → ∀ x, opdOf b.regs i.src1 = .tile x →
        leaves (s.vectorTime b 4) (h.setScalar (opdOf b.regs i.dst).scalarNo
          (summary (summaryOf i.op) (sTypeOf i.mod) g.ftz32
            ((List.range (if i.imm / 64 = 0 then (sTypeOf i.mod).count else i.imm / 64)).map
              (tileGet (sTypeOf i.mod) (nth g.tiles x [])))).toNat))
    ∧ (8 ≤ i.op → sTypeOf i.mod ≠ .int32 → ∀ x, opdOf b.regs i.src1 = .acc x →
        leaves (s.vectorTime b 64) ((h.readAcc x).setScalar (opdOf b.regs i.dst).scalarNo
          (summary (summaryOf i.op) (sTypeOf i.mod) g.ftz32
            ((List.range accSize).map fun j => (accIn (sTypeOf i.mod) .nearest (g.acc x) j).1)).toNat))

/-- R226, R227, R229, R293, R294, R383: xfer.cv is queued as a copy of its source length and range, its operands checked in
the order of R304; and a range of an unconverted copy within block memory lands as the source's bytes, raising its arrival
counter by the bytes landed. -/
def Obligations.AsynchronousCopies : Prop :=
  (∀ (s : State) (r : SubRef) (a : At) (n : Nat), s.issuing r = some (a, n) → a.i.cls = 0x06 → a.i.op = 0 →
    ∀ c out, convOf (a.i.ext / 2 ^ 33 % 256) = some c → a.copyLength ≤ 4194304 → c.dstLen a.copyLength = some out →
    c.aligned (a.scalar a.i.src1) (a.scalar a.i.src2) = true → a.copyCounter % 8 = 0 → a.copyCounter + 8 ≤ a.b.bmSize →
    (a.i.mod % 2 = 1 → a.scalar a.i.src1 + a.copyLength ≤ a.b.bmSize) →
    (a.i.mod / 2 % 2 = 1 → a.scalar a.i.src2 + out ≤ a.b.bmSize) → (c.stochastic = true → 64 ≤ a.b.bmSize) →
    0 < out →
    exec (.xferCv r) s = .next ((s.putBlock { a.b with
      copies := a.b.copies ++ [{
        id := a.b.nextCopy, core := nth a.b.cores a.gi 0, group := a.gi, srcBm := a.i.mod % 2 == 1, src := a.scalar a.i.src1,
        dstBm := a.i.mod / 2 % 2 == 1, dst := a.scalar a.i.src2, len := a.copyLength, conv := a.i.ext / 2 ^ 33 % 256,
        stream := if c.stochastic then s.streamSlot a.b else ⟨[], 0, 0⟩, counter := a.copyCounter, left := [(0, out)],
        sent := [], after := a.g.lastWriter a.b.regs }],
      nextCopy := a.b.nextCopy + 1 }).executed a n a.g))
  ∧ (∀ (s : State) (blk id lo count : Nat) (b : Block) (c : Copy) (left : List (Nat × Nat)),
    s.block blk = some b → b.copy id = some c → convOf c.conv = some .none → c.srcBm = true → c.dstBm = true →
    c.sent = [] → 0 < count → takeRange c.left lo count = some left → lo + count ≤ c.len → s.copyReady b c = true →
    ∃ t, exec (.copyLand blk id lo count) s = .next t ∧
      (let u := s.bmWrite b (c.dst + lo) (s.bmRead b (c.src + lo) count)
       t.compute.bmem = (u.bmWrite b c.counter
         (leBytes 8 ((leNat (u.bmRead b c.counter 8) + count) % 2 ^ 64))).compute.bmem)
      ∧ t.mem = s.mem)

/-- R448, R456, R458, R460, R464: a walk that ends in a leaf which permits the access enters that leaf into the TLB of the
cluster and the L1 TLB of the engine that asked, in place of any entry of the same range, and the walk is over; an L1 TLB never
comes to hold more than 64 entries, a set of a cluster TLB more than 8, a walker cache more than 4,096. A leaf held already that
refuses the access makes its fault without a walk. A request behind 64 others of its die waits. -/
def Obligations.WalkFillsTlb : Prop :=
  ∀ (s : State) (k : Nat) (q : WalkReq), s.xlat.walks[k]? = some q →
    let u := s.setXlat { s.xlat with walks := s.xlat.walks.erase q }
    (s.walkRuns k q = false → exec (.walk k) s = .next s)
    ∧ (s.walkRuns k q = true → (s.ctx q.ctx).st = .opened →
      (∀ f, u.heldRefusal q = some f → exec (.walk k) s = .next (u.walkFault q f))
      ∧ ∀ e c, q.by_ = .cluster c → u.walkEnd q = .entry e →
        ∃ t, exec (.walk k) s = .next t ∧ t.xlat.walks = s.xlat.walks.erase q
          ∧ e ∈ t.xlat.tlb ∧ ⟨s.waiterCore q.who, q.engine, e⟩ ∈ t.xlat.l1
          ∧ (∀ d ∈ t.xlat.tlb, d = e ∨ d ∈ s.xlat.tlb)
          ∧ (∀ x ∈ t.xlat.l1, x = ⟨s.waiterCore q.who, q.engine, e⟩ ∨ x ∈ s.xlat.l1)
          ∧ (∀ y, s.xlat.l1.countP (fun x => x.mate y) ≤ 64 → t.xlat.l1.countP (fun x => x.mate y) ≤ 64)
          ∧ (∀ d, s.xlat.tlb.countP (fun x => x.sameSet d) ≤ 8 → t.xlat.tlb.countP (fun x => x.sameSet d) ≤ 8)
          ∧ (∀ die, s.xlat.walkCache.countP (fun w => w.die == die) ≤ 4096 →
              t.xlat.walkCache.countP (fun w => w.die == die) ≤ 4096)
          ∧ t.mem.hbm = s.mem.hbm ∧ t.mem.poison = s.mem.poison ∧ t.compute = s.compute)

/-- R261, R267, R303, R307: an instruction word that is not legal, or that lies outside the code region, raises ILLEGAL in its
sub-group's lanes. -/
def Obligations.IllegalInstructionRaises : Prop :=
  ∀ (s : State) (r : SubRef) (b : Block) (g : Group) (x : SubGroup), s.subGroup r = some (b, g, x) →
    s.subReady b r.grp g x = true →
    let others := s.mergers b r.grp g x
    let m := mergeInto x others
    (∀ w, s.fetchInsn b r.grp g m = .outside w →
      exec (.exception r) s =
        .next (s.takeException b .illegal ((At.mk b r.grp (g.merged m others) m (insnOf x.pc w 0)).site m.mask 0)))
    ∧ (∀ i, s.fetchInsn b r.grp g m = .insn i → i.legal b.regs = false →
      exec (.exception r) s = .next (s.takeException b .illegal ((At.mk b r.grp (g.merged m others) m i).site m.mask 0)))

/-- R207: each group has 64 scalar registers of 64 bits; s0 reads as zero and ignores writes, every other one reads back the
64 bits written to it and nothing else written changes it, and all are zero when the group starts. -/
def Obligations.ScalarRegisters : Prop :=
  ∀ (g : Group),
    g.scalar 0 = 0
    ∧ (∀ v, g.setScalar 0 v = g)
    ∧ (∀ k v, 0 < k → k < g.sregs.length → (g.setScalar k v).scalar k = v % 2 ^ 64)
    ∧ (∀ k j v, k ≠ j → (g.setScalar k v).scalar j = g.scalar j)
    ∧ (∀ k v, (g.setScalar k v).sregs.length = g.sregs.length)
    ∧ (∀ regs entry ftz, (Group.start regs entry ftz).sregs.length = 64 ∧ ∀ k, (Group.start regs entry ftz).scalar k = 0)

/-- R200: a lane register written leaves every other lane and register alone. R269: the frame of an integer or float result:
only the active lanes' registers of the DST operand change, scalars stay for a lane DST, and for a scalar DST no lane register
and no other scalar changes. What the execution of an instruction leaves alone: the sub-groups other than the one that executed
it, other blocks and groups, stacked memory, block memory, mailboxes, translation, the fabric; its own sub-group goes on past
it. -/
def Obligations.GroupRegistersAndFrame : Prop :=
  (∀ (g : Group),
     (∀ l j v, l < g.lanes.length → j < (nth g.lanes l []).length → (g.setLane l j v).lane l j = v)
     ∧ (∀ l j l' j' v, (l ≠ l' ∨ j ≠ j') → (g.setLane l j v).lane l' j' = g.lane l' j'))
  ∧ (∀ (a : At) (k : Nat) (f : Nat → Nat),
       (∀ d, a.opd a.i.dst = .lane d →
         (a.write k f).sregs = a.g.sregs
         ∧ (∀ l j, (a.sg.mask.getLsbD l = false ∨ j < d ∨ d + k ≤ j) → (a.write k f).lane l j = a.g.lane l j)
         ∧ (∀ l j, a.sg.mask.getLsbD l = true → l < 32 → j < k → d + k ≤ (nth a.g.lanes l []).length → l < a.g.lanes.length →
             (a.write k f).lane l (d + j) = BitVec.ofNat 32 (f l / 2 ^ (32 * j))))
       ∧ (∀ d, a.opd a.i.dst = .scalar d →
         (a.write k f).lanes = a.g.lanes ∧ ∀ j, j ≠ d → (a.write k f).scalar j = a.g.scalar j))
  ∧ (∀ (s : State) (a : At) (n : Nat) (g : Group),
       let t := s.executed a n g
       t.mem = s.mem ∧ t.mbxs = s.mbxs ∧ t.xlat = s.xlat ∧ t.fab = s.fab ∧ t.coh = s.coh ∧ t.stakes = s.stakes
       ∧ t.time = s.time ∧ t.joined = s.joined ∧ t.monu = s.monu ∧ t.trust = s.trust ∧ t.dies = s.dies ∧ t.pwr = s.pwr
       ∧ t.compute.bmem = s.compute.bmem ∧ t.compute.pairs = s.compute.pairs
       ∧ (∀ c, c ≠ a.b.ctx → t.ctx c = s.ctx c)
       ∧ (∀ blk grp, (blk ≠ a.b.id ∨ grp ≠ a.gi) → t.group blk grp = s.group blk grp)
       ∧ (∀ h, s.group a.b.id a.gi = some h → t.group a.b.id a.gi =
           some (g.replace a.sg.id [{ a.sg with pc := (a.i.pc + if a.i.wide then 16 else 8) % 2 ^ 64 }])))

/-! ### Commands -/

/-- R145, R152, R153, R848: the end of a command writes MBX_STATUS, the result words and MBX_DONE_MT, makes the mailbox DONE and
takes the command out of hand; no other mailbox, no context, no memory, no block and no translation changes; an interrupt
goes out where IRQ and DONE_EN ask for one and the hart's die is in service. -/
def Obligations.CommandEnds : Prop :=
  ∀ (s : State) (n status : Nat) (res : List Nat) (c : TakenCmd), n < s.mbxs.length → (s.mbx n).cmd = some c →
    let t := s.complete n status res
    let m := t.mbx n
    m.st = .done ∧ m.status = status ∧ m.resWords = res.length ∧ m.statusTag = c.tag ∧ m.doneMt = s.time.mt ∧ m.cmd = none
    ∧ m.res.take res.length = res.map (BitVec.ofNat 64)
    ∧ (∀ k, k ≠ n → t.mbx k = s.mbx k)
    ∧ t.ctxs = s.ctxs ∧ t.mem = s.mem ∧ t.compute = s.compute ∧ t.xlat = s.xlat ∧ t.time = s.time ∧ t.fab = s.fab
    ∧ t.stakes = s.stakes ∧ t.joined = s.joined ∧ t.pending = s.pending
    ∧ (n ≠ 63 → t.outbox =
        if c.irq = true ∧ (s.mbx n).doneEn = true ∧ (s.mbx n).eiid ≠ 0 ∧ (s.mbx n).hart ≤ 143
            ∧ s.ids.procLive.getLsbD ((s.mbx n).hart / 72) = true then
          .msi (s.mbx n).hart (s.mbx n).eiid :: s.outbox
        else s.outbox)

/-- R184, R190, R680 to R690, R700, R864: what the commands that name a device, its time or a context answer, and what opening
and closing a context does, in every case: CTX_CLOSE of an OPEN context tears it down and ends, with the context CLOSED, in the
cycle in which the last step of the teardown is performed. -/
def Obligations.QueryAndContextCommands : Prop :=
  ∀ (s : State) (n : Nat),
    let a := s.arg n
    let named := s.namedCtx n (a 0)
    (s.has n 0x0100 = true → exec (.identify n) s = endsWith s n 0
      [idDevice, 0x0102 + (match s.trust.image with | some i => i.fwVersion * 2 ^ 32 | none => 0),
       s.fab.node + s.fab.epoch * 2 ^ 16, s.fab.platPos])
    ∧ (s.has n 0x0101 = true → exec (.queryCaps n) s = endsWith s n 0
      ([s.idTopo, s.idStack] ++ ((List.range 8).map fun d => (s.clusterLive d).toNat)
        ++ [(s.ctxs.filter fun c => c.st == .closed).length + (4096 - s.abaom.watches.length) * 2 ^ 16]))
    ∧ (s.has n 0x0500 = true → exec (.mtQuery n) s = endsWith s n 0 [s.time.mt, s.mtStatus, asWord s.time.offset, s.mtDatum])
    ∧ (s.has n 0x0202 = true → exec (.ctxQuery n) s = endsWith s n 0
      [(match (s.ctx named).st with | .closed => 0 | .opened => 1 | .tornDown => 2)
        + (s.ctx named).mbx * 2 ^ 8 + (s.ctx named).partition * 2 ^ 16 + (s.ctx named).cause * 2 ^ 32])
    ∧ (s.has n 0x0902 = true → exec (.acctRead n) s = endsWith s n 0 (s.acctRecord named))
    ∧ (s.has n 0x0200 = true →
        let mbx := a 0 % 256
        let partition := a 0 / 2 ^ 8 % 16
        let quota := a 0 / 2 ^ 16 % 2 ^ 13
        (mbx ≠ 0 → (s.boundCtx mbx).isSome = true → exec (.ctxOpen n) s = endsWith s n stResourceBusy [])
        ∧ ((mbx = 0 ∨ s.boundCtx mbx = none) → (∀ c < 64, (s.ctx c).st ≠ .closed) →
            exec (.ctxOpen n) s = endsWith s n stNoResource [])
        ∧ ((mbx = 0 ∨ s.boundCtx mbx = none) → ∀ c < 64, (s.ctx c).st = .closed → (∀ d < c, (s.ctx d).st ≠ .closed) →
            exec (.ctxOpen n) s =
              if 4096 < ((s.ctxs.filter fun x => x.st != .closed).map (·.quota)).sum + quota then
                endsWith s n stNoResource []
              else
                endsWith (s.openContext c mbx partition quota (a 1) (a 2 % 256) (a 2 / 2 ^ 16 % 2 ^ 11)) n 0 [c]))
    ∧ (∀ c mbx partition quota root hart eiid, c < s.ctxs.length →
        let t := s.openContext c mbx partition quota root hart eiid
        t.ctx c = { Context.reset with
          st := .opened, mbx, partition, quota, root, hostEpoch := s.abaom.beat.epoch, openMt := s.time.mt }
        ∧ (∀ d, d ≠ c → t.ctx d = s.ctx d) ∧ t.mem = s.mem ∧ t.compute = s.compute ∧ t.abaom = s.abaom)
    ∧ (s.has n 0x0201 = true →
        exec (.ctxClose n) s =
          match (s.ctx named).st with
          | .closed => endsWith s n stBadState []
          | .opened => .next ((s.teardown named stOk).begin_ n)
          | .tornDown =>
            if (s.ctx named).ending then .next (s.begin_ n)
            else endsWith (s.putCtx named { s.ctx named with st := .closed, mbx := 0 }) n 0 [])
    ∧ (∀ c cmd, c < s.ctxs.length → n < s.mbxs.length → (s.mbx n).cmd = some cmd → s.closers c = [n] →
        (s.ctx c).ending = true → (s.ctx c).st = .tornDown → (∀ p ∈ s.abaom.passes, p.ctx ≠ c) → s.excOut c = false →
        let t := s.endContext c
        (t.ctx c).st = .closed ∧ (t.ctx c).mbx = 0 ∧ (t.ctx c).ending = false ∧ (t.ctx c).endMt = s.time.mt
        ∧ (t.mbx n).st = .done ∧ (t.mbx n).status = 0 ∧ ∀ d, d ≠ c → t.ctx d = s.ctx d)

/-- R691 to R696, R807: PART_SET puts its map in force unless a context of a partition that the moved tiles leave or join is
not CLOSED, and REG_SET sets a regulator, full or unlimited. R161, R186 to R189: a line is registered at the lowest unused
watch ID, once its address is translated, while watches and the context's quota last; an unregistration takes it away, but
not from a list in the device's hands. -/
def Obligations.PartitionAndRegistrationCommands : Prop :=
  (∀ (s : State) (n : Nat),
     let a := s.arg n
     (s.has n 0x0900 = true →
       let moved := (List.range 8).filter fun d => nth s.share.tiles d d != a 0 / 2 ^ (4 * d) % 16
       let touched := moved.flatMap fun d => [nth s.share.tiles d d, a 0 / 2 ^ (4 * d) % 16]
       ((∃ c ∈ s.ctxs, c.st ≠ .closed ∧ c.partition ∈ touched) → exec (.partSet n) s = endsWith s n stBadState [])
       ∧ ((∀ c ∈ s.ctxs, c.st = .closed ∨ c.partition ∉ touched) →
         ∃ t, exec (.partSet n) s = endsWith t n 0 []
           ∧ t.share.tiles = (List.range 8).map (fun d => a 0 / 2 ^ (4 * d) % 16)
           ∧ t.share.localNext = a 0 / 2 ^ 32 % 256 ∧ t.ctxs = s.ctxs ∧ t.mem = s.mem
           ∧ (∀ k, k / 16 ∈ touched → k < s.obs.sels.length → (nth t.obs.sels k CounterSel.reset).valid = false)
           ∧ (∀ k, k / 16 ∉ touched → nth t.obs.sels k CounterSel.reset = nth s.obs.sels k CounterSel.reset)))
     ∧ (s.has n 0x0901 = true →
       exec (.regSet n) s = endsWith (s.putBucket (a 0 % 16) (a 0 / 2 ^ 16 % 32 + (if a 0 / 2 ^ 8 % 2 = 1 then 16 else 0))
         (if a 1 = 0 then Bucket.unlimited else ⟨5 * (a 2 : Int), a 1, a 2⟩)) n 0 []))
  ∧ (∀ (s : State) (n : Nat),
       let a := s.arg n
       (∀ c ctx va kind, (c, ctx, va, kind) ∈ [(Instr.listRegister n, s.namedCtx n (a 2), a 0, WatchKind.list (a 1)),
           (.watchFlag n, s.namedCtx n (a 1), a 0, .flag)] →
         s.has n (match kind with | .list _ => 0x0300 | .flag => 0x0301) = true →
         (∀ pa, s.cpTranslate ctx .read va 256 = .pieces [⟨.local_ pa, va, 256⟩] →
           (∀ id < 4096, (∀ d < id, (s.watch d).isSome = true) → s.watch id = none →
             (s.abaom.watches.filter fun w => w.ctx == ctx).length < (s.ctx ctx).quota →
             exec c s = endsWith (s.setAbaom { s.abaom with
               watches := s.abaom.watches ++ [⟨id, kind, ctx, va, pa / 256, true, false⟩] }) n 0 [id])
           ∧ ((∀ d < 4096, (s.watch d).isSome = true) → exec c s = endsWith s n stNoResource [])
           ∧ ((s.ctx ctx).quota ≤ (s.abaom.watches.filter fun w => w.ctx == ctx).length →
             exec c s = endsWith s n stNoResource []))
         ∧ (∀ f v, s.cpTranslate ctx .read va 256 = .fault f v → exec c s = endsWith s n stTranslationFault []))
       ∧ (s.has n 0x0302 = true →
         (s.watch (a 0 % 4096) = none → exec (.unwatchFlag n) s = endsWith s n stBadArg [])
         ∧ (∀ w, s.watch (a 0 % 4096) = some w →
           exec (.unwatchFlag n) s =
             if ∃ c, s.boundCtx n = some c ∧ c ≠ w.ctx then endsWith s n stBadArg []
             else if w.kind ≠ .flag ∧ (s.hbmWord (w.line * 256)).toNat % 4 = 2 then endsWith s n stBadState []
             else endsWith (s.setAbaom { s.abaom with watches := s.abaom.watches.filter fun v => v.id != w.id }) n 0 [])))

/-- R461, R462, R480 to R482: TLB_INVALIDATE drops every translation of the context in its range at once and ends with OK when
no tie access waits; TIE_SET closes or opens its window of the tie table, for an OPEN context. -/
def Obligations.TranslationCommands : Prop :=
  ∀ (s : State) (n : Nat),
    let a := s.arg n
    (s.has n 0x0400 = true → n < s.mbxs.length →
      ∃ t, exec (.tlbInvalidate n) s = .next t
        ∧ t.xlat.tlb = s.xlat.tlb.filter (fun e => !(e.ctx == s.namedCtx n (a 0)
            && (a 2 == 0 || (decide (e.base < a 1 + a 2) && decide (a 1 < e.base + e.span)))))
        ∧ t.xlat.l1 = s.xlat.l1.filter (fun x => !(x.entry.ctx == s.namedCtx n (a 0)
            && (a 2 == 0 || (decide (x.entry.base < a 1 + a 2) && decide (a 1 < x.entry.base + x.entry.span)))))
        ∧ t.xlat.walkCache = s.xlat.walkCache.filter (fun e => e.ctx != s.namedCtx n (a 0))
        ∧ (s.xlat.invs = [] → s.xlat.overdue = [] → s.xlat.tieOps = [] → s.fab.sends = [] →
            (t.mbx n).st = .done ∧ (t.mbx n).status = 0))
    ∧ (s.has n 0x0601 = true →
      exec (.tieSet n) s = endsWith (s.setXlat { s.xlat with tieUndo := s.xlat.tieUndo.filter fun u => u.1 != n }) n 0 [])
    ∧ (∀ c : TakenCmd, c.opcode = 0x0601 →
      let w := (nth c.args 1 0).toNat
      (w / 2 ^ 63 % 2 = 1 → (s.ctx (w % 64)).st ≠ .opened → s.ownerRefusal c = some stBadState)
      ∧ (let k := a 0 % 2 ^ 16
         let rest := s.xlat.ties.filter fun e => e.1 != k
         let t := s.takenEffect n c
         (a 1 / 2 ^ 63 % 2 = 0 → t.xlat.ties = rest)
         ∧ (a 1 / 2 ^ 63 % 2 = 1 → t.xlat.ties = (k, {
             valid := true, write := a 1 / 2 ^ 62 % 2 == 1, atomic := a 1 / 2 ^ 61 % 2 == 1, anyNode := a 1 / 2 ^ 60 % 2 == 1,
             node := a 1 / 2 ^ 32 % 2 ^ 14, ctx := a 1 % 64, base := a 2 % 2 ^ 52, size := a 3, cls := a 4 % 4 }) :: rest)
         ∧ ((∀ e ∈ s.xlat.ties, (s.ctx e.2.ctx).st = .opened) →
             ∀ j, (t.tieUndone n).xlat.ties.find? (fun e => e.1 == j) = s.xlat.ties.find? fun e => e.1 == j)))

/-- R108 to R114, R856: STAKE_ALLOC joins the requests with its rank; a pass serves the requests in order of rank, then of
arrival; a request for one location with a free comparator takes the lowest, armed for its stake; STAKE_FREE from
mailbox 0 frees any allocation, with what ends with it, and from another mailbox one of its own and no other. -/
def Obligations.StakeCommands : Prop :=
  ∀ (s : State),
    (∀ n, s.has n 0x0501 = true → exec (.stakeAlloc n) s = .next
      ((s.setStakes { s.stakes with reqs := s.stakes.reqs ++
        [⟨n, s.arg n 0 % 16, if n = 0 then s.arg n 0 / 256 % 16 else 3, s.arg n 1, s.stakes.reqs.length⟩] }).begin_ n))
    ∧ (s.stakes.reqs ≠ [] → exec .stakeAllocPass s = .next
      (((List.range 4).flatMap fun c => s.stakes.reqs.filter fun r => r.cls == c).foldl State.serveRequest
        (s.setStakes { s.stakes with reqs := [] })))
    ∧ (∀ (r : AllocReq) (i : Nat), r.location < 9 → (r.location < 8 → s.ids.baseLive.getLsbD r.location = true) →
      i ∈ comparatorsAt r.location →
      (∀ x ∈ s.stakes.allocs, x.at r.location ≠ some i) →
      (∀ j ∈ comparatorsAt r.location, j < i → ∃ x ∈ s.stakes.allocs, x.at r.location = some j) →
      s.serveRequest r = (s.setStakes { s.stakes with
        allocs := s.stakes.allocs ++ [⟨s.stakes.nextId, [(r.location, i)], r.cls, r.stake, s.mailboxOwner r.mbx, .notice,
          [(r.location, i)], decide (r.stake ≤ s.time.mt)⟩],
        nextId := (s.stakes.nextId + 1) % 2 ^ 64 }).complete r.mbx 0 [s.stakes.nextId])
    ∧ (∀ n, s.has n 0x0502 = true →
      let id := s.arg n 0
      let found := s.stakes.allocs.find? fun x => x.id == id && (n == 0 || (x.event == .notice && x.owner == s.mailboxOwner n))
      (found = none → exec (.stakeFree n) s = endsWith s n stBadArg [])
      ∧ (∀ x, found = some x → exec (.stakeFree n) s = endsWith (s.endAlloc x) n 0 [])
      ∧ (∀ x, found = some x → x.event = .notice → exec (.stakeFree n) s =
          endsWith (s.setStakes { s.stakes with allocs := s.stakes.allocs.filter fun x => x.id != id }) n 0 []))
/-! ### Meridian time and comparators -/

/-- R60, R61 to R64, R68, R83, R84, R86, R87, R116, R119, R838, R855: what the hall's time inputs do. A Sync and its time ask the
delay of the master, a Delay_Resp completes the exchange by the formula of R61, and a PPS edge gives the phase; a FREE device
with every input takes hall time and enters HALL, a device that follows hall time is steered, by a step where the correction is
forward and more than 1 µs and no comparator is armed, by slewing otherwise, and an ALIGNED datum that lies more than 1 µs off
loses its alignment; the loss of the reference takes the device to HOLDOVER, its return out of it; the wait for time ends by its
limit; PPS goes out at whole seconds. R71, R118, R119: a write of MT_CTRL sets PPS_TIME and PPS_OUT_EN, clears TRIG_REVOKED where
it writes 1 there, and takes the pin from a trigger that holds it when it sets PPS_TIME. An UNALIGNED device that loses the
reference, the domain followed, and the state entered while a step is pending are the model's choices (log 126, 121, 125). -/
def Obligations.HallTimeAndPps : Prop :=
  (∀ (s : State),
     let t0 := s.time
     let corrected := fun (t : TimeState) (corr : Int) =>
       if 128000 < corr then
         let u := { t with slewLeft := 0, slewing := false, slewCyc := 0, stepPending := some corr }
         if s.stakes.allocs.any (fun a => !a.armed.isEmpty) then u else u.stepBy corr
       else { t with slewLeft := corr, slewing := decide (16 ≤ corr.natAbs), slewCyc := 0, stepPending := none }
     let follows := fun (t : TimeState) => t.ptpLock = true ∧ (t.st = .hall ∨ (t.st = .holdover ∧ t.bsDone = false))
     let tree : Out := .deviceTree 1000000000 256 0xFD00000000000 0x10000000
     let taken := fun (m : TimeState) (t : State) =>
       if m.st = .free ∧ m.refPresent = true ∧ m.ptpLock = true ∧ (m.ppsTime = false ∨ m.ppsSeen = true) then
         t.time = { corrected m m.hallDiff with st := .hall }
           ∧ (s.conn.phase = .timeWait → t.conn.phase = .hostBoot ∧ tree ∈ t.outbox)
       else if follows m then t.time = corrected m m.hallDiff
       else if m.ptpLock = true ∧ m.st = .aligned ∧ (s.fab.epoch ≠ 0 ∧ m.datumNode = s.fab.node)
           ∧ (128000 < m.hallDiff ∨ m.hallDiff < -128000) then t.time.st = .unaligned ∧ t.time.mt = m.mt
       else t.time = m
     let ticks := fun (p : PtpTime) => (((p.seconds - 1577836800) * 8000000000 + 8 * p.nanos + p.ticks) % 2 ^ 64 : Nat)
     let heard := fun (m : PtpMessage) => s.running = true ∧ m.domain ≤ 127 ∧ (t0.ptp.domain = none ∨ t0.ptp.domain = some m.domain)
     let asked := fun (m : PtpMessage) (p : PtpSlave) (t1 : Nat) =>
       let seq := (t0.ptp.reqSeq + 1) % 2 ^ 16
       (s.setTime { t0 with ptp := { p with t1 := some t1, reqSeq := seq, t3 := some t0.mt } }).emit (.delayReq m.transport m.domain seq)
     (∀ m stamp seq r t1 t3, heard m → m.body = .delayResp seq r → 1577836800 ≤ r.seconds →
       t0.ptp.t1 = some t1 → t0.ptp.t3 = some t3 → t0.ptp.reqSeq = seq →
       let diff : Int := 8 * (((t1 : Int) - t0.ptp.t2) + ((ticks r : Int) - t3))
       ∃ t, exec (.ptpMessage m stamp) s = .next t ∧ t.mem = s.mem ∧
         taken { t0 with ptpLock := true, hallDiff := diff, ptp := { t0.ptp with t1 := none, t3 := none } } t)
     ∧ (∀ m stamp seq o, heard m → m.body = .sync seq (some o) → 1577836800 ≤ o.seconds →
       exec (.ptpMessage m stamp) s
         = .next (asked m { t0.ptp with domain := some m.domain, syncSeq := seq, t2 := stamp } (ticks o)))
     ∧ (∀ m stamp seq, heard m → m.body = .sync seq none →
       exec (.ptpMessage m stamp) s = .next (s.setTime { t0 with
         ptp := { t0.ptp with domain := some m.domain, syncSeq := seq, t2 := stamp, t1 := none, t3 := none } }))
     ∧ (∀ m stamp seq o, heard m → m.body = .followUp seq o → 1577836800 ≤ o.seconds → t0.ptp.domain = some m.domain →
       t0.ptp.syncSeq = seq → t0.ptp.t1 = none → exec (.ptpMessage m stamp) s = .next (asked m t0.ptp (ticks o)))
     ∧ (∀ m stamp, 127 < m.domain → exec (.ptpMessage m stamp) s = .next s)
     ∧ exec .ptpLockLoss s = .next (s.setTime { t0 with ptpLock := false, ptp := ⟨none, 0, 0, none, t0.ptp.reqSeq, none⟩ })
     ∧ (s.running = true → ∀ stamp : Nat,
       let past := (16 * (stamp : Int) + t0.hallDiff) % 128000000000
       let near : Int := if past < 64000000000 then -past else 128000000000 - past
       let diff := if t0.ptpLock then t0.hallDiff + near else t0.hallDiff
       ∃ t, exec (.ppsEdge stamp) s = .next t ∧
         (t0.ppsTime = true → taken { t0 with ppsSeen := true, ppsLast := stamp, hallDiff := diff } t)
         ∧ (t0.ppsTime = false → t0.trigHeld = true →
             t.time = { t0 with trigHeld := false } ∧ t.obs.trig = (s.fireTrigger stamp).obs.trig)
         ∧ (t0.ppsTime = false → t0.trigHeld = false → t = s))
     ∧ (t0.ppsSeen = true → t0.ppsLast + 8800000000 ≤ t0.mt →
         exec .ppsSeenExpiry s = .next (s.setTime { t0 with ppsSeen := false }))
     ∧ (s.running = true → t0.ppsDue = true →
         let t := s.setTime { t0 with ppsDue := false }
         (t0.ppsOutEn = true → t0.st ∈ [MtState.hall, .aligned, .holdover] → exec .ppsOut s = .next (t.emit .ppsOut))
         ∧ (¬ (t0.ppsOutEn = true ∧ t0.st ∈ [MtState.hall, .aligned, .holdover]) → exec .ppsOut s = .next t))
     ∧ (t0.refPresent = true → ∃ t, exec .refLoss s = .next t ∧
         t.time = { t0 with refPresent := false, st := if t0.st = .unaligned then .unaligned else .holdover }
         ∧ t.mem = s.mem ∧ t.mbxs = s.mbxs)
     ∧ (t0.refPresent = false → ∃ t, exec .refReturn s = .next t ∧ t.time.refPresent = true ∧
         (t0.st = .holdover →
             t.time.st = (if t0.ptpLock = true ∧ (t0.ppsTime = false ∨ t0.ppsSeen = true) then .hall else .free)
             ∧ (t0.datumValid = true → ∃ r, t.time.run = some r ∧ r.want = 64 ∧ r.sent = 0 ∧ r.mbx = t0.run.bind (·.mbx)
                 ∧ t.time.datumNode = t0.datumNode ∧ t.time.datumValid = false)
             ∧ (t0.datumValid = false → t.time.run = t0.run))
         ∧ (t0.st = .unaligned → (∀ r, t0.run = some r → r.posted = false) → t.time = { t0 with refPresent := true })
         ∧ (t0.st ≠ .holdover → t0.st ≠ .unaligned → taken { t0 with refPresent := true } t))
     ∧ (s.conn.phase = .timeWait → s.conn.waitFrom + 80000000000 ≤ t0.mt →
         exec .timeWaitExpiry s = .next ((s.setConn { s.conn with phase := .hostBoot, hostReleased := true }).emit tree)))
  ∧ (∀ (s : State) (v : Word), s.hostUp = true → ∃ t, exec (.ppsTimeWrite v) s = .next t ∧
       let on := v.getLsbD 0
       let t0 := s.time
       let clear := v.getLsbD 4 && !s.ids.hot.contains (0x100020, 4)
       t.time = { t0 with
         ppsTime := on, ppsOutEn := v.getLsbD 1, ppsSeen := t0.ppsSeen && on, trigHeld := t0.trigHeld && !on,
         trigRevoked := (t0.trigRevoked && !clear) || (on && t0.trigHeld) }
       ∧ (on = true → t0.trigHeld = true → t.obs.trig.armed = false ∧ t.obs.trig.lost = true)
       ∧ t.mem = s.mem ∧ t.mbxs = s.mbxs ∧ t.ctxs = s.ctxs ∧ t.fab = s.fab)

/-- R82, R83, R85, R92: a pending forward step is taken once no comparator is armed, and not before; a slew ends when less
than a tick is left; either brings a backsight that was applying its correction to ALIGNED, which answers its command, where the
reference is present. R88 to R100: the backsight commands and events: BACKSIGHT_RUN starts 64 exchanges on the live ports toward a
reachable datum, an ALIGNED device measures its parent port again by 16 exchanges every 100 ms and sends its notices again every
millisecond, an exchange goes out on every live port at its microsecond, a port that retrained and was not measured in time costs
the alignment, and the datum sends what it lies off hall time, at most 8 ticks a second, down the tree. -/
def Obligations.CorrectionsAndBacksight : Prop :=
  (∀ (s : State),
     let armed := s.stakes.allocs.any fun a => !a.armed.isEmpty
     (∀ corr, s.time.stepPending = some corr → armed = true → exec .forwardStep s = .next s)
     ∧ (∀ corr, s.time.stepPending = some corr → armed = false → s.time.run = none →
         ∃ t, exec .forwardStep s = .next t ∧ t.time = s.time.stepBy corr ∧ t.time.stepPending = none
           ∧ t.time.mt = (s.time.mt + (corr / 16).toNat) % 2 ^ 64 ∧ t.mem = s.mem ∧ t.mbxs = s.mbxs
           ∧ t.stakes.allocs = s.stakes.allocs)
     ∧ (∀ corr r, s.time.stepPending = some corr → armed = false → s.time.run = some r → s.time.refPresent = true →
         r.phase = .applying → ∃ t, exec .forwardStep s = .next t ∧ t.time.st = .aligned ∧ t.time.run = none
           ∧ t.time.stepPending = none ∧ t.time.mt = (s.time.mt + (corr / 16).toNat) % 2 ^ 64 ∧ t.time.depth = r.depth)
     ∧ (s.time.slewing = true → s.time.slewLeft.natAbs < 16 → s.time.run = none →
         ∃ t, exec .slewEnd s = .next t ∧ t.time = { s.time with slewing := false, slewLeft := 0 } ∧ t.mem = s.mem
           ∧ t.mbxs = s.mbxs)
     ∧ (∀ r, s.time.slewing = true → s.time.slewLeft.natAbs < 16 → s.time.run = some r → r.phase = .applying →
         ∃ t, exec .slewEnd s = .next t ∧ t.time.slewing = false ∧ t.time.depth = r.depth ∧ t.time.mt = s.time.mt
           ∧ (s.time.refPresent = true → t.time.st = .aligned ∧ t.time.run = none)
           ∧ (s.time.refPresent = false → t.time.st = s.time.st ∧ t.time.run = some { r with phase := .held }))
     ∧ (s.time.slewing = true → 16 ≤ s.time.slewLeft.natAbs → exec .slewEnd s = .next s))
  ∧ (∀ (s : State),
       (∀ n, s.has n 0x0503 = true → s.time.run = none →
         let datum := s.arg n 0 % 2 ^ 14
         ((s.fab.epoch ≠ 0 ∧ datum = s.fab.node) ∨ (s.routePort s.fab.node datum kCtrl 0).isSome = true) →
         ∃ t, exec (.backsightRun n) s = .next t ∧ t.time.datumNode = datum ∧ t.time.datumValid = false ∧
           t.time.run = some { mbx := some n, posted := true,
                               saved := some ⟨s.time.datumValid, s.time.parentPort, s.time.datumNode, s.time.linkDly⟩,
                               ports := (List.range 32).filter s.portUsable, sent := 0, want := 64,
                               samples := [], phase := .exchanging, start := s.time.mt, limit := none, offset := 0, depth := 0xFF })
       ∧ (∀ n, s.has n 0x0503 = true → s.time.run = none →
         let datum := s.arg n 0 % 2 ^ 14
         ¬ (s.fab.epoch ≠ 0 ∧ datum = s.fab.node) → s.routePort s.fab.node datum kCtrl 0 = none →
         ∃ t, exec (.backsightRun n) s = .next t ∧ t.time = s.time ∧ (n < s.mbxs.length → (t.mbx n).status = stDestLost))
       ∧ (s.time.st = .aligned → s.time.datumValid = true → ¬ (s.fab.epoch ≠ 0 ∧ s.time.datumNode = s.fab.node) →
         s.time.lastRepeat + 800000000 ≤ s.time.mt → s.time.meas = none →
         ∃ t, exec .backsightRepeat s = .next t ∧ t.time.lastRepeat = s.time.mt ∧
           ∃ r, t.time.meas = some r ∧ r.ports = [s.time.parentPort] ∧ r.want = 16 ∧ r.sent = 0)
       ∧ (s.time.st = .aligned → s.time.lastNotice + 8000000 ≤ s.time.mt →
         exec .alignedNoticeRepeat s = .next ((s.setTime { s.time with lastNotice := s.time.mt }).directPeers.foldl
           (fun t p => t.ctrlPeer p.1 [2 ^ 48 + s.time.datumNode, asWord s.time.totalCorr, s.time.depth * 256, s.time.alignedMt])
           (s.setTime { s.time with lastNotice := s.time.mt })))
       ∧ (∀ r, s.time.run = some r → r.phase = .exchanging → r.sent < r.want → r.start + 8000 * r.sent ≤ s.time.mt →
         s.fab.fenced = false → s.time.meas = none →
         ∃ t, exec .backsightExchange s = .next t ∧ t.time = { s.time with run := some { r with sent := r.sent + 1 } }
           ∧ t.outbox.length = s.outbox.length + (r.ports.filter s.portUsable).length)
       ∧ (∀ r m, s.time.meas = some r → r.limit = some m → m ≤ s.time.mt → s.time.st = .aligned →
         ∃ t, exec .parentRemeasureTimeout s = .next t ∧ t.time.st = .unaligned ∧ t.time.meas = none ∧ t.time.mt = s.time.mt)
       ∧ (s.time.st = .aligned → s.fab.epoch ≠ 0 → s.time.datumNode = s.fab.node → s.time.ptpLock = true →
         s.time.lastHall + 8000000000 ≤ s.time.mt →
         ∀ ahead, ∃ t, exec (.hallCorrection ahead) s = .next t ∧ t.time.lastHall = s.time.mt
           ∧ t.time.hallNseq = (s.time.hallNseq + 1) % 2 ^ 32 ∧ hallKey s.fab.node s.time.hallNseq ∈ t.time.hallSeen
           ∧ ⟨s.time.mt + 80000000 + ahead, .hallSlew (max (-8) (min 8 (s.time.hallDiff.tdiv 16))), false⟩ ∈ t.stakes.timers
           ∧ t.time.mt = s.time.mt))

/-- R102 to R106, R151: the comparator that a location and number name fires when its replica has reached its stake and not
before, the hub's of a package-wide allocation, or an allocation's only one, with its event and any other silently: an allocation
of STAKE_ALLOC stays its owner's, and its owner gets a notice stamped with the stake, or with the moment of firing, and LATE, when
the stake had passed as it was set; the device's own events act, and their comparators are free once all have fired. An offer's
expiry leaves the outcome to a COMMIT that came in time and waits to be handled (R126). The timer queue fires its earliest due
entry. -/
def Obligations.ComparatorsFire : Prop :=
  ∀ (s : State),
    (∀ loc k a, s.stakes.allocs.find? (fun a => a.armed.contains (loc, k)) = some a →
      let now := if loc < 8 then s.replica loc else s.time.mt
      let b := { a with armed := a.armed.filter (· != (loc, k)) }
      let u := s.setStakes { s.stakes with allocs := s.stakes.allocs.map fun x => if x.id = a.id then b else x }
      let free := fun (t : State) => t.setStakes { t.stakes with allocs := t.stakes.allocs.filter fun x => x.id != a.id }
      (now < a.stake → exec (.comparatorFire loc k) s = .next s)
      ∧ (∀ job, a.event = .offerExpiry job → s.commitArriving job = true → exec (.comparatorFire loc k) s = .next s)
      ∧ (a.stake ≤ now → (∀ job, a.event = .offerExpiry job → s.commitArriving job = false) →
          (loc ≠ 8 → 1 < a.places.length →
            exec (.comparatorFire loc k) s = .next (if b.armed.isEmpty && a.event != .notice then free u else u))
          ∧ (loc = 8 ∨ a.places.length ≤ 1 → a.event = .notice → ∀ n, s.ownerMailbox a.owner = some n →
              exec (.comparatorFire loc k) s = .next (u.notify [n] 1 stOk (match a.owner with | .context c => c | _ => 0)
                (if a.late then s.time.mt else a.stake) (u.stampFlags 1 a.late false false) [a.id]))
          ∧ (loc = 8 ∨ a.places.length ≤ 1 → a.event ≠ .notice →
              exec (.comparatorFire loc k) s
                = .next ((if b.armed.isEmpty then free u else u).eventFires a.event a.stake false a.late))))
    ∧ ((∀ x ∈ s.stakes.timers, s.time.mt < x.due) → exec .timerQueueExpiry s = .next s)
    ∧ (∀ x xs, s.stakes.timers = x :: xs → x.due ≤ s.time.mt → (∀ y ∈ xs, y.due ≤ s.time.mt → x.due ≤ y.due) →
      exec .timerQueueExpiry s = .next ((s.setStakes { s.stakes with timers := xs }).eventFires x.event x.due true x.late))
/-! ### Command lists and blocks -/

/-- The entry as it stands when it ends with a status and DETAIL in the present state (R120, R176, R180). -/
def entryEnded (s : State) (e : Entry) (status detail : Nat) : Entry :=
  let ends := fun (b : Entry) => { b with
    phase := .ended, status, detail, endMt := s.time.mt, endFlags := s.stampFlags 1 false false false, latchEnd := s.obs.aon }
  if e.begun then ends e
  else if e.phase = .running then
    ends { e with begun := true, startMt := s.time.mt, startFlags := s.stampFlags 1 false false false, latch := s.obs.aon }
  else ends { e with latch := s.obs.aon }

/-- R168, R383, R384: a COPY entry with a range it may name, unconverted and within this device's memory at places that do
not overlap, writes the source's bytes at its destination, counts the engine's time and ends; a stochastic, misaligned or reserved conversion ends it
with BAD_ARG. R168, R171 to R173, R809: what the entries that the control processor performs itself do, once they run:
NOP_ENTRY ends at once, FENCE when every earlier entry has its record, WRITE stores its word and ends, WAIT ends when its
word in a registered line meets its comparison, else watches the line, WAIT_DEADLINE ends it with TIMEOUT unless the word
was in time, MARK leaves its record; a malformed one ends with BAD_ARG. -/
def Obligations.ListEntries : Prop :=
  (∀ (s : State) (watch k : Nat) (p : Pass) (e : Entry), s.runningEntry watch k 2 = some (p, e) →
     let src := e.word 2
     let dst := e.word 3
     let len := e.word 4
     (convOf (e.word 5 % 256) = none → exec (.copy watch k) s = .next (s.endEntry watch k stBadArg 0))
     ∧ (∀ c, convOf (e.word 5 % 256) = some c → (c.stochastic = true ∨ c.dstLen len = none ∨ c.aligned src dst = false) →
         exec (.copy watch k) s = .next (s.endEntry watch k stBadArg 0))
     ∧ (e.word 5 % 256 = 0 → Conv.none.dstLen len = some len → Conv.none.aligned src dst = true →
         ∀ pa pb, s.cpTranslate p.ctx .read src len = .pieces [⟨.local_ pa, src, len⟩] →
           s.cpTranslate p.ctx .write dst len = .pieces [⟨.local_ pb, dst, len⟩] →
           splitPieces [⟨.local_ pa, src, len⟩] = [⟨.local_ pa, src, len⟩] →
           s.poisoned pa len = false → (src + len ≤ dst ∨ dst + len ≤ src) → s.xlat.tieOps = [] →
           s.xlat.invs = [] → s.xlat.overdue = [] →
           exec (.copy watch k) s = .next (((s.hbmWrite pb (s.hbmRead pa len)).copyTime p.ctx).endEntry watch k stOk 0)))
  ∧ (∀ (s : State) (watch k : Nat) (p : Pass) (e : Entry),
       let ends := fun (t : State) (status detail : Nat) => Host.Outcome.next (ρ := Refusal) (φ := Fault)
         (t.endEntry watch k status detail)
       (s.runningEntry watch k 0 = some (p, e) → exec (.nopEntry watch k) s = ends s stOk 0)
       ∧ (s.runningEntry watch k 5 = some (p, e) →
           ((∀ d ∈ p.entries.take k, d.phase = .recorded) → exec (.fenceEntry watch k) s = ends s stOk 0)
           ∧ ((∃ d ∈ p.entries.take k, d.phase ≠ .recorded) → exec (.fenceEntry watch k) s = .next s))
       ∧ (s.runningEntry watch k 3 = some (p, e) →
           (e.word 2 % 8 ≠ 0 → exec (.write watch k) s = ends s stBadArg 0)
           ∧ (e.word 2 % 8 = 0 → ∀ pa, s.cpTranslate p.ctx .write (e.word 2) 8 = .pieces [⟨.local_ pa, e.word 2, 8⟩] →
               s.poisoned pa 8 = false →
               exec (.write watch k) s = ends (s.hubWrite pa (leBytes 8 (e.word 3))) stOk 0))
       ∧ (s.runningEntry watch k 4 = some (p, e) → e.watched = 0 →
           ((3 ≤ e.word 4 % 4 ∨ e.word 2 % 8 ≠ 0) → exec (.wait watch k) s = ends s stBadArg 0)
           ∧ (e.word 4 % 4 < 3 → e.word 2 % 8 = 0 → ∀ pa, s.cpTranslate p.ctx .read (e.word 2) 8 = .pieces [⟨.local_ pa, e.word 2, 8⟩] →
               ((∀ w ∈ s.abaom.watches, w.line ≠ pa / 256) → exec (.wait watch k) s = ends s stBadState 0)
               ∧ ((∃ w ∈ s.abaom.watches, w.line = pa / 256) → s.poisoned pa 8 = false →
                   let v := (s.hbmWord pa).toNat
                   let met := match e.word 4 % 4 with | 0 => v = e.word 3 | 1 => v ≠ e.word 3 | _ => e.word 3 ≤ v
                   (met → exec (.wait watch k) s = ends s stOk 0)
                   ∧ (¬ met → exec (.wait watch k) s = .next (s.putEntry watch k { e with watched := pa })))))
       ∧ (s.runningEntry watch k 4 = some (p, e) → e.word 5 ≠ 0 →
           (s.time.mt < e.word 5 → exec (.waitDeadline watch k) s = .next s)
           ∧ (e.word 5 ≤ s.time.mt →
               exec (.waitDeadline watch k) s = if e.met then ends s stOk 0 else ends s stTimeout (e.word 5)))
       ∧ (s.runningEntry watch k 6 = some (p, e) →
           exec (.mark watch k) s =
             if e.word 2 / 2 ^ 17 ≠ 0 ∨ e.word 4 ≠ 0 ∨ e.word 5 ≠ 0 ∨ e.word 6 ≠ 0 ∨ e.word 7 ≠ 0 then ends s stBadArg 0
             else ends (s.markRecord 8 (e.word 2 % 2 ^ 16) e.startMt e.startFlags
               (recordOf [traceHead 0x01 8 (2 + e.word 2 / 2 ^ 16 % 2) 0xFF (some p.ctx) e.startFlags, e.startMt, e.word 2 % 2 ^ 16,
                 e.word 3, k * 2 ^ 32, e.tag])) stOk 0)
       ∧ (∀ status detail, s.pass watch = some p → p.entries[k]? = some e → e.phase ≠ .ended → e.phase ≠ .recorded →
           s.endEntry watch k status detail = s.putPass (p.putEntry k (entryEnded s e status detail))))

/-- R25 to R30, R130, R199 to R202, R259, R260, R684: a DISPATCH entry checks its kernel once; its blocks are placed one at a
time on a cluster in service of its partition that has block memory and room in its cores for all of it, each group started
as R199 has it; a staked block is released at its stake; a block that is over ends, and the last one ends its entry. -/
def Obligations.DispatchAndBlocks : Prop :=
  ∀ (s : State),
    (∀ watch k p e, s.runningEntry watch k 1 = some (p, e) →
      (e.kernel = none → e.word 2 % 256 ≠ 0 → exec (.dispatch watch k) s = .next (s.endEntry watch k stBadArg 0))
      ∧ (e.kernel = none → e.word 2 % 256 = 0 → ∀ b, s.entryRead watch k p.ctx (e.word 2) 64 = (s, some b) →
          let header := (List.range 8).map fun i => BitVec.ofNat 64 (leNat ((b.drop (8 * i)).take 8))
          exec (.dispatch watch k) s = .next
            (match kernelOf e header with
             | none => s.endEntry watch k stBadArg 0
             | some kn => s.putEntry watch k { e with kernel := some kn })))
    ∧ (∀ watch k cluster p e kn base cores, s.runningEntry watch k 1 = some (p, e) → e.kernel = some kn →
      e.nextBlock < kn.blocks → cluster < 192 → s.clusterUp cluster = true →
      nth s.share.tiles (cluster / 24) (cluster / 24) = (s.ctx p.ctx).partition →
      chooseMemory (s.blocksOn cluster) kn.memory = some base →
      chooseCores (s.blocksOn cluster) kn.regs kn.groups = some cores →
      exec (.blockPlace watch k cluster) s = .next ((s.setCompute { s.compute with
        blocks := s.compute.blocks ++ [{
          id := s.compute.nextBlock, ctx := p.ctx, watch, entry := k, tag := e.tag, cluster, index := e.nextBlock,
          blocks := kn.blocks, regs := kn.regs, bmBase := base, bmSize := kn.memory, args := kn.args, codeLo := kn.codeLo,
          codeHi := kn.codeHi, excPtr := kn.excPtr,
          stake := if e.staked = true ∧ s.replica (cluster / 24) < e.stake then some e.stake else none,
          groups := List.replicate kn.groups (Group.start kn.regs kn.start kn.ftz), cores, copies := [], nextCopy := 0 }],
        nextBlock := s.compute.nextBlock + 1 }).putEntry watch k
          (if e.begun = true ∨ (e.staked = true ∧ s.replica (cluster / 24) < e.stake) then { e with nextBlock := e.nextBlock + 1 }
           else { e with
             nextBlock := e.nextBlock + 1, begun := true, startMt := s.time.mt,
             startFlags := s.stampFlags 1 (decide (e.stake < s.time.mt)) false false, latch := s.obs.aon })))
    ∧ (∀ watch k cluster p e kn, s.runningEntry watch k 1 = some (p, e) → e.kernel = some kn →
      (cluster ≥ 192 ∨ s.clusterUp cluster = false ∨ chooseMemory (s.blocksOn cluster) kn.memory = none
        ∨ chooseCores (s.blocksOn cluster) kn.regs kn.groups = none ∨ kn.blocks ≤ e.nextBlock) →
      exec (.blockPlace watch k cluster) s = .next s)
    ∧ (∀ blk b m, s.block blk = some b → b.stake = some m →
      (s.replica (b.cluster / 24) < m → exec (.blockStakeRelease blk) s = .next s)
      ∧ (m ≤ s.replica (b.cluster / 24) → ∃ t, exec (.blockStakeRelease blk) s = .next t
          ∧ t.compute = (s.putBlock { b with stake := none }).compute ∧ t.mem = s.mem ∧ t.time = s.time
          ∧ ∀ e, s.entry b.watch b.entry = some e →
              t.entry b.watch b.entry = some (if e.begun then e else { e with
                begun := true, startMt := if e.late then s.time.mt else m, startFlags := s.stampFlags 1 e.late false false,
                latch := s.obs.aon })))
    ∧ (∀ blk b, s.block blk = some b →
      ((∀ g ∈ b.groups, g.exited = BitVec.allOnes 32 ∧ g.ops = []) → b.copies = [] → s.tieWritesOf b.id = false →
        ∃ t, exec (.blockEnd blk) s = .next t
          ∧ t.compute.blocks = s.compute.blocks.filter (fun c => c.id != b.id)
          ∧ t.compute.pairs = s.compute.pairs.filter (fun q => q.blk != b.id) ∧ t.mem = s.mem
          ∧ (∀ p e, s.pass b.watch = some p → p.entries[b.entry]? = some e → e.phase = .running → e.blocksDone + 1 = b.blocks →
              ∃ q d, t.pass b.watch = some q ∧ q.entries[b.entry]? = some d ∧ d.phase = .ended ∧ d.status = stOk
                ∧ d.blocksDone = b.blocks))
      ∧ ((∃ g ∈ b.groups, g.exited ≠ BitVec.allOnes 32 ∨ g.ops ≠ []) → exec (.blockEnd blk) s = .next s))

/-- R129, R170: a staked entry is held until its stake, and then starts, stamped with its stake, or, where a forward step
passed over that, late with the moment; a DISPATCH is held until 50 µs before its stake, for its blocks to be placed; a list that
stops starts none. R174, R178, R181, R182: the record of an ended entry is written once no data write of the
entry is unacknowledged and no record of the pass is held; the list then goes on; before that nothing happens. -/
def Obligations.EntriesReleaseAndComplete : Prop :=
  (∀ (s : State) (watch k : Nat) (p : Pass) (e : Entry), s.pass watch = some p → p.entries[k]? = some e → e.phase = .staked →
     s.passLive p = true →
     (p.stopping = true → exec (.stakedDispatch watch k) s = .next (s.runList watch))
     ∧ (p.stopping = false → e.kind = 1 →
       exec (.stakedDispatch watch k) s =
         .next (if s.time.mt + 400000 < e.stake then s else s.putEntry watch k { e with phase := .running }))
     ∧ (p.stopping = false → e.kind ≠ 1 → e.kind ≤ 7 →
       exec (.stakedDispatch watch k) s =
         .next (if s.time.mt < e.stake then s else s.putEntry watch k { e with
           phase := .running, begun := true, startMt := if e.late then s.time.mt else e.stake,
           startFlags := s.stampFlags 1 e.late false false, latch := s.obs.aon })))
  ∧ (∀ (s : State) (watch k : Nat) (p : Pass) (e : Entry), s.pass watch = some p → p.entries[k]? = some e →
       (e.phase ≠ .ended ∨ s.passLive p = false → exec (.entryComplete watch k) s = .next s)
       ∧ (e.phase = .ended → s.entryWrites watch k = true → exec (.entryComplete watch k) s = .next s)
       ∧ (e.phase = .ended → s.passLive p = true → s.entryWrites watch k = false → (∀ d ∈ p.entries, d.held = false ∨ d.phase ≠ .ended) →
           ∀ t, s.writeRecord watch k = (t, .done) →
             exec (.entryComplete watch k) s = .next ((t.runList watch).settleList watch)))

/-- R474 to R476: FAULT_REPLAY of a record that is pending and replayable completes with OK: it frees the record and starts over
every access that waits on it, in their order, a walk of its own for each, and for the control processor's own accesses the next try; after a refused
write the TLBs' entries of the refusing leaf are dropped, so that the access walks afresh (a reading: log 116); a record that is
not pending, or is not replayable, is BAD_STATE. -/
def Obligations.FaultReplayCommand : Prop :=
  ∀ (s : State) (n : Nat), s.has n 0x0401 = true →
    let c := s.namedCtx n (s.arg n 0)
    (faultSlotOf c (s.arg n 1) = none → exec (.faultReplay n) s = endsWith s n stBadArg [])
    ∧ (∀ i, faultSlotOf c (s.arg n 1) = some i →
      let r := s.faultSlot c i
      let freed := s.putFault c i (r.set 0 (nth r 0 0 &&& 0x7FFFFFFFFFFFFFFF))
      let mine := fun (w : FaultWait) => w.ctx == c && w.slot == i
      let t := freed.setXlat { freed.xlat with waits := s.xlat.waits.filter fun w => !(mine w) }
      ((faultPending r = false ∨ (nth r 0 0).getLsbD 62 = false) → exec (.faultReplay n) s = endsWith s n stBadState [])
      ∧ (faultPending r = true → (nth r 0 0).getLsbD 62 = true →
          exec (.faultReplay n) s =
            endsWith ((s.xlat.waits.filter mine).foldl State.restartWait
              (if fieldNat (nth r 0 0) 59 56 = 2 then t.dropLeaf c (nth r 7 0).toNat else t)) n stOk []))
    ∧ (∀ w : FaultWait, ∀ t : State,
        (∀ r k, w.req.who = .lane r k → t.restartWait w = t.askWalk w.req)
        ∧ (∀ b k x, w.req.who = .copy b k x → t.restartWait w = t.askWalk w.req)
        ∧ (∀ b g k x, w.req.who = .engine b g k x → t.restartWait w = t.askWalk w.req)
        ∧ (∀ ctx slot, w.req.who = .coll ctx slot → t.restartWait w = t.driveColl ctx slot)
        ∧ (∀ watch k x p e, w.req.who = .entry watch k x → t.pass watch = some p → p.entries[k]? = some e → e.phase ≠ .waiting →
            t.restartWait w = t.putPass (p.putEntry k { e with held := false })))
/-! ### Power and the plumb clock -/

/-- R640, R643, R724 to R726, R736, R737, R742, R743, R168: the power commands, the HINT entry and a write of PWR_CTRL, in
every case: the limits are kept for the mailbox's side, a mode is entered, a hint is registered or counted as late or dropped,
a group is joined at the stake and left at once. -/
def Obligations.PowerCommands : Prop :=
  ∀ (s : State) (n : Nat),
    let a := s.arg n
    (s.has n 0x0A00 = true → exec (.pwrSetLimit n) s = endsWith (s.setPwr
      (if n = 63 then { s.pwr with sustM := a 0, peakM := a 1 } else { s.pwr with sustK := a 0, peakK := a 1 })) n 0 [])
    ∧ (s.has n 0x0A02 = true → ∃ t, exec (.pwrMode n) s = endsWith t n 0 []
        ∧ t.pwr.critMode = decide (a 0 = 1) ∧ t.pwr.critical = decide (a 1 = 1)
        ∧ (a 0 = 1 → s.pwr.critMode = false → t.joined.group = none ∧ t.joined.notices = [] ∧ t.stepStaked = false)
        ∧ (¬ (a 0 = 1 ∧ s.pwr.critMode = false) → t.joined = s.joined ∧ t.stakes = s.stakes)
        ∧ t.mem = s.mem ∧ t.ctxs = s.ctxs ∧ t.time = s.time)
    ∧ (∀ heavy phase owner,
        (16 ≤ s.pwr.hints.length → s.registerHint heavy phase owner =
          (s.setPwr { s.pwr with hintsDropped := (s.pwr.hintsDropped + 1) % 2 ^ 16 }, false))
        ∧ (s.pwr.hints.length < 16 → phase ≤ s.time.mt → s.registerHint heavy phase owner =
          (s.setPwr { s.pwr with
            hintsLate := (s.pwr.hintsLate + 1) % 2 ^ 16,
            heldHints := if heavy = true then (phase, false) :: s.pwr.heldHints
                         else s.pwr.heldHints.filter fun h => decide (phase < h.1) }, true))
        ∧ (s.pwr.hints.length < 16 → s.time.mt < phase → ∃ t alloc, s.registerHint heavy phase owner = (t, true)
            ∧ (∃ l, t.pwr.hints = l ++ [⟨s.pwr.nextHint, heavy, phase, s.time.mt, alloc⟩])
            ∧ (alloc = none → ⟨phase, .hintPhase s.pwr.nextHint, false⟩ ∈ t.stakes.timers)))
    ∧ (s.has n 0x0A01 = true → ∀ t ok, s.registerHint (decide (a 0 % 2 = 1)) (a 1) (s.mailboxOwner n) = (t, ok) →
        exec (.pwrHint n) s = endsWith t n (if ok = true then 0 else stNoResource) [])
    ∧ (∀ watch k p e, s.runningEntry watch k 7 = some (p, e) →
        (1000 < e.word 3 → exec (.hint watch k) s = .next (s.endEntry watch k stBadArg 0))
        ∧ (e.word 3 ≤ 1000 → ∀ t ok, s.registerHint (decide (e.word 2 % 2 = 1)) (e.startMt + 8000 * e.word 3)
              (.context p.ctx) = (t, ok) →
            exec (.hint watch k) s = .next (t.endEntry watch k (if ok = true then stOk else stNoResource) 0)))
    ∧ (∀ v : Word, s.hostUp = true → exec (.noncritWrite v) s = .next
        (if 1500 ≤ v.toNat % 2 ^ 16 ∧ v.toNat % 2 ^ 16 ≤ 4200 then s.setPwr { s.pwr with noncrit := v.toNat % 2 ^ 16 } else s))
    ∧ (s.has n 0x0703 = true →
        ((s.joined.group ≠ none ∨ s.joined.joining ≠ none ∨ s.pwr.critMode = true) →
          exec (.plumbJoin n) s = endsWith s n stBadState [])
        ∧ (s.joined.group = none → s.joined.joining = none → s.pwr.critMode = false →
          let t := s.setJoined { s.joined with joining := some (n, a 0 % 2 ^ 16, a 1), notices := [] }
          exec (.plumbJoin n) s =
            .next ((t.stakeOrTimer 0xE 2 (a 1) (s.mailboxOwner n) (.plumbJoin (a 0 % 2 ^ 16))).1.begin_ n)))
    ∧ (s.has n 0x0704 = true →
        (s.joined.group = some (a 0 % 2 ^ 16) → ∃ t, exec (.plumbLeave n) s = endsWith t n 0 []
          ∧ t.joined.group = none ∧ t.joined.notices = [] ∧ t.pwr.clock = s.pwr.clock ∧ t.mem = s.mem)
        ∧ (s.joined.group = none → s.joined.joining = none → exec (.plumbLeave n) s = endsWith s n stBadState []))

/-- R639, R641 to R646, R718, R719, R722, R723, R729 to R732, R739, R745, R746: the power events: a sample moves the averages
and the energy, a poll the readings; a fallen input and a held clock gate; the clock takes steps of at most 100 MHz; a notice
is originated once every 4 ms and leaves 10 ms after its stake; the energy of a millisecond is apportioned whole. -/
def Obligations.PowerEvents : Prop :=
  ∀ (s : State),
    (∀ vin watts load busy cycles, s.conn.phase ≠ .off → ∃ t, exec (.powerSample vin watts load busy cycles) s = .next t
        ∧ t.pwr.vin = vin % 2 ^ 16 ∧ t.pwr.energy = (s.pwr.energy + watts) % 2 ^ 64
        ∧ t.pwr.samples = (watts :: s.pwr.samples).take 100000
        ∧ t.pwr.p10us = averageOf 10 t.pwr.samples % 2 ^ 16 ∧ t.pwr.p1ms = averageOf 1000 t.pwr.samples % 2 ^ 16
        ∧ t.pwr.p100ms = averageOf 100000 t.pwr.samples % 2 ^ 16
        ∧ ((s.running = false ∨ s.joined.group ≠ none ∧ s.pwr.critMode = false) →
            t.mem = s.mem ∧ t.compute = s.compute ∧ t.mbxs = s.mbxs ∧ t.stakes = s.stakes))
    ∧ (∀ readings, s.running = true → exec (.pmbusPoll readings) s = .next (s.setPwr { s.pwr with readings }))
    ∧ (s.running = true → ∃ t, exec .inputUndervoltage s = .next t ∧ t.pwr.inputLow = some s.time.mt
        ∧ t.pwr.reason.getLsbD 3 = true ∧ t.pwr.gates.length = 8 ∧ (∀ g ∈ t.pwr.gates, g < 64)
        ∧ t.pwr.vin = s.pwr.vin
        ∧ (s.joined.group ≠ none → s.pwr.critMode = false → t.mem = s.mem ∧ t.mbxs = s.mbxs ∧ t.stakes = s.stakes))
    ∧ (s.running = true → (s.joined.group = none ∨ s.pwr.critMode = true) → s.pwr.target < s.pwr.required →
        s.pwr.lastLower + 80000000 ≤ s.time.mt → ∃ t, exec .targetRestore s = .next t ∧ t.pwr.target = s.pwr.required
          ∧ (s.stepStaked = true → t.pwr.clock = s.pwr.clock)
          ∧ (s.stepStaked = false → s.pwr.clock ≤ s.pwr.required →
              t.pwr.clock = min (s.pwr.clock + 100) s.pwr.required))
    ∧ (∀ m, s.stepDue = some m → m ≤ s.time.mt →
        exec .clockStep s = .next (s.clockStep m)
        ∧ (s.clockStep m).pwr.target = s.pwr.target
        ∧ (s.clockStep m).pwr.clock =
            (if s.pwr.clock < s.pwr.target then min (s.pwr.clock + 100) s.pwr.target
             else max (s.pwr.clock - 100) s.pwr.target))
    ∧ (∀ g, s.joined.group = some g → s.pwr.required < 1400 → s.pwr.critMode = false →
        (∀ m, s.joined.lastThrottle = some m → m + 32000000 ≤ s.time.mt) →
        ∃ t, exec .throttleOriginate s = .next t ∧ t.pwr.throttles = (s.pwr.throttles + 1) % 2 ^ 16
          ∧ t.joined.lastThrottle = some s.time.mt ∧ t.joined.nseq = (s.joined.nseq + 1) % 2 ^ 32
          ∧ (s.fab.node, s.joined.nseq) ∈ t.joined.seen
          ∧ (∃ x ∈ t.joined.notices, x.group = g ∧ x.origin = s.fab.node ∧ x.originMt = s.time.mt
              ∧ x.stake = s.time.mt + 160000 ∧ x.nseq = s.joined.nseq ∧ x.clock = s.pwr.required))
    ∧ (∀ x ∈ s.joined.notices, (∀ y ∈ s.joined.notices, y.origin = x.origin → y.nseq = x.nseq → y = x) →
        (s.time.mt < x.stake + 80000000 → exec (.throttleExpiry x.origin x.nseq) s = .next s)
        ∧ (x.stake + 80000000 ≤ s.time.mt → ∃ t, exec (.throttleExpiry x.origin x.nseq) s = .next t
            ∧ t.joined.notices = s.joined.notices.filter (fun y => !(y.origin == x.origin && y.nseq == x.nseq))
            ∧ (s.joined.group = none ∨ x.applied = false → t.pwr = s.pwr)
            ∧ (s.joined.group ≠ none → x.applied = true →
                t.pwr.target = lowestClock (t.joined.notices.filter fun y => y.applied && y.active s.time.mt)
                ∨ t.pwr = s.pwr ∧ s.pwr.target = lowestClock (t.joined.notices.filter fun y => y.applied && y.active s.time.mt))))
    ∧ (exec .heavyHandoverTimeout s = .next (s.setPwr { s.pwr with
        heldHints := s.pwr.heldHints.filter fun h => h.2 || decide (s.time.mt < h.1 + 8000000) }))
    ∧ (s.running = true → s.pwr.msIndex ≠ s.time.mt / 8000000 → s.ctxs.length = 64 → ∃ t, exec .energyApportion s = .next t
        ∧ t.pwr.msEnergy = 0 ∧ t.pwr.msIndex = s.time.mt / 8000000
        ∧ (let weights := (List.range 64).map s.intervalWeight
          let share := fun c => if weights.sum = 0 then 0 else s.pwr.msEnergy * nth weights c 0 / weights.sum
          (∀ c < 64, (t.ctx c).acct.energyUj = (if share c = 0 then (s.ctx c).acct.energyUj
            else ((s.ctx c).acct.energyUj + share c) % 2 ^ 64))
          ∧ t.pwr.unapp = (s.pwr.unapp + (s.pwr.msEnergy - ((List.range 64).map share).sum)) % 2 ^ 64)
        ∧ t.mem = s.mem ∧ t.mbxs = s.mbxs)

/-! ### Start-up, reset and the parts that fail -/

/-- What a module reset leaves of `s` in `t`: the fused and recorded parts of flash and of the always-on domain, and nothing of
the rest (R17, R749, R769, R823). -/
def afterReset (s t : State) : Prop :=
  t.conn.phase = .inReset ∧ t.conn.resetN = s.conn.resetN ∧ t.mbxs = State.reset.mbxs ∧ t.ctxs = State.reset.ctxs
  ∧ t.ids = State.reset.ids ∧ t.time = State.reset.time ∧ t.stakes = State.reset.stakes ∧ t.abaom = State.reset.abaom
  ∧ t.compute = State.reset.compute ∧ t.xlat = State.reset.xlat ∧ t.coh = State.reset.coh ∧ t.joined = State.reset.joined
  ∧ t.pwr = State.reset.pwr ∧ t.fab = { State.reset.fab with slot := s.fab.slot } ∧ t.mem.hbm = [] ∧ t.mem.repairs = s.mem.repairs
  ∧ t.monu.flash = s.monu.flash ∧ t.monu.items = [] ∧ t.trust.slot = s.trust.slot ∧ t.trust.minSvn = s.trust.minSvn
  ∧ t.trust.revoke = s.trust.revoke ∧ t.trust.nextIndex = s.trust.nextIndex ∧ t.trust.log = [] ∧ t.trust.image = none
  ∧ t.share.tiles = s.share.tiles ∧ t.share.localNext = s.share.localNext ∧ t.pending = s.pending
  ∧ t.obs.aon = State.reset.obs.aon
  ∧ (∀ (k : Nat) (u : TraceUnit), s.obs.units[k]? = some u → ∃ v : TraceUnit, t.obs.units[k]? = some v ∧ v.frozen = true ∧ v.st = .off
      ∧ v.sram = u.sram.drop u.lgNext ++ u.sram.take u.lgNext)

/-- R17, R47, R49, R52, R56, R68, R70, R71, R74, R75, R138, R149, R152, R166, R469, R562, R601, R723, R793, R808, R824: what
the registers read as after a module reset, from whatever state, each with the reset value of its field map. (R823 keeps FROZEN
set for the records of before; FAB_MAC and the counters are the part's, log 7.) -/
def Obligations.ResetValues : Prop :=
  ∀ (s : State), s.conn.phase ≠ .off → ∃ t, exec .resetAssert s = .next t
    ∧ (∀ p ∈ [(0x0, 0x545A010820000000), (0x8, 0), (0x10, 0), (0x18, 0), (0x100008, 0xFFFF), (0x100010, 0), (0x100018, 0xFF0000),
        (0x100020, 3), (0x100028, 0), (0x200000, 0), (0x200008, 0), (0x300000, 0x0578057800000000), (0x300008, 0),
        (0x300010, 0), (0x300018, 0), (0x300020, 0x106812C0106812C0), (0x300028, 0xBB8), (0x300030, 0), (0x300038, 0),
        (0x480080, 0), (0x490000, 0x88B5B2E500400000), (0x490008, 0), (0x490018, 0), (0x490020, 0), (0x4A0800, 0),
        (0x500180, 0), (0x500188, 0), (0x600000, 0), (0x600008, 3), (0x600010, 0)],
        t.ctrlRead p.1 = some p.2)
    ∧ (∀ d < 8, t.ctrlRead (0x40 + 8 * d) = some 0)
    ∧ (∀ p < 32, t.ctrlRead (0x100080 + 8 * p) = some 0 ∧ t.ctrlRead (0x490100 + 8 * p) = some 0
        ∧ t.ctrlRead (0x490200 + 8 * p) = some 0)
    ∧ (∀ n < 64, t.mbxPage n 0 = some 0 ∧ t.mbxPage n 0x10 = some 0 ∧ (n ≠ 63 → t.mbxPage n 0x20 = some 0))
    ∧ (∀ u < 9, u < s.obs.units.length → t.ctrlRead (0x500000 + 8 * u) = some 0x0800000000000000)

/-- R17, R62, R719, R749, R753, R759, R769, R823, R831, R832, R837, R840, R841: power, the reset pin and what resets the
module, and where each leads: to reset, through the checks of the image to waiting for time or to recovery, and from the end
of port training to the delay exchange or to Ready; start-up leaves the route tables drawn over the live base dies (R33). -/
def Obligations.StartAndReset : Prop :=
  ∀ (s : State) (found : StartInputs),
    (∀ slot, s.conn.phase = .off →
      let t := (s.setConn { s.conn with phase := .inReset, slotPins := slot % 256 }).setFab { s.fab with slot := slot % 256 }
      exec (.powerOn slot found) s = .next (if s.conn.resetN = true then t.boot found else t))
    ∧ (s.conn.phase ≠ .off → ∃ t, exec .powerLoss s = .next t ∧ t.conn.phase = .off ∧ t.mbxs = State.reset.mbxs
        ∧ t.ctxs = State.reset.ctxs ∧ t.mem.hbm = [] ∧ t.mem.repairs = s.mem.repairs ∧ t.trust.slot = s.trust.slot
        ∧ t.trust.revoke = s.trust.revoke ∧ t.trust.minSvn = s.trust.minSvn ∧ t.trust.idx = s.trust.idx
        ∧ t.trust.idxCopy = none ∧ t.fab.slot = 0 ∧ t.conn.receiver = none ∧ t.conn.events = [] ∧ t.pending = s.pending
        ∧ (∀ u ∈ t.obs.units, u.frozen = false))
    ∧ (s.conn.phase ≠ .off → ∃ t, exec .resetAssert s = .next t
        ∧ afterReset { s with conn := { s.conn with resetN := false } } t
        ∧ (t.conn.tripped = true ↔ s.conn.tripped = true ∧ ¬ s.cool = true))
    ∧ (s.conn.phase = .inReset → s.conn.tripped = false →
        exec (.resetRelease found) s = .next ((s.setConn { s.conn with resetN := true }).boot found))
    ∧ ((s.conn.phase ≠ .inReset ∨ s.conn.tripped = true) →
        exec (.resetRelease found) s = .next (s.setConn { s.conn with resetN := true }))
    ∧ (s.conn.phase ≠ .off → ∃ t, exec .inputFaultReset s = .next t ∧ afterReset s t ∧ t.conn.tripped = s.conn.tripped)
    ∧ (s.conn.phase ≠ .off → ∃ t, exec .thermalTrip s = .next t ∧ afterReset s t ∧ t.conn.tripped = true)
    ∧ (s.trust.slotBad = false →
        let read := fun off n => cellRead s.trust.slot off n
        let t := s.boot found
        (∀ k, s.imageCheck read found.flashError = some k → t.conn.phase = .recovering
          ∧ (∃ r, t.trust.recovery = some r ∧ r.reason = k ∧ r.since = s.time.mt) ∧ t.trust.image = s.trust.image)
        ∧ (s.imageCheck read found.flashError = none → t.trust.image = some (runImage read) ∧ t.trust.booted = true
          ∧ t.trust.recovery = none ∧ t.conn.railsUp = true ∧ t.stakes.fwRuns = true
          ∧ (t.conn.phase = .timeWait ∨ t.conn.phase = .failed)
          ∧ (t.conn.phase = .failed → t.ids.baseLive = 0 ∨ t.ids.procLive = 0)
          ∧ t.ids.routes = routeTables t.linkInUse t.ids.baseLive
          ∧ t.trust.revoke.getLsbD (runImage read).keySlot = s.trust.revoke.getLsbD (runImage read).keySlot))
    ∧ (s.conn.phase = .training →
        (s.conn.trainFrom + 24000000000 ≤ s.time.mt ∨ (∀ p ∈ s.fab.ports, p.st ≠ .training)) →
        ∃ t, exec .portTrainingDeadline s = .next t
          ∧ t.fab.ports = s.fab.ports.map (fun p => if p.st = .training then { p with st := .down } else p)
          ∧ ((∀ p < 32, ∀ x, s.fab.ports[p]? = some x → x.st ≠ .up) → t.conn.phase = .ready ∧ t.time = s.time)
          ∧ (t.livePorts ≠ [] → t.conn.phase = .exchanging
              ∧ ∃ r, t.time.meas = some r ∧ r.ports = t.livePorts ∧ r.want = 64 ∧ r.sent = 0 ∧ r.start = s.time.mt))

/-- R24, R50 to R55, R604, R715, R719, R800, R834, R836: a rail that fails takes its part out of service, and with it what
that part carries, or resets the module; a cluster that fails takes itself and the contexts with blocks on it; each is told to
the management controller where it is a rail. R32 to R34: routes are redrawn when a base die leaves service and at no other loss,
and a path through the package passes over base dies alone, so that the hub and the processor dies forward nothing. -/
def Obligations.PartsFail : Prop :=
  ∀ (s : State),
    (s.conn.phase ≠ .off → exec (.railFault .standby) s = .next s.standbyFalls)
    ∧ (s.conn.phase ≠ .off → s.conn.railsUp = true → ∀ r, r ≠ .standby → railExists r = true →
        ∃ t, exec (.railFault r) s = .next t
          ∧ (∃ l, t.conn.events = l ++ [⟨0x60, 1, s.conn.nextEvent⟩])
          ∧ t.conn.nextEvent = s.conn.nextEvent + 1
          ∧ ((r = .hub ∨ r = .flash) → t.conn.phase = .inReset ∧ t.mbxs = State.reset.mbxs ∧ t.mem.hbm = [])
          ∧ (∀ d, r = .compute d → r ∈ t.conn.faulted ∧ t.ids.computeLive.getLsbD d = false
              ∧ t.ids.baseLive = s.ids.baseLive ∧ t.ids.routes = s.ids.routes ∧ nth t.ids.clusterLive d 0 = 0)
          ∧ (∀ d, (r = .base d ∨ r = .memory d) → r ∈ t.conn.faulted ∧ t.ids.baseLive.getLsbD d = false
              ∧ t.ids.routes = routeTables s.linkInUse t.ids.baseLive
              ∧ t.ids.computeLive.getLsbD d = false ∧ t.ids.stackLive.getLsbD (2 * d) = false
              ∧ t.ids.stackLive.getLsbD (2 * d + 1) = false ∧ (∀ c < 64, (t.ctx c).st ≠ .opened))
          ∧ (∀ p, r = .proc p → r ∈ t.conn.faulted ∧ t.ids.procLive.getLsbD p = false ∧ t.ids.baseLive = s.ids.baseLive
              ∧ t.ctxs = s.ctxs)
          ∧ (∀ k, r = .optical k → s.fab.ports.length = 32 → r ∈ t.conn.faulted ∧ t.ids.optLive.getLsbD k = false
              ∧ (∀ i < 8, (t.port (8 * k + i)).st = .down)))
    ∧ (∀ a b l, s.diePath a b = some l → ∀ x ∈ l.tail.dropLast, x < 8)
    ∧ (∀ c < 192, s.ids.clusterLive.length = 8 → ∃ t, exec (.clusterFault c) s = .next t
        ∧ (nth t.ids.clusterLive (c / 24) 0).getLsbD (c % 24) = false
        ∧ (∀ k, k ≠ c % 24 → (nth t.ids.clusterLive (c / 24) 0).getLsbD k = (nth s.ids.clusterLive (c / 24) 0).getLsbD k)
        ∧ t.ids.baseLive = s.ids.baseLive
        ∧ ((∀ b ∈ s.compute.blocks, b.cluster ≠ c) → t.ctxs = s.ctxs ∧ t.compute = s.compute ∧ t.mem = s.mem))

/-- R124, R555 to R559, R561, R562, R707, R789 to R799: DIE_SERVICE, STACK_REPAIR and what the links and the windows count, as
each goes: a service runs when none does, drains, and returns the die with the clusters that passed; a repair moves a row to a
spare of its bank or fences it; a bundle with more than 64 replays in a millisecond retrains, and its modes are chosen anew. -/
def Obligations.ServiceAndRepair : Prop :=
  ∀ (s : State),
    (∀ n, s.has n 0x0D00 = true → s.dies.service = none → s.dies.serviceQueue = [] →
      let d := s.arg n 0 % 8
      (s.ids.baseLive.getLsbD d = false → exec (.dieService n) s =
        endsWith ((s.begin_ n).setDies { s.dies with serviceQueue := [] }) n stHwFault [])
      ∧ (s.ids.baseLive.getLsbD d = true → exec (.dieService n) s = .next
        ((((s.begin_ n).setDies { s.dies with serviceQueue := [] }).setIds { s.ids with
          computeLive := s.ids.computeLive &&& ~~~(BitVec.twoPow 8 d) }).setDies { s.dies with
            serviceQueue := [], service := some ⟨n, d, s.ids.computeLive.getLsbD d, s.takenAt n⟩ })))
    ∧ (∀ r passed linkOk stop, s.dies.service = some r →
      ((∃ b ∈ s.compute.blocks, b.cluster / 24 = r.tile) → exec (.dieServiceDrained passed ⟨linkOk, stop⟩) s = .next s)
      ∧ ((∀ b ∈ s.compute.blocks, b.cluster / 24 ≠ r.tile) → s.dies.serviceQueue = [] → r.tile < 8 →
        s.ids.clusterLive.length = 8 → ∃ t, exec (.dieServiceDrained passed ⟨linkOk, stop⟩) s = .next t
          ∧ t.dies.service = none ∧ t.mem = s.mem ∧ t.ctxs = s.ctxs
          ∧ (∀ e ∈ t.xlat.tlb, e.place / 24 ≠ r.tile) ∧ (∀ x ∈ t.xlat.l1, x.entry.place / 24 ≠ r.tile)
          ∧ (∀ c ∈ t.compute.bmem, c.1 / 2 ^ 21 / 24 ≠ r.tile)
          ∧ (linkOk = true → s.ids.baseLive.getLsbD r.tile = true → passed % 2 ^ 24 ≠ 0 →
              t.ids.computeLive.getLsbD r.tile = true ∧ nth t.ids.clusterLive r.tile 0 = BitVec.ofNat 24 passed)
          ∧ (linkOk = false → nth t.ids.clusterLive r.tile 0 = 0)))
    ∧ (∀ r, s.dies.service = some r → (∃ b ∈ s.compute.blocks, b.cluster / 24 = r.tile) → r.take + 96000000000 ≤ s.time.mt →
      s.dies.serviceQueue = [] → r.tile < 8 → ∃ t, exec .dieServiceTimeout s = .next t
        ∧ t.dies.service = none ∧ t.compute = s.compute ∧ t.ids.clusterLive = s.ids.clusterLive
        ∧ (r.wasLive = true → s.ids.baseLive.getLsbD r.tile = true → t.ids.computeLive.getLsbD r.tile = true)
        ∧ (∀ c, r.mbx < s.mbxs.length → (s.mbx r.mbx).cmd = some c →
            (t.mbx r.mbx).st = .done ∧ (t.mbx r.mbx).status = stTimeout))
    ∧ (∀ n, s.has n 0x0D01 = true → s.arg n 0 / 16 % 16 = 0 → s.arg n 0 / 2 ^ 13 % 8 = 0 → s.arg n 0 / 2 ^ 17 = 0 →
      s.arg n 1 / 2 ^ 14 % 4 = 0 → s.arg n 1 / 2 ^ 21 = 0 → s.ids.stackLive.getLsbD (s.arg n 0 % 16) = true →
      s.mem.repairing = none → s.mem.repairQueue = [] →
      let r : RepairRun := ⟨n, s.arg n 0 % 16, s.arg n 0 / 256 % 32, s.arg n 0 / 65536 % 2, s.arg n 1 / 65536 % 32, s.arg n 1 % 2 ^ 14⟩
      (s.sparesUsed r < 2 → ∃ t, exec (.stackRepair n) s = .next t ∧ t.mem = { s.mem with repairing := some r })
      ∧ (2 ≤ s.sparesUsed r → ∃ t, exec (.stackRepair n) s = endsWith t n stHwFault []
        ∧ t.mem.repairs = s.mem.repairs ++ [⟨r.stack, r.channel, r.pseudo, r.bank, r.row, true⟩] ∧ t.mem.hbm = s.mem.hbm))
    ∧ (∀ r compareOk errors, s.mem.repairing = some r →
      ((∃ q ∈ s.mem.reqs, q.tracked = true ∧ (s.linePlace q.line).stack = r.stack ∧ (s.linePlace q.line).channel = r.channel) →
        exec (.stackRepairDrained ⟨compareOk, errors⟩) s = .next s)
      ∧ (s.mem.reqs = [] → s.mem.repairQueue = [] → ∃ t, exec (.stackRepairDrained ⟨compareOk, errors⟩) s = .next t
        ∧ t.mem.repairing = none
        ∧ ((∀ e : SectorErrors, e ∈ errors → (e.first.filter (· < 36)).eraseDups.length ≤ 3 ∧ (e.second.filter (· < 36)).eraseDups.length ≤ 3) →
            t.mem.hbm = s.mem.hbm)
        ∧ t.mem.repairs = s.mem.repairs ++ [⟨r.stack, r.channel, r.pseudo, r.bank, r.row, !compareOk⟩]
        ∧ (∀ c, r.mbx < s.mbxs.length → (s.mbx r.mbx).cmd = some c →
            (t.mbx r.mbx).st = .done ∧ (t.mbx r.mbx).status = (if compareOk = true then stOk else stHwFault))))
    ∧ (∀ d p b x, d < 8 → p < 5 → (s.dieLink d p).bundles[b]? = some x → (s.dieLink d p).used = true →
      (s.dieLink d p).fenced = false → s.dies.links.length = 40 → ∃ t, exec (.flitReplay d p b) s = .next t
        ∧ (∃ y, (t.dieLink d p).bundles[b]? = some y ∧ y.replays = (x.replays + 1) % 2 ^ 32 ∧ y.badOut = x.badOut
            ∧ y.ms = s.time.mt / 8000000
            ∧ y.msReplays = (if x.ms = s.time.mt / 8000000 then x.msReplays + 1 else 1)
            ∧ (y.msReplays ≤ 64 → y.retraining = x.retraining))
        ∧ t.mem = s.mem ∧ t.ids = s.ids)
    ∧ (∀ (f : LaneFaults) ownFails farFails x, f.tile < 8 → f.port < 5 →
      (s.dieLink f.tile f.port).bundles[f.bundle]? = some x → x.retraining = true → s.dies.links.length = 40 →
      (x.withBad (x.badOut ||| f.out) (x.badIn ||| f.inn)).mode ≠ .failed →
      ∃ t, exec (.bundleRetrain f ownFails farFails) s = .next t
        ∧ (∃ y, (t.dieLink f.tile f.port).bundles[f.bundle]? = some y ∧ y.badOut = x.badOut ||| f.out
            ∧ y.badIn = x.badIn ||| f.inn ∧ y.modeOut = modeOf (x.badOut ||| f.out) ∧ y.modeIn = modeOf (x.badIn ||| f.inn)
            ∧ y.msReplays = 0 ∧ y.retraining = false)
        ∧ (t.dieLink f.tile f.port).retrains = ((s.dieLink f.tile f.port).retrains + 1) % 2 ^ 32 ∧ t.ids = s.ids)
    ∧ (∀ full empty clashes, ∃ t, exec (.saturationWindow full empty clashes) s = .next t
      ∧ t.mem.busyLast = s.mem.busy ∧ t.mem.hbm = s.mem.hbm ∧ t.share.resident = []
      ∧ (∀ i v, s.mem.full[i]? = some v → t.mem.full[i]? = some ((v + nth full i 0) % 2 ^ 64))
      ∧ (∀ i v, s.mem.swi[i]? = some v → t.mem.swi[i]? = some
          (if 512 ≤ nth full i 0 ∧ 2 * s.mem.moved i * s.pwr.clock < 2048000 * 1024 then (v + 1) % 2 ^ 64 else v))
      ∧ (∀ i v, s.mem.linkSat[i]? = some v → t.mem.linkSat[i]? = some (if 512 ≤ nth empty i 0 then (v + 1) % 2 ^ 32 else v))
      ∧ (∀ (c : Nat) x, s.ctxs[c]? = some x → t.ctxs[c]? = some
          (if x.st = .opened ∧ (c ∈ s.share.resident ∨ ∃ b ∈ s.compute.blocks, b.ctx = c) then
            { x with acct := x.acct.judged (clashes.find? fun k => k.ctx == c) } else x)))

/-- R538, R539, R550, R552, R553, R562, R698, R699, R854: what the memory controllers and the regulators do of themselves: a read
that has waited 8 µs becomes critical, a patrol read corrects a sector in whose codewords at most one symbol of each is bad and writes it back, and
poisons one with a codeword of two or three (R549), a refresh closes a row (a reading: log 118),
a scheduler issues a read of the highest class, one of an open row first, and a bucket lets its oldest waiter pass when its
level reaches the size. -/
def Obligations.MemoryEvents : Prop :=
  ∀ (s : State),
    (∀ r ∈ s.mem.reqs, r.write = false → (r.cls = .bulk ∨ r.cls = .background) → r.since + 64000 ≤ s.time.mt →
      ∃ t, exec (.readAgePromote r.id) s = .next t
        ∧ (∃ q ∈ t.mem.reqs, q.id = r.id ∧ q.line = r.line ∧ q.cls = .crit) ∧ t.mem.hbm = s.mem.hbm ∧ t.mbxs = s.mbxs)
    ∧ (∀ e : SectorErrors, s.inHbm (e.sector * 64) 64 = true → ∃ t, exec (.patrolScrub e.sector ⟨e.first, e.second⟩) s = .next t
      ∧ (let bad := fun (l : List Nat) => (l.filter (· < 36)).eraseDups.length
        (bad e.first ≤ 3 → bad e.second ≤ 3 →
          (e.sector ∈ t.mem.poison ↔ e.sector ∈ s.mem.poison ∨ 2 ≤ bad e.first ∨ 2 ≤ bad e.second)
          ∧ (∀ a, cellGet t.mem.hbm a = cellGet s.mem.hbm a))
        ∧ (bad e.first ≤ 1 → bad e.second ≤ 1 → 1 ≤ bad e.first + bad e.second →
          (s.mem.errValid = false → t.mem.errValid = true ∧ t.mem.errKind = 1)
          ∧ ∃ q ∈ t.mem.reqs, q.line = e.sector / 4 ∧ q.write = true ∧ q.cls = .background)
        ∧ (bad e.first ≤ 3 → bad e.second ≤ 3 → (2 ≤ bad e.first ∨ 2 ≤ bad e.second) → e.sector ∉ s.mem.poison →
          s.mem.errValid = false → t.mem.errValid = true ∧ t.mem.errKind = 2))
      ∧ (∀ k, k ≠ e.sector → (k ∈ t.mem.poison ↔ k ∈ s.mem.poison))
      ∧ (∀ a, a / 64 ≠ e.sector → cellGet t.mem.hbm a = cellGet s.mem.hbm a)
      ∧ t.ctxs = s.ctxs)
    ∧ (∀ stack channel pseudo bank, s.ids.stackLive.getLsbD stack = true → channel < 32 → pseudo < 2 → bank < 32 →
      let x := s.pseudoOf ⟨stack, channel, pseudo, bank, 0, 0⟩
      let t := s.putPseudo { x with rows := x.rows.filter fun b => b.1 != bank }
      exec (.refresh stack channel pseudo bank false) s = .next t
      ∧ exec (.refresh stack channel pseudo bank true) s = .next (t.setMem { t.mem with
          activations := t.mem.activations.filter fun a => !(a.1 == stack && a.2.1 == (channel * 2 + pseudo) * 32 + bank) }))
    ∧ (∀ (x : PseudoChannel) (r : MemReq) (l : List MemReq), x.run < 16 → r.cls = .crit →
      (s.rowOpen x r.line = true → s.nextRead x (r :: l) = some r)
      ∧ ((∀ q ∈ l, q.cls = .crit → s.rowOpen x q.line = false) → s.nextRead x (r :: l) = some r))
    ∧ (∀ (x : PseudoChannel) (l : List MemReq) (r : MemReq), s.nextRead x l = some r →
      r ∈ l ∧ (∀ q ∈ l, r.cls.rank ≤ q.cls.rank)
      ∧ (x.run < 16 → s.rowOpen x r.line = false → ∀ q ∈ l, q.cls = r.cls → s.rowOpen x q.line = false))
    ∧ (∀ p k w l, s.share.waits = w :: l → w.partition = p → w.point = k →
      let b := s.bucket p k
      (b.rate ≠ 0 → b.level < 5 * w.size → exec (.bucketAdmission p k) s = .next s)
      ∧ (b.rate ≠ 0 → 5 * w.size ≤ b.level → ∀ f, w.frame = some f → exec (.bucketAdmission p k) s = .next
          (((s.setShare { s.share with waits := l }).putBucket p k { b with level := b.level - 5 * w.size }).sendOn (k - 16) f))
      ∧ (b.rate ≠ 0 → 5 * w.size ≤ b.level → w.frame = none → exec (.bucketAdmission p k) s = .next
          ((s.setShare { s.share with waits := l }).putBucket p k { b with level := b.level - 5 * w.size }).admitTracked))
/-! ### Mailboxes, registers and management -/

/-- R136, R138, R141 to R148, R152, R857 to R859: what the writes of MBX_HDR and MBX_IRQ do in every state of a mailbox, which
command is taken (the one posted first, of one cycle's the lowest mailbox, where fewer than four run and no pause is asked for) and
what the take does with it, and what the limit of a command does. -/
def Obligations.Mailboxes : Prop :=
  ∀ (s : State) (n : Nat) (v : Word), n < 63 → s.mbxs.length = 64 →
    let m := s.mbx n
    let w := v.toNat
    let got := { m with irq := v.getLsbD 61, argWords := w / 2 ^ 48 % 2 ^ 8, opcode := w / 2 ^ 32 % 2 ^ 16, tag := w % 2 ^ 16 }
    (s.hostUp = true → w / 2 ^ 62 % 4 = 1 → m.st ≠ .busy →
        exec (.mbxPost n v) s = .next (s.putMbx n { got with st := .posted, postOrder := s.abaom.posts }))
    ∧ (s.hostUp = true → w / 2 ^ 62 % 4 = 1 → m.st = .busy → exec (.mbxPost n v) s = .next s)
    ∧ (s.hostUp = true → w / 2 ^ 62 % 4 = 0 → m.st = .posted →
        exec (.mbxWithdraw n v) s = .next (s.putMbx n { got with st := .idle }))
    ∧ (s.hostUp = true → w / 2 ^ 62 % 4 = 0 → m.st = .done →
        exec (.mbxReturnIdle n v) s = .next (s.putMbx n { got with st := .idle }))
    ∧ (s.hostUp = true → exec (.mbxIrqWrite n v) s = .next (s.putMbx n
        (if n = 0 then { m with
            doneEn := v.getLsbD 63, noteEn := v.getLsbD 62, eiid := w / 2 ^ 32 % 2 ^ 11,
            hart := if w % 2 ^ 8 ≤ 143 then w % 2 ^ 8 else m.hart }
          else { m with doneEn := v.getLsbD 63, noteEn := v.getLsbD 62 })))
    ∧ (s.running = true → s.trust.pause = .off → m.st = .posted →
        ((List.range 64).filter fun k => (s.mbx k).st == .busy).length < 4 →
        (∀ k < 64, (s.mbx k).st = .posted → k < n → m.postOrder < (s.mbx k).postOrder) →
        (∀ k < 64, (s.mbx k).st = .posted → n < k → m.postOrder ≤ (s.mbx k).postOrder) →
        let c : TakenCmd := ⟨m.opcode, m.tag, m.irq, m.args.take m.argWords, s.time.mt, false, s.abaom.takes⟩
        let t := (s.setAbaom { s.abaom with takes := s.abaom.takes + 1 }).putMbx n { m with st := .busy, cmd := some c }
        let t := t.heardUpdate n c.opcode
        exec .commandTake s = .next
          (match t.takeCheck n c m.argWords with | none => t.takenEffect n c | some st => t.complete n st []))
    ∧ ((∀ k < 64, (s.mbx k).st ≠ .posted) ∨ s.trust.pause ≠ .off
          ∨ 4 ≤ ((List.range 64).filter fun k => (s.mbx k).st == .busy).length → exec .commandTake s = .next s)
    ∧ (∀ c, m.st = .busy → m.cmd = some c →
        (s.time.mt < s.limitOf n c → exec (.commandTimeout n) s = .next s)
        ∧ (s.limitOf n c ≤ s.time.mt → c.opcode ≠ 0x0503 → ∃ t, exec (.commandTimeout n) s = endsWith t n stTimeout []
            ∧ t.mbxs = s.mbxs ∧ t.mem.hbm = s.mem.hbm ∧ t.ctxs = s.ctxs ∧ t.fab = s.fab
            ∧ (c.opcode = 0x0501 → t.stakes.reqs = s.stakes.reqs.filter fun r => r.mbx != n)
            ∧ (c.opcode = 0x0601 → ∀ k old, s.xlat.tieUndo.find? (fun u => u.1 == n) = some (n, k, old) →
                (t.xlat.ties.find? fun e => e.1 == k) = (old.filter fun w => (s.ctx w.ctx).st == .opened).map fun w => (k, w))
            ∧ (c.opcode = 0x0B03 → ∀ x, s.trust.session = some x → x.mbx = n →
                t.trust.session = none ∧ t.trust.slotBad = (s.trust.slotBad || s.slotWriting) ∧ t.trust.slot = s.trust.slot)
            ∧ (c.opcode = 0x0D00 → ∀ r, s.dies.service = some r → r.mbx = n → t.dies.service = none)
            ∧ (c.opcode ∉ [0x0400, 0x0501, 0x0601, 0x0700, 0x0703, 0x0B00, 0x0B03, 0x0C00, 0x0D00, 0x0D01] → t = s))
        ∧ (s.limitOf n c ≤ s.time.mt → c.opcode = 0x0503 → ∃ t, exec (.commandTimeout n) s = .next t
            ∧ (t.mbx n).st = .done ∧ (t.mbx n).status = stTimeout ∧ t.ctxs = s.ctxs
            ∧ (∀ r, s.time.run = some r → r.mbx = some n → r.phase ≠ .applying → r.phase ≠ .held →
                t.time.st = .unaligned ∧ t.time.run = none)))

/-- R193, R195 to R198, R685 to R688, R710, R841: a claim makes an instance with the next epoch, a beat in time renews its
deadline, and a deadline that passes ends it; the contexts of an instance that ends are torn down: their blocks, watches, stakes and launches go
at once, and when every record and DONE is out, their translations and the accounting; HOST_LOST follows the last of them. -/
def Obligations.HostAndTeardown : Prop :=
  ∀ (s : State),
    (∀ (v : Word) stamp, s.hostUp = true → v.getLsbD 31 = true → ∃ t, exec (.claim v stamp) s = .next t
      ∧ t.abaom.beat.live = true ∧ t.abaom.beat.epoch = (if s.abaom.beat.epoch = 0xFFFF then 1 else s.abaom.beat.epoch + 1)
      ∧ t.abaom.beat.deadline = stamp + 800000000
      ∧ (s.abaom.beat.live = true → ∀ c < 64, (s.ctx c).hostEpoch = s.abaom.beat.epoch → (t.ctx c).st ≠ .opened)
      ∧ (s.abaom.beat.live = false → t.ctxs = s.ctxs)
      ∧ (s.conn.phase = .hostBoot → t.conn.phase = .training ∧ t.conn.trainFrom = s.time.mt)
      ∧ (s.conn.phase ≠ .hostBoot → t.conn.phase = s.conn.phase))
    ∧ (∀ (v : Word) stamp, s.hostUp = true → v.getLsbD 31 = false → v.getLsbD 30 = true →
      (s.abaom.beat.live = true → v.toNat % 2 ^ 16 = s.abaom.beat.epoch → stamp < s.abaom.beat.deadline →
        ∃ t, exec (.beat v stamp) s = .next t
          ∧ t.abaom = { s.abaom with beat := { s.abaom.beat with deadline := stamp + 800000000, last := stamp } }
          ∧ t.time.nearMiss = (if s.abaom.beat.deadline ≤ s.time.mt ∧ s.abaom.beat.deadline < stamp + 52 then (s.time.nearMiss + 1) % 2 ^ 64 else s.time.nearMiss))
      ∧ ((s.abaom.beat.live = false ∨ v.toNat % 2 ^ 16 ≠ s.abaom.beat.epoch ∨ s.abaom.beat.deadline ≤ stamp) →
        exec (.beat v stamp) s = .next (s.setAbaom { s.abaom with
          beat := { s.abaom.beat with stale := min (s.abaom.beat.stale + 1) 0xFF } })))
    ∧ (s.beatArriving = true → exec .hostLossDeadline s = .next s)
    ∧ (s.abaom.beat.live = true → s.abaom.beat.deadline ≤ s.time.mt → s.beatArriving = false → ∃ t, exec .hostLossDeadline s = .next t
      ∧ t.abaom.beat = { s.abaom.beat with live := false }
      ∧ (∀ c < 64, (s.ctx c).hostEpoch = s.abaom.beat.epoch → (t.ctx c).st ≠ .opened)
      ∧ (∀ c < 64, (s.ctx c).hostEpoch ≠ s.abaom.beat.epoch → (t.ctx c).st = (s.ctx c).st))
    ∧ (∀ c cause, c < 64 → c < s.ctxs.length →
      ((s.ctx c).st = .closed → exec (.contextTeardown c cause) s = .next s)
      ∧ ((s.ctx c).st = .tornDown → exec (.contextTeardown c cause) s = .next
          (if (s.ctx c).ending = true ∧ (s.ctx c).tearCycle = s.abaom.posts ∧ cause < (s.ctx c).cause then
            s.putCtx c { s.ctx c with cause } else s))
      ∧ ((s.ctx c).st = .opened → ∃ t, exec (.contextTeardown c cause) s = .next t
        ∧ (t.ctx c).st = .tornDown ∧ (t.ctx c).ending = true
        ∧ ((s.ctx c).exc = none → (t.ctx c).cause = cause)
        ∧ (∀ x, (s.ctx c).exc = some x → (t.ctx c).cause = if x.cycle = s.abaom.posts then min x.cause cause else x.cause)
        ∧ (∀ b ∈ t.compute.blocks, b.ctx ≠ c) ∧ (∀ w ∈ t.abaom.watches, w.ctx ≠ c)
        ∧ (∀ a ∈ t.stakes.allocs, a.owner ≠ .context c)
        ∧ (∀ l ∈ t.joined.launches, l.ctx ≠ c) ∧ (∀ o ∈ t.xlat.tieOps, o.ctx ≠ c)
        ∧ (∀ d, d ≠ c → (t.ctx d).st = (s.ctx d).st) ∧ t.time.mt = s.time.mt ∧ t.pending = s.pending))
    ∧ (∀ c, c < 64 → c < s.ctxs.length → (s.ctx c).ending = true → (∀ p ∈ s.abaom.passes, p.ctx ≠ c) → s.excOut c = false →
      let t := s.endContext c
      (t.ctx c).ending = false ∧ (t.ctx c).endMt = s.time.mt ∧ (∀ e ∈ t.xlat.tlb, e.ctx ≠ c) ∧ (∀ x ∈ t.xlat.l1, x.entry.ctx ≠ c)
        ∧ t.abaom.passes = s.abaom.passes)
    ∧ (∀ l, s.abaom.losses = [l] →
      (s.stillLosing l.epoch = true → s.tellLosses = s)
      ∧ (s.stillLosing l.epoch = false → s.tellLosses =
          (s.setAbaom { s.abaom with losses := [] }).notify [63] 9 stOk 0 l.mt l.flags [l.epoch]))

/-- R57 to R59 (the list holds the bad accesses of one row, in which software may be writing 1 to VALID; others of the same cycle may
have come before): while VALID is clear, or is being cleared, the access of the lowest hart is captured and VALID reads as set, and
OVERRUN is set exactly by a second access; while VALID is set and stays so, OVERRUN is set and the captured fields stay, but that of
the accesses of one cycle the lowest hart's is the one captured. -/
def Obligations.BadAccessCapture : Prop :=
  ∀ (s : State) (l : List CtrlAccess) (a : CtrlAccess) (clearing : Bool), s.hostUp = true → a ∈ l →
    (∀ b ∈ l, b.hart < 144 ∧ b.offset < 2 ^ 32 ∧ s.accessKind b ≠ 0) → (∀ b ∈ l, b = a ∨ a.hart < b.hart) →
    ∃ t, exec (.badAccess l clearing) s = .next t ∧ t.ids.badNow.length = s.ids.badNow.length + l.length
      ∧ { t.ids with badNow := s.ids.badNow } =
        if s.ids.badValid = true ∧ clearing = false then
          if (s.ids.badKind, s.ids.badHart, s.ids.badOffset) ∈ s.ids.badNow ∧ a.hart < s.ids.badHart then
            { s.ids with badOverrun := true, badKind := s.accessKind a, badHart := a.hart, badOffset := a.offset }
          else { s.ids with badOverrun := true }
        else { s.ids with
          badValid := true, badOverrun := s.ids.badOverrun || decide (2 ≤ l.length)
          badKind := s.accessKind a, badHart := a.hart, badOffset := a.offset }

/-- R144: a write of a mailbox header that sets STATE to BUSY or DONE has no effect, nor has one that sets it to IDLE while it
is BUSY; one that sets it to IDLE while it is DONE takes effect and posts nothing. The mailboxes of hosts are written by
registers, mailbox 63 by messages. -/
def Obligations.MailboxHeaderWrites : Prop :=
  ∀ (s : State) (v : Word),
    let kept := fun (n : Nat) (t : State) =>
      (2 ≤ v.toNat / 2 ^ 62 ∨ ((s.mbx n).st = .busy ∧ v.toNat / 2 ^ 62 = 0) → t.mbxs = s.mbxs ∧ t.abaom = s.abaom)
      ∧ ((s.mbx n).st = .done → v.toNat / 2 ^ 62 = 0 → n < s.mbxs.length → t.abaom = s.abaom
        ∧ t.mbx n = { s.mbx n with
            st := .idle, irq := v.getLsbD 61, argWords := v.toNat / 2 ^ 48 % 2 ^ 8, opcode := v.toNat / 2 ^ 32 % 2 ^ 16
            tag := v.toNat % 2 ^ 16 }
        ∧ ∀ k, k ≠ n → t.mbx k = s.mbx k)
    (∀ hart n, s.hostUp = true → hart < 144 → n < 63 →
      ∃ t, exec (.registerWrite hart (0x10000 + 0x1000 * n) v) s = .next t ∧ kept n t
        ∧ (2 ≤ v.toNat / 2 ^ 62 ∨ ((s.mbx n).st = .busy ∧ v.toNat / 2 ^ 62 = 0) → t = s))
    ∧ (∀ (a : Agent) (tag : Nat), s.mbx63Up = true → s.pageRun 0 1 = true →
      ∃ t, exec (.mbxWrite a tag 0 1 [v]) s = .next t ∧ kept 63 t)

/-- R16, R36 to R38, R44, R56 to R59, R136, R600, R601, R724: an access of the hub's registers: one of another size than eight
bytes, not aligned, or at a reserved offset is captured and faults its hart; a good write writes what the register has to
write and nothing else; a page of mailbox 63 and every register that is only read ignore it. -/
def Obligations.RegisterAccess : Prop :=
  ∀ (s : State), s.hostUp = true →
    let note := fun (a : CtrlAccess) => (s.accessKind a, a.hart, a.offset)
    let answered := fun (a : CtrlAccess) => if a.write = true then [Out.hartFault a.hart] else [Out.hartFault a.hart, .readValue a.hart 0]
    (∀ a : CtrlAccess, a.hart < 144 → a.offset < 2 ^ 32 → s.accessKind a ≠ 0 → s.ids.badNow = [] →
      exec (.badAccess [a] false) s = .next ((s.setIds
        (if s.ids.badValid = true then { s.ids with badOverrun := true, badNow := [note a] }
         else { s.ids with
          badValid := true, badKind := s.accessKind a, badHart := a.hart, badOffset := a.offset, badNow := [note a] })).setOutbox
        (answered a ++ s.outbox)))
    ∧ (∀ a : CtrlAccess, a.hart < 144 → a.offset < 2 ^ 32 → s.accessKind a ≠ 0 → a.size = 8 → a.write = true →
      ∀ v, exec (.registerWrite a.hart a.offset v) s = exec (.badAccess [a] false) s)
    ∧ (∀ a b : CtrlAccess, a.hart < b.hart → b.hart < 144 → a.offset < 2 ^ 32 → b.offset < 2 ^ 32 → s.accessKind a ≠ 0 →
      s.accessKind b ≠ 0 → s.ids.badValid = false → ∃ t, exec (.badAccess [b, a] false) s = .next t
        ∧ t.ids = { s.ids with
            badValid := true, badOverrun := true, badKind := s.accessKind a, badHart := a.hart, badOffset := a.offset,
            badNow := s.ids.badNow ++ [note a, note b] }
        ∧ t.outbox = answered b ++ answered a ++ s.outbox)
    ∧ (∀ a : CtrlAccess, s.accessKind a = if a.size ≠ 8 ∨ a.offset % 8 ≠ 0 then 2 else if s.ctrlRead a.offset = none then 1 else 0)
    ∧ (∀ hart addr, hart < 144 → s.ids.hbmGib * 2 ^ 30 ≤ addr →
      ¬ (0xFD00000000000 ≤ addr ∧ addr < 0xFD00010000000) → ¬ (0xFE00000000000 ≤ addr ∧ addr < 0xFE00100000000) →
      exec (.hostReservedAccess hart addr) s = .next (s.emit (.hartFault hart)))
    ∧ (∀ p < 32, (0x490100 + 8 * p, 60) ∈ s.ids.hot → exec (.quarRelease p) s = .next s)
    ∧ (∀ p < 32, s.fab.ports.length = 32 → (0x490100 + 8 * p, 60) ∉ s.ids.hot → ∃ t, exec (.quarRelease p) s = .next t
        ∧ (t.port p).quar = false ∧ ((s.port p).quar = true → (t.port p).viol = 0) ∧ ((s.port p).quar = false → t = s)
        ∧ (∀ q, q ≠ p → t.port q = s.port q))
    ∧ (∀ hart (v : Word), hart < 144 →
      let w := v.toNat
      let put := fun (off : Nat) => exec (.registerWrite hart off v) s
      (s.ids.badNow = [] → put 0x18 = .next (s.setIds { s.ids with
        badValid := s.ids.badValid && !(v.getLsbD 63), badOverrun := s.ids.badOverrun && !(v.getLsbD 62) }))
      ∧ (∀ kind by_ off, s.ids.badNow = [(kind, by_, off)] → v.getLsbD 63 = true → put 0x18 = .next (s.setIds { s.ids with
        badValid := true, badOverrun := false, badKind := kind, badHart := by_, badOffset := off }))
      ∧ (∀ off ∈ [0x0, 0x8, 0x10, 0x40, 0x100000, 0x100008, 0x200000, 0x300000, 0x490018], put off = .next s)
      ∧ (∀ n < 63, put (0x10000 + 0x1000 * n) = .next (s.writeHdr n v)
        ∧ put (0x10010 + 0x1000 * n) = .next (s.putMbx n { s.mbx n with tail := w % 16 })
        ∧ (∀ i < 224, put (0x10100 + 0x1000 * n + 8 * i) = .next
            (if (s.mbx n).st = .busy then s else s.putMbx n { s.mbx n with args := (s.mbx n).args.set i v })))
      ∧ (∀ i < 224, put (0x4F100 + 8 * i) = .next s)
      ∧ put 0x300028 = .next
          (if 1500 ≤ w % 2 ^ 16 ∧ w % 2 ^ 16 ≤ 4200 then s.setPwr { s.pwr with noncrit := w % 2 ^ 16 } else s)
      ∧ put 0x490000 = .next (s.setFab { s.fab with
          etherType := w / 2 ^ 48, udpPort := w / 2 ^ 32 % 2 ^ 16, quarThresh := w / 2 ^ 16 % 2 ^ 16, dscp := w / 2 ^ 10 % 2 ^ 6 })
      ∧ put 0x490008 = .next (s.setFab { s.fab with v6pfx := w })
      ∧ (s.mem.errNow = [] → put 0x480080 = .next (s.setMem { s.mem with
          errValid := s.mem.errValid && !(v.getLsbD 63), errOverrun := s.mem.errOverrun && !(v.getLsbD 62) }))
      ∧ put 0x600008 = .next (s.setXlat { s.xlat with svcEnable := v.getLsbD 0, svcWrite := v.getLsbD 1 }))

/-- R486 to R490, R571, R783, R836, R839, R847 to R849: the messages of the management agents: mailbox 63 is read and written
as a host reads and writes its own, the service window moves and carries reads and writes where it is enabled and lies in
memory, POS_SET comes over I3C and before the device has a logical ID; each answer carries its tag and status. -/
def Obligations.AgentMessages : Prop :=
  ∀ (s : State) (a : Agent) (tag : Nat),
    let said := fun (t : State) (command status : Nat) (fields : List Byte) =>
      Host.Outcome.next (ρ := Refusal) (φ := Fault) (t.emit (.message a (vendorMessage command (tag % 256) status fields)))
    (∀ off n, s.mbx63Up = true →
      let size := match a with | .i3c _ => 64 | .ether _ _ => 1024
      (size < 9 + 8 * n → exec (.mbxRead a tag off n) s = said s 0x01 stBadLength [])
      ∧ (9 + 8 * n ≤ size → n ≤ 255 → s.pageRun off n = false → exec (.mbxRead a tag off n) s = said s 0x01 stBadArg [])
      ∧ (9 + 8 * n ≤ size → n ≤ 255 → s.pageRun off n = true → exec (.mbxRead a tag off n) s = said
          (if off ≤ 8 ∧ 8 < off + 8 * n then s.setConn { s.conn with doneUnread := false } else s) 0x01 stOk
          ((List.range n).flatMap fun i => beBytes 8 ((s.mbxPage 63 (off + 8 * i)).getD 0))))
    ∧ (∀ off (w : Word), s.mbx63Up = true → s.pageRun off 1 = true →
      exec (.mbxWrite a tag off 1 [w]) s = said
        ((if off = 0 then s.setConn { s.conn with record := some a } else s).writePage 63 off w) 0x02 stOk [])
    ∧ (∀ base, s.windowUp = true →
      exec (.svcMove a tag base) s =
        if s.conn.phase = .failed ∨ base % 2 ^ 26 ≠ 0 ∨ s.ids.hbmGib * 2 ^ 30 < base + 2 ^ 26 then
          said (s.setXlat { s.xlat with svcRefused := (s.xlat.svcRefused + 1) % 2 ^ 32 }) 0x03 stAuthFail []
        else said (s.setXlat { s.xlat with svcBase := base }) 0x03 stOk [])
    ∧ (∀ off n, s.windowUp = true →
      let size := match a with | .i3c _ => 64 | .ether _ _ => 1024
      let pa := s.xlat.svcBase + off
      let counted := s.setXlat { s.xlat with svcAccesses := (s.xlat.svcAccesses + 1) % 2 ^ 32 }
      let refused := s.setXlat { s.xlat with svcRefused := (s.xlat.svcRefused + 1) % 2 ^ 32 }
      let shut := s.conn.phase = .failed ∨ s.xlat.svcEnable = false ∨ s.ids.hbmGib * 2 ^ 30 < pa + n
      (size < 9 + n → exec (.svcRead a tag off n) s = said s 0x04 stBadLength [])
      ∧ (9 + n ≤ size → shut → exec (.svcRead a tag off n) s = said refused 0x04 stAuthFail [])
      ∧ (9 + n ≤ size → ¬ shut → (off % 8 ≠ 0 ∨ n % 8 ≠ 0) → exec (.svcRead a tag off n) s = said refused 0x04 stBadArg [])
      ∧ (9 + n ≤ size → ¬ shut → off % 8 = 0 → n % 8 = 0 → exec (.svcRead a tag off n) s =
          if s.poisoned pa n = true then said refused 0x04 stHwFault []
          else said (counted.glanceRange pa n .bulk none) 0x04 stOk (s.hbmRead pa n))
      ∧ (∀ bytes : List Byte,
        (bytes.length ≠ n ∨ size < 15 + n → exec (.svcWrite a tag off n bytes) s = said s 0x05 stBadLength [])
        ∧ (bytes.length = n → 15 + n ≤ size → (shut ∨ s.xlat.svcWrite = false) →
          exec (.svcWrite a tag off n bytes) s = said refused 0x05 stAuthFail [])
        ∧ (bytes.length = n → 15 + n ≤ size → ¬ shut → s.xlat.svcWrite = true → (off % 8 ≠ 0 ∨ n % 8 ≠ 0) →
          exec (.svcWrite a tag off n bytes) s = said refused 0x05 stBadArg [])
        ∧ (bytes.length = n → 15 + n ≤ size → ¬ shut → s.xlat.svcWrite = true → off % 8 = 0 → n % 8 = 0 → s.mem.poison = [] →
            s.ids.stackLive = BitVec.allOnes 16 → (∀ r ∈ s.mem.repairs, r.fenced = false) →
          ∃ t, exec (.svcWrite a tag off n bytes) s = said t 0x05 stOk [] ∧ t.hbmRead pa n = bytes
            ∧ (∀ x, x < pa ∨ pa + n ≤ x → cellGet t.mem.hbm x = cellGet s.mem.hbm x)
            ∧ t.xlat = counted.xlat ∧ t.mbxs = s.mbxs ∧ t.ctxs = s.ctxs)))
    ∧ (∀ hall row rack device, (s.running = true ∨ s.conn.phase = .failed) →
      exec (.posSet a tag hall row rack device) s =
        match a with
        | .ether _ _ => said s 0x06 stAuthFail []
        | .i3c _ =>
          if s.fab.epoch ≠ 0 then said s 0x06 stBadState []
          else said (s.setFab { s.fab with
            hall := hall % 256, row := row % 256, rack := rack % 256, device := device % 256 }) 0x06 stOk [])

/-- R553, R565, R567, R569, R836, R843, R844, R847, R848, R850: the endpoint's own answers while VSTBY is up: its ID, versions
and types (free values of the log where the spec names none), the sensors, an event's acknowledgement, and the resolution of
its addresses; the command and completion codes are the model's (log 29). -/
def Obligations.EndpointAnswers : Prop :=
  ∀ (s : State) (a : Agent), s.conn.phase ≠ .off →
    let control := fun (code : Nat) (ws : List Nat) => Host.Outcome.next (ρ := Refusal) (φ := Fault) (s.emit (.control a code ws))
    let pldm := fun (kind code : Nat) (ws : List Int) =>
      Host.Outcome.next (ρ := Refusal) (φ := Fault) (s.emit (.pldm a kind code ws))
    (∀ eid, exec (.setEndpointId a eid) s =
      if 8 ≤ eid ∧ eid ≤ 254 then .next ((s.setConn { s.conn with eid }).emit (.control a 1 [0, eid])) else control 1 [2])
    ∧ exec (.getEndpointId a) s = control 2 [0, s.conn.eid]
    ∧ (∀ kind, exec (.getMctpVersionSupport a kind) s =
        control 4 (if kind ∈ [0xFF, 0x00, 0x01, 0x7F] then [0, Config.mctpVersion kind] else [0x80]))
    ∧ exec (.getMessageTypeSupport a) s = control 5 [0, 0x01, 0x7F]
    ∧ (∀ k, exec (.getVendorDefinedMessageSupport a k) s = control 6 (if k = 0 then [0, 0xFF, 1, 0xD6F1] else [2]))
    ∧ (∀ addr ibi, exec (.dynamicAddressAssignment addr ibi) s =
        .next (s.setConn { s.conn with i3cAddr := some (addr % 128), ibi }))
    ∧ exec (.getTid a) s = pldm 0 0x02 [0, (Config.pldmTid : Int)]
    ∧ (∀ kind, exec (.getPldmVersion a kind) s =
        pldm 0 0x03 (if kind = 0 ∨ kind = 2 then [0, (Config.pldmVersion kind : Int)] else [0x83]))
    ∧ exec (.getPldmTypes a) s = pldm 0 0x04 [0, 0, 2]
    ∧ (∀ kind, exec (.getPldmCommands a kind) s = pldm 0 0x05
        (if kind = 0 then [0, 0x02, 0x03, 0x04, 0x05] else if kind = 2 then [0, 0x04, 0x0A, 0x11, 0x21, 0x51] else [0x83]))
    ∧ (∀ record id, sensorIds[(if record = 0 then 1 else record) - 1]? = some id → ∃ next, exec (.getPdr a record) s =
        pldm 2 0x51 ([0, next] ++ s.descriptor id))
    ∧ (∀ id, exec (.getSensorReading a id) s = pldm 2 0x11
        (if numericSensor id = true then (match s.sensor id with | some x => [0, 0, (x.band : Int), x.value] | none => [0, 3])
         else [0x80]))
    ∧ exec (.getStateSensorReadings a 0x61) s = pldm 2 0x21 [0, (s.time.st.code : Int)]
    ∧ exec (.getStateSensorReadings a 0x62) s = pldm 2 0x21 [0, if s.fab.fenced = true then 1 else 0]
    ∧ (∀ receiver, exec (.setEventReceiver a receiver) s = .next ((s.setConn { s.conn with receiver }).emit (.pldm a 2 0x04 [0])))
    ∧ (∀ event, s.conn.receiver = some a → exec (.pldmEventAcknowledgement a event) s =
        .next (s.setConn { s.conn with events := s.conn.events.filter fun e => e.id != event }))
    ∧ (∀ id value, numericSensor id = true → ∃ t, exec (.sensorUpdate id value) s = .next t
        ∧ t.sensor id = some ⟨id, s.measured id value, s.bandOf id (s.measured id value)⟩
        ∧ (∀ k, k ≠ id → t.sensor k = s.sensor k)
        ∧ (s.bandOf id (s.measured id value) = ((s.sensor id).map (·.band)).getD 0 → t.conn.events = s.conn.events)
        ∧ (s.bandOf id (s.measured id value) ≠ ((s.sensor id).map (·.band)).getD 0 →
            t.conn.events = s.conn.events ++ [⟨id, s.bandOf id (s.measured id value), s.conn.nextEvent⟩])
        ∧ t.mem.hbm = s.mem.hbm ∧ t.mbxs = s.mbxs)
    ∧ (∀ target, (target = linkLocal6 ∨ target ∈ s.conn.slaac) →
        exec (.neighborSolicitation 32 target) s = .next (s.emit (.neighborAdvertisement 32 target)))
    ∧ (∀ p < 32, (s.port p).st = .up → (s.port p).modeNow = true → (s.port p).quar = false → s.fab.fenced = false →
        (s.fab.epoch ≠ 0 → exec (.neighborSolicitation p (fabricAddress s.fab.v6pfx s.fab.node)) s =
          .next (s.emit (.neighborAdvertisement p (fabricAddress s.fab.v6pfx s.fab.node))))
        ∧ (∀ mac router pfx, exec (.routerAdvertisement p mac router pfx) s =
          .next (s.putPort p { s.port p with router := some (mac, router) })))
    ∧ exec (.arpRequest Config.linkLocal4) s = .next (s.emit (.arpReply Config.linkLocal4))
/-! ### The fabric -/

/-- R485, R520, R525, R545, R546, R551, R582, R583, R585, R593, R617, R619, R625, R636, R637, R641, R671 to R673: a sequenced
frame that passes the checks takes its place in its flow and is performed: an access of a tie window that R484 refuses, or that
meets poison, is answered with its NAK and changes nothing else; a write stores its bytes in the window, a read, an atomic and
an anchored add answer from it; a response, a control message and a collective's frame reach what they are for. -/
def Obligations.FramesPerformed : Prop :=
  ∀ (s : State) (p : Nat) (f : Frame) (stamp : Nat), s.takes p f stamp →
    let g := unpadded f
    let u := s.inHand p f stamp
    let done := fun (t : State) => Host.Outcome.next (ρ := Refusal) (φ := Fault) (t.ackIfDue g)
    let refused := fun (t : State) (reason : Nat) =>
      Host.Outcome.next (ρ := Refusal) (φ := Fault) ((t.refuse p g stamp reason 0 0).ackIfDue g)
    let window := fun (n : Nat) (k : AccKind) (c : Instr) (poisons : Bool) (go : Nat → TieWindow → State → State) =>
      (∀ r, u.tieCheck f.src f.window f.offset n k = .inl r → exec c s = refused u r)
      ∧ (∀ pa w, u.tieCheck f.src f.window f.offset n k = .inr (pa, w) →
          ((poisons = false ∨ u.poisoned pa n = false) → exec c s = done (go pa w (u.chargeRx w.ctx g.bytes)))
          ∧ (poisons = true → u.poisoned pa n = true → exec c s = refused (u.chargeRx w.ctx g.bytes) nPoisoned))
    (f.op = opWrite → window f.length .write (.rxWrite p f stamp) false fun pa w t =>
        (t.placeRange pa f.length w.memClass (some w.ctx)).hbmWrite pa g.payload)
    ∧ (f.op = opReadReq → window f.length .read (.rxReadReq p f stamp) true fun pa w t =>
        (t.glanceRange pa f.length w.memClass (some w.ctx)).respond g opReadRsp w.ctx (t.hbmRead pa f.length))
    ∧ (f.op = opAtomic → window (g.word 0 / 2 ^ 48 % 256) .atomic (.rxAtomic p f stamp) true fun pa w t =>
        let r := (t.atomHolders 10 pa w.memClass (some w.ctx)).rmw pa (g.word 0 / 2 ^ 56) (g.word 0 / 2 ^ 48 % 256) (g.word 1) (g.word 2)
        r.1.respond g opAtomicRsp w.ctx (beBytes 8 r.2))
    ∧ (f.op = opXadd → window f.length .atomic (.rxXadd p f stamp) true fun pa w t => t.farCells pa (cellsOf g) w.memClass (t.ctxPartition (some w.ctx)) (some w.ctx))
    ∧ (f.op = opAtomicRsp → exec (.rxAtomicRsp p f stamp) s = done (u.takeAnswer g true (leBytes 8 (g.word 0))))
    ∧ (f.op = opReadRsp → exec (.rxReadRsp p f stamp) s =
        done (if f.kind = kBulk then u.takeBulk g else (u.takeAnswer g false g.payload).captureOn))
    ∧ (f.op = opCtrl →
        (ctrlType f = 0x01 → exec (.rxAlignedNotice p f stamp) s = done (u.takeNotice p g))
        ∧ (ctrlType f = 0x02 → exec (.rxHallCorrection p f stamp) s = done (u.takeHall p g))
        ∧ (ctrlType f = 0x10 → exec (.rxLaunchOffer p f stamp) s = done (u.takeOffer g))
        ∧ (ctrlType f = 0x11 → exec (.rxLaunchAck p f stamp) s = done (u.takeAckMsg g stamp))
        ∧ (ctrlType f = 0x12 → exec (.rxLaunchCommit p f stamp) s = done (u.takeCommit g stamp))
        ∧ (ctrlType f = 0x13 → exec (.rxLaunchAbort p f stamp) s = done (u.takeAbort g stamp))
        ∧ (ctrlType f = 0x20 → exec (.rxThrottle p f stamp) s = done (u.takeThrottle p g))
        ∧ (ctrlType f = 0x30 → fillSub g = fillSub f →
            (fillSub f = 1 → exec (.rxClaim p f stamp) s = done (u.takeClaim g))
            ∧ (fillSub f = 2 → exec (.rxGrant p f stamp) s = done (u.takeGrant g))
            ∧ (fillSub f = 3 → exec (.rxRelease p f stamp) s = done (u.takeRelease g))
            ∧ (fillSub f = 4 → exec (.rxStage p f stamp) s = done (u.takeStage g))
            ∧ (fillSub f = 5 → exec (.rxProgress p f stamp) s = done (u.takeProgress g))
            ∧ (fillSub f = 6 → exec (.rxFail p f stamp) s = done (u.takeFillFail g))))
    ∧ (f.op = opColl →
        (collPhase f = 0 → exec (.rxCollUp p f stamp) s = done (u.takeColl g stamp))
        ∧ (collPhase f = 1 → exec (.rxCollDown p f stamp) s = done (u.takeColl g stamp))
        ∧ (collPhase f = 2 → exec (.rxCollCredit p f stamp) s = done (u.takeColl g stamp))
        ∧ (collPhase f = 3 → exec (.rxCollFail p f stamp) s = done (u.takeColl g stamp)))
    ∧ u.recvFlow f.src f.kind f.context = some ⟨f.src, f.kind, f.context, (f.seq + 1) % 2 ^ 32, stamp,
        (((s.heard p f stamp).recvFlow f.src f.kind f.context).map (·.owed)).getD 0 + 1, p⟩

/-- R579, R587, R593, R595 to R603, R608, R609, R93: what becomes of the other frames: nothing reaches a port that is not UP or
comes too late, or a quarantined port or a FENCED device; an unassigned opcode, and a malformed frame, is refused; an ACK and a
NAK are taken by their flow; a heartbeat names its port's peer; a BSX frame is answered, or its stamps kept. -/
def Obligations.OtherFrames : Prop :=
  ∀ (s : State) (p : Nat) (f : Frame) (stamp : Nat), p < 32 →
    let x := s.port p
    let t := s.hear p f stamp
    let open_ := x.st = .up ∧ (x.modeNow = true ∨ stamp < x.lastGood + 32052)
    let passes := open_ ∧ x.quar = false ∧ s.fab.fenced = false
    (exec (.rxLinkError p) s = .next (s.putPort p { x with linkErrors := x.linkErrors + 1 }))
    ∧ (¬ open_ → f.op = opHeartbeat → exec (.rxHeartbeat p f stamp) s = .next s)
    ∧ (¬ open_ → f.op = opWrite → exec (.rxWrite p f stamp) s = .next s)
    ∧ (open_ → (x.quar = true ∨ s.fab.fenced = true) → f.op = opWrite → exec (.rxWrite p f stamp) s = .next t)
    ∧ (open_ → f.op = opHeartbeat → malformed f = false → exec (.rxHeartbeat p f stamp) s = .next
        (t.putPort p { t.port p with peerValid := true, peer := f.src, peerEpoch := f.sepoch }))
    ∧ (passes → f.op = opBsx → malformed f = false →
        exec (.rxBsx p f stamp) s = .next (t.takeBsx p (unpadded f) stamp)
        ∧ ((unpadded f).word 1 ≠ 0 →
            let kept := fun (r : BsRun) => if r.phase = .exchanging ∧ p ∈ r.ports then
                { r with samples := r.samples ++ [⟨p, (unpadded f).word 0, (unpadded f).word 1, (unpadded f).word 2, stamp⟩] } else r
            ∃ v, exec (.rxBsx p f stamp) s = .next v ∧ v.time.run = s.time.run.map kept ∧ v.time.meas = s.time.meas.map kept))
    ∧ (passes → f.dst = s.fab.node → s.fab.epoch ≠ 0 →
        (malformed f = true → f.op = opWrite → exec (.rxWrite p f stamp) s = .next (t.refuse p f stamp nMalformed 0 0))
        ∧ (malformed f = false → opAssigned f.op = false →
            exec (.rxUnsupportedOpcode p f stamp) s = .next (t.refuse p (unpadded f) stamp nUnsupported 0 0))
        ∧ (malformed f = false → f.op = opAck →
            exec (.rxAck p f stamp) s = .next (t.takeAck f.src f.kind f.context f.ack))
        ∧ (malformed f = false → f.op = opNak → exec (.rxNak p f stamp) s = .next (t.takeNak p (unpadded f) stamp)))
    ∧ (∀ reason seen expect v, v = s.refuse p f stamp reason seen expect →
        (1 ≤ reason ∧ reason ≤ 7 → v.fab.vTotal = (s.fab.vTotal + 1) % 2 ^ 32 ∧ v.fab.vHead = (s.fab.vHead + 1) % 256)
        ∧ (reason = nDestLost ∨ reason = nBusy ∨ reason = nPoisoned → v.fab.ring = s.fab.ring ∧ v.fab.vTotal = s.fab.vTotal)
        ∧ v.mem = s.mem ∧ v.mbxs = s.mbxs ∧ v.compute = s.compute ∧ v.xlat = s.xlat)

/-- R575, R576, R587, R589 to R592, R600, R602 to R607, R611, R761, R861: the fabric's commands and timers: routes, epochs and
binds are taken up, an owed ACK goes out, a flow without progress is sent again and after eight rounds its node is lost, an idle
flow's state goes, a reset flow starts anew, a silent port is lost, and a trained one is UP. -/
def Obligations.FabricTimers : Prop :=
  ∀ (s : State),
    (∀ n, s.has n 0x0600 = true → ∃ t, exec (.routeSet n) s = endsWith t n 0 []
      ∧ (∀ node, s.arg n 0 % 2 ^ 14 ≤ node → node < s.arg n 0 % 2 ^ 14 + s.arg n 0 / 2 ^ 16 % 2 ^ 16 →
          t.routeOf node = routeWord (s.arg n (1 + (node - s.arg n 0 % 2 ^ 14))))
      ∧ (∀ node, (node < s.arg n 0 % 2 ^ 14 ∨ s.arg n 0 % 2 ^ 14 + s.arg n 0 / 2 ^ 16 % 2 ^ 16 ≤ node) →
          t.routeOf node = s.routeOf node)
      ∧ t.mem = s.mem ∧ t.fab.sends = s.fab.sends ∧ t.fab.epochs = s.fab.epochs)
    ∧ (∀ n, s.has n 0x0602 = true →
      let node := s.arg n 0 % 2 ^ 14
      (s.fab.epoch = 0 ∨ node ≠ s.fab.node) →
      ∃ t, exec (.epochSet n) s = endsWith t n 0 [] ∧ t.epochOf node = s.arg n 0 / 2 ^ 16 % 2 ^ 16
        ∧ (∀ k, k ≠ node → t.epochOf k = s.epochOf k))
    ∧ (∀ n, s.has n 0x0603 = true →
      let b : Bind := ⟨s.arg n 0 % 2 ^ 14, s.arg n 0 / 2 ^ 16 % 2 ^ 16, s.arg n 1 % 2 ^ 40, s.arg n 2⟩
      let t := s.setFab { s.fab with binds := s.fab.binds ++ [b] }
      (b.stake ≤ s.time.mt → exec (.witnessBind n) s = endsWith (t.bindActs b) n 0 [])
      ∧ (s.time.mt < b.stake → exec (.witnessBind n) s =
          endsWith (t.stakeOrTimer 8 1 b.stake (s.mailboxOwner n) (.bind b.node b.epoch b.plat)).1 n 0 [])
      ∧ ((t.takeNode b.node b.epoch).fab.node = b.node
          ∧ (t.takeNode b.node b.epoch).fab.epoch = b.epoch ∧ (t.takeNode b.node b.epoch).fab.recvs = []))
    ∧ (exec .violationMsTick s = .next
        (if s.fab.violMs = s.time.mt / 8000000 then s
         else s.setFab { s.fab with violMs := s.time.mt / 8000000, ports := s.fab.ports.map fun q => { q with viol := 0 } }))
    ∧ (∀ p < 32, (s.port p).st = .up → (s.port p).modeNow = false → (s.port p).lastSent + 4000 ≤ s.time.mt →
        s.fab.ports.length = 32 → ∃ t f, exec (.heartbeatSend p) s = .next t ∧ t.outbox = outInsert p 0 (.frame p f (s.carriage p f)) (s.outbox.length - s.fab.sentMark) s.outbox
          ∧ s.carriage p f = .direct 0x035A474C0001 (portMac p) s.fab.etherType
          ∧ f.payload = []
          ∧ ((s.port p).peer < 2 ^ 14 → s.fab.node < 2 ^ 14 →
              f.op = opHeartbeat ∧ f.unseq = true ∧ f.dst = (s.port p).peer ∧ f.src = if s.fab.epoch ≠ 0 then s.fab.node else 0)
          ∧ (t.port p).lastSent = s.time.mt ∧ (∀ q, q ≠ p → t.port q = s.port q) ∧ t.mem = s.mem)
    ∧ (∀ i r, s.fab.recvs[i]? = some r →
        (r.owed = 0 → exec (.ackSend i) s = .next s) ∧ (0 < r.owed → exec (.ackSend i) s = .next (s.ackFlow r)))
    ∧ (∀ i fl, s.fab.sends[i]? = some fl →
      (fl.unacked ≠ [] → fl.silent = false → fl.progress + 160000 ≤ s.time.mt →
        (8 ≤ fl.rounds → exec (.retransmitTimeout i) s = .next (s.loseNode fl.dst))
        ∧ (fl.rounds < 8 → exec (.retransmitTimeout i) s = .next
            (s.resend { fl with rounds := fl.rounds + 1, progress := s.time.mt } fl.oldest)))
      ∧ ((fl.unacked = [] ∨ fl.silent = true ∨ s.time.mt < fl.progress + 160000) → exec (.retransmitTimeout i) s = .next s)
      ∧ (∀ m, fl.busy = some m →
        (m + 16000 ≤ s.time.mt → exec (.busyResend i) s = .next (s.resend { fl with busy := none } fl.oldest))
        ∧ (s.time.mt < m + 16000 → exec (.busyResend i) s = .next s))
      ∧ (fl.unacked = [] → fl.waiting = [] → fl.silent = false → fl.progress + 8000000 ≤ s.time.mt →
        exec (.flowStateExpiry i) s = .next (s.setFab { s.fab with
          sends := s.fab.sends.filter fun g => !(g.is fl.dst fl.kind fl.ctx) }))
      ∧ (fl.silent = true → fl.lastSent + 16000000 ≤ s.time.mt → exec (.flowResetResume i) s = .next
          ((s.putSend { fl with silent := false, next := 0, progress := s.time.mt }).flowOn { fl with silent := false })))
    ∧ (∀ i r, s.fab.recvs[i]? = some r → r.last + 80000000 ≤ s.time.mt →
        exec (.flowStateExpiry (s.fab.sends.length + i)) s = .next (s.setFab { s.fab with recvs := s.fab.recvs.erase r }))
    ∧ (∀ p < 32, (s.port p).st = .up → (s.port p).modeNow = false → (s.port p).lastGood + 32000 ≤ s.time.mt →
        s.fab.ports.length = 32 → (s.arriving fun q _ stamp => q == p && !((s.port p).lateFor stamp)) = false →
        let l := s.putPort p { s.port p with st := .lost }
        ∃ t, exec (.portLoss p) s = .next t ∧ (t.port p).st = .lost ∧ (∀ node ∈ l.nodesOver p, t.unreachable node = true)
          ∧ (l.nodesOver p = [] → s.fab.sends = [] → (∀ w ∈ s.share.waits, w.frame = none) → s.time.datumValid = false → t = l))
    ∧ (∀ p < 32, s.conn.lasers = true → ((s.port p).st = .training ∨ (s.port p).st = .lost) → s.fab.ports.length = 32 →
        ∃ t, exec (.portUp p) s = .next t ∧ (t.port p).st = .up ∧ (t.port p).modeNow = (s.port p).mode
          ∧ (t.port p).lastGood = s.time.mt ∧ t.mem = s.mem
          ∧ (((s.port p).mode = true ∨ (s.port p).peerValid = false ∨ (s.port p).peer ∈ s.trust.sources) →
              t.trust = s.trust))
/-! ### Coherence -/

/-- R32, R33, R491, R499, R502 to R516, R525 to R528: the requests of the coherence protocol at a home: a request for an idle line is
accepted, its holders probed, and the data read where no holder has it; a PLACE or an ATOM of a line that nobody holds is
performed at once; the cbo.zero of a hart comes to own its line and zeroes it; a busy line, or one that a reservation waits for,
answers with Retry. A request whose agent has no path to the line's home goes nowhere. -/
def Obligations.CoherenceRequests : Prop :=
  ∀ (s : State) (q : CohReq), s.agentReq q.agent q.line = none →
    (s.cohOk q.agent q.line = false → exec (.gets q) s = .next s ∧ exec (.coherenceClaim q) s = .next s ∧ exec (.glance q) s = .next s)
    ∧ (q.agent ≤ 10 → s.inHbm (q.line * 256) 256 = true → (s.diePath q.agent (s.homeOf (q.line * 256))).isSome = true →
    let idle := s.txnOf q.line = none ∧ ∀ v ∈ s.coh.reserves, v.line ≠ q.line
    let holders := (s.dirEntry q.line).holders
    let source := ((s.dirEntry q.line).owner <|> (s.dirEntry q.line).provider).filter (· != q.agent)
    (idle → holders = [] → source = none → q.sectors ≠ 0 → ∃ t x, exec (.gets q) s = .next t ∧ t.txnOf q.line = some x
        ∧ x.agent = q.agent ∧ x.kind = .getS ∧ x.probed = [] ∧ x.reading = true ∧ x.supply = q.sectors
        ∧ x.granted = (if s.watchHolds q.line = true then .p else .e)
        ∧ (∃ r ∈ t.mem.reqs, r.line = q.line ∧ r.sectors = q.sectors ∧ r.write = false ∧ r.agent = some q.agent)
        ∧ t.mem.hbm = s.mem.hbm ∧ t.abaom = s.abaom)
    ∧ (∀ a, idle → source = some a → ∃ t x, exec (.gets q) s = .next t ∧ t.txnOf q.line = some x ∧ x.kind = .getS
        ∧ x.probed = [a] ∧ x.reading = false ∧ ⟨.probeGive, a, q.line, q.sectors⟩ ∈ t.coh.msgs ∧ t.mem = s.mem)
    ∧ (q.zero = true → q.agent = 8 ∨ q.agent = 9 →
        (∀ l, s.held q.agent q.line = some l → l.st = .e ∨ l.st = .m → exec (.getx q) s = .next (s.zeroLine q.agent q.line))
        ∧ (idle → s.held q.agent q.line = none → ∃ t x, exec (.getx q) s = .next t ∧ t.txnOf q.line = some x ∧ x.kind = .zero
            ∧ x.reading = false ∧ x.supply = 0 ∧ t.mem.hbm = s.mem.hbm))
    ∧ (idle → q.zero = false → q.agent ∉ holders → q.sectors ≠ 0 → ∃ t x, exec (.getx q) s = .next t ∧ t.txnOf q.line = some x
        ∧ x.kind = .getX ∧ x.probed = holders ∧ x.granted = .e ∧ x.reading = true
        ∧ (∀ a ∈ holders, ⟨.probeKill, a, q.line, q.sectors⟩ ∈ t.coh.msgs)
        ∧ (∀ w ∈ t.abaom.watches, w.line = q.line → w.held = false ∧ w.wake = true) ∧ t.mem.hbm = s.mem.hbm)
    ∧ (idle → q.agent ∉ holders → q.sectors ≠ 0 → ∃ t x, exec (.coherenceClaim q) s = .next t ∧ t.txnOf q.line = some x
        ∧ x.kind = .getX ∧ x.probed = holders ∧ x.reading = true)
    ∧ (idle → holders = [q.agent] → (∀ l, s.held q.agent q.line = some l → l.st ≠ .m) →
        ∃ t x, exec (.coherenceClaim q) s = .next t ∧ t.txnOf q.line = some x ∧ x.grantSent = true
          ∧ ⟨.grant .e, q.agent, q.line, q.sectors⟩ ∈ t.coh.msgs ∧ t.mem.hbm = s.mem.hbm)
    ∧ (idle → holders = [] → source = none → q.sectors ≠ 0 → ∃ t x, exec (.glance q) s = .next t ∧ t.txnOf q.line = some x
        ∧ x.kind = .glance ∧ x.granted = .i ∧ x.reading = true ∧ t.coh.dir = s.coh.dir ∧ t.mem.hbm = s.mem.hbm)
    ∧ (∀ off (bytes : List Byte), idle → holders = [] → off + bytes.length ≤ 256 → ∃ t, exec (.place q off bytes) s = .next t
        ∧ t.mem.hbm = (s.hbmWrite (q.line * 256 + off) bytes).mem.hbm ∧ t.txnOf q.line = none
        ∧ ⟨.grant .i, q.agent, q.line, q.sectors⟩ ∈ t.coh.msgs)
    ∧ (∀ a : AtomReq, idle → holders = [] → a.agent = q.agent → a.addr / 256 = q.line → (a.width = 4 ∨ a.width = 8) →
        a.addr % a.width = 0 → a.op % 16 ≤ 10 → ∃ t, exec (.atom a) s = .next t
          ∧ t.mem.hbm = (s.rmw a.addr a.op a.width a.a a.c).1.mem.hbm ∧ t.txnOf q.line = none
          ∧ (∃ m ∈ t.coh.msgs, m.agent = q.agent ∧ m.line = q.line
              ∧ m.kind = .grantOld (leNat (s.hbmRead a.addr a.width))))
    ∧ (¬ idle → ∃ t, exec (.gets q) s = .next t ∧ t.coh.txns = s.coh.txns ∧ t.mem = s.mem
        ∧ ⟨.retry false, q.agent, q.line, 0⟩ ∈ t.coh.msgs
        ∧ (∃ r, t.agentReq q.agent q.line = some r ∧ r.kind = .getS ∧ r.backing = true ∧ r.accepted = false)))

/-- R495, R499, R503, R506, R509 to R516, R528, R535, R538, R540: the other messages of the protocol: a notice or a write-back takes the
agent out of the directory, a probed holder supplies or gives up the line, the home goes on once every probe, write-back and
read that it awaits is there, and the requester is seated once its grant and its data have come. A stack completes the request
that its pseudo-channel serves next, and no other. -/
def Obligations.CoherenceMessages : Prop :=
  ∀ (s : State) (q : CohReq),
    let lost := fun (t : State) => t.held q.agent q.line = none ∧ q.agent ∉ (t.dirEntry q.line).holders
    (∀ l, q.agent ≤ 10 → s.held q.agent q.line = some l → l.dirty = 0 → s.eviction q.agent q.line false = none →
      ∃ t, exec (.vacate q) s = .next t ∧ lost t ∧ t.coh.evicts = s.coh.evicts ∧ t.mem = s.mem)
    ∧ (∀ l, q.agent ≤ 10 → s.held q.agent q.line = some l → l.dirty ≠ 0 → s.eviction q.agent q.line true = none →
      ∃ t, exec (.spill q) s = .next t ∧ lost t ∧ ⟨.spillCargo, q.agent, q.line, l.dirty⟩ ∈ t.coh.msgs ∧ t.mem = s.mem)
    ∧ (∀ u m l, s.takeMsg q.agent q.line (· == .probeGive) = some (u, m) → s.held q.agent q.line = some l →
      ∃ t, exec (.probeGive q) s = .next t ∧ t.held q.agent q.line = some { l with st := .p, dirty := 0, dirtyBy := none }
        ∧ ⟨.reply .p false, q.agent, q.line, l.dirty⟩ ∈ t.coh.msgs
        ∧ ⟨.cargo, ((s.txnOf q.line).map (·.agent)).getD q.agent, q.line, m.sectors⟩ ∈ t.coh.msgs
        ∧ (l.dirty ≠ 0 → ⟨.spillCargo, q.agent, q.line, l.dirty⟩ ∈ t.coh.msgs) ∧ t.mem = s.mem)
    ∧ (∀ u m, s.takeMsg q.agent q.line (· == .probeKill) = some (u, m) → ∃ t, exec (.probeKill q) s = .next t
        ∧ t.held q.agent q.line = none ∧ t.mem = s.mem
        ∧ (∀ l, s.held q.agent q.line = some l → ⟨.reply .i false, q.agent, q.line, l.dirty⟩ ∈ t.coh.msgs
            ∧ (l.dirty ≠ 0 → ⟨.spillCargo, q.agent, q.line, l.dirty⟩ ∈ t.coh.msgs))
        ∧ (s.held q.agent q.line = none →
            ⟨.reply .i (s.eviction q.agent q.line true).isSome, q.agent, q.line, 0⟩ ∈ t.coh.msgs))
    ∧ (∀ u m x, s.takeMsg q.agent q.line (fun k => match k with | .reply _ _ => true | _ => false) = some (u, m) →
      m.kind = .reply .i false → m.sectors = 0 → s.txnOf q.line = some x → x.kind = .getX → x.probed = [q.agent] →
      x.spills = [] → x.reading = false → x.grantSent = false → ∃ t, exec (.reply q) s = .next t
        ∧ ⟨.grant x.granted, x.agent, q.line, x.sectors⟩ ∈ t.coh.msgs ∧ t.mem.hbm = s.mem.hbm
        ∧ (x.supply ≠ 0 → ⟨.cargo, x.agent, q.line, x.supply⟩ ∈ t.coh.msgs)
        ∧ (∃ y, t.txnOf q.line = some y ∧ y.grantSent = true))
    ∧ (∀ u m, s.takeMsg q.agent q.line (· == .spillCargo) = some (u, m) → ∃ t, exec (.spillCargo q) s = .next t
        ∧ (∃ r ∈ t.mem.reqs, r.line = q.line ∧ r.sectors = m.sectors ∧ r.write = true)
        ∧ (s.txnOf q.line = none → t.coh.evicts = s.coh.evicts.filter fun e =>
            !(e.agent == q.agent && e.line == q.line && e.taken)))
    ∧ (∀ u m st r o, s.takeMsg q.agent q.line (fun k => match k with | .grant _ => true | .grantOld _ => true | _ => false) =
        some (u, m) → m.kind = .grant st → s.agentReq q.agent q.line = some r → r.kind.installs = true →
      s.held q.agent q.line = some o → ∃ t, exec (.grant q) s = .next t
        ∧ (r.kind ≠ .zero → t.held q.agent q.line = some { o with st, valid := o.valid ||| r.got, age := r.age } ∧ t.mem = s.mem)
        ∧ (r.kind = .zero →
            t.held q.agent q.line = some { o with st := .m, valid := 0xF, dirty := 0xF, dirtyBy := none, age := 0 }
            ∧ t.mem.hbm = (s.hbmWrite (q.line * 256) (List.replicate 256 0)).mem.hbm)
        ∧ ((∀ n ∈ s.coh.msgs, n.agent = q.agent → n.line = q.line → n.kind ≠ .cargo) →
            ⟨.seated, q.agent, q.line, 0⟩ ∈ t.coh.msgs))
    ∧ (∀ u m r, s.takeMsg q.agent q.line (· == .cargo) = some (u, m) → s.agentReq q.agent q.line = some r → r.granted = false →
      ∃ t, exec (.cargo q) s = .next t ∧ t.agentReq q.agent q.line = some { r with got := r.got ||| m.sectors }
        ∧ t.coh.lines = s.coh.lines ∧ t.mem = s.mem)
    ∧ (∀ u m, s.takeMsg q.agent q.line (· == .seated) = some (u, m) → (∀ v ∈ s.coh.reserves, v.line ≠ q.line) →
      ∃ t, exec (.seated q) s = .next t ∧ t.txnOf q.line = none ∧ (∀ k, k ≠ q.line → t.txnOf k = s.txnOf k) ∧ t.mem = s.mem)
    ∧ (∀ u m r, s.takeMsg q.agent q.line (fun k => match k with | .retry _ => true | _ => false) = some (u, m) →
      s.agentReq q.agent q.line = some r → ∃ t, exec (.retry q) s = .next t
        ∧ t.agentReq q.agent q.line = some { r with
          retries := r.retries + 1,
          starving := decide (8 ≤ r.retries + 1)
            && decide (s.coh.reqs.countP (fun x => x.agent == r.agent && x.line != r.line && x.starving) < 16) })
    ∧ (∀ r, s.agentReq q.agent q.line = some r → r.backing = true → r.reserved = false →
      (∀ m ∈ s.coh.msgs, ¬ (m.agent = r.agent ∧ m.line = r.line)) →
      exec (.retryResend q) s = .next (s.putReq { r with backing := false }))
    ∧ (exec .predictorDecay s = .next (s.setCoh { s.coh with
        predicts := s.coh.predicts.map fun p => { p with count := p.count - 1 } }))
    ∧ (∀ id r held, s.mem.reqs.find? (fun r => r.id == id && r.tracked) = some r →
      (s.servedNext r held = false → exec (.memoryRequestComplete id [] held) s = .next s)
      ∧ (s.servedNext r held = true → ∃ t, exec (.memoryRequestComplete id [] held) s = .next t
        ∧ (r.write = true → (∀ k ∈ t.mem.reqs, k.id ≠ id) ∧ t.mem.hbm = s.mem.hbm ∧ t.coh = s.coh)
        ∧ (∀ x a, r.write = false → r.agent = some a → s.txnOf r.line = some x → x.kind = .getS → x.probed = [] →
            x.spills = [] → x.grantSent = false → x.supply ≠ 0 →
            ⟨.cargo, x.agent, r.line, x.supply⟩ ∈ t.coh.msgs ∧ ⟨.grant x.granted, x.agent, r.line, x.sectors⟩ ∈ t.coh.msgs)))
/-! ### Joined work -/

/-- The offer that LAUNCH_OFFER in mailbox `n` makes of its descriptor, at the root (R613, R622). -/
def rootOffer (s : State) (n : Nat) : Offer :=
  let pa := s.arg n 2
  let w := fun (i : Nat) => (s.hbmWord (pa + 8 * i)).toNat
  { job := s.arg n 0 % 2 ^ 32, attempt := s.arg n 0 / 2 ^ 48, from_ := none, deadline := s.arg n 1,
    desc := descOf (w 0) (w 1) (w 2) (w 3), own := 0, tree := (s.treeAt pa (w 0 % 2 ^ 15)).map treeEntry, frags := 0, got := [],
    held := false, acks := [], acked := false, missed := false, neg := none, alloc := none, abort := none,
    acknowledged := false, mbx := some n }

/-- R105, R107, R125, R126, R162 to R166, R172, R612 to R628, R637: the launch commands, the wake of a registered line, and a collective's
deadline: an offer of a good descriptor goes down the tree once its checks pass and its comparator is held, and is answered at
once where no child has to acknowledge; an acknowledged attempt is committed, an attempt is aborted, and what the deadline finds
unacknowledged is lost; a wake takes a flagged list, ends the waits that the line now meets, and posts a slot. -/
def Obligations.JoinedWork : Prop :=
  ∀ (s : State) (n : Nat),
    let a := s.arg n
    let job := a 0 % 2 ^ 32
    let attempt := a 0 / 2 ^ 48
    let o := rootOffer s n
    let w := fun (i : Nat) => (s.hbmWord (a 2 + 8 * i)).toNat
    let count := w 0 % 2 ^ 15
    (s.has n 0x0700 = true →
      (s.inHbm (a 2) 64 = false → exec (.launchOffer n) s = endsWith s n stBadArg [])
      ∧ (s.inHbm (a 2) 64 = true → s.poisoned (a 2) 64 = true → exec (.launchOffer n) s = endsWith s n stHwFault [])
      ∧ (s.inHbm (a 2) (64 + 4 * count) = true → s.poisoned (a 2) 64 = false → s.poisoned (a 2) (64 + 4 * count) = false →
        (badHead (w 0) (w 2) (w 3) = true → exec (.launchOffer n) s = endsWith s n stBadArg [])
        ∧ (badHead (w 0) (w 2) (w 3) = false → badReserved [w 4, w 5, w 6, w 7] (s.treeAt (a 2) count) = false →
            badTree s.fab.node o.tree = false → s.time.mt + 800000 ≤ a 1 →
          ((∃ x, s.offer job = some x ∧ attempt ≤ x.attempt) → exec (.launchOffer n) s = endsWith s n stBadState [])
          ∧ ((∀ x, s.offer job = some x → x.attempt < attempt) →
              exec (.launchOffer n) s = .next (((s.dropOffer job).begin_ n).holdOffer o)))))
    ∧ (∀ x t id, s.offer x.job = none → s.offerCheck x = none → x.kids = [] → x.tree ≠ [] → x.acked = false → x.missed = false →
        x.neg = none → x.abort = none → x.acks = [] → x.from_ = none → x.mbx = some n →
        s.allocate 8 0 (x.deadline + 800000000) .device (.offerExpiry x.job) = (t, .granted id) → t.joined = s.joined →
        s.holdOffer x = (t.setJoined { t.joined with offers := t.joined.offers ++
          [{ x with held := true, alloc := some id, acked := true, acknowledged := true, mbx := none }] }).complete n stOk [0])
    ∧ (s.has n 0x0701 = true → ∀ x, s.lapse job s.time.mt false = s → s.offer job = some x → x.attempt = attempt → x.from_ = none →
        a 1 < x.deadline + 800000000 → ⟨job, attempt⟩ ∉ s.joined.aborted →
        (x.acknowledged = true → exec (.launchCommit n) s = endsWith (s.commitOffer x (a 1) false) n 0 [])
        ∧ (x.acknowledged = false → exec (.launchCommit n) s = endsWith s n stBadState []))
    ∧ (s.has n 0x0701 = true → s.offer job = none → ⟨job, attempt⟩ ∈ s.joined.aborted →
        exec (.launchCommit n) s = endsWith s n stLaunchAborted [])
    ∧ (s.has n 0x0701 = true → ∀ x, s.lapse job s.time.mt false = s → s.offer job = some x → x.attempt = attempt → x.from_ = none →
        x.deadline + 800000000 ≤ a 1 → exec (.launchCommit n) s = endsWith s n stBadArg [])
    ∧ (∀ x stake near, s.offer x.job = some x → ∃ t, s.commitOffer x stake near = t ∧ t.offer x.job = none
        ∧ (∃ l ∈ t.joined.launches, l.job = x.job ∧ l.attempt = x.attempt ∧ l.stake = stake ∧ l.tree = x.tree)
        ∧ ((∃ al ∈ t.stakes.allocs, al.event = .launchStart x.job ∧ al.stake = stake ∧ al.cls = 0)
            ∨ ∃ y ∈ t.stakes.timers, y.event = .launchStart x.job ∧ y.due = stake))
    ∧ (s.has n 0x0702 = true → s.lapse job s.time.mt false = s → s.launchOf job attempt = none →
        (∀ x, s.offer job = some x → x.attempt = attempt → x.from_ = none → x.abort = none → x.held = true →
          exec (.launchAbort n) s = endsWith ((s.setJoined { s.joined with
            aborted := ⟨job, attempt⟩ :: s.joined.aborted.filter (· != ⟨job, attempt⟩) }).abortOffer x (a 1)) n 0 [])
        ∧ (s.offer job = none → exec (.launchAbort n) s = endsWith s n 0 []))
    ∧ (∀ c, (s.mbx n).cmd = some c → (s.mbx n).st = .busy → n < 64 → n < s.mbxs.length → c.opcode = 0x0700 → c.begun = true →
        a 1 ≤ s.time.mt → (∀ x ∈ s.joined.offers, x.mbx ≠ some n) → ∃ t, exec .launchDeadline s = .next t
          ∧ (t.mbx n).st = .done ∧ (t.mbx n).status = stDestLost ∧ t.mem = s.mem)
    ∧ ((∀ k < 64, ∀ c, (s.mbx k).cmd = some c → c.opcode ≠ 0x0700 ∨ c.begun = false) → exec .launchDeadline s = .next s)
    ∧ (∀ ctx slot c, s.coll ctx slot = some c → c.deadline ≠ 0 →
        let wins := s.arriving fun _ f stamp => f.op == opColl && f.word 0 % 2 ^ 32 == c.job && decide (stamp < c.deadline)
        (c.deadline ≤ s.time.mt → wins = false → exec (.collectiveDeadline ctx slot) s = .next (s.collEnd c stTimeout))
        ∧ (s.time.mt < c.deadline ∨ wins = true → exec (.collectiveDeadline ctx slot) s = .next s))
    ∧ (∀ id w, s.watch id = some w →
        let u := (s.setAbaom { s.abaom with
          watches := s.abaom.watches.map fun v => if v.id = w.id then { v with held := true, wake := false } else v }).glanceLine
            w.line 0xF .crit none none
        (w.wake = false → exec (.flagWake id) s = .next s)
        ∧ (w.wake = true → s.poisoned (w.line * 256) 256 = true → exec (.flagWake id) s = .next (u.countWake false))
        ∧ (w.wake = true → s.poisoned (w.line * 256) 256 = false → (∃ size, w.kind = .list size) →
            ((s.hbmWord (w.line * 256)).toNat % 4 = 2 → s.pass w.id = none →
              exec (.flagWake id) s = .next (((u.takeList w).wakeWaits w.line).1.countWake true))
            ∧ ((s.hbmWord (w.line * 256)).toNat % 4 ≠ 2 → s.abaom.passes = [] →
              exec (.flagWake id) s = .next (u.countWake false)))
        ∧ (w.wake = true → s.poisoned (w.line * 256) 256 = false → w.kind = .flag → s.abaom.passes = [] →
            exec (.flagWake id) s = .next
              (match u.postSlot w with | (t, true) => t | (t, false) => t.countWake false)))

/-- R9, R651 to R673, R856: monuments and restores: a good manifest is issued at its stake under an ID of its own, a layer is sealed once
its image is in place, a layer that fails gives way to the next, a restore ends RESTORED exactly when the digest agrees, and a
fill source is held by one claimant at a time. -/
def Obligations.Monuments : Prop :=
  ∀ (s : State) (n : Nat),
    let a := s.arg n
    (s.has n 0x0800 = true → BitVec.ofNat 3 (a 1) = 0 → exec (.monumentStart n) s = endsWith s n stBadArg [])
    ∧ (∀ m t al, s.has n 0x0800 = true → BitVec.ofNat 3 (a 1) ≠ 0 → s.fab.fenced = false →
        s.readManifest false (s.monuCtx n) (a 0) (a 2) (BitVec.ofNat 3 (a 1)) 0 = .ok m → s.monuRefusal m = none →
        s.allocate 8 1 m.stake (s.mailboxOwner n) (.capture s.monu.nextId) = (t, .granted al) →
        ∃ v, exec (.monumentStart n) s = endsWith v n 0 [s.monu.nextId] ∧ v.monu.nextId = (s.monu.nextId + 1) % 2 ^ 16
          ∧ ∃ x ∈ v.monu.items, x.id = s.monu.nextId ∧ x.isRestore = false ∧ x.st = .waiting ∧ x.stake = a 2)
    ∧ (∀ m t al, s.has n 0x0802 = true → a 1 % 4 ≠ 3 → s.fab.fenced = false →
        s.readManifest true (s.monuCtx n) (a 0) (a 2) 0 (a 1 % 4) = .ok m → s.monuRefusal m = none →
        s.allocate 8 1 m.stake (s.mailboxOwner n) (.restore s.monu.nextId) = (t, .granted al) →
        ∃ v, exec (.restore n) s = endsWith v n 0 [s.monu.nextId] ∧ v.monu.nextId = (s.monu.nextId + 1) % 2 ^ 16
          ∧ ∃ x ∈ v.monu.items, x.id = s.monu.nextId ∧ x.isRestore = true ∧ x.st = .waiting ∧ x.stake = a 2)
    ∧ (s.has n 0x0801 = true →
        (s.monument (a 0 % 2 ^ 16) = none → exec (.monumentQuery n) s = endsWith s n stBadArg [])
        ∧ (∀ m, s.monument (a 0 % 2 ^ 16) = some m → exec (.monumentQuery n) s = endsWith s n 0
            [m.stateWord + (if m.isRestore = true then 2 ^ 47 else 0), s.layerBytes m 0, s.layerBytes m 1, s.layerBytes m 2]))
    ∧ (∀ id m, s.monument id = some m → (m.st = .capturing ∨ m.st = .draining) → m.isRestore = false →
        let sealed := { m with sealedLayers := m.sealedLayers ||| BitVec.ofNat 3 (2 ^ m.layer), sealOut := true }
        (m.written = true → m.broken = none → s.monuBusy id = false →
          (m.layer = 1 → 2 ^ 44 < layerOffset m.header 1 + m.imageBytes + 256 →
            exec (.monumentSeal id m.layer) s = .next (s.breakMonument m.id none stHwFault))
          ∧ (m.layer = 1 → layerOffset m.header 1 + m.imageBytes + 256 ≤ 2 ^ 44 → m.seal.length ≤ 256 →
              exec (.monumentSeal id m.layer) s = .next
            ((s.setMonu { s.monu with
                flash := cellWrite s.monu.flash (layerOffset m.header 1 + m.imageBytes) m.seal }).layerEnds sealed))
          ∧ (m.layer ≠ 1 → m.sealOut = true → exec (.monumentSeal id m.layer) s = .next (s.layerEnds sealed))
          ∧ (m.layer ≠ 1 → m.sealOut = false → exec (.monumentSeal id m.layer) s = .next
              ((s.putMonument { m with sealOut := true }).layerWrite m m.imageBytes m.seal)))
        ∧ ((m.written = false ∨ m.broken ≠ none ∨ s.monuBusy id = true) → exec (.monumentSeal id m.layer) s = .next s)
        ∧ (∀ st k, m.broken = some (m.layer, st) → exec (.layerFailure id m.layer k) s = .next (s.failLayer m st))
        ∧ (m.broken = none → m.layer ≠ 1 → exec (.layerFailure id m.layer stHwFault) s = .next s)
        ∧ (m.broken = none → m.layer = 1 → exec (.layerFailure id 1 stHwFault) s = .next (s.failLayer m stHwFault)))
    ∧ (∀ id m, s.monument id = some m → m.isRestore = true → m.st = .reading → m.phase = .over_ →
        (shake256 m.buffer ≠ (m.sealBytes.drop 32).take 32 → ∃ t x, exec (.restoreComplete id) s = .next t
          ∧ t.monument id = some x ∧ x.st = .failed ∧ x.status = stHwFault)
        ∧ (shake256 m.buffer = (m.sealBytes.drop 32).take 32 → ∀ t, s.restoreCursor m = (t, true) → t.monu = s.monu →
          ∃ v x, exec (.restoreComplete id) s = .next v ∧ v.monument id = some x ∧ x.st = .restored ∧ x.status = stOk))
    ∧ (∀ f : Frame,
        let place := (f.word 1 % 2 ^ 12, f.word 2)
        let me := (f.src, fillId f)
        (s.fill place.1 place.2 = none → ∃ t, s.takeClaim f = t ∧ t.fill place.1 place.2 = some ⟨place.1, place.2, some me, []⟩)
        ∧ (∀ g, s.fill place.1 place.2 = some g → g.queue.length < 16 →
            (s.takeClaim f).fill place.1 place.2 = some { g with queue := g.queue ++ [me] })
        ∧ (∀ g, s.fill place.1 place.2 = some g → 16 ≤ g.queue.length →
            s.takeClaim f = s.fillMessage f.src 6 (fillId f) [stNoResource * 2 ^ 48] .none)
        ∧ (∀ g, s.fill place.1 place.2 = some g → g.holder ≠ some me →
            (s.takeRelease f).fill place.1 place.2 = some { g with queue := g.queue.filter (· != me) }))
/-! ### Trust, debug and observation -/

/-- R145, R148, R197, R753, R759, R760, R763 to R773: firmware update and identity: a session takes chunks of its size and commits an image
that verifies, an attestation of a device whose identity state is there spends one index and stores the report, and one that
comes earlier waits for it; a report that went through a tie is waited for. A live update pauses the service of mailboxes once no
command runs, a loss deadline within the pause moves by its length, and the new image runs at its end. -/
def Obligations.UpdateAndAttestation : Prop :=
  ∀ (s : State) (n : Nat),
    let a := s.arg n
    (s.has n 0x0B01 = true →
      (∀ x, s.trust.session = some x → x.mbx ≠ n → exec (.fwBegin n) s = endsWith s n stResourceBusy [])
      ∧ ((∀ x, s.trust.session = some x → x.mbx = n) → ∃ t, exec (.fwBegin n) s = endsWith t n 0 []
          ∧ t.trust.session = some ⟨n, a 0, decide (a 1 % 2 = 1), s.time.mt⟩ ∧ t.trust.staging = []
          ∧ t.trust.slot = s.trust.slot ∧ t.mbxs = s.mbxs ∧ t.mem = s.mem))
    ∧ (s.has n 0x0B02 = true →
      ((∀ x, s.trust.session = some x → x.mbx ≠ n) → exec (.fwChunk n) s = endsWith s n stBadState [])
      ∧ (∀ x, s.trust.session = some x → x.mbx = n →
          let u := s.setTrust { s.trust with session := some { x with last := s.time.mt } }
          (x.size < a 0 + a 1 → exec (.fwChunk n) s = endsWith u n stBadArg [])
          ∧ (a 0 + a 1 ≤ x.size → exec (.fwChunk n) s = endsWith (u.setTrust { u.trust with
              staging := cellWrite s.trust.staging (a 0) (s.chunkBytes n (a 1)) }) n 0 [])))
    ∧ (s.has n 0x0B03 = true → ∀ verified,
      ((∀ x, s.trust.session = some x → x.mbx ≠ n) → exec (.fwCommit n verified) s = endsWith s n stBadState [])
      ∧ (∀ x, s.trust.session = some x → x.mbx = n →
          let i := imageHead (s.staged 0 256)
          ((s.imageCheck s.staged false ≠ none ∨ x.size ≠ i.bodyBytes + 2820) → ∃ t, exec (.fwCommit n verified) s = .next t
            ∧ t.trust.slot = s.trust.slot ∧ t.trust.session = none ∧ t.trust.minSvn = s.trust.minSvn
            ∧ (n < s.mbxs.length → (t.mbx n).st = .done ∧ (t.mbx n).status = stSigInvalid))
          ∧ (s.imageCheck s.staged false = none → x.size = i.bodyBytes + 2820 → verified = true → s.conn.phase ≠ .recovering →
            ∃ t, exec (.fwCommit n verified) s = .next t
              ∧ t.trust.slot = s.trust.staging ∧ t.trust.slotBad = false ∧ t.trust.session = none
              ∧ t.trust.minSvn = (if i.raiseSvn = true then max s.trust.minSvn i.svn else s.trust.minSvn)
              ∧ ((x.live = false ∨ i.liveOk = false) → t.trust.image = s.trust.image ∧ t.trust.activeOwed = true)
              ∧ (∀ im, s.trust.image = some im → x.live = true → i.liveOk = true → i.abaom = im.abaom → s.trust.log.length < 64 →
                  t.trust.image = s.trust.image ∧ t.trust.pause = .asked))))
    ∧ (s.trust.pause = .asked →
        ((∃ k < 64, (s.mbx k).st = .busy) → s.pauseTick = s)
        ∧ ((∀ k < 64, (s.mbx k).st ≠ .busy) → ∃ len ≤ 160000000, s.pauseTick.trust.pause = .until_ (s.time.mt + len)
            ∧ s.pauseTick.abaom.beat = if s.abaom.beat.live = true ∧ s.time.mt ≤ s.abaom.beat.deadline
                ∧ s.abaom.beat.deadline < s.time.mt + len then
                { s.abaom.beat with deadline := s.abaom.beat.deadline + len } else s.abaom.beat))
    ∧ (∀ m, s.trust.pause = .until_ m → (m ≤ s.time.mt → s.pauseTick.trust.pause = .off ∧ ∃ im, s.pauseTick.trust.image = some im)
        ∧ (s.time.mt < m → s.pauseTick = s))
    ∧ (∀ x, s.trust.session = some x →
      (x.last + 80000000000 ≤ s.time.mt → ∃ t, exec .fwSessionTimeout s = .next t ∧ t.trust = { s.trust with session := none })
      ∧ (s.time.mt < x.last + 80000000000 → exec .fwSessionTimeout s = .next s))
    ∧ (s.has n 0x0B00 = true →
      (s.trust.rebuilt = false → exec (.attest n) s = .next ((s.begin_ n).setTrust { s.trust with
        attests := s.trust.attests ++ [s.attestTaken n] }))
      ∧ (s.trust.rebuilt = true → (2 ^ 28 ≤ s.trust.idx ∨ s.trust.scope = 2) → exec (.attest n) s = endsWith s n stAuthFail [])
      ∧ (s.trust.rebuilt = true → s.trust.idx < 2 ^ 28 → s.trust.scope ≠ 2 →
          let body := s.reportBody (s.attestTaken n)
          let report := body ++ signature s.trust.nextIndex body
          (s.storeReport n (a 4) report = none → exec (.attest n) s = endsWith s n stBadArg [])
          ∧ (∀ t, s.storeReport n (a 4) report = some t →
              let v := t.setTrust t.trust.useIndex
              exec (.attest n) s = if v.reportOut n = true then .next (v.begin_ n) else endsWith v n 0 [14373])))
    ∧ (s.trust.image ≠ none → s.trust.rebuilt = false → ∃ t, exec .identityStateRebuilt s = .next t ∧ t.trust.rebuilt = true
        ∧ t.trust.attests = []
        ∧ (s.trust.attests = [] →
            (s.trust.idxCopy = some s.trust.idx → t.trust.nextIndex = s.trust.nextIndex ∧ t.trust.idx = s.trust.idx)
            ∧ (s.trust.idxCopy ≠ some s.trust.idx → t.trust.nextIndex = 4096 * s.trust.idx ∧ t.trust.idx = s.trust.idx + 1)))

/-- R747, R759, R761 to R763, R774 to R777: recovery by fetch, the hub's firewall and the TAP: the fetch asks its sources in
turn, a running device serves its own slot, a firewall counts what it drops, and the TAP's instructions shift what R775 gives
them, those that no token has opened acting as BYPASS. -/
def Obligations.RecoveryAndDebug : Prop :=
  ∀ (s : State),
    (∀ r, s.trust.recovery = some r → s.conn.phase = .recovering →
      let ask := fun (t : State) (q : Recovery) (node : Nat) => Host.Outcome.next (ρ := Refusal) (φ := Fault)
        ((t.setTrust { t.trust with recovery := some { q with sent := s.time.mt, attempts := q.attempts + 1 } }).emit
          (.datagram (fabricAddress s.trust.sourcePfx node) 0xB2E6 (fetchWords 1 q.length q.offset)))
      (r.fetching = false → s.trust.session = none → r.since + 480000000000 ≤ s.time.mt →
        (∀ node l, s.trust.sources = node :: l → exec .recoveryFetch s =
          ask (s.setTrust { s.trust with staging := [] })
            { r with fetching := true, source := 0, turned := s.time.mt, offset := 0, attempts := 0, want := 1024 } node)
        ∧ (s.trust.sources = [] → exec .recoveryFetch s = .next (s.setTrust { s.trust with
            recovery := some { r with fetching := false, since := s.time.mt, source := 0, attempts := 0 } })))
      ∧ (s.time.mt < r.since + 480000000000 → exec .recoveryFetch s = .next s)
      ∧ (r.fetching = true → r.sent + 8000000 ≤ s.time.mt → r.attempts < 8 → s.time.mt < r.turned + 160000000000 →
          ∀ node, s.trust.sources[r.source]? = some node → exec .fetchRetry s = ask s r node)
      ∧ (r.fetching = true → r.sent + 8000000 ≤ s.time.mt → 8 ≤ r.attempts →
          exec .fetchRetry s = .next (s.turnTo r (r.source + 1)))
      ∧ (∀ node (data : List Byte), r.fetching = true → s.trust.sources[r.source]? = some node → data.length = r.length →
          ∀ verified, exec (.neighbourFetchReply (fabricAddress s.trust.sourcePfx node)
            (fetchWords 2 r.length r.offset ++ data) verified) s = .next (s.takeFetched r data verified)))
    ∧ (∀ addr port off len, s.running = true → s.trust.booted = true → s.slotWriting = false → 1 ≤ len → len ≤ 1024 → off + len ≤ 4194304 →
        exec (.recoveryFetchRequest addr port (fetchWords 1 len off)) s =
          .next (s.emit (.datagram addr port (fetchWords 2 len off ++ cellRead s.trust.slot off len))))
    ∧ (∀ k < 4, exec (.firewallDrop k) s = .next (s.setTrust { s.trust with
        optDrops := s.trust.optDrops.modify k fun v => min (v + 1) 0xFFFF }))
    ∧ (s.conn.phase ≠ .off →
      let ir := fun (t : State) (code : Nat) => t.setTrust { t.trust with ir := code }
      let shift := fun (t : State) (l : List Bool) => Host.Outcome.next (ρ := Refusal) (φ := Fault) (t.emit (.tdo l))
      (∀ code < 256, code ∉ [0x01, 0x02, 0x03, 0x10, 0x11] → ¬ (0x20 ≤ code ∧ code < 0x30) →
        exec (.bypass code) s = shift (ir s code) [false])
      ∧ (∀ code, 0x20 ≤ code → code < 0x30 → s.trust.scope ≠ 2 →
          exec (.bypass code) s = shift (ir s code) [false] ∧ exec (.vendorDebug code) s = shift (ir s code) [false])
      ∧ exec .idcode s = shift (ir s 0x01) ((List.range 32).map fun i => (0x2010856B : Nat).testBit i)
      ∧ (∃ t c, exec .authChal s = shift t ((List.range 256).map fun i => c.testBit i) ∧ t.trust.challenge = c
          ∧ t.trust.spent = false ∧ t.trust.ir = 0x10 ∧ t.trust.scope = s.trust.scope)
      ∧ (∀ token, ∃ t, exec (.authResp token) s = .next t ∧ t.trust.spent = true ∧ t.trust.ir = 0x11
          ∧ (s.tokenOk token = false → t.trust.scope = s.trust.scope ∧ t.trust.log = s.trust.log)
          ∧ (s.tokenOk token = true → t.trust.scope = max s.trust.scope (imageWord token 0 % 4)
              ∧ t.trust.log.length = s.trust.log.length + 1))
      ∧ (∀ levels cells,
          (s.trust.scope = 0 → exec (.samplePreload levels cells) s = shift (ir s 0x02) [false]
            ∧ exec (.extest levels cells) s = shift (ir s 0x03) [false])
          ∧ (s.trust.scope ≠ 0 → exec (.samplePreload levels cells) s =
              shift (ir (s.setTrust { s.trust with boundary := cells }) 0x02) levels
            ∧ ∃ t, exec (.extest levels cells) s = .next t ∧ t.trust.boundary = cells ∧ t.trust.ir = 0x03
              ∧ t.outbox = .pins cells :: .tdo levels :: .pins s.trust.boundary :: s.outbox)))

/-- R804 to R824: TRACE_SET, TRACE_ENABLE, TRACE_DISABLE, TRACE_DUMP, TRACE_RELEASE and TRACE_ARM, COUNTER_CONFIG, FROZEN_CLEAR,
TRACE_SAMPLE, TRACE_BUFFER_WRITE and TRACE_TRIGGER complete: a unit, or every unit, is set while it is off, enabled once it is set and
its die lives, and records from slot 0; DISABLE waits for its FIFO; DUMP writes the SRAM, oldest record first; RELEASE lets the SRAM
record again; the trigger is armed with each source, or disarmed; a programmable counter is set, freed or cleared by the partition's
owner of it; a record goes from the FIFO to the next slot, and a trigger is taken by every live unit. -/
def Obligations.Observation : Prop :=
  ∀ (s : State) (n : Nat),
    let a := s.arg n
    let op := a 0 % 16
    let one := a 0 / 2 ^ 8 % 16
    (s.has n 0x0C00 = true → s.obs.units.length = 9 →
      (op = 0 → one < 9 → ((s.unit one).st ≠ .off → exec (.traceSet n) s = endsWith s n stBadState [])
        ∧ ((s.unit one).st = .off → s.inHbm (a 1) (a 2 * 2 ^ 20) = false → exec (.traceSet n) s = endsWith s n stBadArg [])
        ∧ ((s.unit one).st = .off → s.inHbm (a 1) (a 2 * 2 ^ 20) = true →
            (∀ v < 9, v ≠ one → (s.unit v).configured = true →
              (s.unit v).base + (s.unit v).sizeMiB * 2 ^ 20 ≤ a 1 ∨ a 1 + a 2 * 2 ^ 20 ≤ (s.unit v).base) →
          exec (.traceSet n) s = endsWith (s.putUnit one { s.unit one with
            configured := true, base := a 1, sizeMiB := a 2, mode := a 3 % 4, mark := a 3 / 2 ^ 8 % 2 == 1,
            sample := a 3 / 2 ^ 9 % 2 == 1, quota := a 3 / 2 ^ 16 % 2 ^ 16, interval := a 4 % 2 ^ 16,
            markA := if a 4 / 2 ^ 24 % 2 = 1 then some (a 4 / 2 ^ 16 % 16) else none,
            markB := if a 4 / 2 ^ 25 % 2 = 1 then some (a 4 / 2 ^ 20 % 16) else none }) n 0 []))
      ∧ (op = 0 → one = 15 → (∀ u < 9, (s.unit u).st = .off ∧ s.inHbm (a 1 + u * a 2 * 2 ^ 20) (a 2 * 2 ^ 20) = true) →
          ∃ t, exec (.traceSet n) s = endsWith t n 0 [] ∧ ∀ u < 9, (t.unit u).configured = true ∧ (t.unit u).sizeMiB = a 2
            ∧ (t.unit u).base = a 1 + u * a 2 * 2 ^ 20 ∧ (t.unit u).mode = a 3 % 4 ∧ (t.unit u).st = .off)
      ∧ (op = 1 → one < 9 → ((s.unit one).configured = false → exec (.traceEnable n) s = endsWith s n stBadState [])
        ∧ ((s.unit one).configured = true → s.unitLive one = false → exec (.traceEnable n) s = endsWith s n stNoResource [])
        ∧ ((s.unit one).configured = true → s.unitLive one = true → (s.unit one).st ≠ .off →
            exec (.traceEnable n) s = endsWith s n 0 [])
        ∧ ((s.unit one).configured = true → s.unitLive one = true → (s.unit one).st = .off → (s.unit one).fifo = [] →
          ∃ t, exec (.traceEnable n) s = endsWith t n 0 [] ∧ (t.unit one).st = .running ∧ (t.unit one).wptr = 0
            ∧ (t.unit one).wrapped = false ∧ (t.unit one).fifo.length = (if (s.unit one).pendingDrops = 0 then 1 else 2)
            ∧ (∀ v, v ≠ one → t.unit v = s.unit v)))
      ∧ (op = 1 → one = 15 → (∀ u < 9, (s.unit u).configured = true ∧ s.unitLive u = true) →
          ∃ t, exec (.traceEnable n) s = endsWith t n 0 [] ∧ ∀ u < 9, (t.unit u).st ≠ .off)
      ∧ (op = 2 → one < 9 → (∀ u ∈ s.obs.units, u.disabling = []) →
          ((s.unit one).st = .off → ∃ t, exec (.traceDisable n) s = endsWith t n 0 [] ∧ t.obs = s.obs)
          ∧ ((s.unit one).st ≠ .off → (s.unit one).fifo = [] → ∃ t, exec (.traceDisable n) s = endsWith t n 0 []
              ∧ (t.unit one).st = .off)
          ∧ ((s.unit one).st ≠ .off → (s.unit one).fifo ≠ [] → ∃ t, exec (.traceDisable n) s = .next t
              ∧ (t.unit one).disabling = [n] ∧ (t.mbx n).st = .busy))
      ∧ (op = 2 → one = 15 → (∀ u ∈ s.obs.units, u.disabling = [] ∧ u.fifo = []) →
          ∃ t, exec (.traceDisable n) s = endsWith t n 0 [] ∧ ∀ u < 9, (t.unit u).st = .off)
      ∧ (op = 4 → one < 9 →
          exec (.traceDump n) s = if s.inHbm (a 1) 65536 = true then endsWith (s.hubWrite (a 1) (s.unit one).dump) n 0 []
            else endsWith s n stBadArg [])
      ∧ (op = 4 → one = 15 → ∃ t, exec (.traceDump n) s = endsWith t n (if s.inHbm (a 1) 589824 = true then 0 else stBadArg) []
          ∧ t.obs = s.obs ∧ (s.inHbm (a 1) 589824 = false → t = s))
      ∧ (op = 5 → one < 9 → exec (.traceRelease n) s = endsWith (s.putUnit one { s.unit one with frozen := false }) n 0 [])
      ∧ (op = 5 → one = 15 → ∃ t, exec (.traceRelease n) s = endsWith t n 0 []
          ∧ ∀ u < 9, t.unit u = { s.unit u with frozen := false })
      ∧ (op = 6 →
          let source := a 1 % 16
          let key := a 1 / 2 ^ 16 % 2 ^ 16
          let v := s.takeTrigger
          let free := v.dropTrigger
          (source = 0 ∨ source = 3 ∨ source = 4 →
            exec (.traceArm n) s = endsWith (free.setObs { v.obs with trig := { v.obs.trig with
              armed := decide (source ≠ 0), fired := false, source, matchKey := key, stake := 0, alloc := none, pending := false } }) n 0 [])
          ∧ (source = 2 → s.time.ppsTime = true → exec (.traceArm n) s = endsWith v n stResourceBusy [0, 4255744])
          ∧ (source = 2 → s.time.ppsTime = false → ∃ t, exec (.traceArm n) s = endsWith t n 0 [] ∧ t.obs.trig.armed = true
              ∧ t.obs.trig.source = 2 ∧ t.time.trigHeld = true)
          ∧ (source = 5 → ∃ t, exec (.traceArm n) s = endsWith t n 0 [] ∧ t.obs.trig.fired = true ∧ t.obs.trig.pending = true
              ∧ t.obs.trig.armed = false ∧ t.obs.trig.mt = s.time.mt)
          ∧ (∀ u id, source = 1 → free.allocate 8 3 (a 2) (v.mailboxOwner n) .traceTrigger = (u, .granted id) →
              ∃ t, exec (.traceArm n) s = endsWith t n 0 [] ∧ t.obs.trig.armed = true ∧ t.obs.trig.source = 1
                ∧ t.obs.trig.stake = a 2 ∧ t.obs.trig.alloc = some id ∧ t.stakes = u.stakes)))
    ∧ (s.has n 0x0C01 = true → s.obs.sels.length = 128 →
        let part := match s.boundCtx n with | some c => (s.ctx c).partition | none => a 0 / 2 ^ 8 % 16
        let old := nth s.obs.sels (16 * part + op) CounterSel.reset
        let mine := match s.boundCtx n with | some c => old.valid = false ∨ (old.fromK = false ∧ old.owner = c) | none => True
        (¬ mine → exec (.counterConfig n) s = endsWith s n stResourceBusy [])
        ∧ (mine → part < 8 → ∃ t, exec (.counterConfig n) s = endsWith t n 0 []
          ∧ (nth t.obs.sels (16 * part + op) CounterSel.reset) =
              (if a 1 % 256 = 0 then { old with valid := false } else
                match s.boundCtx n with
                | some c => ⟨true, false, true, c, c, a 1 % 256⟩
                | none => ⟨true, true, a 1 / 2 ^ 15 % 2 == 1, 0, a 1 / 2 ^ 8 % 64, a 1 % 256⟩)
          ∧ (∀ k, k ≠ 16 * part + op → t.obs.sels[k]? = s.obs.sels[k]?)
          ∧ (∀ i v, s.obs.prog[i]? = some v → t.obs.prog[i]? = some
              (if a 0 / 2 ^ 16 % 2 = 1 ∧ i % 16 = op ∧ s.partOf (i / 16 / 24) = part then 0 else v))
          ∧ t.obs.aon = s.obs.aon))
    ∧ (∀ u < 9, exec (.frozenClear u) s = .next (s.putUnit u { s.unit u with frozen := false }))
    ∧ ((∀ u < 8, s.sampleDue u = none) → exec .traceSample s = .next s)
    ∧ (∀ mt, s.sampleDue 0 = some mt → (∀ u < 8, u ≠ 0 → s.sampleDue u = none) → s.ids.clusterLive = List.replicate 8 0 →
        exec .traceSample s = .next (s.putUnit 0 { s.unit 0 with lastSample := mt }))
    ∧ (∀ cluster mt, s.unitLive (cluster / 24) = true → (s.unit (cluster / 24)).st ≠ .off →
        (s.unit (cluster / 24)).fifo.length ≤ 250 → (s.unit (cluster / 24)).pendingDrops = 0 → s.obs.units.length = 9 →
        ((s.sampleCluster cluster mt).unit (cluster / 24)).fifo.length = (s.unit (cluster / 24)).fifo.length + 3)
    ∧ (∀ u rec rest, u < 9 → s.obs.units.length = 9 → (s.unit u).st ≠ .off → (s.unit u).fifo = rec :: rest →
        (s.unit u).full = false → (s.unit u).pendingDrops = 0 → (s.unit u).disabling = [] →
        exec (.traceBufferWrite u) s = .next ((s.putUnit u { s.unit u with fifo := rest }).keepRecord u rec)
        ∧ ((s.putUnit u { s.unit u with fifo := rest }).keepRecord u rec).unit u = { s.unit u with
            fifo := rest,
            wptr := if (s.unit u).mode = 0 then (s.unit u).wptr + 1 else ((s.unit u).wptr + 1) % (s.unit u).slots,
            written := (s.unit u).written + 1,
            wrapped := (s.unit u).wrapped || (decide ((s.unit u).mode ≠ 0) && decide ((s.unit u).slots ≤ (s.unit u).written)) })
    ∧ (∀ u, (s.unit u).fifo = [] → u < 9 → exec (.traceBufferWrite u) s = .next s)
    ∧ (s.obs.trig.pending = true → exec .traceTrigger s = .next (((List.range 9).filter s.unitLive).foldl State.triggerUnit
        (s.setObs { s.obs with trig := { s.obs.trig with pending := false } })))
end

