-- ==== Sys2Proof/Laws/Issue.lean ====
section
/-!
SUPPORT. What the issue of an instruction does: everything that a ready sub-group's instruction can make of the machine.
-/

namespace Sys2Proof.Machine

@[simp] theorem State.settleEffect_done (s t : State) (a : At) (n : Nat) (g : Group) :
    s.settleEffect a n (.done g t) = t.executed a n g := rfl

@[simp] theorem State.settleEffect_split (s t : State) (a : At) (n : Nat) (g : Group) (l : List SubGroup) :
    s.settleEffect a n (.split g t l) = t.executedInto a n g l := rfl

@[simp] theorem State.settleEffect_raise (s : State) (a : At) (n : Nat) (x : Exc) (m : BitVec 32) (info : Nat) :
    s.settleEffect a n (.raise x m info) = s.takeException a.b x (a.site m info) := rfl

@[simp] theorem State.settleEffect_fault (s t : State) (a : At) (n : Nat) (m : BitVec 32) (info : Nat) :
    s.settleEffect a n (.fault t m info) = t.takeException a.b .translation (a.site m info) := rfl

@[simp] theorem State.settleEffect_wait (s t : State) (a : At) (n : Nat) : s.settleEffect a n (.wait t) = t := rfl

@[simp] theorem State.settleEffect_poison (s : State) (a : At) (n : Nat) :
    s.settleEffect a n .poison = s.hwFault a.b.ctx := rfl

/-- What a sub-group that is to execute has chosen. -/
theorem State.choose_of_issuing {s : State} {r : SubRef} {a : At} {n : Nat} (h : s.issuing r = some (a, n)) :
    s.choose r = .insn a n ∧ a.i.legal a.b.regs = true ∧ (isCollective a.i.cls a.i.op = true → a.sg.mask.getLsbD a.g.issuer = true) := by
  unfold State.issuing at h
  split at h
  · rename_i heq
    simp only [Option.ite_none_right_eq_some, Option.some.injEq, Prod.mk.injEq, Bool.and_eq_true, Bool.or_eq_true,
      Bool.not_eq_true'] at h
    obtain ⟨⟨hl, hk⟩, rfl, rfl⟩ := h
    exact ⟨heq, hl, fun hc => hk.resolve_left (by simp [hc])⟩
  · cases h

/-- Where a sub-group's instruction is to execute, the issue is what the instruction's effect makes of the machine. -/
theorem State.issue_of_issuing {s : State} {r : SubRef} {a : At} {n : Nat} (h : s.issuing r = some (a, n))
    {mine : Insn → Bool} (hm : mine a.i = true) (eff : At → State → Effect) :
    s.issue mine eff r = s.settleEffect a n (eff a s) := by
  obtain ⟨hc, hl, hk⟩ := State.choose_of_issuing h
  unfold State.issue
  cases hcol : isCollective a.i.cls a.i.op <;> simp_all

/-- The row of an instruction runs it: the issue of its class and operation. -/
theorem onIssue_of_issuing {s : State} {r : SubRef} {a : At} {n : Nat} (h : s.issuing r = some (a, n)) {cls op : Nat}
    (hc : a.i.cls = cls) (ho : a.i.op = op) (eff : At → State → Effect) :
    onIssue cls op eff r s = .next (s.settleEffect a n (eff a s)) := by
  unfold onIssue
  rw [State.issue_of_issuing h (by simp [hc, ho])]

end Sys2Proof.Machine
end

