-- ==== Sys2Proof/Laws/Memory.lean ====
section
/-!
SUPPORT. The sparse memories: a read after a write gives what was written, a write leaves every other byte alone, and
every write keeps the canonical form.
-/

namespace Sys2Proof.Machine

/-- A list in canonical form from `lo` on reads 0 below `lo`. -/
theorem cellGet_below {m : List Host.Cell} {lo a : Nat} (h : cellsFrom lo m = true) (ha : a < lo) : cellGet m a = 0 := by
  cases m with
  | nil => rfl
  | cons c m =>
    obtain ⟨k, v⟩ := c
    simp only [cellsFrom, Bool.and_eq_true, decide_eq_true_eq] at h
    simp only [cellGet, if_neg (show ¬ k = a by omega), if_pos (show a < k by omega)]

/-- The canonical form from a higher address is one from a lower. -/
theorem cellsFrom_le {m : List Host.Cell} {lo hi : Nat} (h : cellsFrom hi m = true) (hl : lo ≤ hi) :
    cellsFrom lo m = true := by
  cases m with
  | nil => rfl
  | cons c m =>
    obtain ⟨k, v⟩ := c
    simp only [cellsFrom, Bool.and_eq_true, decide_eq_true_eq] at h ⊢
    exact ⟨⟨by omega, h.1.2⟩, h.2⟩

theorem cellsFrom_cellCons {m : List Host.Cell} {lo a : Nat} (b : Byte) (h : cellsFrom (a + 1) m = true) (hl : lo ≤ a) :
    cellsFrom lo (cellCons a b m) = true := by
  unfold cellCons
  split
  · exact cellsFrom_le h (by omega)
  · simp_all [cellsFrom]

theorem cellsFrom_cellPut {m : List Host.Cell} {lo a : Nat} (b : Byte) (h : cellsFrom lo m = true) (hl : lo ≤ a) :
    cellsFrom lo (cellPut m a b) = true := by
  induction m generalizing lo with
  | nil => exact cellsFrom_cellCons b rfl hl
  | cons c m ih =>
    obtain ⟨k, v⟩ := c
    simp only [cellsFrom, Bool.and_eq_true, decide_eq_true_eq] at h
    unfold cellPut
    split
    · rename_i hk
      exact cellsFrom_cellCons b (hk ▸ h.2) hl
    · split
      · exact cellsFrom_cellCons b (by simp only [cellsFrom, Bool.and_eq_true, decide_eq_true_eq]
                                       exact ⟨⟨by omega, h.1.2⟩, h.2⟩) hl
      · simp only [cellsFrom, Bool.and_eq_true, decide_eq_true_eq]
        exact ⟨h.1, ih h.2 (by omega)⟩

/-- Writing a byte keeps the canonical form. -/
theorem cellPut_wf {m : List Host.Cell} (a : Nat) (b : Byte) (h : Memory.wf m = true) : Memory.wf (cellPut m a b) = true :=
  cellsFrom_cellPut b h (Nat.zero_le a)

/-- Writing a run of bytes keeps the canonical form. -/
theorem cellWrite_wf {m : List Host.Cell} (a : Nat) (bs : List Byte) (h : Memory.wf m = true) :
    Memory.wf (cellWrite m a bs) = true := by
  induction bs generalizing m a with
  | nil => exact h
  | cons b bs ih => exact ih (a + 1) (cellPut_wf a b h)

theorem cellGet_cellCons {m : List Host.Cell} {a : Nat} (b : Byte) (h : cellsFrom (a + 1) m = true) :
    cellGet (cellCons a b m) a = b := by
  unfold cellCons
  split
  · rename_i hb
    rw [cellGet_below h (by omega), hb]
  · simp [cellGet]

/-- A read of the byte written gives it. -/
theorem cellGet_cellPut_same {m : List Host.Cell} {lo : Nat} (a : Nat) (b : Byte) (h : cellsFrom lo m = true) :
    cellGet (cellPut m a b) a = b := by
  induction m generalizing lo with
  | nil => exact cellGet_cellCons b rfl
  | cons c m ih =>
    obtain ⟨k, v⟩ := c
    simp only [cellsFrom, Bool.and_eq_true, decide_eq_true_eq] at h
    unfold cellPut
    split
    · rename_i hk
      exact cellGet_cellCons b (hk ▸ h.2)
    · split
      · exact cellGet_cellCons b (by simp only [cellsFrom, Bool.and_eq_true, decide_eq_true_eq]
                                     exact ⟨⟨by omega, h.1.2⟩, h.2⟩)
      · simp only [cellGet, if_neg (show ¬ k = a by omega), if_neg (show ¬ a < k by omega)]
        exact ih h.2

theorem cellGet_cellCons_ne {m : List Host.Cell} {a c : Nat} (b : Byte) (h : cellsFrom (a + 1) m = true) (hc : c ≠ a) :
    cellGet (cellCons a b m) c = cellGet m c := by
  unfold cellCons
  split
  · rfl
  · simp only [cellGet, if_neg (Ne.symm hc)]
    split
    · exact (cellGet_below h (by omega)).symm
    · rfl

/-- A write of one byte leaves every other byte alone. -/
theorem cellGet_cellPut_ne {m : List Host.Cell} {lo a c : Nat} (b : Byte) (h : cellsFrom lo m = true) (hc : c ≠ a) :
    cellGet (cellPut m a b) c = cellGet m c := by
  induction m generalizing lo with
  | nil => exact cellGet_cellCons_ne b rfl hc
  | cons e m ih =>
    obtain ⟨k, v⟩ := e
    simp only [cellsFrom, Bool.and_eq_true, decide_eq_true_eq] at h
    unfold cellPut
    split
    · rename_i hk
      rw [cellGet_cellCons_ne b (hk ▸ h.2) hc]
      simp only [cellGet, if_neg (show ¬ k = c by omega)]
      split
      · exact cellGet_below h.2 (by omega)
      · rfl
    · split
      · exact cellGet_cellCons_ne b (by simp only [cellsFrom, Bool.and_eq_true, decide_eq_true_eq]
                                        exact ⟨⟨by omega, h.1.2⟩, h.2⟩) hc
      · simp only [cellGet]
        split
        · rfl
        · split
          · rfl
          · exact ih h.2

/-- What a byte of a memory reads after a run of bytes is written: the byte of the run, or what it read before. -/
theorem cellGet_cellWrite {m : List Host.Cell} (bs : List Byte) (a c : Nat) (h : Memory.wf m = true) :
    cellGet (cellWrite m a bs) c = if a ≤ c ∧ c < a + bs.length then bs.getD (c - a) 0 else cellGet m c := by
  induction bs generalizing m a with
  | nil => simp [cellWrite]
  | cons b bs ih =>
    unfold cellWrite
    rw [ih (a + 1) (cellPut_wf a b h)]
    by_cases hc : c = a
    · subst hc
      simp [cellGet_cellPut_same c b h]
    · rw [cellGet_cellPut_ne b h hc]
      by_cases hin : a + 1 ≤ c ∧ c < a + 1 + bs.length
      · rw [if_pos hin, if_pos (by simp only [List.length_cons]; omega), show c - a = (c - (a + 1)) + 1 by omega]
        rfl
      · rw [if_neg hin, if_neg (by simp only [List.length_cons]; omega)]

/-- A read of the run written gives it. -/
theorem cellRead_length (m : List Host.Cell) (a n : Nat) : (cellRead m a n).length = n := by
  induction n generalizing a with
  | zero => rfl
  | succ n ih => simp [cellRead, ih]

/-- Byte `i` of a run read. -/
theorem cellRead_getD {m : List Host.Cell} {a n i : Nat} (h : i < n) : (cellRead m a n).getD i 0 = cellGet m (a + i) := by
  induction n generalizing a i with
  | zero => omega
  | succ n ih =>
    cases i with
    | zero => rfl
    | succ i =>
      simp only [cellRead, List.getD_cons_succ]
      rw [ih (by omega)]
      congr 1
      omega

/-- Reading back a run that was just written. -/
theorem cellRead_cellWrite {m : List Host.Cell} (a : Nat) (bs : List Byte) (h : Memory.wf m = true) :
    cellRead (cellWrite m a bs) a bs.length = bs := by
  apply List.ext_getElem?
  intro i
  by_cases hi : i < bs.length
  · have e1 := cellRead_getD (m := cellWrite m a bs) (a := a) hi
    rw [cellGet_cellWrite bs a (a + i) h, if_pos (by omega), show a + i - a = i by omega] at e1
    rw [List.getElem?_eq_getElem (by rw [cellRead_length]; exact hi), List.getElem?_eq_getElem hi]
    rw [List.getD_eq_getElem _ _ (by rw [cellRead_length]; exact hi), List.getD_eq_getElem _ _ hi] at e1
    rw [e1]
  · rw [List.getElem?_eq_none (by rw [cellRead_length]; omega), List.getElem?_eq_none (by omega)]

end Sys2Proof.Machine
end

