-- ==== Sys2Proof/Laws/State.lean ====
section
/-!
SUPPORT. One lemma for every field and every update of the state.
-/

namespace Sys2Proof.Machine

@[simp] theorem State.setConn_conn (s : State) (v : ModuleState) : (s.setConn v).conn = v := rfl
@[simp] theorem State.setConn_ids (s : State) (v : ModuleState) : (s.setConn v).ids = s.ids := rfl
@[simp] theorem State.setConn_time (s : State) (v : ModuleState) : (s.setConn v).time = s.time := rfl
@[simp] theorem State.setConn_stakes (s : State) (v : ModuleState) : (s.setConn v).stakes = s.stakes := rfl
@[simp] theorem State.setConn_mbxs (s : State) (v : ModuleState) : (s.setConn v).mbxs = s.mbxs := rfl
@[simp] theorem State.setConn_abaom (s : State) (v : ModuleState) : (s.setConn v).abaom = s.abaom := rfl
@[simp] theorem State.setConn_ctxs (s : State) (v : ModuleState) : (s.setConn v).ctxs = s.ctxs := rfl
@[simp] theorem State.setConn_share (s : State) (v : ModuleState) : (s.setConn v).share = s.share := rfl
@[simp] theorem State.setConn_compute (s : State) (v : ModuleState) : (s.setConn v).compute = s.compute := rfl
@[simp] theorem State.setConn_xlat (s : State) (v : ModuleState) : (s.setConn v).xlat = s.xlat := rfl
@[simp] theorem State.setConn_fab (s : State) (v : ModuleState) : (s.setConn v).fab = s.fab := rfl
@[simp] theorem State.setConn_coh (s : State) (v : ModuleState) : (s.setConn v).coh = s.coh := rfl
@[simp] theorem State.setConn_mem (s : State) (v : ModuleState) : (s.setConn v).mem = s.mem := rfl
@[simp] theorem State.setConn_joined (s : State) (v : ModuleState) : (s.setConn v).joined = s.joined := rfl
@[simp] theorem State.setConn_monu (s : State) (v : ModuleState) : (s.setConn v).monu = s.monu := rfl
@[simp] theorem State.setConn_pwr (s : State) (v : ModuleState) : (s.setConn v).pwr = s.pwr := rfl
@[simp] theorem State.setConn_trust (s : State) (v : ModuleState) : (s.setConn v).trust = s.trust := rfl
@[simp] theorem State.setConn_dies (s : State) (v : ModuleState) : (s.setConn v).dies = s.dies := rfl
@[simp] theorem State.setConn_obs (s : State) (v : ModuleState) : (s.setConn v).obs = s.obs := rfl
@[simp] theorem State.setConn_freeCtr (s : State) (v : ModuleState) : (s.setConn v).freeCtr = s.freeCtr := rfl
@[simp] theorem State.setConn_outbox (s : State) (v : ModuleState) : (s.setConn v).outbox = s.outbox := rfl
@[simp] theorem State.setConn_pending (s : State) (v : ModuleState) : (s.setConn v).pending = s.pending := rfl

@[simp] theorem State.setIds_conn (s : State) (v : IdState) : (s.setIds v).conn = s.conn := rfl
@[simp] theorem State.setIds_ids (s : State) (v : IdState) : (s.setIds v).ids = v := rfl
@[simp] theorem State.setIds_time (s : State) (v : IdState) : (s.setIds v).time = s.time := rfl
@[simp] theorem State.setIds_stakes (s : State) (v : IdState) : (s.setIds v).stakes = s.stakes := rfl
@[simp] theorem State.setIds_mbxs (s : State) (v : IdState) : (s.setIds v).mbxs = s.mbxs := rfl
@[simp] theorem State.setIds_abaom (s : State) (v : IdState) : (s.setIds v).abaom = s.abaom := rfl
@[simp] theorem State.setIds_ctxs (s : State) (v : IdState) : (s.setIds v).ctxs = s.ctxs := rfl
@[simp] theorem State.setIds_share (s : State) (v : IdState) : (s.setIds v).share = s.share := rfl
@[simp] theorem State.setIds_compute (s : State) (v : IdState) : (s.setIds v).compute = s.compute := rfl
@[simp] theorem State.setIds_xlat (s : State) (v : IdState) : (s.setIds v).xlat = s.xlat := rfl
@[simp] theorem State.setIds_fab (s : State) (v : IdState) : (s.setIds v).fab = s.fab := rfl
@[simp] theorem State.setIds_coh (s : State) (v : IdState) : (s.setIds v).coh = s.coh := rfl
@[simp] theorem State.setIds_mem (s : State) (v : IdState) : (s.setIds v).mem = s.mem := rfl
@[simp] theorem State.setIds_joined (s : State) (v : IdState) : (s.setIds v).joined = s.joined := rfl
@[simp] theorem State.setIds_monu (s : State) (v : IdState) : (s.setIds v).monu = s.monu := rfl
@[simp] theorem State.setIds_pwr (s : State) (v : IdState) : (s.setIds v).pwr = s.pwr := rfl
@[simp] theorem State.setIds_trust (s : State) (v : IdState) : (s.setIds v).trust = s.trust := rfl
@[simp] theorem State.setIds_dies (s : State) (v : IdState) : (s.setIds v).dies = s.dies := rfl
@[simp] theorem State.setIds_obs (s : State) (v : IdState) : (s.setIds v).obs = s.obs := rfl
@[simp] theorem State.setIds_freeCtr (s : State) (v : IdState) : (s.setIds v).freeCtr = s.freeCtr := rfl
@[simp] theorem State.setIds_outbox (s : State) (v : IdState) : (s.setIds v).outbox = s.outbox := rfl
@[simp] theorem State.setIds_pending (s : State) (v : IdState) : (s.setIds v).pending = s.pending := rfl

@[simp] theorem State.setTime_conn (s : State) (v : TimeState) : (s.setTime v).conn = s.conn := rfl
@[simp] theorem State.setTime_ids (s : State) (v : TimeState) : (s.setTime v).ids = s.ids := rfl
@[simp] theorem State.setTime_time (s : State) (v : TimeState) : (s.setTime v).time = v := rfl
@[simp] theorem State.setTime_stakes (s : State) (v : TimeState) : (s.setTime v).stakes = s.stakes := rfl
@[simp] theorem State.setTime_mbxs (s : State) (v : TimeState) : (s.setTime v).mbxs = s.mbxs := rfl
@[simp] theorem State.setTime_abaom (s : State) (v : TimeState) : (s.setTime v).abaom = s.abaom := rfl
@[simp] theorem State.setTime_ctxs (s : State) (v : TimeState) : (s.setTime v).ctxs = s.ctxs := rfl
@[simp] theorem State.setTime_share (s : State) (v : TimeState) : (s.setTime v).share = s.share := rfl
@[simp] theorem State.setTime_compute (s : State) (v : TimeState) : (s.setTime v).compute = s.compute := rfl
@[simp] theorem State.setTime_xlat (s : State) (v : TimeState) : (s.setTime v).xlat = s.xlat := rfl
@[simp] theorem State.setTime_fab (s : State) (v : TimeState) : (s.setTime v).fab = s.fab := rfl
@[simp] theorem State.setTime_coh (s : State) (v : TimeState) : (s.setTime v).coh = s.coh := rfl
@[simp] theorem State.setTime_mem (s : State) (v : TimeState) : (s.setTime v).mem = s.mem := rfl
@[simp] theorem State.setTime_joined (s : State) (v : TimeState) : (s.setTime v).joined = s.joined := rfl
@[simp] theorem State.setTime_monu (s : State) (v : TimeState) : (s.setTime v).monu = s.monu := rfl
@[simp] theorem State.setTime_pwr (s : State) (v : TimeState) : (s.setTime v).pwr = s.pwr := rfl
@[simp] theorem State.setTime_trust (s : State) (v : TimeState) : (s.setTime v).trust = s.trust := rfl
@[simp] theorem State.setTime_dies (s : State) (v : TimeState) : (s.setTime v).dies = s.dies := rfl
@[simp] theorem State.setTime_obs (s : State) (v : TimeState) : (s.setTime v).obs = s.obs := rfl
@[simp] theorem State.setTime_freeCtr (s : State) (v : TimeState) : (s.setTime v).freeCtr = s.freeCtr := rfl
@[simp] theorem State.setTime_outbox (s : State) (v : TimeState) : (s.setTime v).outbox = s.outbox := rfl
@[simp] theorem State.setTime_pending (s : State) (v : TimeState) : (s.setTime v).pending = s.pending := rfl

@[simp] theorem State.setStakes_conn (s : State) (v : StakeState) : (s.setStakes v).conn = s.conn := rfl
@[simp] theorem State.setStakes_ids (s : State) (v : StakeState) : (s.setStakes v).ids = s.ids := rfl
@[simp] theorem State.setStakes_time (s : State) (v : StakeState) : (s.setStakes v).time = s.time := rfl
@[simp] theorem State.setStakes_stakes (s : State) (v : StakeState) : (s.setStakes v).stakes = v := rfl
@[simp] theorem State.setStakes_mbxs (s : State) (v : StakeState) : (s.setStakes v).mbxs = s.mbxs := rfl
@[simp] theorem State.setStakes_abaom (s : State) (v : StakeState) : (s.setStakes v).abaom = s.abaom := rfl
@[simp] theorem State.setStakes_ctxs (s : State) (v : StakeState) : (s.setStakes v).ctxs = s.ctxs := rfl
@[simp] theorem State.setStakes_share (s : State) (v : StakeState) : (s.setStakes v).share = s.share := rfl
@[simp] theorem State.setStakes_compute (s : State) (v : StakeState) : (s.setStakes v).compute = s.compute := rfl
@[simp] theorem State.setStakes_xlat (s : State) (v : StakeState) : (s.setStakes v).xlat = s.xlat := rfl
@[simp] theorem State.setStakes_fab (s : State) (v : StakeState) : (s.setStakes v).fab = s.fab := rfl
@[simp] theorem State.setStakes_coh (s : State) (v : StakeState) : (s.setStakes v).coh = s.coh := rfl
@[simp] theorem State.setStakes_mem (s : State) (v : StakeState) : (s.setStakes v).mem = s.mem := rfl
@[simp] theorem State.setStakes_joined (s : State) (v : StakeState) : (s.setStakes v).joined = s.joined := rfl
@[simp] theorem State.setStakes_monu (s : State) (v : StakeState) : (s.setStakes v).monu = s.monu := rfl
@[simp] theorem State.setStakes_pwr (s : State) (v : StakeState) : (s.setStakes v).pwr = s.pwr := rfl
@[simp] theorem State.setStakes_trust (s : State) (v : StakeState) : (s.setStakes v).trust = s.trust := rfl
@[simp] theorem State.setStakes_dies (s : State) (v : StakeState) : (s.setStakes v).dies = s.dies := rfl
@[simp] theorem State.setStakes_obs (s : State) (v : StakeState) : (s.setStakes v).obs = s.obs := rfl
@[simp] theorem State.setStakes_freeCtr (s : State) (v : StakeState) : (s.setStakes v).freeCtr = s.freeCtr := rfl
@[simp] theorem State.setStakes_outbox (s : State) (v : StakeState) : (s.setStakes v).outbox = s.outbox := rfl
@[simp] theorem State.setStakes_pending (s : State) (v : StakeState) : (s.setStakes v).pending = s.pending := rfl

@[simp] theorem State.setMbxs_conn (s : State) (v : List Mailbox) : (s.setMbxs v).conn = s.conn := rfl
@[simp] theorem State.setMbxs_ids (s : State) (v : List Mailbox) : (s.setMbxs v).ids = s.ids := rfl
@[simp] theorem State.setMbxs_time (s : State) (v : List Mailbox) : (s.setMbxs v).time = s.time := rfl
@[simp] theorem State.setMbxs_stakes (s : State) (v : List Mailbox) : (s.setMbxs v).stakes = s.stakes := rfl
@[simp] theorem State.setMbxs_mbxs (s : State) (v : List Mailbox) : (s.setMbxs v).mbxs = v := rfl
@[simp] theorem State.setMbxs_abaom (s : State) (v : List Mailbox) : (s.setMbxs v).abaom = s.abaom := rfl
@[simp] theorem State.setMbxs_ctxs (s : State) (v : List Mailbox) : (s.setMbxs v).ctxs = s.ctxs := rfl
@[simp] theorem State.setMbxs_share (s : State) (v : List Mailbox) : (s.setMbxs v).share = s.share := rfl
@[simp] theorem State.setMbxs_compute (s : State) (v : List Mailbox) : (s.setMbxs v).compute = s.compute := rfl
@[simp] theorem State.setMbxs_xlat (s : State) (v : List Mailbox) : (s.setMbxs v).xlat = s.xlat := rfl
@[simp] theorem State.setMbxs_fab (s : State) (v : List Mailbox) : (s.setMbxs v).fab = s.fab := rfl
@[simp] theorem State.setMbxs_coh (s : State) (v : List Mailbox) : (s.setMbxs v).coh = s.coh := rfl
@[simp] theorem State.setMbxs_mem (s : State) (v : List Mailbox) : (s.setMbxs v).mem = s.mem := rfl
@[simp] theorem State.setMbxs_joined (s : State) (v : List Mailbox) : (s.setMbxs v).joined = s.joined := rfl
@[simp] theorem State.setMbxs_monu (s : State) (v : List Mailbox) : (s.setMbxs v).monu = s.monu := rfl
@[simp] theorem State.setMbxs_pwr (s : State) (v : List Mailbox) : (s.setMbxs v).pwr = s.pwr := rfl
@[simp] theorem State.setMbxs_trust (s : State) (v : List Mailbox) : (s.setMbxs v).trust = s.trust := rfl
@[simp] theorem State.setMbxs_dies (s : State) (v : List Mailbox) : (s.setMbxs v).dies = s.dies := rfl
@[simp] theorem State.setMbxs_obs (s : State) (v : List Mailbox) : (s.setMbxs v).obs = s.obs := rfl
@[simp] theorem State.setMbxs_freeCtr (s : State) (v : List Mailbox) : (s.setMbxs v).freeCtr = s.freeCtr := rfl
@[simp] theorem State.setMbxs_outbox (s : State) (v : List Mailbox) : (s.setMbxs v).outbox = s.outbox := rfl
@[simp] theorem State.setMbxs_pending (s : State) (v : List Mailbox) : (s.setMbxs v).pending = s.pending := rfl

@[simp] theorem State.setAbaom_conn (s : State) (v : AbaomState) : (s.setAbaom v).conn = s.conn := rfl
@[simp] theorem State.setAbaom_ids (s : State) (v : AbaomState) : (s.setAbaom v).ids = s.ids := rfl
@[simp] theorem State.setAbaom_time (s : State) (v : AbaomState) : (s.setAbaom v).time = s.time := rfl
@[simp] theorem State.setAbaom_stakes (s : State) (v : AbaomState) : (s.setAbaom v).stakes = s.stakes := rfl
@[simp] theorem State.setAbaom_mbxs (s : State) (v : AbaomState) : (s.setAbaom v).mbxs = s.mbxs := rfl
@[simp] theorem State.setAbaom_abaom (s : State) (v : AbaomState) : (s.setAbaom v).abaom = v := rfl
@[simp] theorem State.setAbaom_ctxs (s : State) (v : AbaomState) : (s.setAbaom v).ctxs = s.ctxs := rfl
@[simp] theorem State.setAbaom_share (s : State) (v : AbaomState) : (s.setAbaom v).share = s.share := rfl
@[simp] theorem State.setAbaom_compute (s : State) (v : AbaomState) : (s.setAbaom v).compute = s.compute := rfl
@[simp] theorem State.setAbaom_xlat (s : State) (v : AbaomState) : (s.setAbaom v).xlat = s.xlat := rfl
@[simp] theorem State.setAbaom_fab (s : State) (v : AbaomState) : (s.setAbaom v).fab = s.fab := rfl
@[simp] theorem State.setAbaom_coh (s : State) (v : AbaomState) : (s.setAbaom v).coh = s.coh := rfl
@[simp] theorem State.setAbaom_mem (s : State) (v : AbaomState) : (s.setAbaom v).mem = s.mem := rfl
@[simp] theorem State.setAbaom_joined (s : State) (v : AbaomState) : (s.setAbaom v).joined = s.joined := rfl
@[simp] theorem State.setAbaom_monu (s : State) (v : AbaomState) : (s.setAbaom v).monu = s.monu := rfl
@[simp] theorem State.setAbaom_pwr (s : State) (v : AbaomState) : (s.setAbaom v).pwr = s.pwr := rfl
@[simp] theorem State.setAbaom_trust (s : State) (v : AbaomState) : (s.setAbaom v).trust = s.trust := rfl
@[simp] theorem State.setAbaom_dies (s : State) (v : AbaomState) : (s.setAbaom v).dies = s.dies := rfl
@[simp] theorem State.setAbaom_obs (s : State) (v : AbaomState) : (s.setAbaom v).obs = s.obs := rfl
@[simp] theorem State.setAbaom_freeCtr (s : State) (v : AbaomState) : (s.setAbaom v).freeCtr = s.freeCtr := rfl
@[simp] theorem State.setAbaom_outbox (s : State) (v : AbaomState) : (s.setAbaom v).outbox = s.outbox := rfl
@[simp] theorem State.setAbaom_pending (s : State) (v : AbaomState) : (s.setAbaom v).pending = s.pending := rfl

@[simp] theorem State.setCtxs_conn (s : State) (v : List Context) : (s.setCtxs v).conn = s.conn := rfl
@[simp] theorem State.setCtxs_ids (s : State) (v : List Context) : (s.setCtxs v).ids = s.ids := rfl
@[simp] theorem State.setCtxs_time (s : State) (v : List Context) : (s.setCtxs v).time = s.time := rfl
@[simp] theorem State.setCtxs_stakes (s : State) (v : List Context) : (s.setCtxs v).stakes = s.stakes := rfl
@[simp] theorem State.setCtxs_mbxs (s : State) (v : List Context) : (s.setCtxs v).mbxs = s.mbxs := rfl
@[simp] theorem State.setCtxs_abaom (s : State) (v : List Context) : (s.setCtxs v).abaom = s.abaom := rfl
@[simp] theorem State.setCtxs_ctxs (s : State) (v : List Context) : (s.setCtxs v).ctxs = v := rfl
@[simp] theorem State.setCtxs_share (s : State) (v : List Context) : (s.setCtxs v).share = s.share := rfl
@[simp] theorem State.setCtxs_compute (s : State) (v : List Context) : (s.setCtxs v).compute = s.compute := rfl
@[simp] theorem State.setCtxs_xlat (s : State) (v : List Context) : (s.setCtxs v).xlat = s.xlat := rfl
@[simp] theorem State.setCtxs_fab (s : State) (v : List Context) : (s.setCtxs v).fab = s.fab := rfl
@[simp] theorem State.setCtxs_coh (s : State) (v : List Context) : (s.setCtxs v).coh = s.coh := rfl
@[simp] theorem State.setCtxs_mem (s : State) (v : List Context) : (s.setCtxs v).mem = s.mem := rfl
@[simp] theorem State.setCtxs_joined (s : State) (v : List Context) : (s.setCtxs v).joined = s.joined := rfl
@[simp] theorem State.setCtxs_monu (s : State) (v : List Context) : (s.setCtxs v).monu = s.monu := rfl
@[simp] theorem State.setCtxs_pwr (s : State) (v : List Context) : (s.setCtxs v).pwr = s.pwr := rfl
@[simp] theorem State.setCtxs_trust (s : State) (v : List Context) : (s.setCtxs v).trust = s.trust := rfl
@[simp] theorem State.setCtxs_dies (s : State) (v : List Context) : (s.setCtxs v).dies = s.dies := rfl
@[simp] theorem State.setCtxs_obs (s : State) (v : List Context) : (s.setCtxs v).obs = s.obs := rfl
@[simp] theorem State.setCtxs_freeCtr (s : State) (v : List Context) : (s.setCtxs v).freeCtr = s.freeCtr := rfl
@[simp] theorem State.setCtxs_outbox (s : State) (v : List Context) : (s.setCtxs v).outbox = s.outbox := rfl
@[simp] theorem State.setCtxs_pending (s : State) (v : List Context) : (s.setCtxs v).pending = s.pending := rfl

@[simp] theorem State.setShare_conn (s : State) (v : ShareState) : (s.setShare v).conn = s.conn := rfl
@[simp] theorem State.setShare_ids (s : State) (v : ShareState) : (s.setShare v).ids = s.ids := rfl
@[simp] theorem State.setShare_time (s : State) (v : ShareState) : (s.setShare v).time = s.time := rfl
@[simp] theorem State.setShare_stakes (s : State) (v : ShareState) : (s.setShare v).stakes = s.stakes := rfl
@[simp] theorem State.setShare_mbxs (s : State) (v : ShareState) : (s.setShare v).mbxs = s.mbxs := rfl
@[simp] theorem State.setShare_abaom (s : State) (v : ShareState) : (s.setShare v).abaom = s.abaom := rfl
@[simp] theorem State.setShare_ctxs (s : State) (v : ShareState) : (s.setShare v).ctxs = s.ctxs := rfl
@[simp] theorem State.setShare_share (s : State) (v : ShareState) : (s.setShare v).share = v := rfl
@[simp] theorem State.setShare_compute (s : State) (v : ShareState) : (s.setShare v).compute = s.compute := rfl
@[simp] theorem State.setShare_xlat (s : State) (v : ShareState) : (s.setShare v).xlat = s.xlat := rfl
@[simp] theorem State.setShare_fab (s : State) (v : ShareState) : (s.setShare v).fab = s.fab := rfl
@[simp] theorem State.setShare_coh (s : State) (v : ShareState) : (s.setShare v).coh = s.coh := rfl
@[simp] theorem State.setShare_mem (s : State) (v : ShareState) : (s.setShare v).mem = s.mem := rfl
@[simp] theorem State.setShare_joined (s : State) (v : ShareState) : (s.setShare v).joined = s.joined := rfl
@[simp] theorem State.setShare_monu (s : State) (v : ShareState) : (s.setShare v).monu = s.monu := rfl
@[simp] theorem State.setShare_pwr (s : State) (v : ShareState) : (s.setShare v).pwr = s.pwr := rfl
@[simp] theorem State.setShare_trust (s : State) (v : ShareState) : (s.setShare v).trust = s.trust := rfl
@[simp] theorem State.setShare_dies (s : State) (v : ShareState) : (s.setShare v).dies = s.dies := rfl
@[simp] theorem State.setShare_obs (s : State) (v : ShareState) : (s.setShare v).obs = s.obs := rfl
@[simp] theorem State.setShare_freeCtr (s : State) (v : ShareState) : (s.setShare v).freeCtr = s.freeCtr := rfl
@[simp] theorem State.setShare_outbox (s : State) (v : ShareState) : (s.setShare v).outbox = s.outbox := rfl
@[simp] theorem State.setShare_pending (s : State) (v : ShareState) : (s.setShare v).pending = s.pending := rfl

@[simp] theorem State.setCompute_conn (s : State) (v : ComputeState) : (s.setCompute v).conn = s.conn := rfl
@[simp] theorem State.setCompute_ids (s : State) (v : ComputeState) : (s.setCompute v).ids = s.ids := rfl
@[simp] theorem State.setCompute_time (s : State) (v : ComputeState) : (s.setCompute v).time = s.time := rfl
@[simp] theorem State.setCompute_stakes (s : State) (v : ComputeState) : (s.setCompute v).stakes = s.stakes := rfl
@[simp] theorem State.setCompute_mbxs (s : State) (v : ComputeState) : (s.setCompute v).mbxs = s.mbxs := rfl
@[simp] theorem State.setCompute_abaom (s : State) (v : ComputeState) : (s.setCompute v).abaom = s.abaom := rfl
@[simp] theorem State.setCompute_ctxs (s : State) (v : ComputeState) : (s.setCompute v).ctxs = s.ctxs := rfl
@[simp] theorem State.setCompute_share (s : State) (v : ComputeState) : (s.setCompute v).share = s.share := rfl
@[simp] theorem State.setCompute_compute (s : State) (v : ComputeState) : (s.setCompute v).compute = v := rfl
@[simp] theorem State.setCompute_xlat (s : State) (v : ComputeState) : (s.setCompute v).xlat = s.xlat := rfl
@[simp] theorem State.setCompute_fab (s : State) (v : ComputeState) : (s.setCompute v).fab = s.fab := rfl
@[simp] theorem State.setCompute_coh (s : State) (v : ComputeState) : (s.setCompute v).coh = s.coh := rfl
@[simp] theorem State.setCompute_mem (s : State) (v : ComputeState) : (s.setCompute v).mem = s.mem := rfl
@[simp] theorem State.setCompute_joined (s : State) (v : ComputeState) : (s.setCompute v).joined = s.joined := rfl
@[simp] theorem State.setCompute_monu (s : State) (v : ComputeState) : (s.setCompute v).monu = s.monu := rfl
@[simp] theorem State.setCompute_pwr (s : State) (v : ComputeState) : (s.setCompute v).pwr = s.pwr := rfl
@[simp] theorem State.setCompute_trust (s : State) (v : ComputeState) : (s.setCompute v).trust = s.trust := rfl
@[simp] theorem State.setCompute_dies (s : State) (v : ComputeState) : (s.setCompute v).dies = s.dies := rfl
@[simp] theorem State.setCompute_obs (s : State) (v : ComputeState) : (s.setCompute v).obs = s.obs := rfl
@[simp] theorem State.setCompute_freeCtr (s : State) (v : ComputeState) : (s.setCompute v).freeCtr = s.freeCtr := rfl
@[simp] theorem State.setCompute_outbox (s : State) (v : ComputeState) : (s.setCompute v).outbox = s.outbox := rfl
@[simp] theorem State.setCompute_pending (s : State) (v : ComputeState) : (s.setCompute v).pending = s.pending := rfl

@[simp] theorem State.setXlat_conn (s : State) (v : XlatState) : (s.setXlat v).conn = s.conn := rfl
@[simp] theorem State.setXlat_ids (s : State) (v : XlatState) : (s.setXlat v).ids = s.ids := rfl
@[simp] theorem State.setXlat_time (s : State) (v : XlatState) : (s.setXlat v).time = s.time := rfl
@[simp] theorem State.setXlat_stakes (s : State) (v : XlatState) : (s.setXlat v).stakes = s.stakes := rfl
@[simp] theorem State.setXlat_mbxs (s : State) (v : XlatState) : (s.setXlat v).mbxs = s.mbxs := rfl
@[simp] theorem State.setXlat_abaom (s : State) (v : XlatState) : (s.setXlat v).abaom = s.abaom := rfl
@[simp] theorem State.setXlat_ctxs (s : State) (v : XlatState) : (s.setXlat v).ctxs = s.ctxs := rfl
@[simp] theorem State.setXlat_share (s : State) (v : XlatState) : (s.setXlat v).share = s.share := rfl
@[simp] theorem State.setXlat_compute (s : State) (v : XlatState) : (s.setXlat v).compute = s.compute := rfl
@[simp] theorem State.setXlat_xlat (s : State) (v : XlatState) : (s.setXlat v).xlat = v := rfl
@[simp] theorem State.setXlat_fab (s : State) (v : XlatState) : (s.setXlat v).fab = s.fab := rfl
@[simp] theorem State.setXlat_coh (s : State) (v : XlatState) : (s.setXlat v).coh = s.coh := rfl
@[simp] theorem State.setXlat_mem (s : State) (v : XlatState) : (s.setXlat v).mem = s.mem := rfl
@[simp] theorem State.setXlat_joined (s : State) (v : XlatState) : (s.setXlat v).joined = s.joined := rfl
@[simp] theorem State.setXlat_monu (s : State) (v : XlatState) : (s.setXlat v).monu = s.monu := rfl
@[simp] theorem State.setXlat_pwr (s : State) (v : XlatState) : (s.setXlat v).pwr = s.pwr := rfl
@[simp] theorem State.setXlat_trust (s : State) (v : XlatState) : (s.setXlat v).trust = s.trust := rfl
@[simp] theorem State.setXlat_dies (s : State) (v : XlatState) : (s.setXlat v).dies = s.dies := rfl
@[simp] theorem State.setXlat_obs (s : State) (v : XlatState) : (s.setXlat v).obs = s.obs := rfl
@[simp] theorem State.setXlat_freeCtr (s : State) (v : XlatState) : (s.setXlat v).freeCtr = s.freeCtr := rfl
@[simp] theorem State.setXlat_outbox (s : State) (v : XlatState) : (s.setXlat v).outbox = s.outbox := rfl
@[simp] theorem State.setXlat_pending (s : State) (v : XlatState) : (s.setXlat v).pending = s.pending := rfl

@[simp] theorem State.setFab_conn (s : State) (v : FabricState) : (s.setFab v).conn = s.conn := rfl
@[simp] theorem State.setFab_ids (s : State) (v : FabricState) : (s.setFab v).ids = s.ids := rfl
@[simp] theorem State.setFab_time (s : State) (v : FabricState) : (s.setFab v).time = s.time := rfl
@[simp] theorem State.setFab_stakes (s : State) (v : FabricState) : (s.setFab v).stakes = s.stakes := rfl
@[simp] theorem State.setFab_mbxs (s : State) (v : FabricState) : (s.setFab v).mbxs = s.mbxs := rfl
@[simp] theorem State.setFab_abaom (s : State) (v : FabricState) : (s.setFab v).abaom = s.abaom := rfl
@[simp] theorem State.setFab_ctxs (s : State) (v : FabricState) : (s.setFab v).ctxs = s.ctxs := rfl
@[simp] theorem State.setFab_share (s : State) (v : FabricState) : (s.setFab v).share = s.share := rfl
@[simp] theorem State.setFab_compute (s : State) (v : FabricState) : (s.setFab v).compute = s.compute := rfl
@[simp] theorem State.setFab_xlat (s : State) (v : FabricState) : (s.setFab v).xlat = s.xlat := rfl
@[simp] theorem State.setFab_fab (s : State) (v : FabricState) : (s.setFab v).fab = v := rfl
@[simp] theorem State.setFab_coh (s : State) (v : FabricState) : (s.setFab v).coh = s.coh := rfl
@[simp] theorem State.setFab_mem (s : State) (v : FabricState) : (s.setFab v).mem = s.mem := rfl
@[simp] theorem State.setFab_joined (s : State) (v : FabricState) : (s.setFab v).joined = s.joined := rfl
@[simp] theorem State.setFab_monu (s : State) (v : FabricState) : (s.setFab v).monu = s.monu := rfl
@[simp] theorem State.setFab_pwr (s : State) (v : FabricState) : (s.setFab v).pwr = s.pwr := rfl
@[simp] theorem State.setFab_trust (s : State) (v : FabricState) : (s.setFab v).trust = s.trust := rfl
@[simp] theorem State.setFab_dies (s : State) (v : FabricState) : (s.setFab v).dies = s.dies := rfl
@[simp] theorem State.setFab_obs (s : State) (v : FabricState) : (s.setFab v).obs = s.obs := rfl
@[simp] theorem State.setFab_freeCtr (s : State) (v : FabricState) : (s.setFab v).freeCtr = s.freeCtr := rfl
@[simp] theorem State.setFab_outbox (s : State) (v : FabricState) : (s.setFab v).outbox = s.outbox := rfl
@[simp] theorem State.setFab_pending (s : State) (v : FabricState) : (s.setFab v).pending = s.pending := rfl

@[simp] theorem State.setCoh_conn (s : State) (v : CohState) : (s.setCoh v).conn = s.conn := rfl
@[simp] theorem State.setCoh_ids (s : State) (v : CohState) : (s.setCoh v).ids = s.ids := rfl
@[simp] theorem State.setCoh_time (s : State) (v : CohState) : (s.setCoh v).time = s.time := rfl
@[simp] theorem State.setCoh_stakes (s : State) (v : CohState) : (s.setCoh v).stakes = s.stakes := rfl
@[simp] theorem State.setCoh_mbxs (s : State) (v : CohState) : (s.setCoh v).mbxs = s.mbxs := rfl
@[simp] theorem State.setCoh_abaom (s : State) (v : CohState) : (s.setCoh v).abaom = s.abaom := rfl
@[simp] theorem State.setCoh_ctxs (s : State) (v : CohState) : (s.setCoh v).ctxs = s.ctxs := rfl
@[simp] theorem State.setCoh_share (s : State) (v : CohState) : (s.setCoh v).share = s.share := rfl
@[simp] theorem State.setCoh_compute (s : State) (v : CohState) : (s.setCoh v).compute = s.compute := rfl
@[simp] theorem State.setCoh_xlat (s : State) (v : CohState) : (s.setCoh v).xlat = s.xlat := rfl
@[simp] theorem State.setCoh_fab (s : State) (v : CohState) : (s.setCoh v).fab = s.fab := rfl
@[simp] theorem State.setCoh_coh (s : State) (v : CohState) : (s.setCoh v).coh = v := rfl
@[simp] theorem State.setCoh_mem (s : State) (v : CohState) : (s.setCoh v).mem = s.mem := rfl
@[simp] theorem State.setCoh_joined (s : State) (v : CohState) : (s.setCoh v).joined = s.joined := rfl
@[simp] theorem State.setCoh_monu (s : State) (v : CohState) : (s.setCoh v).monu = s.monu := rfl
@[simp] theorem State.setCoh_pwr (s : State) (v : CohState) : (s.setCoh v).pwr = s.pwr := rfl
@[simp] theorem State.setCoh_trust (s : State) (v : CohState) : (s.setCoh v).trust = s.trust := rfl
@[simp] theorem State.setCoh_dies (s : State) (v : CohState) : (s.setCoh v).dies = s.dies := rfl
@[simp] theorem State.setCoh_obs (s : State) (v : CohState) : (s.setCoh v).obs = s.obs := rfl
@[simp] theorem State.setCoh_freeCtr (s : State) (v : CohState) : (s.setCoh v).freeCtr = s.freeCtr := rfl
@[simp] theorem State.setCoh_outbox (s : State) (v : CohState) : (s.setCoh v).outbox = s.outbox := rfl
@[simp] theorem State.setCoh_pending (s : State) (v : CohState) : (s.setCoh v).pending = s.pending := rfl

@[simp] theorem State.setMem_conn (s : State) (v : MemState) : (s.setMem v).conn = s.conn := rfl
@[simp] theorem State.setMem_ids (s : State) (v : MemState) : (s.setMem v).ids = s.ids := rfl
@[simp] theorem State.setMem_time (s : State) (v : MemState) : (s.setMem v).time = s.time := rfl
@[simp] theorem State.setMem_stakes (s : State) (v : MemState) : (s.setMem v).stakes = s.stakes := rfl
@[simp] theorem State.setMem_mbxs (s : State) (v : MemState) : (s.setMem v).mbxs = s.mbxs := rfl
@[simp] theorem State.setMem_abaom (s : State) (v : MemState) : (s.setMem v).abaom = s.abaom := rfl
@[simp] theorem State.setMem_ctxs (s : State) (v : MemState) : (s.setMem v).ctxs = s.ctxs := rfl
@[simp] theorem State.setMem_share (s : State) (v : MemState) : (s.setMem v).share = s.share := rfl
@[simp] theorem State.setMem_compute (s : State) (v : MemState) : (s.setMem v).compute = s.compute := rfl
@[simp] theorem State.setMem_xlat (s : State) (v : MemState) : (s.setMem v).xlat = s.xlat := rfl
@[simp] theorem State.setMem_fab (s : State) (v : MemState) : (s.setMem v).fab = s.fab := rfl
@[simp] theorem State.setMem_coh (s : State) (v : MemState) : (s.setMem v).coh = s.coh := rfl
@[simp] theorem State.setMem_mem (s : State) (v : MemState) : (s.setMem v).mem = v := rfl
@[simp] theorem State.setMem_joined (s : State) (v : MemState) : (s.setMem v).joined = s.joined := rfl
@[simp] theorem State.setMem_monu (s : State) (v : MemState) : (s.setMem v).monu = s.monu := rfl
@[simp] theorem State.setMem_pwr (s : State) (v : MemState) : (s.setMem v).pwr = s.pwr := rfl
@[simp] theorem State.setMem_trust (s : State) (v : MemState) : (s.setMem v).trust = s.trust := rfl
@[simp] theorem State.setMem_dies (s : State) (v : MemState) : (s.setMem v).dies = s.dies := rfl
@[simp] theorem State.setMem_obs (s : State) (v : MemState) : (s.setMem v).obs = s.obs := rfl
@[simp] theorem State.setMem_freeCtr (s : State) (v : MemState) : (s.setMem v).freeCtr = s.freeCtr := rfl
@[simp] theorem State.setMem_outbox (s : State) (v : MemState) : (s.setMem v).outbox = s.outbox := rfl
@[simp] theorem State.setMem_pending (s : State) (v : MemState) : (s.setMem v).pending = s.pending := rfl

@[simp] theorem State.setJoined_conn (s : State) (v : JoinedState) : (s.setJoined v).conn = s.conn := rfl
@[simp] theorem State.setJoined_ids (s : State) (v : JoinedState) : (s.setJoined v).ids = s.ids := rfl
@[simp] theorem State.setJoined_time (s : State) (v : JoinedState) : (s.setJoined v).time = s.time := rfl
@[simp] theorem State.setJoined_stakes (s : State) (v : JoinedState) : (s.setJoined v).stakes = s.stakes := rfl
@[simp] theorem State.setJoined_mbxs (s : State) (v : JoinedState) : (s.setJoined v).mbxs = s.mbxs := rfl
@[simp] theorem State.setJoined_abaom (s : State) (v : JoinedState) : (s.setJoined v).abaom = s.abaom := rfl
@[simp] theorem State.setJoined_ctxs (s : State) (v : JoinedState) : (s.setJoined v).ctxs = s.ctxs := rfl
@[simp] theorem State.setJoined_share (s : State) (v : JoinedState) : (s.setJoined v).share = s.share := rfl
@[simp] theorem State.setJoined_compute (s : State) (v : JoinedState) : (s.setJoined v).compute = s.compute := rfl
@[simp] theorem State.setJoined_xlat (s : State) (v : JoinedState) : (s.setJoined v).xlat = s.xlat := rfl
@[simp] theorem State.setJoined_fab (s : State) (v : JoinedState) : (s.setJoined v).fab = s.fab := rfl
@[simp] theorem State.setJoined_coh (s : State) (v : JoinedState) : (s.setJoined v).coh = s.coh := rfl
@[simp] theorem State.setJoined_mem (s : State) (v : JoinedState) : (s.setJoined v).mem = s.mem := rfl
@[simp] theorem State.setJoined_joined (s : State) (v : JoinedState) : (s.setJoined v).joined = v := rfl
@[simp] theorem State.setJoined_monu (s : State) (v : JoinedState) : (s.setJoined v).monu = s.monu := rfl
@[simp] theorem State.setJoined_pwr (s : State) (v : JoinedState) : (s.setJoined v).pwr = s.pwr := rfl
@[simp] theorem State.setJoined_trust (s : State) (v : JoinedState) : (s.setJoined v).trust = s.trust := rfl
@[simp] theorem State.setJoined_dies (s : State) (v : JoinedState) : (s.setJoined v).dies = s.dies := rfl
@[simp] theorem State.setJoined_obs (s : State) (v : JoinedState) : (s.setJoined v).obs = s.obs := rfl
@[simp] theorem State.setJoined_freeCtr (s : State) (v : JoinedState) : (s.setJoined v).freeCtr = s.freeCtr := rfl
@[simp] theorem State.setJoined_outbox (s : State) (v : JoinedState) : (s.setJoined v).outbox = s.outbox := rfl
@[simp] theorem State.setJoined_pending (s : State) (v : JoinedState) : (s.setJoined v).pending = s.pending := rfl

@[simp] theorem State.setMonu_conn (s : State) (v : MonumentState) : (s.setMonu v).conn = s.conn := rfl
@[simp] theorem State.setMonu_ids (s : State) (v : MonumentState) : (s.setMonu v).ids = s.ids := rfl
@[simp] theorem State.setMonu_time (s : State) (v : MonumentState) : (s.setMonu v).time = s.time := rfl
@[simp] theorem State.setMonu_stakes (s : State) (v : MonumentState) : (s.setMonu v).stakes = s.stakes := rfl
@[simp] theorem State.setMonu_mbxs (s : State) (v : MonumentState) : (s.setMonu v).mbxs = s.mbxs := rfl
@[simp] theorem State.setMonu_abaom (s : State) (v : MonumentState) : (s.setMonu v).abaom = s.abaom := rfl
@[simp] theorem State.setMonu_ctxs (s : State) (v : MonumentState) : (s.setMonu v).ctxs = s.ctxs := rfl
@[simp] theorem State.setMonu_share (s : State) (v : MonumentState) : (s.setMonu v).share = s.share := rfl
@[simp] theorem State.setMonu_compute (s : State) (v : MonumentState) : (s.setMonu v).compute = s.compute := rfl
@[simp] theorem State.setMonu_xlat (s : State) (v : MonumentState) : (s.setMonu v).xlat = s.xlat := rfl
@[simp] theorem State.setMonu_fab (s : State) (v : MonumentState) : (s.setMonu v).fab = s.fab := rfl
@[simp] theorem State.setMonu_coh (s : State) (v : MonumentState) : (s.setMonu v).coh = s.coh := rfl
@[simp] theorem State.setMonu_mem (s : State) (v : MonumentState) : (s.setMonu v).mem = s.mem := rfl
@[simp] theorem State.setMonu_joined (s : State) (v : MonumentState) : (s.setMonu v).joined = s.joined := rfl
@[simp] theorem State.setMonu_monu (s : State) (v : MonumentState) : (s.setMonu v).monu = v := rfl
@[simp] theorem State.setMonu_pwr (s : State) (v : MonumentState) : (s.setMonu v).pwr = s.pwr := rfl
@[simp] theorem State.setMonu_trust (s : State) (v : MonumentState) : (s.setMonu v).trust = s.trust := rfl
@[simp] theorem State.setMonu_dies (s : State) (v : MonumentState) : (s.setMonu v).dies = s.dies := rfl
@[simp] theorem State.setMonu_obs (s : State) (v : MonumentState) : (s.setMonu v).obs = s.obs := rfl
@[simp] theorem State.setMonu_freeCtr (s : State) (v : MonumentState) : (s.setMonu v).freeCtr = s.freeCtr := rfl
@[simp] theorem State.setMonu_outbox (s : State) (v : MonumentState) : (s.setMonu v).outbox = s.outbox := rfl
@[simp] theorem State.setMonu_pending (s : State) (v : MonumentState) : (s.setMonu v).pending = s.pending := rfl

@[simp] theorem State.setPwr_conn (s : State) (v : PowerState) : (s.setPwr v).conn = s.conn := rfl
@[simp] theorem State.setPwr_ids (s : State) (v : PowerState) : (s.setPwr v).ids = s.ids := rfl
@[simp] theorem State.setPwr_time (s : State) (v : PowerState) : (s.setPwr v).time = s.time := rfl
@[simp] theorem State.setPwr_stakes (s : State) (v : PowerState) : (s.setPwr v).stakes = s.stakes := rfl
@[simp] theorem State.setPwr_mbxs (s : State) (v : PowerState) : (s.setPwr v).mbxs = s.mbxs := rfl
@[simp] theorem State.setPwr_abaom (s : State) (v : PowerState) : (s.setPwr v).abaom = s.abaom := rfl
@[simp] theorem State.setPwr_ctxs (s : State) (v : PowerState) : (s.setPwr v).ctxs = s.ctxs := rfl
@[simp] theorem State.setPwr_share (s : State) (v : PowerState) : (s.setPwr v).share = s.share := rfl
@[simp] theorem State.setPwr_compute (s : State) (v : PowerState) : (s.setPwr v).compute = s.compute := rfl
@[simp] theorem State.setPwr_xlat (s : State) (v : PowerState) : (s.setPwr v).xlat = s.xlat := rfl
@[simp] theorem State.setPwr_fab (s : State) (v : PowerState) : (s.setPwr v).fab = s.fab := rfl
@[simp] theorem State.setPwr_coh (s : State) (v : PowerState) : (s.setPwr v).coh = s.coh := rfl
@[simp] theorem State.setPwr_mem (s : State) (v : PowerState) : (s.setPwr v).mem = s.mem := rfl
@[simp] theorem State.setPwr_joined (s : State) (v : PowerState) : (s.setPwr v).joined = s.joined := rfl
@[simp] theorem State.setPwr_monu (s : State) (v : PowerState) : (s.setPwr v).monu = s.monu := rfl
@[simp] theorem State.setPwr_pwr (s : State) (v : PowerState) : (s.setPwr v).pwr = v := rfl
@[simp] theorem State.setPwr_trust (s : State) (v : PowerState) : (s.setPwr v).trust = s.trust := rfl
@[simp] theorem State.setPwr_dies (s : State) (v : PowerState) : (s.setPwr v).dies = s.dies := rfl
@[simp] theorem State.setPwr_obs (s : State) (v : PowerState) : (s.setPwr v).obs = s.obs := rfl
@[simp] theorem State.setPwr_freeCtr (s : State) (v : PowerState) : (s.setPwr v).freeCtr = s.freeCtr := rfl
@[simp] theorem State.setPwr_outbox (s : State) (v : PowerState) : (s.setPwr v).outbox = s.outbox := rfl
@[simp] theorem State.setPwr_pending (s : State) (v : PowerState) : (s.setPwr v).pending = s.pending := rfl

@[simp] theorem State.setTrust_conn (s : State) (v : TrustState) : (s.setTrust v).conn = s.conn := rfl
@[simp] theorem State.setTrust_ids (s : State) (v : TrustState) : (s.setTrust v).ids = s.ids := rfl
@[simp] theorem State.setTrust_time (s : State) (v : TrustState) : (s.setTrust v).time = s.time := rfl
@[simp] theorem State.setTrust_stakes (s : State) (v : TrustState) : (s.setTrust v).stakes = s.stakes := rfl
@[simp] theorem State.setTrust_mbxs (s : State) (v : TrustState) : (s.setTrust v).mbxs = s.mbxs := rfl
@[simp] theorem State.setTrust_abaom (s : State) (v : TrustState) : (s.setTrust v).abaom = s.abaom := rfl
@[simp] theorem State.setTrust_ctxs (s : State) (v : TrustState) : (s.setTrust v).ctxs = s.ctxs := rfl
@[simp] theorem State.setTrust_share (s : State) (v : TrustState) : (s.setTrust v).share = s.share := rfl
@[simp] theorem State.setTrust_compute (s : State) (v : TrustState) : (s.setTrust v).compute = s.compute := rfl
@[simp] theorem State.setTrust_xlat (s : State) (v : TrustState) : (s.setTrust v).xlat = s.xlat := rfl
@[simp] theorem State.setTrust_fab (s : State) (v : TrustState) : (s.setTrust v).fab = s.fab := rfl
@[simp] theorem State.setTrust_coh (s : State) (v : TrustState) : (s.setTrust v).coh = s.coh := rfl
@[simp] theorem State.setTrust_mem (s : State) (v : TrustState) : (s.setTrust v).mem = s.mem := rfl
@[simp] theorem State.setTrust_joined (s : State) (v : TrustState) : (s.setTrust v).joined = s.joined := rfl
@[simp] theorem State.setTrust_monu (s : State) (v : TrustState) : (s.setTrust v).monu = s.monu := rfl
@[simp] theorem State.setTrust_pwr (s : State) (v : TrustState) : (s.setTrust v).pwr = s.pwr := rfl
@[simp] theorem State.setTrust_trust (s : State) (v : TrustState) : (s.setTrust v).trust = v := rfl
@[simp] theorem State.setTrust_dies (s : State) (v : TrustState) : (s.setTrust v).dies = s.dies := rfl
@[simp] theorem State.setTrust_obs (s : State) (v : TrustState) : (s.setTrust v).obs = s.obs := rfl
@[simp] theorem State.setTrust_freeCtr (s : State) (v : TrustState) : (s.setTrust v).freeCtr = s.freeCtr := rfl
@[simp] theorem State.setTrust_outbox (s : State) (v : TrustState) : (s.setTrust v).outbox = s.outbox := rfl
@[simp] theorem State.setTrust_pending (s : State) (v : TrustState) : (s.setTrust v).pending = s.pending := rfl

@[simp] theorem State.setDies_conn (s : State) (v : DiesState) : (s.setDies v).conn = s.conn := rfl
@[simp] theorem State.setDies_ids (s : State) (v : DiesState) : (s.setDies v).ids = s.ids := rfl
@[simp] theorem State.setDies_time (s : State) (v : DiesState) : (s.setDies v).time = s.time := rfl
@[simp] theorem State.setDies_stakes (s : State) (v : DiesState) : (s.setDies v).stakes = s.stakes := rfl
@[simp] theorem State.setDies_mbxs (s : State) (v : DiesState) : (s.setDies v).mbxs = s.mbxs := rfl
@[simp] theorem State.setDies_abaom (s : State) (v : DiesState) : (s.setDies v).abaom = s.abaom := rfl
@[simp] theorem State.setDies_ctxs (s : State) (v : DiesState) : (s.setDies v).ctxs = s.ctxs := rfl
@[simp] theorem State.setDies_share (s : State) (v : DiesState) : (s.setDies v).share = s.share := rfl
@[simp] theorem State.setDies_compute (s : State) (v : DiesState) : (s.setDies v).compute = s.compute := rfl
@[simp] theorem State.setDies_xlat (s : State) (v : DiesState) : (s.setDies v).xlat = s.xlat := rfl
@[simp] theorem State.setDies_fab (s : State) (v : DiesState) : (s.setDies v).fab = s.fab := rfl
@[simp] theorem State.setDies_coh (s : State) (v : DiesState) : (s.setDies v).coh = s.coh := rfl
@[simp] theorem State.setDies_mem (s : State) (v : DiesState) : (s.setDies v).mem = s.mem := rfl
@[simp] theorem State.setDies_joined (s : State) (v : DiesState) : (s.setDies v).joined = s.joined := rfl
@[simp] theorem State.setDies_monu (s : State) (v : DiesState) : (s.setDies v).monu = s.monu := rfl
@[simp] theorem State.setDies_pwr (s : State) (v : DiesState) : (s.setDies v).pwr = s.pwr := rfl
@[simp] theorem State.setDies_trust (s : State) (v : DiesState) : (s.setDies v).trust = s.trust := rfl
@[simp] theorem State.setDies_dies (s : State) (v : DiesState) : (s.setDies v).dies = v := rfl
@[simp] theorem State.setDies_obs (s : State) (v : DiesState) : (s.setDies v).obs = s.obs := rfl
@[simp] theorem State.setDies_freeCtr (s : State) (v : DiesState) : (s.setDies v).freeCtr = s.freeCtr := rfl
@[simp] theorem State.setDies_outbox (s : State) (v : DiesState) : (s.setDies v).outbox = s.outbox := rfl
@[simp] theorem State.setDies_pending (s : State) (v : DiesState) : (s.setDies v).pending = s.pending := rfl

@[simp] theorem State.setObs_conn (s : State) (v : ObsState) : (s.setObs v).conn = s.conn := rfl
@[simp] theorem State.setObs_ids (s : State) (v : ObsState) : (s.setObs v).ids = s.ids := rfl
@[simp] theorem State.setObs_time (s : State) (v : ObsState) : (s.setObs v).time = s.time := rfl
@[simp] theorem State.setObs_stakes (s : State) (v : ObsState) : (s.setObs v).stakes = s.stakes := rfl
@[simp] theorem State.setObs_mbxs (s : State) (v : ObsState) : (s.setObs v).mbxs = s.mbxs := rfl
@[simp] theorem State.setObs_abaom (s : State) (v : ObsState) : (s.setObs v).abaom = s.abaom := rfl
@[simp] theorem State.setObs_ctxs (s : State) (v : ObsState) : (s.setObs v).ctxs = s.ctxs := rfl
@[simp] theorem State.setObs_share (s : State) (v : ObsState) : (s.setObs v).share = s.share := rfl
@[simp] theorem State.setObs_compute (s : State) (v : ObsState) : (s.setObs v).compute = s.compute := rfl
@[simp] theorem State.setObs_xlat (s : State) (v : ObsState) : (s.setObs v).xlat = s.xlat := rfl
@[simp] theorem State.setObs_fab (s : State) (v : ObsState) : (s.setObs v).fab = s.fab := rfl
@[simp] theorem State.setObs_coh (s : State) (v : ObsState) : (s.setObs v).coh = s.coh := rfl
@[simp] theorem State.setObs_mem (s : State) (v : ObsState) : (s.setObs v).mem = s.mem := rfl
@[simp] theorem State.setObs_joined (s : State) (v : ObsState) : (s.setObs v).joined = s.joined := rfl
@[simp] theorem State.setObs_monu (s : State) (v : ObsState) : (s.setObs v).monu = s.monu := rfl
@[simp] theorem State.setObs_pwr (s : State) (v : ObsState) : (s.setObs v).pwr = s.pwr := rfl
@[simp] theorem State.setObs_trust (s : State) (v : ObsState) : (s.setObs v).trust = s.trust := rfl
@[simp] theorem State.setObs_dies (s : State) (v : ObsState) : (s.setObs v).dies = s.dies := rfl
@[simp] theorem State.setObs_obs (s : State) (v : ObsState) : (s.setObs v).obs = v := rfl
@[simp] theorem State.setObs_freeCtr (s : State) (v : ObsState) : (s.setObs v).freeCtr = s.freeCtr := rfl
@[simp] theorem State.setObs_outbox (s : State) (v : ObsState) : (s.setObs v).outbox = s.outbox := rfl
@[simp] theorem State.setObs_pending (s : State) (v : ObsState) : (s.setObs v).pending = s.pending := rfl

@[simp] theorem State.setFreeCtr_conn (s : State) (v : Nat) : (s.setFreeCtr v).conn = s.conn := rfl
@[simp] theorem State.setFreeCtr_ids (s : State) (v : Nat) : (s.setFreeCtr v).ids = s.ids := rfl
@[simp] theorem State.setFreeCtr_time (s : State) (v : Nat) : (s.setFreeCtr v).time = s.time := rfl
@[simp] theorem State.setFreeCtr_stakes (s : State) (v : Nat) : (s.setFreeCtr v).stakes = s.stakes := rfl
@[simp] theorem State.setFreeCtr_mbxs (s : State) (v : Nat) : (s.setFreeCtr v).mbxs = s.mbxs := rfl
@[simp] theorem State.setFreeCtr_abaom (s : State) (v : Nat) : (s.setFreeCtr v).abaom = s.abaom := rfl
@[simp] theorem State.setFreeCtr_ctxs (s : State) (v : Nat) : (s.setFreeCtr v).ctxs = s.ctxs := rfl
@[simp] theorem State.setFreeCtr_share (s : State) (v : Nat) : (s.setFreeCtr v).share = s.share := rfl
@[simp] theorem State.setFreeCtr_compute (s : State) (v : Nat) : (s.setFreeCtr v).compute = s.compute := rfl
@[simp] theorem State.setFreeCtr_xlat (s : State) (v : Nat) : (s.setFreeCtr v).xlat = s.xlat := rfl
@[simp] theorem State.setFreeCtr_fab (s : State) (v : Nat) : (s.setFreeCtr v).fab = s.fab := rfl
@[simp] theorem State.setFreeCtr_coh (s : State) (v : Nat) : (s.setFreeCtr v).coh = s.coh := rfl
@[simp] theorem State.setFreeCtr_mem (s : State) (v : Nat) : (s.setFreeCtr v).mem = s.mem := rfl
@[simp] theorem State.setFreeCtr_joined (s : State) (v : Nat) : (s.setFreeCtr v).joined = s.joined := rfl
@[simp] theorem State.setFreeCtr_monu (s : State) (v : Nat) : (s.setFreeCtr v).monu = s.monu := rfl
@[simp] theorem State.setFreeCtr_pwr (s : State) (v : Nat) : (s.setFreeCtr v).pwr = s.pwr := rfl
@[simp] theorem State.setFreeCtr_trust (s : State) (v : Nat) : (s.setFreeCtr v).trust = s.trust := rfl
@[simp] theorem State.setFreeCtr_dies (s : State) (v : Nat) : (s.setFreeCtr v).dies = s.dies := rfl
@[simp] theorem State.setFreeCtr_obs (s : State) (v : Nat) : (s.setFreeCtr v).obs = s.obs := rfl
@[simp] theorem State.setFreeCtr_freeCtr (s : State) (v : Nat) : (s.setFreeCtr v).freeCtr = v := rfl
@[simp] theorem State.setFreeCtr_outbox (s : State) (v : Nat) : (s.setFreeCtr v).outbox = s.outbox := rfl
@[simp] theorem State.setFreeCtr_pending (s : State) (v : Nat) : (s.setFreeCtr v).pending = s.pending := rfl

@[simp] theorem State.setOutbox_conn (s : State) (v : List Out) : (s.setOutbox v).conn = s.conn := rfl
@[simp] theorem State.setOutbox_ids (s : State) (v : List Out) : (s.setOutbox v).ids = s.ids := rfl
@[simp] theorem State.setOutbox_time (s : State) (v : List Out) : (s.setOutbox v).time = s.time := rfl
@[simp] theorem State.setOutbox_stakes (s : State) (v : List Out) : (s.setOutbox v).stakes = s.stakes := rfl
@[simp] theorem State.setOutbox_mbxs (s : State) (v : List Out) : (s.setOutbox v).mbxs = s.mbxs := rfl
@[simp] theorem State.setOutbox_abaom (s : State) (v : List Out) : (s.setOutbox v).abaom = s.abaom := rfl
@[simp] theorem State.setOutbox_ctxs (s : State) (v : List Out) : (s.setOutbox v).ctxs = s.ctxs := rfl
@[simp] theorem State.setOutbox_share (s : State) (v : List Out) : (s.setOutbox v).share = s.share := rfl
@[simp] theorem State.setOutbox_compute (s : State) (v : List Out) : (s.setOutbox v).compute = s.compute := rfl
@[simp] theorem State.setOutbox_xlat (s : State) (v : List Out) : (s.setOutbox v).xlat = s.xlat := rfl
@[simp] theorem State.setOutbox_fab (s : State) (v : List Out) : (s.setOutbox v).fab = s.fab := rfl
@[simp] theorem State.setOutbox_coh (s : State) (v : List Out) : (s.setOutbox v).coh = s.coh := rfl
@[simp] theorem State.setOutbox_mem (s : State) (v : List Out) : (s.setOutbox v).mem = s.mem := rfl
@[simp] theorem State.setOutbox_joined (s : State) (v : List Out) : (s.setOutbox v).joined = s.joined := rfl
@[simp] theorem State.setOutbox_monu (s : State) (v : List Out) : (s.setOutbox v).monu = s.monu := rfl
@[simp] theorem State.setOutbox_pwr (s : State) (v : List Out) : (s.setOutbox v).pwr = s.pwr := rfl
@[simp] theorem State.setOutbox_trust (s : State) (v : List Out) : (s.setOutbox v).trust = s.trust := rfl
@[simp] theorem State.setOutbox_dies (s : State) (v : List Out) : (s.setOutbox v).dies = s.dies := rfl
@[simp] theorem State.setOutbox_obs (s : State) (v : List Out) : (s.setOutbox v).obs = s.obs := rfl
@[simp] theorem State.setOutbox_freeCtr (s : State) (v : List Out) : (s.setOutbox v).freeCtr = s.freeCtr := rfl
@[simp] theorem State.setOutbox_outbox (s : State) (v : List Out) : (s.setOutbox v).outbox = v := rfl
@[simp] theorem State.setOutbox_pending (s : State) (v : List Out) : (s.setOutbox v).pending = s.pending := rfl

@[simp] theorem State.setPending_conn (s : State) (v : List Instr) : (s.setPending v).conn = s.conn := rfl
@[simp] theorem State.setPending_ids (s : State) (v : List Instr) : (s.setPending v).ids = s.ids := rfl
@[simp] theorem State.setPending_time (s : State) (v : List Instr) : (s.setPending v).time = s.time := rfl
@[simp] theorem State.setPending_stakes (s : State) (v : List Instr) : (s.setPending v).stakes = s.stakes := rfl
@[simp] theorem State.setPending_mbxs (s : State) (v : List Instr) : (s.setPending v).mbxs = s.mbxs := rfl
@[simp] theorem State.setPending_abaom (s : State) (v : List Instr) : (s.setPending v).abaom = s.abaom := rfl
@[simp] theorem State.setPending_ctxs (s : State) (v : List Instr) : (s.setPending v).ctxs = s.ctxs := rfl
@[simp] theorem State.setPending_share (s : State) (v : List Instr) : (s.setPending v).share = s.share := rfl
@[simp] theorem State.setPending_compute (s : State) (v : List Instr) : (s.setPending v).compute = s.compute := rfl
@[simp] theorem State.setPending_xlat (s : State) (v : List Instr) : (s.setPending v).xlat = s.xlat := rfl
@[simp] theorem State.setPending_fab (s : State) (v : List Instr) : (s.setPending v).fab = s.fab := rfl
@[simp] theorem State.setPending_coh (s : State) (v : List Instr) : (s.setPending v).coh = s.coh := rfl
@[simp] theorem State.setPending_mem (s : State) (v : List Instr) : (s.setPending v).mem = s.mem := rfl
@[simp] theorem State.setPending_joined (s : State) (v : List Instr) : (s.setPending v).joined = s.joined := rfl
@[simp] theorem State.setPending_monu (s : State) (v : List Instr) : (s.setPending v).monu = s.monu := rfl
@[simp] theorem State.setPending_pwr (s : State) (v : List Instr) : (s.setPending v).pwr = s.pwr := rfl
@[simp] theorem State.setPending_trust (s : State) (v : List Instr) : (s.setPending v).trust = s.trust := rfl
@[simp] theorem State.setPending_dies (s : State) (v : List Instr) : (s.setPending v).dies = s.dies := rfl
@[simp] theorem State.setPending_obs (s : State) (v : List Instr) : (s.setPending v).obs = s.obs := rfl
@[simp] theorem State.setPending_freeCtr (s : State) (v : List Instr) : (s.setPending v).freeCtr = s.freeCtr := rfl
@[simp] theorem State.setPending_outbox (s : State) (v : List Instr) : (s.setPending v).outbox = s.outbox := rfl
@[simp] theorem State.setPending_pending (s : State) (v : List Instr) : (s.setPending v).pending = v := rfl

end Sys2Proof.Machine
end

