-- ==== Sys2Proof/Tests/Slice0.lean ====
section
/-!
SUPPORT. Tests: the checks of well-formedness refuse ill-formed commands, small runs of one step, and for each statement that
has hypotheses a state and operands that meet them.
-/

namespace Sys2Proof.Tests

open Sys2Proof Sys2Proof.Machine

set_option Elab.async false

/-! ### Builders -/

/-- The fields of an instruction's first word, from the highest down (R263). -/
def enc (cls op dst src1 src2 mod imm : Nat) : Nat :=
  cls * 2 ^ 56 + op * 2 ^ 50 + dst * 2 ^ 41 + src1 * 2 ^ 32 + src2 * 2 ^ 23 + mod * 2 ^ 16 + imm

/-- Scalar, tile and accumulator operands (R258). -/
def sc (n : Nat) : Nat := 256 + n
def tr (n : Nat) : Nat := 320 + n
def ac (n : Nat) : Nat := 384 + n

/-- Bytes of memory as cells. -/
def cells (at_ : Nat) (bytes : List Byte) : List Host.Cell :=
  (bytes.zipIdx.map fun p => (at_ + p.2, p.1)).filter fun c => c.2 != 0

/-- A running machine with context 1 open on mailbox 1. -/
def base : State :=
  { State.reset with
    conn := { ModuleState.reset with phase := .ready }
    ctxs := State.reset.ctxs.set 1 { Context.reset with st := .opened, mbx := 1, quota := 8 } }

/-- A page of 64 KiB of context 1 at a place, mapped onto itself. -/
def page (place va : Nat) : TlbEntry := ⟨place, 1, va, 65536, .local_ va, true, 0, 0, 0⟩

/-- A block of one group on cluster 0, its code at 0x10000. -/
def blockOf (words : List Nat) (g : Group) : Block where
  id := 0
  ctx := 1
  watch := 0
  entry := 0
  tag := 0
  cluster := 0
  index := 0
  blocks := 1
  regs := 16
  bmBase := 0
  bmSize := 32768
  args := 0
  codeLo := 0x10000
  codeHi := 0x10000 + 8 * words.length
  excPtr := 0x20000
  stake := none
  groups := [g]
  cores := [0]
  copies := []
  nextCopy := 0

/-- A group at its start, with scalar registers set. -/
def groupWith (sregs : List (Nat × Nat)) : Group := sregs.foldl (fun g p => g.setScalar p.1 p.2) (Group.start 16 0x10000 false)

/-- The running machine with a block of one group that is to execute words of code. -/
def coded (words : List Nat) (g : Group) : State :=
  { base with
    compute := { ComputeState.reset with blocks := [blockOf words g], nextBlock := 1 }
    xlat := { XlatState.reset with tlb := [page 0 0x10000, page 0 0x20000] }
    mem := { MemState.reset with hbm := cells 0x10000 (words.flatMap (leBytes 8)) } }

/-- The group of that block. -/
def sub0 : SubRef := ⟨0, 0, 0⟩

/-- The instruction that issues now meets a check. -/
def issues (s : State) (p : At → Bool) : Bool :=
  match s.issuing sub0 with
  | some (a, _) => p a
  | none => false

/-- The next state of a command meets a check. -/
def after (c : Instr) (s : State) (p : State → Bool) : Bool :=
  match exec c s with
  | .next t => p t
  | .fault _ => false
  | .refused _ => false

/-- The group of block 0 meets a check. -/
def group0 (s : State) (p : Group → Bool) : Bool :=
  match s.group 0 0 with
  | some g => p g
  | none => false

/-! ### Instructions -/

/-- R269, R271: an encoding of each integer operation. -/
def intWords : List (Nat × Nat) :=
  [(0, enc 0 0 2 0 1 0 0), (1, enc 0 1 2 0 4 32 0), (2, enc 0 2 (sc 2) (sc 1) (sc 3) 0 0), (3, enc 0 3 2 0 1 1 0), (4, enc 0 4 2 0 1 1 0),
   (5, enc 0 5 2 0 1 0 0), (6, enc 0 6 2 0 1 0 0), (7, enc 0 7 2 0 0 64 5), (8, enc 0 8 2 0 1 0 0), (9, enc 0 9 2 0 0 64 33),
   (10, enc 0 10 2 0 1 1 0), (11, enc 0 11 2 0 1 1 0), (12, enc 0 12 2 0 1 0 0), (13, enc 0 13 2 0 1 7 0), (14, enc 0 14 2 0 1 0 3),
   (15, enc 0 15 2 0 0 64 0xFFFF), (16, enc 0 16 2 0 0 0 0), (17, enc 0 17 (sc 1) 0 0 0 0), (18, enc 0 18 2 0 0 0 0), (19, enc 0 19 2 0 0 0 0)]

theorem witness_IntegerInstructionResults :
    intWords.all (fun w => issues (coded [w.2] (groupWith [])) fun a => a.i.cls == 0x00 && a.i.op == w.1) = true := by
  decide +kernel

/-- R273, R275: an encoding of each float operation, the types FP32, FP64, FP16 and BF16 among them. -/
def floatWords : List (Nat × Nat) :=
  [(0, enc 1 0 2 0 1 0 0), (1, enc 1 1 2 0 4 1 0), (2, enc 1 2 2 0 1 2 0), (3, enc 1 3 2 0 1 3 4), (4, enc 1 4 2 0 1 4 0),
   (5, enc 1 5 2 0 0 8 0), (6, enc 1 6 2 0 1 0 0), (7, enc 1 7 2 0 1 0 0), (8, enc 1 8 2 0 1 0 5), (9, enc 1 9 2 0 0 0 1),
   (9, enc 1 9 2 4 0 0 2), (10, enc 1 10 2 0 0 0 0), (11, enc 1 11 2 0 0 12 0)]

theorem witness_FloatInstructionResults :
    floatWords.all (fun w => issues (coded [w.2] (groupWith [])) fun a => a.i.cls == 0x01 && a.i.op == w.1) = true := by
  decide +kernel

/-- R276 to R280: an encoding of each control operation. -/
def controlWords : List (Nat × Nat) :=
  [(0, enc 2 0 0 0 0 0 1), (1, enc 2 1 0 0 0 1 2), (1, enc 2 1 0 (sc 1) 0 5 2), (2, enc 2 2 0 (sc 1) 0 0 0), (3, enc 2 3 0 0 0 0 0xFFFF),
   (4, enc 2 4 0 (sc 1) 0 0 0), (5, enc 2 5 0 0 0 0 0), (6, enc 2 6 0 0 0 0 0), (7, enc 2 7 0 0 0 0 9), (8, enc 2 8 0 0 0 0 0)]

theorem witness_ControlFlow :
    controlWords.all (fun w => issues (coded [w.2] (groupWith [])) fun a => a.i.cls == 0x02 && a.i.op == w.1) = true := by
  decide +kernel

/-- The loads in block memory, one at an offset beyond the block's, and those of global memory. -/
def loadWords : List (Nat × Nat × Nat) :=
  [(0, 1, enc 3 0 0 (sc 1) 0 4 0), (1, 2, enc 3 1 0 (sc 1) 0 4 0), (2, 4, enc 3 2 0 (sc 1) 0 4 0), (3, 8, enc 3 3 0 (sc 1) 0 4 0),
   (4, 16, enc 3 4 0 (sc 1) 0 4 0), (5, 1, enc 3 5 (sc 2) (sc 1) 0 4 0), (6, 2, enc 3 6 0 (sc 1) 0 4 0)]

/-- Every piece is of this device's memory and unpoisoned. -/
def inMemory (s : State) (l : List LanePiece) : Bool :=
  l.all fun p => match p.piece.target with
    | .local_ pa => !(s.poisoned pa p.piece.size)
    | .tie _ _ _ => false

/-- An access that is translated asks nothing, so `served` meets the equation of the statements. -/
theorem translate_some (a : At) (e : Engine) (k : AccKind) (acc : List LaneAccess) (s : State) (l : List LanePiece)
    (h : (a.translate e k acc s).2 = some l) : a.translate e k acc s = (s, some l) := by
  simp only [At.translate] at h ⊢
  split at h
  · rename_i g
    rw [if_pos g] at *
    simp_all
  · cases h

/-- The access is whole in this device's memory. -/
def served (a : At) (e : Engine) (k : AccKind) (acc : List LaneAccess) (s : State) : Bool :=
  match a.translate e k acc s with
  | (_, some l) => !l.isEmpty && inMemory s l
  | (_, none) => false

theorem witness_LaneMemoryInstructions_loads_block :
    loadWords.all (fun w => issues (coded [w.2.2] (groupWith [(1, 32768 - w.2.1)])) fun a =>
      a.i.cls == 0x03 && a.i.op == w.1 && a.i.blockMem && (a.loadAccesses w.2.1).all fun x => decide (x.va + w.2.1 ≤ a.b.bmSize)) = true := by
  decide +kernel

theorem witness_LaneMemoryInstructions_loads_beyond :
    issues (coded [enc 3 2 0 (sc 1) 0 4 0] (groupWith [(1, 32765)])) (fun a =>
      a.i.cls == 0x03 && a.i.op == 2 && a.i.blockMem
        && ((a.loadAccesses 4).filter fun y => decide (a.b.bmSize < y.va + 4)).length == 32) = true := by
  decide +kernel

theorem witness_LaneMemoryInstructions_loads_memory :
    loadWords.all (fun w => let s := coded [w.2.2 - 4 * 2 ^ 16] (groupWith [(1, 0x20000)])
      issues s fun a => a.i.cls == 0x03 && a.i.op == w.1 && !a.i.blockMem && !(a.sysWaits s)
        && served a .alu .read (a.loadAccesses w.2.1) s) = true := by
  decide +kernel

def storeWords : List (Nat × Nat × Nat) :=
  [(8, 1, enc 3 8 0 (sc 1) 0 4 0), (9, 2, enc 3 9 0 (sc 1) 0 4 0), (10, 4, enc 3 10 0 (sc 1) 0 4 0), (11, 8, enc 3 11 0 (sc 1) 0 4 0),
   (12, 16, enc 3 12 0 (sc 1) 0 4 0)]

/-- The accesses of a store. -/
def storeAccesses (a : At) (size : Nat) : List LaneAccess := a.lanes.map fun l => ⟨l, a.addressOf size a.i.immediate l, size⟩

theorem witness_LaneMemoryInstructions_stores_block :
    storeWords.all (fun w => issues (coded [w.2.2] (groupWith [(1, 32768 - w.2.1)])) fun a =>
      a.i.cls == 0x03 && a.i.op == w.1 && a.i.blockMem && (storeAccesses a w.2.1).all fun x => decide (x.va + w.2.1 ≤ a.b.bmSize))
      = true := by
  decide +kernel

theorem witness_LaneMemoryInstructions_stores_beyond :
    issues (coded [enc 3 8 0 (sc 1) 0 4 0] (groupWith [(1, 32768)])) (fun a =>
      a.i.cls == 0x03 && a.i.op == 8 && a.i.blockMem
        && ((storeAccesses a 1).filter fun y => decide (a.b.bmSize < y.va + 1)).length == 32) = true := by
  decide +kernel

theorem witness_LaneMemoryInstructions_stores_memory :
    storeWords.all (fun w => let s := coded [w.2.2 - 4 * 2 ^ 16] (groupWith [(1, 0x20000)])
      issues s fun a => a.i.cls == 0x03 && a.i.op == w.1 && !a.i.blockMem && !(a.sysWaits s)
        && served a .alu .write (storeAccesses a w.2.1) s) = true := by
  decide +kernel

/-- The accesses of an atomic. -/
def atomAccesses (a : At) (op size : Nat) : List LaneAccess :=
  a.lanes.map fun l => ⟨l, a.addressOf size (if op = 9 then 0 else a.i.immediate) l, size⟩

/-- Each atomic, of both widths. -/
def atomWords (mod : Nat) : List (Nat × Nat × Nat) :=
  (List.range 11).flatMap fun op => [(op, 4, enc 4 op 0 (sc 1) 2 mod 0), (op, 8, enc 4 (16 + op) 0 (sc 1) 2 mod 0)]

/-- The operation, at its width. -/
def isAtom (a : At) (op size : Nat) : Bool := a.i.cls == 0x04 && a.i.op == (if size = 4 then op else 16 + op)

theorem witness_LaneMemoryInstructions_atomics_block :
    (atomWords 4).all (fun w => issues (coded [w.2.2] (groupWith [(1, 32768 - w.2.1)])) fun a =>
      isAtom a w.1 w.2.1 && a.i.blockMem
        && (atomAccesses a w.1 w.2.1).all fun x => x.va % w.2.1 == 0 && decide (x.va + w.2.1 ≤ a.b.bmSize)) = true := by
  decide +kernel

theorem witness_LaneMemoryInstructions_atomics_align :
    (atomWords 4).all (fun w => issues (coded [w.2.2] (groupWith [(1, w.2.1 / 2)])) fun a =>
      isAtom a w.1 w.2.1 && ((atomAccesses a w.1 w.2.1).filter fun y => y.va % w.2.1 != 0).length == 32) = true := by
  decide +kernel

theorem witness_LaneMemoryInstructions_atomics_memory :
    (atomWords 0).all (fun w => let s := coded [w.2.2] (groupWith [(1, 0x20000)])
      issues s fun a => isAtom a w.1 w.2.1 && !a.i.blockMem && !(a.sysWaits s) && (atomAccesses a w.1 w.2.1).all (fun x => x.va % w.2.1 == 0)
        && served a .alu .atomic (atomAccesses a w.1 w.2.1) s) = true := by
  decide +kernel

/-- R291, R292, R295 to R297: an encoding of each synchronisation, time, mark and status operation. -/
def syncWords : List (Nat × Nat × Nat) :=
  [(5, 0, enc 5 0 0 0 0 16 0), (5, 1, enc 5 1 0 0 0 0 0), (5, 2, enc 5 2 0 0 0 0 0), (5, 3, enc 5 3 0 (sc 1) (sc 2) 0 0),
   (7, 0, enc 7 0 0 (sc 1) 0 0 0), (7, 1, enc 7 1 (sc 1) 0 0 0 0), (8, 0, enc 8 0 0 (sc 1) 0 0 7), (8, 1, enc 8 1 0 (sc 1) 0 0 7),
   (9, 0, enc 9 0 (sc 1) 0 0 0 0x13), (9, 1, enc 9 1 0 (sc 1) 0 0 0x13), (9, 2, enc 9 2 0 (sc 1) 0 0 0x12)]

theorem witness_SynchronisationAndStatusInstructions :
    syncWords.all (fun w => issues (coded [w.2.2] (groupWith [(1, 8)])) fun a => a.i.cls == w.1 && a.i.op == w.2.1) = true := by
  decide +kernel


/-! ### Barriers, engines, copies and walks -/

/-- A machine whose one group has a sub-group held. -/
def heldBy (h : Hold) : State :=
  let g := groupWith []
  coded [] { g with subs := g.subs.map fun x => { x with hold := h } }

/-- The block's group, unchanged otherwise. -/
def withGroup (s : State) (f : Group → Group) : State :=
  { s with compute := { s.compute with blocks := s.compute.blocks.map fun b => { b with groups := b.groups.map f } } }

theorem witness_BarriersRelease :
    (group0 (heldBy .barGroup) (fun g => !g.stopped && g.ops.isEmpty && g.subs.all fun x => x.hold == .barGroup)
      && group0 (heldBy .none) (fun g => g.subs.any fun x => x.hold != .barGroup)
      && (match (heldBy .barBlock).block 0 with
          | some b => b.groups.all fun g => !g.stopped && g.subs.all fun x => x.hold == .barBlock
          | none => false)
      && (match (heldBy .none).block 0 with
          | some b => b.groups.any fun g => g.subs.any fun x => x.hold != .barBlock
          | none => false)
      && (match (heldBy (.arrWait 8 1)).subGroup sub0 with
          | some (_, _, x) => x.hold == .arrWait 8 1
          | none => false)
      && (match (heldBy (.stakeWait 9)).subGroup sub0 with
          | some (_, _, x) => x.hold == .stakeWait 9
          | none => false)) = true := by
  decide +kernel

/-- A fence.sys whose group has written to another device and has no acknowledgement yet. -/
def unfenced : State :=
  let s := coded [enc 5 0 0 0 0 24 0] (groupWith [])
  { s with fab := { s.fab with sends := [{
      dst := 9, kind := 0, ctx := 1, port := 0, next := 1, rounds := 0, progress := 0, lastSent := 0, silent := false, waiting := []
      busy := none, unacked := [⟨0, ⟨0, 0, 0, 0, []⟩, .tieWrite 0 1 0x20000 0 0 0 .alu 3 .write, false⟩] }] } }

theorem witness_FenceSys :
    issues unfenced (fun a => a.i.cls == 0x05 && a.i.op == 0 && a.i.mod / 8 % 4 == 3 && unfenced.tieWritesBefore a.b.id a.gi)
      = true := by
  decide +kernel

/-- A small anchored tile in both accumulators. -/
def anchoredGroup (sregs : List (Nat × Nat)) : Group :=
  { groupWith sregs with a0 := .anchored (some 0) [AnchEl.zero], a1 := .anchored none [] }

/-- R298: an encoding of each matrix operation. -/
def matrixWords : List (Nat × Nat) :=
  [(0, enc 16 0 (ac 0) (sc 1) (sc 2) 0 1), (1, enc 16 1 (ac 1) (sc 1) (sc 2) 0 1), (2, enc 16 2 (ac 0) (sc 1) (sc 2) 0 1),
   (3, enc 16 3 (ac 0) (sc 1) (sc 2) 0 1), (4, enc 16 4 (ac 0) (sc 1) (sc 2) 0 1), (5, enc 16 5 (ac 0) (sc 1) (sc 2) 0 1),
   (8, enc 16 8 (ac 0) (sc 1) 0 0 0), (8, enc 16 8 (ac 0) 0 0 1 0), (9, enc 16 9 0 (ac 0) (sc 2) 0 0), (10, enc 16 10 (ac 0) 0 0 0 0)]

theorem witness_MatrixInstructionsIssue :
    matrixWords.all (fun w => let s := coded [w.2] (anchoredGroup [(1, 64), (2, 8192)])
      issues s fun a => a.i.cls == 0x10 && a.i.op == w.1 && a.g.ops.isEmpty && (s.takePair a).compute.pairs.length == 1) = true := by
  decide +kernel

/-- The machine whose group has one instruction in its engines. -/
def engaged (pipe : Pipe) (word : Nat) (g : Group) : State :=
  coded [] { g with ops := [{ pipe, pc := 0x10000, word, ext := 0, s1 := 64, s2 := 8192, sd := 0, seq := 0, order := 1 }] }

/-- The first instruction in the engines is the one at a word's operation. -/
def heads (s : State) (op : Nat) (pipe : Pipe) : Bool :=
  (s.block 0).isSome && group0 s fun g => !g.stopped && match g.ops with
    | o :: _ => o.pipe == pipe && (insnOf o.pc o.word o.ext).op == op
    | [] => false

theorem witness_MatrixInstructionsComplete :
    matrixWords.all (fun w => let pipe := if w.1 < 6 then Pipe.multiply else .readout
      heads (engaged pipe w.2 (anchoredGroup [])) w.1 pipe) = true := by
  decide +kernel

/-- atom.xadd of one row of one cell. -/
def xaddWords : List Nat := [enc (64 + 4) 0x20 (ac 0) (sc 1) (sc 2) 0 0, 0x0101]

theorem witness_AccumulatorPairsAndAnchors_pair :
    (let free := coded [enc 16 10 (ac 0) 0 0 0 0] (groupWith [])
     let owned := { free with compute := { free.compute with pairs := [⟨0, 0, 0, 0⟩] } }
     free.pairOwner 0 0 == none && free.nextOwner 0 0 == some (0, 0) && owned.pairOwner 0 0 == some ⟨0, 0, 0, 0⟩) = true := by
  decide +kernel

/-- What atom.xadd finds: the instruction, no other in the engines, and the pair to be had. -/
def xadds (s : State) (p : At → State → Bool) : Bool :=
  issues s fun a => a.i.cls == 0x04 && a.i.op == 0x20 && !(a.g.tilePending a.b.regs (a.opd a.i.dst).number) && p a (s.takePair a)

theorem witness_AccumulatorPairsAndAnchors_add :
    (xadds (coded xaddWords { groupWith [(1, 0x20000)] with a0 := .fp32 [] }) (fun a _ => a.g.acc 0 == .fp32 [])
      && xadds (coded xaddWords (anchoredGroup [(1, 0x20010)])) (fun a _ => !((a.xaddRows.filter fun y => y.va % 32 != 0).isEmpty))
      && xadds (coded xaddWords (anchoredGroup [(1, 0x20020)])) (fun a t => a.xaddRows.all (fun y => y.va % 32 == 0)
          && !(a.i.blockMem) && !(a.sysWaits t) && served a .alu .atomic a.xaddRows t)) = true := by
  decide +kernel

/-- atom.xadd of one cell of the block's memory (SPACE 1). -/
def xaddBlockWords : List Nat := [enc (64 + 4) 0x20 (ac 0) (sc 1) (sc 2) 4 0, 0x0101]

theorem witness_AccumulatorPairsAndAnchors_block :
    (xadds (coded xaddBlockWords (anchoredGroup [(1, 64)])) (fun a _ => a.i.blockMem && (a.outside a.xaddRows).isEmpty)
      && xadds (coded xaddBlockWords (anchoredGroup [(1, 2 ^ 40)])) (fun a _ => a.i.blockMem && a.xaddRows.all (fun y => y.va % 32 == 0)
          && !((a.outside a.xaddRows).isEmpty))) = true := by
  decide +kernel

/-- An element program of one operation, which moves IN0 to OUT (R413, R414): its header and its operation. -/
def progWords : List Nat := [0x4550010101000100, 0, 0, 0, 0, 0, 0, 0, 0x02200000]

/-- The same, loaded. -/
def prog : VepProg := { rm := 0, ops := [0x02200000], rows := 1, cols := 1, consts := [0, 0, 0, 0], in0 := 0, in1 := 0, out := 0 }

/-- A group with tiles and that program in slot 0. -/
def vectorGroup (sregs : List (Nat × Nat)) : Group :=
  { anchoredGroup sregs with tiles := List.replicate 8 [], progs := some prog :: List.replicate 7 none }

/-- What a tile-vector instruction finds: the instruction, and room in its engine. -/
def vectors (s : State) (op : Nat) (p : At → Bool) : Bool :=
  issues s fun a => a.i.cls == 0x11 && a.i.op == op && !a.g.vectorPending && p a

theorem witness_VectorInstructionsIssue_vperm_vsum :
    (vectors (coded [enc 17 2 (tr 1) (tr 2) (tr 3) 0 0] (vectorGroup [])) 2 (fun _ => true)
      && [8, 9, 10, 11, 12, 13].all (fun op =>
        vectors (coded [enc 17 op (sc 1) (tr 2) 0 0 0] (vectorGroup [])) op (fun a => !(a.i.namesAcc a.b.regs))
        && (let s := coded [enc 17 op (sc 1) (ac 0) 0 0 0] (vectorGroup [])
            vectors s op fun a => a.i.namesAcc a.b.regs && (s.takePair a).compute.pairs.length == 1))) = true := by
  decide +kernel

/-- A call that passes its checks. -/
def callOk (a : At) : Bool :=
  match vepCall a.b.regs a.g a.i (a.scalar a.i.src1) (a.scalar a.i.src2) (a.scalar a.i.dst) with
  | some c => c.operandOk && [c.in0, c.in1, c.out].all fun p =>
      p.misaligned c.shape.1 c.shape.2 == none && p.beyond a.b.bmSize c.shape.1 c.shape.2 == none
  | none => false

theorem witness_VectorInstructionsIssue_vepRun :
    (vectors (coded [enc 17 1 (tr 1) (tr 2) 0 0 1] (vectorGroup [])) 1 (fun a =>
        vepCall a.b.regs a.g a.i (a.scalar a.i.src1) (a.scalar a.i.src2) (a.scalar a.i.dst) == none)
      && vectors (coded [enc 17 1 (tr 1) (tr 2) 0 0 0] (vectorGroup [])) 1 (fun a => callOk a && !(a.i.namesAcc a.b.regs))
      && (let s := coded [enc 17 1 (ac 1) (ac 0) 0 0 0] (vectorGroup [])
          vectors s 1 fun a => callOk a && a.i.namesAcc a.b.regs && (s.takePair a).compute.pairs.length == 1)) = true := by
  decide +kernel

/-- vld.t or vst.t, with its base and its stride in s1 and s2. -/
def tileWord (op mod : Nat) : Nat := enc 17 op (tr 1) (sc 1) (sc 2) mod 0

theorem witness_VectorInstructionsIssue_tiles :
    [3, 4].all (fun op =>
      vectors (coded [tileWord op 4] (vectorGroup [(1, 2), (2, 64)])) op (fun a => a.scalar a.i.src1 % 4 != 0)
      && vectors (coded [tileWord op 4] (vectorGroup [(1, 4), (2, 2)])) op
          (fun a => a.scalar a.i.src1 % 4 == 0 && a.scalar a.i.src2 % 4 != 0)
      && vectors (coded [tileWord op 4] (vectorGroup [(1, 31744), (2, 64)])) op (fun a => a.i.blockMem
          && a.tileRows.all fun v => decide (0 ≤ v) && decide (v + 64 ≤ (a.b.bmSize : Int)))
      && (let s := coded [tileWord op 0] (vectorGroup [(1, 0x20000), (2, 64)])
          vectors s op fun a => !a.i.blockMem && served a .vector (if op = 3 then .read else .write) a.tileAccesses s)) = true := by
  decide +kernel

/-- vep.load with its image at 0x20000. -/
def loading (va : Nat) : State :=
  let s := coded [enc 17 0 0 (sc 1) 0 0 0] (vectorGroup [(1, va)])
  { s with mem := { s.mem with hbm := s.mem.hbm ++ cells 0x20000 (progWords.flatMap (leBytes 8)) } }

theorem witness_VectorInstructionsIssue_vepLoad :
    (vectors (loading 0x20020) 0 (fun a => a.scalar a.i.src1 % 64 != 0)
      && vectors (loading 0x20000) 0 (fun a => a.scalar a.i.src1 % 64 == 0
          && (a.translate .vector .read [⟨a.g.issuer, 0x20000, 64⟩] (loading 0x20000)).2
              == some [⟨a.g.issuer, ⟨.local_ 0x20000, 0x20000, 64⟩⟩]
          && (a.translate .vector .read [⟨a.g.issuer, 0x20040, 4⟩] (loading 0x20000)).2
              == some [⟨a.g.issuer, ⟨.local_ 0x20040, 0x20040, 4⟩⟩])
      && headerOk ((loading 0x20000).hbmRead 0x20000 64) && !(headerOk (List.replicate 64 0))
      && imageOps ((loading 0x20000).hbmRead 0x20000 64) == 1 && !((loading 0x20000).poisoned 0x20000 64)
      && parseProg ((loading 0x20000).hbmRead 0x20000 64) (elements 4 1 ((loading 0x20000).hbmRead 0x20040 4)) == some prog) = true := by
  decide +kernel

theorem witness_VectorInstructionsComplete :
    ([enc 17 0 0 (sc 1) 0 0 0, enc 17 1 (tr 1) (tr 2) 0 0 0, enc 17 2 (tr 1) (tr 2) (tr 3) 0 0, tileWord 3 4, tileWord 4 4, tileWord 3 0,
        tileWord 4 0, enc 17 8 (sc 1) (tr 2) 0 0 0].all fun w => let s := engaged .vector w (vectorGroup [])
        heads s (w / 2 ^ 50 % 64) .vector && (match s.block 0, s.group 0 0 with
          | some b, some g => g.ops.any fun o => s.vectorFirst b 0 o
          | _, _ => false))
      = true := by
  decide +kernel

theorem witness_VectorInstructionsComplete_call :
    (vepCall 16 (vectorGroup []) (insnOf 0 (enc 17 1 (tr 1) (tr 2) 0 0 0) 0) 0 0 0).isSome = true := by decide +kernel

/-- xfer.cv of 64 bytes within block memory, from s1 to s2, with its counter at s3 (R293). -/
def copyWords : List Nat := [enc (64 + 6) 0 (sc 3) (sc 1) (sc 2) 3 0, 64 * 2 ^ 41]

theorem witness_AsynchronousCopies_issue :
    (let s := coded copyWords (groupWith [(1, 0), (2, 32704), (3, 1024)])
     issues s fun a => a.i.cls == 0x06 && a.i.op == 0 && convOf (a.i.ext / 2 ^ 33 % 256) == some Conv.none
      && decide (a.copyLength = 64) && Conv.none.dstLen 64 == some 64 && Conv.none.aligned (a.scalar a.i.src1) (a.scalar a.i.src2)
      && a.copyCounter == 1024 && decide (a.scalar a.i.src2 + 64 ≤ a.b.bmSize) && !(Conv.none.stochastic)
      && decide (s.copiesOn a.b.cluster 0 < 32)) = true := by
  decide +kernel

/-- The machine with that copy in flight. -/
def copying : State :=
  let s := coded [] (groupWith [])
  { s with compute := { s.compute with blocks := s.compute.blocks.map fun b => { b with copies := [{
      id := 0, core := 0, group := 0, srcBm := true, src := 0, dstBm := true, dst := 32704, len := 64, conv := 0, stream := ⟨[], 0, 0⟩
      counter := 1024, left := [(0, 64)], sent := [], after := none }] } } }

theorem witness_AsynchronousCopies_land :
    (match copying.block 0 with
     | some b => match b.copy 0 with
       | some c => convOf c.conv == some Conv.none && c.srcBm && c.dstBm && c.sent.isEmpty
          && takeRange c.left 32 32 == some [(0, 32)] && decide (32 + 32 ≤ c.len) && copying.copyReady b c
       | none => false
     | none => false) = true := by
  decide +kernel

theorem witness_IllegalInstructionRaises :
    ([coded [] (groupWith []), coded [enc 2 9 0 0 0 0 0] (groupWith [])].all fun s =>
      match s.subGroup sub0 with
      | some (b, g, x) => s.subReady b 0 g x && match s.fetchInsn b 0 g (mergeInto x (s.mergers b 0 g x)) with
        | .outside _ => true
        | .insn i => !(i.legal b.regs)
        | .wait _ => false
        | .poison => false
      | none => false) = true := by
  decide +kernel

theorem witness_ScalarRegisters : 0 < 63 ∧ 63 < (Group.start 16 0 false).sregs.length := by decide

theorem witness_GroupRegistersAndFrame :
    (let a : At := ⟨blockOf [] (groupWith []), 0, groupWith [], ⟨0, 0, 1, [], .none⟩, insnOf 0 (enc 0 0 2 0 1 0 0) 0⟩
     let b : At := { a with i := insnOf 0 (enc 0 0 (sc 2) (sc 1) (sc 3) 0 0) 0 }
     a.opd a.i.dst == .lane 2 && a.sg.mask.getLsbD 0 && !(a.sg.mask.getLsbD 31) && b.opd b.i.dst == .scalar 2
      && decide (2 + 1 ≤ (nth a.g.lanes 0 []).length)) = true := by
  decide +kernel

/-! ### Walks, commands and time -/

/-- The running machine with 1 GiB of memory and context 1's tables: a root, a pointer, and a leaf of 1 GiB. -/
def mapped : State :=
  { base with
    ctxs := State.reset.ctxs.set 1 { Context.reset with st := .opened, mbx := 1, quota := 8, root := 0x40000 }
    ids := { IdState.reset with hbmGib := 1, stackLive := 1, baseLive := 0xFF, procLive := 3 }
    mem := { MemState.reset with
      hbm := cells 0x40000 (leBytes 8 0x41001) ++ cells 0x41000 (leBytes 8 0x42001) ++ cells 0x42000 (leBytes 8 7) } }

/-- A walk for a lane's read. -/
def walkOf : WalkReq :=
  { ctx := 1, va := 0x20008, kind := .read, engine := .alu, by_ := .cluster 0, who := .lane sub0 0, site := none }

theorem witness_WalkFillsTlb :
    (let s := mapped.setXlat { mapped.xlat with walks := [walkOf] }
     let u := s.setXlat { s.xlat with walks := s.xlat.walks.erase walkOf }
     s.xlat.walks[0]? == some walkOf && (s.ctx 1).st == .opened && s.walkRuns 0 walkOf && match u.walkEnd walkOf with
       | .entry e => e.target == .local_ 0 && e.span == 2 ^ 30 && e.write
       | _ => false) = true := by
  decide +kernel

theorem witness_WalkFillsTlb_denied :
    (let held : TlbEntry := { page 0 0x20000 with ctx := 1, write := false, leaf := 3 }
     let q := { walkOf with kind := .write }
     let s := mapped.setXlat { mapped.xlat with walks := [q], tlb := [held] }
     let u := s.setXlat { s.xlat with walks := s.xlat.walks.erase q }
     s.walkRuns 0 q && ((u.heldRefusal q).map (·.kind)) == some .writeDenied) = true := by
  decide +kernel

theorem witness_WalkFillsTlb_full :
    (let s := mapped.setXlat { mapped.xlat with walks := List.replicate 65 walkOf }
     s.xlat.walks[64]? == some walkOf && s.walkRuns 63 walkOf && !(s.walkRuns 64 walkOf)) = true := by
  decide +kernel

/-- The machine with a command in the hand of mailbox `n`. -/
def commanding (s : State) (n op : Nat) (args : List Nat) : State :=
  s.putMbx n { Mailbox.reset with st := .busy, cmd := some ⟨op, 7, false, args.map (BitVec.ofNat 64), 0, false, 0⟩ }

theorem witness_CommandEnds : (62 < (commanding base 62 0x0100 []).mbxs.length) ∧ (((commanding base 62 0x0100 []).mbx 62).cmd).isSome := by
  decide +kernel

/-- Every context open. -/
def allOpen : State := { base with ctxs := List.replicate 64 { Context.reset with st := .opened } }

theorem witness_QueryAndContextCommands :
    ((commanding base 0 0x0100 []).has 0 0x0100 && (commanding base 0 0x0101 []).has 0 0x0101 && (commanding base 0 0x0500 []).has 0 0x0500
      && (commanding base 0 0x0202 [1]).has 0 0x0202 && (commanding base 0 0x0902 [1]).has 0 0x0902
      && (commanding base 0 0x0201 [1]).has 0 0x0201 && (commanding base 0 0x0200 [1]).has 0 0x0200
      && ((commanding base 0 0x0200 [1]).boundCtx 1).isSome
      && (List.range 64).all (fun c => (allOpen.ctx c).st != .closed)
      && (base.ctx 0).st == .closed) = true := by
  decide +kernel

theorem witness_QueryAndContextCommands_closing :
    (let s := (commanding base 0 0x0201 [1]).begin_ 0
     let t := s.putCtx 1 { s.ctx 1 with st := .tornDown, ending := true, cause := stOk }
     ((t.mbx 0).cmd).isSome && t.closers 1 == [0] && (t.ctx 1).ending && (t.ctx 1).st == .tornDown && t.abaom.passes.isEmpty
       && !(t.excOut 1)) = true := by
  decide +kernel

theorem witness_PartitionAndRegistrationCommands_partitions :
    ((commanding base 0 0x0900 [0x87654321]).has 0 0x0900
      && (let s := commanding base 0 0x0900 [0x00000001]
          s.ctxs.any fun c => c.st != .closed && c.partition == 0 && nth s.share.tiles 0 0 != 1)
      && State.reset.ctxs.all (fun c => c.st == .closed)
      && (commanding base 0 0x0901 [0x10001, 1, 1]).has 0 0x0901) = true := by
  decide +kernel

/-- The machine with a line of context 1 registered, and a full set of watches. -/
def watching (kind : WatchKind) : State :=
  { mapped with abaom := { mapped.abaom with watches := [⟨0, kind, 1, 0x30000, 0x300, true, false⟩] } }

theorem witness_PartitionAndRegistrationCommands_lines :
    ((commanding mapped 1 0x0300 [0x30000, 4]).has 1 0x0300 && (commanding mapped 1 0x0301 [0x30000]).has 1 0x0301
      && (commanding mapped 1 0x0301 [0x30000]).namedCtx 1 0 == 1
      && (match mapped.cpTranslate 1 .read 0x30000 256 with
          | .pieces l => l == [⟨.local_ 0x30000, 0x30000, 256⟩]
          | .fault _ _ => false
          | .poison => false)
      && (match base.cpTranslate 1 .read 0x30000 256 with
          | .pieces _ => false
          | .fault _ _ => true
          | .poison => false)
      && mapped.watch 0 == none && decide ((mapped.abaom.watches.filter fun w => w.ctx == 1).length < (mapped.ctx 1).quota)
      && (watching .flag).watch 1 == none && ((watching .flag).watch 0).isSome
      && decide ((mapped.ctx 0).quota ≤ (mapped.abaom.watches.filter fun w => w.ctx == 0).length)
      && (commanding (watching (.list 4)) 1 0x0302 [0]).has 1 0x0302) = true := by
  decide +kernel

theorem witness_PartitionAndRegistrationCommands_full :
    ∀ d < 4096, ∃ w ∈ (List.range 4096).map (fun i => (⟨i, .flag, 1, 0, i, true, false⟩ : Watch)), w.id = d := by
  intro d hd
  exact ⟨⟨d, .flag, 1, 0, d, true, false⟩, List.mem_map.2 ⟨d, List.mem_range.2 hd, rfl⟩, rfl⟩

theorem witness_TranslationCommands :
    ((commanding base 1 0x0400 [1, 0, 0]).has 1 0x0400 && base.xlat.invs.isEmpty && base.xlat.overdue.isEmpty && base.xlat.tieOps.isEmpty
      && base.fab.sends.isEmpty && (commanding base 0 0x0601 [3, 2 ^ 63 + 1, 0, 4096, 0]).has 0 0x0601
      && (base.ctx 1).st == .opened && (base.ctx 2).st != .opened
      && (commanding base 0 0x0601 [3, 0, 0, 0, 0]).arg 0 1 / 2 ^ 63 % 2 == 0) = true := by
  decide +kernel

theorem witness_TranslationCommands_ties :
    (let c : TakenCmd := ⟨0x0601, 7, false, [3, 2 ^ 63 + 2, 0, 4096, 0].map (BitVec.ofNat 64), 0, false, 0⟩
     let w : TieWindow := ⟨true, true, true, false, 5, 1, 0, 4096, 0⟩
     let s := base.setXlat { base.xlat with ties := [(3, w)] }
     (nth c.args 1 0).toNat / 2 ^ 63 % 2 == 1 && (s.ctx ((nth c.args 1 0).toNat % 64)).st != .opened
       && s.xlat.ties.all (fun e => (s.ctx e.2.ctx).st == .opened)) = true := by
  decide +kernel

/-- An allocation of mailbox 2's at comparator `k` of the hub. -/
def allocOf (k : Nat) (event : StakeEvent) (armed : Bool) : Alloc :=
  ⟨5, [(8, k)], 1, 900, .mailbox 2, event, if armed then [(8, k)] else [], false⟩

/-- The machine with one allocation, at an MT. -/
def staking (a : Alloc) (mt : Nat) : State :=
  { base with stakes := { base.stakes with allocs := [a] }, time := { base.time with mt } }

theorem witness_StakeCommands :
    ((commanding base 0 0x0501 [0x208, 900]).has 0 0x0501
      && !({ base.stakes with reqs := [⟨0, 8, 2, 900, 0⟩] } : StakeState).reqs.isEmpty
      && (comparatorsAt 8).contains 3
      && (staking (allocOf 2 .notice true) 0).stakes.allocs.all (fun x => x.at 8 != some 3 && x.at 8 == some 2)
      && (comparatorsAt 8).all (fun j => decide (3 ≤ j) || j == 2)
      && (comparatorsAt 7).contains 0 && mapped.ids.baseLive.getLsbD 7
      && (commanding (staking (allocOf 2 .notice true) 0) 2 0x0502 [5]).has 2 0x0502
      && (commanding (staking (allocOf 2 .notice true) 0) 2 0x0502 [5]).mailboxOwner 2 == .mailbox 2
      && (let s := commanding (staking (allocOf 2 (.capture 0) true) 0) 2 0x0502 [5]
          s.arg 2 0 == 5 && !(s.stakes.allocs.any fun x => x.event == .notice))
      && (let s := commanding (staking (allocOf 2 (.capture 0) true) 0) 0 0x0502 [5]
          s.has 0 0x0502 && (s.stakes.allocs.find? fun x => x.id == s.arg 0 0) == some (allocOf 2 (.capture 0) true))) = true := by
  decide +kernel

/-- A comparator of the machine is armed. -/
def anyArmed (s : State) : Bool := s.stakes.allocs.any fun a => !a.armed.isEmpty

/-- The machine at another time state. -/
def timed (f : TimeState → TimeState) : State := { base with time := f base.time }

theorem witness_IdleSteps :
    (base.pending.isEmpty && base.conn.phase != .off && !base.time.slewing && base.time.cyc == 0 && base.abaom.passes.isEmpty
      && !(base.ctxs.any fun c => c.exc.isSome || c.ending) && base.trust.pause == .off
      && (let s := timed fun t => { t with slewing := true, slewLeft := -16, slewCyc := 63 }
          s.time.slewing && decide (16 ≤ s.time.slewLeft.natAbs) && !(anyArmed s) && s.time.slewCyc + 1 == 64)
      && anyArmed (staking (allocOf 2 .notice true) 0)) = true := by
  decide +kernel

theorem witness_HallTimeAndPps :
    (base.running && base.hostUp && base.time.st == .free && base.time.ppsTime
      && (timed fun t => { t with refPresent := true, ppsSeen := true }).time.refPresent && !base.time.refPresent
      && (timed fun t => { t with ppsSeen := true, ppsLast := 0, mt := 8800000000 }).time.ppsSeen
      && (let s := timed fun t => { t with ppsDue := true, ppsOutEn := true, st := .hall }
          s.time.ppsDue && s.running && s.time.ppsOutEn)
      && (timed fun t => { t with ppsDue := true, ppsOutEn := false }).time.ppsDue
      && (timed fun t => { t with ppsTime := false, trigHeld := true }).time.trigHeld
      && (let s := timed fun t => { t with st := .holdover, datumValid := true, ptpLock := true, ppsSeen := true }
          !s.time.refPresent && s.time.st == .holdover && s.time.datumValid)
      && (let s := timed fun t => { t with st := .unaligned, run := none }
          !s.time.refPresent && s.time.st == .unaligned)
      && (let s := { (timed fun t => { t with mt := 80000000000 }) with conn := { ModuleState.reset with phase := .timeWait, waitFrom := 0 } }
          s.conn.phase == .timeWait && decide (s.conn.waitFrom + 80000000000 ≤ s.time.mt))) = true := by
  decide +kernel

/-- The machine following domain 4, a delay asked for; and a message of that domain. -/
def slave (st : MtState) (t1 : Option Nat) : State :=
  timed fun t => { t with
    st, mt := 5000, refPresent := true, ppsSeen := true
    ptp := { domain := some 4, syncSeq := 9, t2 := 1000, t1, reqSeq := 3, t3 := some 4000 } }

/-- That message, one second into the epoch of meridian time. -/
def ptpSays (body : PtpTime → PtpBody) : PtpMessage := ⟨.ipv6, 4, body ⟨1577836801, 500, 3⟩⟩

theorem witness_HallTimeAndPps_messages :
    (let s := slave .hall (some 8000004003)
     let heard := fun (s : State) (m : PtpMessage) => s.running && decide (m.domain ≤ 127)
       && (s.time.ptp.domain == none || s.time.ptp.domain == some m.domain)
     heard s (ptpSays (.delayResp 3)) && s.time.ptp.t1 == some 8000004003 && s.time.ptp.t3 == some 4000 && s.time.ptp.reqSeq == 3
       && heard base (ptpSays (.sync 9 <| some ·)) && heard s (ptpSays fun _ => .sync 9 none)
       && heard (slave .hall none) (ptpSays (.followUp 9)) && (slave .hall none).time.ptp.t1 == none
       && (slave .hall none).time.ptp.domain == some 4 && (slave .hall none).time.ptp.syncSeq == 9
       && decide (127 < (PtpMessage.mk .ethernet 128 .other).domain)) = true := by
  decide +kernel

/-- R60, R61: t1 = 8,000,004,003 at the master, received at 1000; sent at 4000, received at 8,000,004,003: halves of the differences. -/
theorem test_hall_difference :
    (match exec (.ptpMessage (ptpSays (.delayResp 3)) 0) (slave .hall (some 8000004003)) with
     | .next t => t.time.ptpLock && t.time.slewLeft == 0
         && t.time.mt == 5000 + (8 * ((8000004003 - 1000) + (8000004003 - 4000))) / 16
     | _ => false) = true := by
  decide +kernel

/-- A run of the backsight. -/
def runOf (phase : BsPhase) : BsRun :=
  { mbx := some 0, posted := true, saved := none, ports := [0], sent := 3, want := 64, samples := [], phase, start := 0, limit := some 7
    offset := 0, depth := 2 }

theorem witness_CorrectionsAndBacksight_end :
    ((timed fun t => { t with stepPending := some 160000 }).time.stepPending == some 160000 && !(anyArmed base)
      && base.time.run == none && anyArmed (staking (allocOf 2 .notice true) 0)
      && (runOf .applying).phase == .applying
      && (let s := timed fun t => { t with slewing := true, slewLeft := -15 }
          s.time.slewing && decide (s.time.slewLeft.natAbs < 16))
      && (timed fun t => { t with refPresent := true, run := some (runOf .applying) }).time.refPresent
      && (timed fun t => { t with slewing := true, slewLeft := 16 }).time.slewLeft.natAbs == 16) = true := by
  decide +kernel

/-- The same machine as node 5 of epoch 1. -/
def node5 (s : State) : State := { s with fab := { s.fab with node := 5, epoch := 1 } }

theorem witness_CorrectionsAndBacksight_exchange :
    ((commanding base 0 0x0503 [5]).has 0 0x0503 && base.time.run == none && (node5 base).fab.epoch != 0 && (node5 base).fab.node == 5
      && (commanding base 0 0x0503 [6]).arg 0 0 % 2 ^ 14 == 6 && base.routePort base.fab.node 6 kCtrl 0 == none
      && (let s := timed fun t => { t with st := .aligned, datumValid := true, datumNode := 6, mt := 800000000 }
          s.time.st == .aligned && s.time.datumValid && s.fab.node != 6 && decide (s.time.lastRepeat + 800000000 ≤ s.time.mt)
            && s.time.meas == none && decide (s.time.lastNotice + 8000000 ≤ s.time.mt))
      && (let s := timed fun t => { t with run := some (runOf .exchanging), mt := 24000 }
          decide (0 + 8000 * 3 ≤ s.time.mt) && decide ((runOf .exchanging).sent < (runOf .exchanging).want) && !s.fab.fenced
            && s.time.meas == none)
      && (let s := timed fun t => { t with meas := some (runOf .exchanging), mt := 24000, st := .aligned }
          s.time.meas == some (runOf .exchanging) && decide (7 ≤ s.time.mt) && s.time.st == .aligned)
      && (let s := node5 (timed fun t => { t with st := .aligned, datumNode := 5, ptpLock := true, mt := 8000000000 })
          s.time.datumNode == s.fab.node && s.fab.epoch != 0 && s.time.ptpLock && decide (s.time.lastHall + 8000000000 ≤ s.time.mt)))
      = true := by
  decide +kernel

theorem witness_ComparatorsFire :
    ([StakeEvent.notice, .clockStep, .traceTrigger].all fun e =>
      let s := staking (allocOf 63 e true) 900
      s.stakes.allocs.find? (fun a => a.armed.contains (8, 63)) == some (allocOf 63 e true)
        && s.ownerMailbox (allocOf 63 e true).owner == some 2 && decide ((allocOf 63 e true).stake ≤ s.time.mt)
        && decide ((staking (allocOf 63 e true) 899).time.mt < 900)) = true := by
  decide +kernel

/-- A package-wide allocation, the hub's comparator and one of base die 7's left. -/
def wideAlloc : Alloc := ⟨5, [(8, 63), (7, 3)], 1, 0, .mailbox 2, .notice, [(8, 63), (7, 3)], false⟩

theorem witness_ComparatorsFire_wide :
    (let s := { staking wideAlloc 900 with ids := mapped.ids }
     s.stakes.allocs.find? (fun a => a.armed.contains (7, 3)) == some wideAlloc && decide (1 < wideAlloc.places.length)) = true
      ∧ wideAlloc.stake ≤ (staking wideAlloc 900).replica 7 :=
  ⟨by decide +kernel, Nat.zero_le _⟩

theorem witness_ComparatorsFire_timers :
    (let l : List Timer := [⟨5, .clockStep, false⟩, ⟨5, .traceTrigger, true⟩, ⟨9, .clockStep, false⟩]
     l.all (fun x => decide (4 < x.due)) && decide ((⟨5, .clockStep, false⟩ : Timer).due ≤ 6)
       && l.tail.all (fun y => decide (5 ≤ y.due))) = true := by
  decide +kernel
/-! ### Lists, blocks and power -/

/-- The words of a list entry of a kind (R167). -/
def entryWords (kind : Nat) (w : List Nat) : List Word := (kind * 2 ^ 48 :: 0 :: w).map (BitVec.ofNat 64)

/-- An entry in a phase. -/
def entryOf (words : List Word) (phase : EntryPhase) : Entry :=
  { words, phase, status := 0, startMt := 0, startFlags := 0, endMt := 0, endFlags := 0, detail := 0, latch := [], latchEnd := []
    nextBlock := 0, blocksDone := 0, held := false, kernel := none, watched := 0, met := false, late := false, begun := false }

/-- The machine with a pass of these entries on watch 0. -/
def passing (entries : List Entry) : State :=
  { watching (.list 8) with abaom := { (watching (.list 8)).abaom with passes := [{
      watch := 0, ctx := 1, gen := 1, stop := false, full := false, complBase := 0x38000, entries, takeMt := 0, firstErr := none
      line := 0x300, va := 0x30000, lost := none }] } }

/-- The entry of that kind runs. -/
def running (s : State) (kind : Nat) (p : Entry → Bool) : Bool :=
  match s.runningEntry 0 0 kind with
  | some (_, e) => p e
  | none => false

/-- A range of this device's memory, translated whole. -/
def ranges (s : State) (k : AccKind) (va n : Nat) : Bool :=
  match s.cpTranslate 1 k va n with
  | .pieces l => l == [⟨.local_ va, va, n⟩]
  | .fault _ _ => false
  | .poison => false

/-- The machine with one entry that runs. -/
def oneEntry (kind : Nat) (w : List Nat) : State := passing [entryOf (entryWords kind w) .running]

theorem witness_CopyEntry :
    (let s := oneEntry 2 [0x20000, 0x28000, 64, 0, 0, 0]
     running s 2 (fun e => e.word 5 == 0 && convOf 0 == some .none && Conv.none.dstLen (e.word 4) == some 64
        && Conv.none.aligned (e.word 2) (e.word 3))
      && ranges s .read 0x20000 64 && ranges s .write 0x28000 64 && !(s.poisoned 0x20000 64) && s.xlat.tieOps.isEmpty && s.xlat.invs.isEmpty && s.xlat.overdue.isEmpty
      && splitPieces [⟨.local_ 0x20000, 0x20000, 64⟩] == [⟨.local_ 0x20000, 0x20000, 64⟩]
      && running (oneEntry 2 [0, 0, 64, 0xFF, 0, 0]) 2 (fun e => convOf (e.word 5 % 256) == none
          || (convOf (e.word 5 % 256)).any fun c => c.stochastic || c.dstLen 64 == none || !(c.aligned 0 0))) = true := by
  decide +kernel

theorem witness_ListEntries :
    (running (oneEntry 0 []) 0 (fun _ => true)
      && running (oneEntry 5 []) 5 (fun _ => true)
      && (passing [entryOf (entryWords 0 []) .ended, entryOf (entryWords 5 []) .running]).runningEntry 0 1 5 != none
      && running (oneEntry 3 [0x20004, 7]) 3 (fun e => e.word 2 % 8 != 0)
      && running (oneEntry 3 [0x20008, 7]) 3 (fun e => e.word 2 % 8 == 0) && ranges (oneEntry 3 []) .write 0x20008 8
      && running (oneEntry 4 [0x30000, 7, 3]) 4 (fun e => e.watched == 0 && decide (3 ≤ e.word 4 % 4))
      && running (oneEntry 4 [0x30000, 0, 2]) 4 (fun e => decide (e.word 4 % 4 < 3) && e.word 2 % 8 == 0)
      && ranges (oneEntry 4 []) .read 0x30000 8 && (oneEntry 4 []).abaom.watches.any (fun w => w.line == 0x30000 / 256)
      && (oneEntry 4 []).abaom.watches.all (fun w => w.line != 0x20000 / 256)
      && ((oneEntry 4 []).hbmWord 0x30000).toNat == 0
      && running (oneEntry 4 [0x30000, 7, 0, 5]) 4 (fun e => e.word 5 == 5)
      && running (oneEntry 6 [3, 4, 0, 0, 0, 0]) 6 (fun e => e.word 2 / 2 ^ 17 == 0)
      && running (oneEntry 6 [2 ^ 17, 4, 0, 0, 0, 0]) 6 (fun e => e.word 2 / 2 ^ 17 != 0)) = true := by
  decide +kernel

/-- A kernel of two blocks of four groups. -/
def kernel : Kernel :=
  { regs := 16, ftz := false, start := 0x10000, codeLo := 0x10000, codeHi := 0x10008, excPtr := 0, args := 0, blocks := 2, groups := 4
    memory := 256 }

/-- The machine with a DISPATCH entry of that kernel, and a cluster of partition 0 to run it. -/
def dispatching (kn : Option Kernel) (next : Nat) : State :=
  let s := passing [{ entryOf (entryWords 1 [0x20000, 0, 2 * 2 ^ 32 + 4 * 2 ^ 24 + 1]) .running with kernel := kn, nextBlock := next }]
  { s with
    ids := { s.ids with computeLive := 1, clusterLive := [1] }
    ctxs := s.ctxs.set 1 { s.ctx 1 with partition := nth s.share.tiles 0 0 } }

theorem witness_DispatchAndBlocks :
    (running (dispatching none 0) 1 (fun e => e.kernel == none && e.word 2 % 256 == 0)
      && ((dispatching none 0).entryRead 0 0 1 0x20000 64).2.isSome
      && running (oneEntry 1 [0x20001]) 1 (fun e => e.kernel == none && e.word 2 % 256 != 0)
      && (let s := dispatching (some kernel) 1
          running s 1 (fun e => e.kernel == some kernel && decide (e.nextBlock < kernel.blocks)) && s.clusterUp 0
            && nth s.share.tiles 0 0 == (s.ctx 1).partition && chooseMemory (s.blocksOn 0) kernel.memory == some 0
            && (chooseCores (s.blocksOn 0) kernel.regs kernel.groups).isSome && !(s.clusterUp 1))
      && running (dispatching (some kernel) 2) 1 (fun e => decide (kernel.blocks ≤ e.nextBlock))) = true := by
  decide +kernel

theorem witness_DispatchAndBlocks_blocks :
    (let over_ := coded [] { groupWith [] with exited := BitVec.allOnes 32 }
     (over_.block 0).isSome && group0 over_ (fun g => g.exited == BitVec.allOnes 32 && g.ops.isEmpty) && !(over_.tieWritesOf 0)
      && group0 (coded [] (groupWith [])) (fun g => g.exited != BitVec.allOnes 32)) = true := by
  decide +kernel

/-- A replica never lies more than 4 ticks from the hub's (R79), so a block's stake beyond that is held. -/
theorem replica_near (s : State) (d : Nat) : s.replica d ≤ s.time.mt + 4 := by
  unfold State.replica
  omega

theorem witness_DispatchAndBlocks_stake : base.replica 0 < 5 := by
  have := replica_near base 0
  have h : base.time.mt = 0 := rfl
  omega

theorem witness_EntriesReleaseAndComplete :
    (let staked := fun (kind : Nat) => passing [{ entryOf (BitVec.ofNat 64 (kind * 2 ^ 48 + 2 ^ 39) :: 400000 :: List.replicate 6 0) .staked with held := false }]
     (staked 1).entry 0 0 != none && ((staked 1).entry 0 0).any (fun e => e.phase == .staked && e.kind == 1 && decide (e.stake ≤ 400000))
      && ((staked 0).entry 0 0).any (fun e => e.kind == 0 && decide (0 < e.stake))
      && ((staked 0).pass 0).any (fun p => (staked 0).passLive p && !p.stopping)
      && ((passing [{ entryOf (entryWords 0 []) .ended with status := stBadArg }]).pass 0).any (fun p => { p with stop := true }.stopping)
      && (let s := passing [{ entryOf (entryWords 0 []) .ended with endMt := 3 }]
          (s.pass 0).isSome && (s.pass 0).any s.passLive && !(s.entryWrites 0 0) && (match s.writeRecord 0 0 with | (_, .done) => true | _ => false))
      && ((oneEntry 0 []).pass 0).isSome) = true := by
  decide +kernel

/-- A pending replayable fault record in slot 2 of context 1. -/
def faulted (waits : List FaultWait) : State :=
  let s := commanding mapped 1 0x0401 [1, faultAddress 1 2]
  { s with xlat := { s.xlat with pages := List.replicate 64 (List.replicate 64 (0xC000000000000000 :: List.replicate 7 0)), waits } }

theorem witness_FaultReplayCommand :
    ((faulted []).has 1 0x0401 && faultSlotOf 1 ((faulted []).arg 1 1) == some 2 && faultPending ((faulted []).faultSlot 1 2)
      && (nth ((faulted []).faultSlot 1 2) 0 0).getLsbD 62 && (faulted [⟨1, 2, walkOf⟩]).xlat.waits == [⟨1, 2, walkOf⟩]
      && !(faultPending ((commanding mapped 1 0x0401 [1, faultAddress 1 2]).faultSlot 1 2))
      && faultSlotOf 1 0 == none
      && ((oneEntry 0 []).pass 0).any (fun p => p.entries[0]?.any (·.phase != .waiting))) = true := by
  decide +kernel

/-- The machine at another state of power. -/
def powered (f : PowerState → PowerState) : State := { base with pwr := f base.pwr }

theorem witness_PowerCommands :
    ([0x0A00, 0x0A01, 0x0A02, 0x0703, 0x0704].all (fun op => (commanding base 0 op [1, 1]).has 0 op)
      && base.pwr.hints.isEmpty && (List.replicate 16 (⟨0, true, 0, 0, none⟩ : PhaseHint)).length == 16
      && running (oneEntry 7 [1, 1000]) 7 (fun e => e.word 3 == 1000) && running (oneEntry 7 [1, 1001]) 7 (fun e => e.word 3 == 1001)
      && base.joined.group == none && base.joined.joining == none && !base.pwr.critMode) = true := by
  decide +kernel

/-- The machine in group 3, with a notice that it has applied. -/
def grouped (mt : Nat) : State :=
  { timed (fun t => { t with mt }) with joined := { base.joined with group := some 3, notices := [⟨3, 9, 0, 160000, 1, 900, true⟩] } }

theorem witness_PowerEvents :
    (base.running
      && (let s := { powered (fun p => { p with target := 900, required := 1400 }) with time := { base.time with mt := 80000000 } }
          decide (s.pwr.target < s.pwr.required) && decide (s.pwr.lastLower + 80000000 ≤ s.time.mt) && s.joined.group == none)
      && (staking (allocOf 2 .clockStep true) 900).stepDue == some 900
      && (let s := { grouped 0 with pwr := { base.pwr with required := 1399 } }
          s.joined.group == some 3 && decide (s.pwr.required < 1400) && !s.pwr.critMode && s.joined.lastThrottle == none)
      && (grouped 80160000).joined.notices.any (fun x => decide (x.stake + 80000000 ≤ 80160000) && x.applied)
      && (grouped 80159999).joined.notices.any (fun x => decide (80159999 < x.stake + 80000000))
      && (let s := timed fun t => { t with mt := 8000000 }
          s.pwr.msIndex != s.time.mt / 8000000 && s.ctxs.length == 64)) = true := by
  decide +kernel

/-! ### Start-up, parts and memory -/

/-- The machine in a phase of the module. -/
def phased (phase : Phase) : State := { base with conn := { base.conn with phase } }

theorem witness_ResetValues : base.conn.phase ≠ .off ∧ base.obs.units.length = 9 := by decide +kernel

theorem witness_StartAndReset :
    ((phased .off).conn.phase == .off && State.reset.conn.phase == .inReset && !State.reset.conn.tripped && !State.reset.trust.slotBad
      && (State.reset.imageCheck (fun off n => cellRead State.reset.trust.slot off n) false).isSome
      && ({ (phased .training) with time := { base.time with mt := 24000000000 } } : State).conn.phase == .training
      && base.fab.ports.all (fun p => p.st != .training) && base.time.run == none) = true := by
  decide +kernel

/-- The machine with every part in service. -/
def live : State :=
  { base with
    conn := { base.conn with railsUp := true }
    ids := { IdState.reset with
      procLive := 3, optLive := 15, baseLive := 0xFF, computeLive := 0xFF, stackLive := BitVec.allOnes 16, hbmGib := 1
      clusterLive := List.replicate 8 (BitVec.allOnes 24), routes := routeTables (fun _ _ => true) 0xFF },
    dies := { base.dies with links := base.dies.links.map fun l => { l with used := true } } }

theorem witness_PartsFail :
    (live.conn.phase != .off && live.conn.railsUp && [.hub, .flash, .base 7, .memory 0, .compute 7, .proc 1, .optical 3].all railExists
      && live.ids.clusterLive.length == 8 && live.fab.ports.length == 32 && live.compute.blocks.all (fun b => b.cluster != 191)
      && (live.diePath 0 7).isSome) = true := by
  decide +kernel

/-- A service of die 3, taken at MT 0 by mailbox 0. -/
def serving : State := { live with dies := { live.dies with service := some ⟨0, 3, true, 0⟩ } }

/-- A repair of a row. -/
def repair : RepairRun := ⟨0, 2, 3, 1, 4, 77⟩

/-- A bundle that works. -/
def bundle : Bundle :=
  { fusedOut := 0, fusedIn := 0, badOut := 0, badIn := 0, modeOut := .full, modeIn := .full, trained := true, retraining := true
    replays := 5, msReplays := 64, ms := 0 }

/-- Every die link with such bundles. -/
def linked : State := { live with dies := { live.dies with links := List.replicate 40 ⟨List.replicate 8 bundle, 0, true, false⟩ } }

theorem witness_ServiceAndRepair :
    ((commanding live 0 0x0D00 [3]).has 0 0x0D00 && live.dies.service == none && live.dies.serviceQueue.isEmpty
      && live.ids.baseLive.getLsbD 3 && !(base.ids.baseLive.getLsbD 3)
      && serving.dies.service == some ⟨0, 3, true, 0⟩ && serving.compute.blocks.all (fun b => b.cluster / 24 != 3)
      && (coded [] (groupWith [])).compute.blocks.any (fun b => b.cluster / 24 == 0)
      && (coded [] (groupWith [])).dies.serviceQueue.isEmpty && ((commanding serving 0 0x0D00 [3]).mbx 0).cmd.isSome
      && decide ((0 : Nat) + 96000000000 ≤ (timed fun t => { t with mt := 96000000000 }).time.mt)
      && (commanding live 0 0x0D01 [0x1020F, 0x4004D]).has 0 0x0D01 && live.ids.stackLive.getLsbD 15 && live.mem.repairing == none
      && decide (live.sparesUsed repair < 2)
      && decide (2 ≤ ({ live with mem := { live.mem with repairs := [⟨2, 3, 1, 4, 1, false⟩, ⟨2, 3, 1, 4, 2, false⟩] } } : State).sparesUsed repair)
      && ({ live with mem := { live.mem with repairing := some repair } } : State).mem.reqs.isEmpty
      && (linked.dieLink 7 4).bundles[7]? == some bundle && (linked.dieLink 7 4).used && linked.dies.links.length == 40
      && (bundle.withBad (bundle.badOut ||| 1) bundle.badIn).mode != .failed) = true := by
  decide +kernel

/-- A read that waits in the queues since MT 0, and one whose sector lies in the row under repair. -/
def readOf (cls : MemClass) : MemReq := ⟨4, 0x300, 15, false, 0, 0, cls, true, some 0, none, none, 0⟩

theorem witness_MemoryEvents :
    (let s := { live with mem := { live.mem with reqs := [readOf .bulk] }, time := { live.time with mt := 64000 } }
     s.mem.reqs.all (fun r => !r.write && decide (r.since + 64000 ≤ s.time.mt)) && mapped.inHbm ((⟨5, [0], [35]⟩ : SectorErrors).sector * 64) 64 && !mapped.mem.errValid
      && mapped.mem.poison.isEmpty && live.ids.stackLive.getLsbD 15
      && s.nextRead ⟨0, 0, 0, [], 3, false⟩ [readOf .bulk, readOf .crit] == some (readOf .crit)
      && (let p := s.linePlace (readOf .crit).line
          let x : PseudoChannel := ⟨p.stack, p.channel, p.pseudo, [(p.bank, p.row)], 3, false⟩
          s.rowOpen x (readOf .crit).line && s.nextRead x [readOf .crit] == some (readOf .crit))
      && (let x : PseudoChannel := ⟨0, 0, 0, [], 3, false⟩
          [readOf .bulk, readOf .crit].all (fun q => !(s.rowOpen x q.line)))
      && (let s := { base with share := { base.share with
              waits := [⟨2, 20, 64, none, 0⟩] } }
          let t := s.putBucket 2 20 ⟨320, 1, 640⟩
          (t.bucket 2 20).rate != 0 && decide (5 * (64 : Int) ≤ (t.bucket 2 20).level)
            && decide (((s.putBucket 2 20 ⟨319, 1, 640⟩).bucket 2 20).level < 5 * (64 : Int)))) = true := by
  decide +kernel

theorem witness_StackedMemoryWrites :
    (Memory.wf mapped.mem.hbm && !(mapped.poisoned 0x30000 8) && !(mapped.sectorLost 5)
      && ({ mapped with mem := { mapped.mem with poison := [5] } } : State).mem.poison.contains 5
      && ((watching .flag).hbmWrite 0x300FF [1, 2]).abaom.watches.all (fun w => w.wake && !w.held)
      && ((watching .flag).hbmWrite 0x30100 [1, 2]).abaom.watches.all (fun w => w.held && !w.wake)) = true := by
  decide +kernel

theorem witness_NoticeRing :
    (decide (63 < base.mbxs.length) && (base.mbx 63).slots.length == 16 && decide ((base.mbx 63).head < 16)
      && (let s := base.putMbx 63 { base.mbx 63 with head := 15, tail := 0 }
          ((s.mbx 63).head + 1) % 16 == (s.mbx 63).tail)
      && ((base.mbx 63).head + 1) % 16 != (base.mbx 63).tail) = true := by
  decide +kernel

/-! ### Mailboxes, registers and management -/

/-- The header word of a mailbox write: STATE, opcode and tag (R138). -/
def hdr (st op : Nat) : Word := BitVec.ofNat 64 (st * 2 ^ 62 + op * 2 ^ 32 + 7)

theorem witness_Mailboxes :
    (base.hostUp && base.running && base.mbxs.length == 64 && (hdr 1 0x0100).toNat / 2 ^ 62 % 4 == 1
      && [MbxState.idle, .posted, .busy, .done].all (fun st => ((base.putMbx 62 { Mailbox.reset with st }).mbx 62).st == st)
      && (let s := base.putMbx 62 { Mailbox.reset with st := .posted, opcode := 0x0100, postOrder := 1 }
          s.running && s.trust.pause == .off && (List.range 64).all (fun k => (s.mbx k).st != .busy && (k == 62 || (s.mbx k).st != .posted)))
      && (let s := [61, 62, 63].foldl (fun t k => t.putMbx k { Mailbox.reset with st := .posted, opcode := 0x0100, postOrder := 1 }) base
          (s.mbx 61).st == .posted && (s.mbx 61).postOrder == (s.mbx 62).postOrder && (s.mbx 62).postOrder == (s.mbx 63).postOrder)
      && (let s := commanding { base with time := { base.time with mt := 10 ^ 12 } } 0 0x0501 [8, 5]
          (s.mbx 0).cmd.any fun c => decide (s.limitOf 0 c ≤ s.time.mt))
      && (let s := commanding base 0 0x0501 [8, 5]
          (s.mbx 0).cmd.any fun c => decide (s.time.mt < s.limitOf 0 c))
      && (let w : TieWindow := ⟨true, true, true, false, 5, 1, 0, 4096, 0⟩
          let s := commanding { base with time := { base.time with mt := 10 ^ 12 } } 0 0x0601 [3, 0, 0, 0, 0]
          let t := s.setXlat { s.xlat with tieUndo := [(0, 3, some w)] }
          (s.mbx 0).cmd.any fun c => decide (s.limitOf 0 c ≤ s.time.mt) && (t.xlat.tieUndo.find? fun u => u.1 == 0) == some (0, 3, some w))
      && (let s := commanding { base with time := { base.time with mt := 10 ^ 12, run := some (runOf .exchanging) } } 0 0x0503 [5]
          (s.mbx 0).cmd.any fun c => decide (s.limitOf 0 c ≤ s.time.mt) && s.time.run.any (·.mbx == some 0))
      && (let s := commanding { base with time := { base.time with mt := 10 ^ 12 } } 0 0x0B03 []
          let s := s.setTrust { s.trust with session := some ⟨0, 3076, false, 0⟩ }
          (s.mbx 0).cmd.any fun c => decide (s.limitOf 0 c ≤ s.time.mt) && s.trust.session.any (·.mbx == 0))
      && (let s := commanding { base with time := { base.time with mt := 10 ^ 12 } } 0 0x0D00 [3]
          let s := s.setDies { s.dies with service := some ⟨0, 3, true, 0⟩ }
          (s.mbx 0).cmd.any fun c => decide (s.limitOf 0 c ≤ s.time.mt) && s.dies.service.any (·.mbx == 0))) = true := by
  decide +kernel

/-- The machine with a host instance of epoch 3, its deadline at MT 100. -/
def hosted (mt : Nat) : State :=
  { base with
    abaom := { base.abaom with beat := { base.abaom.beat with live := true, epoch := 3, deadline := 100 } }
    time := { base.time with mt } }

theorem witness_HostAndTeardown :
    (base.hostUp && !base.abaom.beat.live && (BitVec.ofNat 64 (2 ^ 31)).getLsbD 31 && (BitVec.ofNat 64 (2 ^ 30 + 3)).getLsbD 30
      && (BitVec.ofNat 64 (2 ^ 30 + 3)).toNat % 2 ^ 16 == (hosted 0).abaom.beat.epoch && decide (99 < (hosted 0).abaom.beat.deadline)
      && decide ((hosted 100).abaom.beat.deadline ≤ (hosted 100).time.mt) && (hosted 100).abaom.beat.live
      && !((hosted 100).beatArriving)
      && ({ hosted 100 with pending := [.beat (BitVec.ofNat 64 (2 ^ 30 + 3)) 99] } : State).beatArriving
      && (base.ctx 1).st == .opened && (base.ctx 2).st != .opened && decide (1 < base.ctxs.length)
      && (let s := base.teardown 1 stCtxTornDown
          (s.ctx 1).st == .tornDown && (s.ctx 1).ending && s.abaom.passes.isEmpty && !(s.excOut 1) && (s.ctx 1).tearCycle == s.abaom.posts)
      && ({ base with abaom := { base.abaom with losses := [⟨3, 0, 0⟩] } } : State).abaom.losses == [⟨3, 0, 0⟩]
      && !(base.stillLosing 3) && (base.teardown 1 stCtxTornDown).stillLosing (base.ctx 1).hostEpoch) = true := by
  decide +kernel

theorem witness_BadAccessCapture :
    (base.hostUp && [(⟨143, 0x20, 8, false⟩ : CtrlAccess), ⟨0, 0xFFFFFFFC, 8, true⟩, ⟨5, 0x18, 4, true⟩].all (fun b =>
        decide (b.hart < 144) && decide (b.offset < 2 ^ 32) && base.accessKind b != 0)
      && !base.ids.badValid && ({ base with ids := { base.ids with badValid := true } } : State).hostUp
      && (let s := { base with ids := { base.ids with badValid := true, badKind := 1, badHart := 7, badOffset := 0x20, badNow := [(1, 7, 0x20)] } }
          s.ids.badNow.contains (s.ids.badKind, s.ids.badHart, s.ids.badOffset) && decide (5 < s.ids.badHart))) = true := by
  decide +kernel

theorem witness_MailboxHeaderWrites :
    (base.hostUp && base.mbx63Up && base.pageRun 0 1 && decide (63 < base.mbxs.length) && (hdr 3 0).toNat / 2 ^ 62 == 3
      && (hdr 2 0).toNat / 2 ^ 62 == 2 && (hdr 0 0).toNat / 2 ^ 62 == 0
      && ((base.putMbx 63 { Mailbox.reset with st := .done }).mbx 63).st == .done
      && ((commanding base 62 0x0100 []).mbx 62).st == .busy) = true := by
  decide +kernel

theorem witness_RegisterAccess :
    (base.hostUp && base.accessKind ⟨143, 0x28, 8, true⟩ == 1 && base.accessKind ⟨0, 0, 4, false⟩ == 2 && base.accessKind ⟨0, 0x10000, 8, true⟩ == 0
      && base.ids.badNow.isEmpty && base.mem.errNow.isEmpty && base.ids.hot.isEmpty
      && ({ base with ids := { base.ids with hot := [(0x490100, 60)], badNow := [(1, 7, 0x20)] } } : State).hostUp && (hdr 2 0).getLsbD 63
      && Nat.ble (base.ids.hbmGib * 2 ^ 30) 0xFD00010000000 && base.fab.ports.length == 32) = true := by
  decide +kernel

theorem witness_AgentMessages :
    (base.mbx63Up && base.windowUp && base.running && base.pageRun 0x100 6 && !(base.pageRun 0xFF8 2) && !(base.pageRun 0x020 1)
      && live.xlat.svcEnable && live.xlat.svcWrite && Nat.ble (live.xlat.svcBase + 0x40 + 40) (live.ids.hbmGib * 2 ^ 30)
      && live.mem.poison.isEmpty && live.ids.stackLive == BitVec.allOnes 16 && live.mem.repairs.all (fun r => !r.fenced)
      && (phased .failed).conn.phase == .failed && (node5 base).fab.epoch != 0) = true := by
  decide +kernel

theorem witness_EndpointAnswers :
    (base.conn.phase != .off && (sensorIds[0]?).isSome && sensorIds.any numericSensor
      && ({ base with conn := { base.conn with receiver := some (.i3c 9) } } : State).conn.receiver == some (.i3c 9)
      && [1, 2].contains 2) = true := by
  decide +kernel

/-! ### The fabric -/

/-- A header of a frame from node 9 to node 5, both at epoch 1 (R581). -/
def frameOf (op kind seq length : Nat) (unseq : Bool) (window : Nat) (payload : List Byte) : Frame where
  w0 := BitVec.ofNat 64 (1 * 2 ^ 56 + op * 2 ^ 48 + (if op = opAck then 2 ^ 47 else 0) + (if unseq then 2 ^ 46 else 0)
    + (if !unseq && seq == 0 then 2 ^ 44 else 0) + 9 * 2 ^ 16 + 5)
  w1 := BitVec.ofNat 64 (1 * 2 ^ 48 + 1 * 2 ^ 32 + window * 2 ^ 20 + 1 * 2 ^ 14 + kind * 2 ^ 12)
  w2 := BitVec.ofNat 64 (seq * 2 ^ 32)
  w3 := BitVec.ofNat 64 (0x40 * 2 ^ 16 + length)
  payload

/-- A port that is UP. -/
def upPort : Port := { st := .up, mode := true, modeNow := true, quar := false, peerValid := false, viol := 0, peerEpoch := 0, peer := 9
                       naks := 0, viols := 0, lastGood := 0, near := false, lastSent := 0, router := none, linkErrors := 0 }

/-- Node 5 with port 31 UP, node 9 known, and window 3 open to it on context 1. -/
def joined : State :=
  let s := node5 { live with ctxs := base.ctxs }
  { s with
    fab := { s.fab with ports := s.fab.ports.set 31 upPort, epochs := [(9, 1)] }
    xlat := { s.xlat with ties := [(3, ⟨true, true, true, false, 9, 1, 0x50000, 4096, 0⟩)] } }

/-- One word of payload, most significant byte first. -/
def be (w : Nat) : List Byte := beBytes 8 w

/-- A frame of each performed opcode, type and phase. -/
def goodFrames : List Frame :=
  [frameOf opWrite kTie 0 8 false 3 (be 1), frameOf opReadReq kTie 0 4096 false 3 [],
   frameOf opAtomic kTie 0 24 false 3 (be 0x1008000000000000 ++ be 1 ++ be 0), frameOf opXadd kTie 0 32 false 3 (be 0 ++ be 0 ++ be 0 ++ be 0),
   frameOf opAtomicRsp kTie 0 8 false 3 (be 1), frameOf opReadRsp kTie 0 8 false 3 (be 1), frameOf opReadRsp kBulk 0 8 false 3 (be 1)]
  ++ [0x01, 0x02, 0x10, 0x11, 0x12, 0x13, 0x20].map (fun t => frameOf opCtrl kCtrl 0 32 false 0 (be (t * 2 ^ 48) ++ be 0 ++ be 0 ++ be 0))
  ++ [1, 2, 3, 4, 5, 6].map (fun sub => frameOf opCtrl kCtrl 0 32 false 0 (be (0x30 * 2 ^ 48 + sub * 2 ^ 40) ++ be 0 ++ be 0 ++ be 0))
  ++ [0, 1, 2, 3].map (fun ph => frameOf opColl kColl 0 16 false 0 (be (ph * 2 ^ 56) ++ be 0))

theorem witness_FramesPerformed_flow :
    goodFrames.all (fun f => (joined.heard 31 f 5).recvFlow f.src f.kind f.context == none && f.first && f.seq == 0
      && decide ((joined.heard 31 f 5).fab.recvs.length < 65536)) = true := by
  decide +kernel

theorem witness_FramesPerformed :
    goodFrames.all (fun f => (joined.port 31).st == .up && (joined.port 31).modeNow && !(joined.port 31).quar && !joined.fab.fenced
      && f.dst == joined.fab.node && joined.fab.epoch != 0 && !(malformed f) && opAssigned f.op
      && (f.op != opCtrl || ctrlAssigned (ctrlType (unpadded f))) && !(Frame.unsequenced f) && f.sepoch == joined.epochOf f.src
      && f.epoch == joined.fab.epoch) = true := by
  decide +kernel

theorem witness_FramesPerformed_window :
    ((match joined.tieCheck 9 3 0x40 8 .write with | .inr (pa, _) => pa == 0x50040 | .inl _ => false)
      && (match joined.tieCheck 9 4 0x40 8 .write with | .inl _ => true | .inr _ => false)
      && (match joined.tieCheck 8 3 0x40 8 .write with | .inl _ => true | .inr _ => false)) = true := by
  decide +kernel

theorem witness_OtherFrames :
    ((joined.port 31).st == .up && (joined.port 0).st != .up
      && [frameOf opHeartbeat kCtrl 0 0 true 0 [], frameOf opBsx kCtrl 0 32 true 0 (be 1 ++ be 2 ++ be 3 ++ be 4), frameOf opAck kTie 0 0 true 0 [],
          frameOf opNak kTie 0 16 true 0 (be 0 ++ be 0), frameOf 0x20 kTie 0 0 false 0 []].all (fun f => !(malformed f) && f.dst == joined.fab.node)
      && !(opAssigned 0x20) && malformed (frameOf opWrite kTie 0 4097 false 3 (be 1))
      && (runOf .exchanging).phase == .exchanging && (frameOf opBsx kCtrl 0 32 true 0 (be 1 ++ be 2 ++ be 3 ++ be 4)).word 1 == 2) = true := by
  decide +kernel

/-- A sending flow with a frame that node 9 has not acknowledged. -/
def sending (rounds : Nat) (silent : Bool) (unacked : List Unacked) (busy : Option Nat) : SendFlow :=
  { dst := 9, kind := kTie, ctx := 1, port := 31, next := 1, unacked, rounds, progress := 0, lastSent := 0, silent, waiting := [], busy }

/-- The machine with that flow. -/
def withSend (f : SendFlow) (mt : Nat) : State :=
  { joined with fab := { joined.fab with sends := [f] }, time := { joined.time with mt } }

theorem witness_FabricTimers_flows :
    (let u : Unacked := ⟨0, frameOf opWrite kTie 0 8 false 3 (be 1), .none, false⟩
     [sending 8 false [u] none, sending 7 false [u] (some 0), sending 0 false [] none, sending 0 true [] none].all (fun f =>
        (withSend f 16000000).fab.sends[0]? == some f && decide (f.progress + 160000 ≤ 16000000) && decide (f.lastSent + 16000000 ≤ 16000000))) = true := by
  decide +kernel

theorem witness_FabricTimers :
    ((commanding base 0 0x0600 [9 + 2 * 2 ^ 16, 2 ^ 63 + 1, 2 ^ 63 + 2]).has 0 0x0600 && (commanding base 0 0x0602 [9 + 3 * 2 ^ 16]).has 0 0x0602
      && (commanding base 0 0x0603 [5 + 2 ^ 16, 0, 77]).has 0 0x0603 && base.fab.epoch == 0
      && (let s := { joined with
            fab := { joined.fab with ports := joined.fab.ports.set 31 { upPort with modeNow := false }, recvs := [⟨9, 0, 1, 1, 0, 2, 31⟩] }
            time := { joined.time with mt := 80000000 } }
          !(s.port 31).modeNow && decide ((s.port 31).lastSent + 4000 ≤ s.time.mt) && decide ((s.port 31).lastGood + 32000 ≤ s.time.mt) && s.pending.isEmpty
            && s.fab.recvs[0]?.any (fun r => Nat.blt 0 r.owed && Nat.ble (r.last + 80000000) s.time.mt) && s.fab.ports.length == 32)
      && (let s := { base with
            conn := { base.conn with lasers := true }, fab := { base.fab with ports := base.fab.ports.set 0 { upPort with st := .training } } }
          s.conn.lasers && (s.port 0).st == .training)) = true := by
  decide +kernel

/-! ### Coherence -/

/-- A request of agent 3 for line 0x300. -/
def askOf : CohReq := ⟨3, 0x300, 15, some 1, 0, false⟩

/-- A line that an agent holds. -/
def lineOf (agent : Nat) (st : LineSt) (dirty : BitVec 4) : AgentLine := ⟨agent, 0x300, st, 15, dirty, 0, 0, none, 0⟩

/-- The machine with agent 3's line. -/
def holding (l : AgentLine) (owned : Bool) : State :=
  { live with coh := { live.coh with
      lines := [l]
      dir := [⟨0x300, owned, BitVec.ofNat 11 (2 ^ l.agent), none, if owned then some l.agent else none, false, 0, 0⟩] } }

/-- The transaction of agent 3. -/
def txnBy (kind : AskKind) (probed : List Nat) (reading : Bool) : CohTxn := ⟨0x300, 3, kind, 15, .e, probed, [], reading, 15, false, none⟩

theorem witness_CoherenceRequests :
    (decide (askOf.agent ≤ 10) && live.inHbm (askOf.line * 256) 256 && (live.diePath 3 (live.homeOf (0x300 * 256))).isSome
      && (live.diePath 9 (live.homeOf (0x300 * 256))).isSome && (holding (lineOf 9 .m 3) true).held 9 0x300 == some (lineOf 9 .m 3)
      && live.held 9 0x300 == none && live.cohOk 3 0x300 && !(base.cohOk 3 0x300) && live.agentReq 3 0x300 == none && live.txnOf 0x300 == none
      && live.coh.reserves.isEmpty && (live.dirEntry 0x300).holders == [] && (live.dirEntry 0x300).owner == none
      && (live.dirEntry 0x300).provider == none
      && ((holding (lineOf 10 .e 0) true).dirEntry 0x300).owner == some 10 && (holding (lineOf 10 .e 0) true).agentReq 3 0x300 == none
      && !(((holding (lineOf 10 .e 0) true).dirEntry 0x300).holders.contains 3)
      && ((holding (lineOf 3 .s 0) false).dirEntry 0x300).holders == [3]
      && (holding (lineOf 3 .s 0) false).held 3 0x300 == some (lineOf 3 .s 0)
      && decide (248 + 8 ≤ 256) && decide (0x300F8 / 256 = 0x300) && 0x300F8 % 8 == 0
      && ({ live with coh := { live.coh with txns := [txnBy .getX [] true] } } : State).txnOf 0x300 != none) = true := by
  decide +kernel

/-- The machine with a message in flight, a transaction, and the request it belongs to. -/
def messaging (kind : MsgKind) (sectors : BitVec 4) (txns : List CohTxn) (granted : Bool) : State :=
  let s := holding (lineOf 3 .m 3) true
  { s with coh := { s.coh with
      msgs := [⟨kind, 3, 0x300, sectors⟩]
      txns
      reqs := [⟨3, 0x300, .getX, 15, 0, false, false, true, true, granted, 0, none, 0⟩] } }

theorem witness_CoherenceMessages :
    ((holding (lineOf 3 .s 0) false).eviction 3 0x300 false == none && (holding (lineOf 3 .m 3) true).eviction 3 0x300 true == none
      && (holding (lineOf 3 .m 3) true).held 3 0x300 == some (lineOf 3 .m 3)
      && ((messaging .probeGive 15 [] false).takeMsg 3 0x300 (· == .probeGive)).isSome
      && ((messaging .probeKill 15 [] false).takeMsg 3 0x300 (· == .probeKill)).isSome
      && ((messaging (.reply .i false) 0 [txnBy .getX [3] false] false).takeMsg 3 0x300
            (fun k => match k with | .reply _ _ => true | _ => false)).any (fun p => p.2.kind == .reply .i false && p.2.sectors == 0)
      && (messaging (.reply .i false) 0 [txnBy .getX [3] false] false).txnOf 0x300 == some (txnBy .getX [3] false)
      && ((messaging .spillCargo 15 [] false).takeMsg 3 0x300 (· == .spillCargo)).isSome && (messaging .spillCargo 15 [] false).txnOf 0x300 == none
      && ((messaging (.grant .e) 15 [] false).takeMsg 3 0x300
            (fun k => match k with | .grant _ => true | .grantOld _ => true | _ => false)).any (fun p => p.2.kind == .grant .e)
      && ((messaging (.grant .e) 15 [] false).agentReq 3 0x300).any (fun r => r.kind.installs && r.backing && !r.reserved && !r.granted)
      && ((messaging .cargo 15 [] false).takeMsg 3 0x300 (· == .cargo)).isSome
      && ((messaging .seated 15 [] false).takeMsg 3 0x300 (· == .seated)).isSome && (messaging .seated 15 [] false).coh.reserves.isEmpty
      && ((messaging (.retry false) 15 [] false).takeMsg 3 0x300 (fun k => match k with | .retry _ => true | _ => false)).isSome
      && (let s := { messaging .seated 15 [] false with coh := { (messaging .seated 15 [] false).coh with msgs := [] } }
          s.coh.msgs.isEmpty && (s.agentReq 3 0x300).isSome)
      && (let s := { live with
            mem := { live.mem with reqs := [readOf .high] }, coh := { live.coh with txns := [⟨0x300, 0, .getS, 15, .e, [], [], true, 15, false, none⟩] } }
          s.mem.reqs.find? (fun r => r.id == 4 && r.tracked) == some (readOf .high)
            && s.servedNext (readOf .high) [] && !(s.servedNext (readOf .high) [4]) && (s.txnOf 0x300).any (fun x => x.kind == .getS))) = true := by
  decide +kernel

/-! ### Launches, collectives and monuments -/

/-- A descriptor of one entry, this device's own, at 0x2000: mailbox 1, record 0x30000. -/
def launchCells : List Host.Cell :=
  cells 0x2000 (leBytes 8 (0x4C54 * 2 ^ 48 + 2 ^ 40 + 1 * 2 ^ 32 + 1) ++ leBytes 8 0x30000 ++ leBytes 8 0 ++ leBytes 8 0)
    ++ cells 0x2040 (leBytes 4 (5 * 2 ^ 16))

/-- Node 5 of epoch 1 with that descriptor. -/
def launcher : State :=
  node5 { mapped with mem := { mapped.mem with hbm := launchCells ++ mapped.mem.hbm } }

/-- LAUNCH_OFFER in mailbox 0: job 7, attempt 1, deadline 1,000,000. -/
def offering (desc : Nat) : State := commanding launcher 0 0x0700 [1 * 2 ^ 48 + 7, 1000000, desc]

/-- The offer of job 7 as held and acknowledged at the root. -/
def heldOffer (acknowledged : Bool) : Offer :=
  { rootOffer (offering 0x2000) 0 with held := true, acked := true, acknowledged, mbx := none }

/-- The machine that holds it, with a launch command in mailbox 0. -/
def launching (op : Nat) (args : List Nat) (offers : List Offer) (aborted : List Aborted) : State :=
  commanding { launcher with joined := { launcher.joined with offers, aborted } } 0 op args

theorem witness_JoinedWork :
    (let s := offering 0x2000
     let w := fun (i : Nat) => (s.hbmWord (0x2000 + 8 * i)).toNat
     s.has 0 0x0700 && s.arg 0 2 == 0x2000 && s.inHbm 0x2000 68 && !(s.poisoned 0x2000 68) && w 0 % 2 ^ 15 == 1 && !(badHead (w 0) (w 2) (w 3))
      && !(badReserved [w 4, w 5, w 6, w 7] (s.treeAt 0x2000 1)) && !(badTree s.fab.node (rootOffer s 0).tree)
      && Nat.ble (s.time.mt + 800000) (s.arg 0 1) && s.offer 7 == none
      && !((offering (2 ^ 30)).inHbm (2 ^ 30) 64)
      && badHead 0 0 0
      && ({ s with mem := { s.mem with poison := [0x80] } } : State).poisoned 0x2000 64
      && ((launching 0x0700 [1 * 2 ^ 48 + 7, 1000000, 0x2000] [heldOffer true] []).offer 7).any (fun x => x.attempt == 1)) = true := by
  decide +kernel

theorem witness_JoinedWork_held :
    (let s := offering 0x2000
     let x := rootOffer s 0
     s.offer x.job == none && s.offerCheck x == none && x.kids == [] && x.tree != [] && !x.acked && !x.missed && x.neg == none
      && x.abort == none && x.acks == [] && x.from_ == none && x.mbx == some 0
      && match s.allocate 8 0 (x.deadline + 800000000) .device (.offerExpiry x.job) with
        | (t, .granted _) => t.joined == s.joined
        | _ => false) = true := by
  decide +kernel

theorem witness_JoinedWork_commit :
    (let s := launching 0x0701 [1 * 2 ^ 48 + 7, 2000000] [heldOffer true] []
     s.has 0 0x0701 && s.offer 7 == some (heldOffer true) && (heldOffer true).attempt == 1 && (heldOffer true).from_ == none
      && Nat.blt (s.arg 0 1) ((heldOffer true).deadline + 800000000) && s.joined.aborted.isEmpty && (heldOffer true).acknowledged
      && (launching 0x0701 [1 * 2 ^ 48 + 7, 2000000] [heldOffer false] []).offer 7 == some (heldOffer false)
      && (let u := launching 0x0701 [1 * 2 ^ 48 + 7, 2000000] [] [⟨7, 1⟩]
          u.offer 7 == none && u.joined.aborted.contains ⟨7, 1⟩)
      && (launching 0x0702 [1 * 2 ^ 48 + 7, 2000000] [heldOffer true] []).has 0 0x0702
      && (launching 0x0702 [1 * 2 ^ 48 + 7, 2000000] [heldOffer true] []).launchOf 7 1 == none
      && (heldOffer true).abort == none && (heldOffer true).held) = true := by
  decide +kernel

/-- An offer that has not expired stays as a command of this moment finds it. -/
theorem lapse_same (s : State) (job stamp : Nat) (o : Offer) (h : s.offer job = some o) (ha : o.abort = none) (hs : stamp < o.expiry) :
    s.lapse job stamp false = s := by
  have hn : ¬ o.expiry ≤ stamp := by omega
  simp only [State.lapse, h, ha, if_neg hn, ite_self, Nat.add_zero, if_false, Bool.false_eq_true]

theorem witness_JoinedWork_lapse :
    (launching 0x0701 [1 * 2 ^ 48 + 7, 2000000] [heldOffer true] []).lapse 7 0 false
      = launching 0x0701 [1 * 2 ^ 48 + 7, 2000000] [heldOffer true] [] := by
  exact lapse_same _ _ _ (heldOffer true) (by decide +kernel) (by decide +kernel) (by decide +kernel)

/-- A collective of context 1 at slot 0 with a deadline. -/
def collOf (deadline : Nat) : Collective where
  ctx := 1
  slot := 0
  line := 0x300
  job := 7
  attempt := 1
  seq := 0
  op := 0
  mode := 0
  cells := false
  anchor := 0
  count := 4
  src := 0x30000
  dst := 0x30000
  deadline := deadline
  gen := 0
  up := []
  sent := 0
  credit := 0
  result := []
  written := 0
  granted := []

theorem witness_JoinedWork_wakes :
    (let s := watching (.list 4)
     let woken := fun (k : WatchKind) (mem : List Host.Cell) => ({ s with
        abaom := { s.abaom with watches := [⟨0, k, 1, 0x30000, 0x300, false, true⟩] }, mem := { s.mem with hbm := mem } } : State)
     (s.watch 0).any (fun w => !w.wake) && ((woken (.list 4) []).watch 0).any (fun w => w.wake)
      && ({ woken (.list 4) [] with mem := { s.mem with poison := [0xC00] } } : State).poisoned 0x30000 256
      && ((woken (.list 4) (cells 0x30000 [2])).hbmWord 0x30000).toNat % 4 == 2 && (woken (.list 4) []).pass 0 == none
      && ((woken (.list 4) []).hbmWord 0x30000).toNat % 4 != 2 && (woken .flag []).abaom.passes.isEmpty
      && ((woken .flag []).watch 0).any (fun w => w.kind == .flag)
      && (let u := { offering 0x2000 with time := { base.time with mt := 1000000 } }
          (u.mbx 0).cmd.isSome && (u.mbx 0).st == .busy && Nat.ble (u.arg 0 1) u.time.mt && u.joined.offers.isEmpty)
      && (List.range 64).all (fun k => (base.mbx k).cmd.isNone)
      && [collOf 5, collOf 7].all (fun c =>
          let u := { base with joined := { base.joined with colls := [c] }, time := { base.time with mt := 6 } }
          let wins := fun (u : State) => u.arriving fun _ f stamp => f.op == opColl && f.word 0 % 2 ^ 32 == c.job && decide (stamp < c.deadline)
          u.coll 1 0 == some c && c.deadline != 0 && !(wins u)
            && wins { u with pending := [.rxCollUp 31 (frameOf opColl kColl 0 16 false 0 (be 7 ++ be 0)) 4] })) = true := by
  decide +kernel

/-- A manifest at 0x2000 of one region of 256 bytes at 0x4000. -/
def manifestCells : List Host.Cell :=
  cells 0x2000 (leBytes 8 (0x4D4E * 2 ^ 48 + 2 ^ 40 + 1)) ++ cells 0x2100 (leBytes 8 0x4000 ++ leBytes 8 256)

/-- The machine with it, and a command on it in mailbox 0. -/
def capturing (op : Nat) (args : List Nat) : State :=
  commanding { mapped with mem := { mapped.mem with hbm := manifestCells ++ mapped.mem.hbm } } 0 op args

/-- A monument in hand. -/
def monumentOf (restore : Bool) (st : MonState) (layer : Nat) : Monument :=
  { newMonument restore none 0x2000 9000 (List.replicate 16 0) [] [] 3 layer with id := 4, st }

/-- The machine with a monument. -/
def keeping (m : Monument) : State := { mapped with monu := { mapped.monu with items := [m] } }

theorem witness_Monuments :
    ([capturing 0x0800 [0x2000, 1, 9000], capturing 0x0802 [0x2000, 0, 9000]].all (fun s =>
        let restore := s.has 0 0x0802
        let layers : BitVec 3 := if restore then 0 else BitVec.ofNat 3 (s.arg 0 1)
        (restore || s.has 0 0x0800) && (restore || layers != 0) && s.arg 0 1 % 4 != 3 && !s.fab.fenced
          && match s.readManifest restore (s.monuCtx 0) (s.arg 0 0) (s.arg 0 2) layers 0 with
            | .status _ => false
            | .ok m => s.monuRefusal m == none &&
              match s.allocate 8 1 m.stake (s.mailboxOwner 0) (if restore then .restore s.monu.nextId else .capture s.monu.nextId) with
              | (_, .granted _) => true
              | _ => false)
      && BitVec.ofNat 3 ((capturing 0x0800 [0x2000, 8, 9000]).arg 0 1) == 0
      && (capturing 0x0801 [4]).has 0 0x0801 && (capturing 0x0801 [4]).monument 4 == none
      && (keeping (monumentOf false .sealed 0)).monument 4 == some (monumentOf false .sealed 0)
      && [0, 1, 2].all (fun l => (keeping { monumentOf false .capturing l with written := true }).monument 4
          == some { monumentOf false .capturing l with written := true })
      && !(mapped.monuBusy 4) && (monumentOf false .capturing 2).sealOut == false
      && (let m := monumentOf false .capturing 1
          m.broken == none && decide (layerOffset m.header 1 + m.imageBytes + 256 ≤ 2 ^ 44) && decide (m.seal.length ≤ 256)
            && decide (2 ^ 44 < layerOffset (m.header.set 8 (BitVec.ofNat 64 (2 ^ 44))) 1 + m.imageBytes + 256))
      && (keeping { monumentOf false .draining 2 with broken := some (2, stHwFault) }).monument 4
          == some { monumentOf false .draining 2 with broken := some (2, stHwFault) }) = true := by
  decide +kernel

/-- A restore whose image has been read, with the digest that its seal gives. -/
def restoring (digest : List Byte) : Monument :=
  { monumentOf true .reading 0 with
    phase := .over_, buffer := [1, 2, 3], stored := List.replicate 256 0, sealBytes := List.replicate 32 0 ++ digest
    manifest := 0x2000 }

theorem witness_Monuments_digest :
    ((keeping (restoring (shake256 [1, 2, 3]))).monument 4 == some (restoring (shake256 [1, 2, 3]))
      && shake256 [1, 2, 3] == ((restoring (shake256 [1, 2, 3])).sealBytes.drop 32).take 32
      && ((keeping (restoring (shake256 [1, 2, 3]))).restoreCursor (restoring (shake256 [1, 2, 3]))).2
      && ((keeping (restoring (shake256 [1, 2, 3]))).restoreCursor (restoring (shake256 [1, 2, 3]))).1.monu
          == (keeping (restoring (shake256 [1, 2, 3]))).monu
      && shake256 [1, 2, 3] != ((restoring (List.replicate 32 0)).sealBytes.drop 32).take 32) = true := by
  decide +kernel

theorem witness_Monuments_fill :
    (let f := frameOf opCtrl kCtrl 0 32 false 0 (be (0x30 * 2 ^ 48 + 1 * 2 ^ 40 + 4) ++ be 3 ++ be 0x1000 ++ be 0)
     let filled := fun (holder : Option (Nat × Nat)) (queue : List (Nat × Nat)) =>
       ({ base with monu := { base.monu with fills := [⟨3, 0x1000, holder, queue⟩] } } : State)
     fillId f == 4 && f.word 1 % 2 ^ 12 == 3 && f.word 2 == 0x1000 && base.fill 3 0x1000 == none
      && (filled (some (8, 1)) []).fill 3 0x1000 == some ⟨3, 0x1000, some (8, 1), []⟩ && (some (8, 1) : Option (Nat × Nat)) != some (f.src, fillId f)
      && (filled (some (8, 1)) (List.replicate 16 (7, 7))).fill 3 0x1000 == some ⟨3, 0x1000, some (8, 1), List.replicate 16 (7, 7)⟩) = true := by
  decide +kernel

/-! ### Trust, debug and observation -/

/-- The machine with an update session of mailbox 0, its last command at MT 0. -/
def updating (s : State) : State := { s with trust := { s.trust with session := some ⟨0, 1024, false, 0⟩ } }

theorem witness_UpdateAndAttestation :
    ((commanding base 0 0x0B01 [1024, 0]).has 0 0x0B01 && (commanding base 0 0x0B01 [1024, 0]).trust.session == none
      && (updating (commanding base 2 0x0B01 [1024, 0])).trust.session == some ⟨0, 1024, false, 0⟩
      && (updating (commanding base 0 0x0B02 [1000, 24])).has 0 0x0B02 && (commanding base 0 0x0B02 [1000, 24]).arg 0 0 + 24 == 1024
      && (updating (commanding base 0 0x0B02 [1000, 25])).arg 0 1 == 25
      && (updating (commanding base 0 0x0B03 [])).has 0 0x0B03
      && ((updating (commanding base 0 0x0B03 [])).imageCheck (updating (commanding base 0 0x0B03 [])).staged false).isSome
      && Nat.ble (0 + 80000000000) ({ updating base with time := { base.time with mt := 80000000000 } } : State).time.mt
      && Nat.blt (updating base).time.mt (0 + 80000000000)
      && (commanding base 0 0x0B00 [0, 0, 0, 0, 0x30000]).has 0 0x0B00 && !base.trust.rebuilt
      && ({ base with trust := { base.trust with rebuilt := true, idx := 2 ^ 28 } } : State).trust.idx == 2 ^ 28
      && ({ base with trust := { base.trust with rebuilt := true, scope := 2 } } : State).trust.scope == 2
      && ({ base with trust := { base.trust with image := some (runImage (fun off n => cellRead [] off n)), idxCopy := some 3, idx := 3 } } : State).trust.attests.isEmpty)
      = true := by
  decide +kernel

theorem witness_UpdateAndAttestation_report :
    ((commanding live 0 0x0B00 [0, 0, 0, 0, 0x30000]).boundCtx 0 == none && live.inHbm 0x30000 14373 && !(live.inHbm (2 ^ 30 - 14372) 14373)) = true := by
  decide +kernel

/-- The machine whose service of mailboxes is to pause, or is paused. -/
def pausing (pause : ServicePause) (mt : Nat) : State :=
  { base with trust := { base.trust with pause }, time := { base.time with mt } }

theorem witness_UpdateAndAttestation_pause :
    ((pausing .asked 0).trust.pause == .asked && (List.range 64).all (fun k => ((pausing .asked 0).mbx k).st != .busy)
      && ((commanding (pausing .asked 0) 0 0x0100 []).mbx 0).st == .busy
      && (pausing (.until_ 500) 500).trust.pause == .until_ 500 && decide (499 < 500)) = true := by
  decide +kernel

/-- A recovery, its wait begun at MT 0. -/
def recoveryOf (fetching : Bool) (attempts : Nat) : Recovery := ⟨2, 0, fetching, 0, 0, 1024, 0, 0, attempts⟩

/-- The machine in recovery with one source, node 9. -/
def recoveringAt (mt : Nat) (r : Recovery) (sources : List Nat) : State :=
  { phased .recovering with trust := { base.trust with recovery := some r, sources }, time := { base.time with mt } }

theorem witness_RecoveryAndDebug :
    ((recoveringAt 480000000000 (recoveryOf false 0) [9]).trust.session == none
      && (recoveringAt 480000000000 (recoveryOf false 0) [9]).trust.recovery == some (recoveryOf false 0)
      && Nat.ble (0 + 480000000000) (recoveringAt 480000000000 (recoveryOf false 0) [9]).time.mt
      && (recoveringAt 480000000000 (recoveryOf false 0) [9]).trust.sources[0]? == some 9
      && (recoveringAt 480000000000 (recoveryOf false 0) []).trust.sources.isEmpty
      && [recoveryOf true 7, recoveryOf true 8].all (fun r => Nat.ble (r.sent + 8000000) (recoveringAt 8000000 r [9]).time.mt
          && Nat.blt (recoveringAt 8000000 r [9]).time.mt (r.turned + 160000000000))
      && (recoveryOf true 0).length == 1024 && (List.replicate 1024 (0 : Byte)).length == 1024
      && !(base.slotWriting)
      && base.running && ({ base with trust := { base.trust with booted := true } } : State).trust.booted && decide (4194303 + 1 ≤ 4194304)
      && base.conn.phase != .off && base.trust.scope == 0 && ({ base with trust := { base.trust with scope := 1 } } : State).trust.scope == 1
      && !(base.tokenOk [])) = true := by
  decide +kernel

/-- The machine with another trace unit 8. -/
def tracing (f : TraceUnit → TraceUnit) : State := live.putUnit 8 (f TraceUnit.reset)

/-- A record of eight words. -/
def record8 : List Word := List.replicate 8 5

theorem witness_Observation :
    ((commanding live 0 0x0C00 [0x800, 0, 1, 1, 0]).has 0 0x0C00 && live.obs.units.length == 9 && (live.unit 8).st == .off
      && live.inHbm 0 (1 * 2 ^ 20) && !(live.inHbm (2 ^ 30) (1 * 2 ^ 20)) && (List.range 9).all (fun v => !(live.unit v).configured)
      && ((tracing fun u => { u with st := .running }).unit 8).st != .off
      && ((tracing fun u => { u with configured := true }).unit 8).configured && (tracing fun u => { u with configured := true }).unitLive 8
      && ((tracing fun u => { u with configured := true }).unit 8).fifo.isEmpty
      && live.obs.units.all (fun u => u.disabling == []) && !((tracing fun u => { u with st := .running, fifo := [record8] }).unit 8).fifo.isEmpty
      && live.inHbm (2 ^ 30 - 65536) 65536 && !live.obs.trig.armed && live.obs.trig.alloc == none
      && (commanding live 0 0x0C01 [0x10707, 0x3F01]).has 0 0x0C01 && live.obs.sels.length == 128
      && (commanding live 0 0x0C01 [0x10707, 0x3F01]).boundCtx 0 == none
      && (let s := (commanding { live with ctxs := base.ctxs } 1 0x0C01 [7, 0x3F01])
          s.boundCtx 1 == some 1 && !((nth s.obs.sels 7 CounterSel.reset).valid) && (s.ctx 1).partition == 0)
      && (List.range 9).all (fun u => live.inHbm (u * 2 ^ 20) (2 ^ 20))
      && ([0xF00, 0xF01, 0xF02, 0xF04, 0xF05, 6].all fun w => (commanding live 0 0x0C00 [w, 0, 1, 1, 0]).has 0 0x0C00)
      && (let s := (List.range 9).foldl (fun t u => t.putUnit u { TraceUnit.reset with configured := true }) live
          (List.range 9).all fun u => (s.unit u).configured && s.unitLive u)
      && live.inHbm 0 589824 && live.obs.units.all (fun u => u.fifo.isEmpty)
      && live.time.ppsTime && !((timed fun t => { t with ppsTime := false }).time.ppsTime)
      && (match live.dropTrigger.allocate 8 3 900 (live.mailboxOwner 0) .traceTrigger with | (_, .granted _) => true | _ => false)
      && (List.range 8).all (fun u => live.sampleDue u == none)
      && (let s := { (live.putUnit 0 { TraceUnit.reset with st := .running, sample := true, interval := 1 }) with
            time := { live.time with mt := 16001 }, ids := { live.ids with clusterLive := List.replicate 8 0 } }
          s.sampleDue 0 == some 16000 && (List.range 8).all (fun u => u == 0 || s.sampleDue u == none))
      && (let s := live.putUnit 7 { TraceUnit.reset with st := .running }
          s.unitLive (191 / 24) && (s.unit 7).st != .off && decide ((s.unit 7).fifo.length ≤ 250))
      && [0, 1, 2].all (fun mode =>
          let s := tracing fun u => { u with st := .running, sizeMiB := 1, mode, fifo := [record8] }
          (s.unit 8).fifo == record8 :: [] && !(s.unit 8).full && (s.unit 8).disabling == [])
      && ({ live with obs := { live.obs with trig := { live.obs.trig with pending := true } } } : State).obs.trig.pending) = true := by
  decide +kernel

/-! ### The machine as a whole -/

theorem witness_StepRunsFrontCommand : (base.setPending [.idcode, .authChal]).pending = .idcode :: [.authChal] := rfl

theorem witness_EveryCommandCompletes :
    (base.trust.invasive || !(({ base with trust := { base.trust with scope := 2 } } : State).trust.invasive)) = false := by
  decide +kernel

theorem witness_StepKeepsMemoryCanonical : mapped.hbmWf ∧ step mapped = .next (mapped.tick) := by
  exact ⟨show Memory.wf mapped.mem.hbm = true by decide +kernel, rfl⟩

theorem witness_StepConsumesFrontCommand :
    (match step (base.setPending [.idcode, .authChal]) with
      | .next t => t.pending == [.authChal]
      | .fault _ => false
      | .refused _ => false) = true := by
  decide +kernel

/-! ### Small runs: one step each, the expected values worked by hand from the rules -/

/-- Scalar register `d` after an instruction with s1 and s3 set. -/
def scalarAfter (c : SubRef → Instr) (word x y d : Nat) : Option Nat :=
  match exec (c sub0) (coded [word] (groupWith [(1, x), (3, y)])) with
  | .next t => (t.group 0 0).map fun g => g.scalar d
  | .fault _ => none
  | .refused _ => none

/-- R269: a scalar add is of 64 bits and wraps. R207: s0 ignores writes. -/
theorem test_add_wraps :
    scalarAfter .add (enc 0 0 (sc 2) (sc 1) (sc 3) 0 0) (2 ^ 64 - 1) 2 2 = some 1
      ∧ scalarAfter .add (enc 0 0 (sc 0) (sc 1) (sc 3) 0 0) 7 2 0 = some 0 := by decide +kernel

/-- R271: MOD bit 0 selects the signed high product. -/
theorem test_mul_hi_signed :
    scalarAfter .mulHi (enc 0 3 (sc 2) (sc 1) (sc 3) 1 0) (2 ^ 64 - 1) 2 2 = some (2 ^ 64 - 1)
      ∧ scalarAfter .mulHi (enc 0 3 (sc 2) (sc 1) (sc 3) 0 0) (2 ^ 64 - 1) 2 2 = some 1 := by decide +kernel

/-- R272: a quotient by zero has every bit set, the remainder is the dividend; the most negative value by -1. -/
theorem test_div_corners :
    scalarAfter .div (enc 0 4 (sc 2) (sc 1) (sc 3) 1 0) 7 0 2 = some (2 ^ 64 - 1)
      ∧ scalarAfter .rem (enc 0 5 (sc 2) (sc 1) (sc 3) 1 0) 7 0 2 = some 7
      ∧ scalarAfter .div (enc 0 4 (sc 2) (sc 1) (sc 3) 1 0) (2 ^ 63) (2 ^ 64 - 1) 2 = some (2 ^ 63)
      ∧ scalarAfter .rem (enc 0 5 (sc 2) (sc 1) (sc 3) 1 0) (2 ^ 64 - 7) 2 2 = some (2 ^ 64 - 1) := by decide +kernel

/-- R272: shift counts are taken modulo the width; R271: MOD bit 0 is the arithmetic shift. -/
theorem test_shifts :
    scalarAfter .shl (enc 0 9 (sc 2) (sc 1) (sc 3) 0 0) 3 65 2 = some 6
      ∧ scalarAfter .shr (enc 0 10 (sc 2) (sc 1) (sc 3) 1 0) (2 ^ 63) 1 2 = some (3 * 2 ^ 62)
      ∧ scalarAfter .shr (enc 0 10 (sc 2) (sc 1) (sc 3) 0 0) (2 ^ 63) 1 2 = some (2 ^ 62) := by decide +kernel

/-- R271: IMMSRC takes IMM, sign-extended; cmp by its condition, signed and unsigned. -/
theorem test_immediate_and_cmp :
    scalarAfter .sub (enc 0 1 (sc 2) (sc 1) 0 64 0xFFFF) 5 0 2 = some 6
      ∧ scalarAfter .cmp (enc 0 13 (sc 2) (sc 1) (sc 3) 5 0) (2 ^ 64 - 1) 1 2 = some 1
      ∧ scalarAfter .cmp (enc 0 13 (sc 2) (sc 1) (sc 3) 4 0) (2 ^ 64 - 1) 1 2 = some 0 := by decide +kernel

/-- R275: an FP32 operation of scalars works on the low 32 bits: 1.5 + 2.5 = 4, and 1 / 0 is infinity. -/
theorem test_float_scalars :
    scalarAfter .fadd (enc 1 0 (sc 2) (sc 1) (sc 3) 0 0) 0x3FC00000 0x40200000 2 = some 0x40800000
      ∧ scalarAfter .fdiv (enc 1 4 (sc 2) (sc 1) (sc 3) 0 0) 0x3F800000 0 2 = some 0x7F800000
      ∧ scalarAfter .fsqrt (enc 1 5 (sc 2) (sc 1) 0 1 0) 0x4010000000000000 0 2 = some 0x4000000000000000 := by decide +kernel

/-- R276: a branch to its own address plus IMM × 8; without one, the next word is next. -/
theorem test_branch :
    after (.br sub0) (coded [enc 2 0 0 0 0 0 2] (groupWith [])) (fun t => group0 t fun g => g.subs.all fun x => x.pc == 0x10010)
      ∧ after (.nop sub0) (coded [enc 2 8 0 0 0 0 0] (groupWith [])) (fun t => group0 t fun g => g.subs.all fun x => x.pc == 0x10008) := by
  decide +kernel

/-- R282 and R13: a word of memory loaded into a scalar register, least significant byte first. -/
theorem test_load :
    after (.ldB32 sub0) (let s := coded [enc 3 2 (sc 2) (sc 1) 0 0 4] (groupWith [(1, 0x20000)])
      { s with mem := { s.mem with hbm := s.mem.hbm ++ cells 0x20004 [0x78, 0x56, 0x34, 0x12] } })
      (fun t => group0 t fun g => g.scalar 2 == 0x12345678) := by decide +kernel

/-- A store puts its bytes at the address and nowhere beside it. -/
theorem test_store :
    after (.stB16 sub0) (coded [enc 3 9 (sc 3) (sc 1) 0 0 2] (groupWith [(1, 0x20000), (3, 0xABCD)]))
      (fun t => t.hbmRead 0x20001 4 == [0, 0xCD, 0xAB, 0]) := by decide +kernel

/-- An atomic addition of each of the 32 lanes: 7 + 32 × 5, and s0 discards the old values (R288). -/
theorem test_atomic :
    after (.atomAdd sub0) (let s := coded [enc 4 0 (sc 0) (sc 1) (sc 3) 0 0] (groupWith [(1, 0x20000), (3, 5)])
      { s with mem := { s.mem with hbm := s.mem.hbm ++ cells 0x20000 [7] } })
      (fun t => t.hbmRead 0x20000 4 == [167, 0, 0, 0]) := by decide +kernel

/-- R149, R150: of 16 slots 15 fill; the next notice is lost and counted. -/
theorem test_notice_ring :
    (let t := (List.range 16).foldl (fun (s : State) _ => s.postNotice 5 [1]) base
     (t.mbx 5).head == 15 && (t.mbx 5).tail == 0 && (t.mbx 5).lost == 1) = true := by decide +kernel

/-- A mailbox with no binding but 0 answers NOT_BOUND; a reserved opcode is BAD_OPCODE first. -/
theorem test_command_checks :
    after .commandTake (base.putMbx 5 { Mailbox.reset with st := .posted, opcode := 0x0500, postOrder := 1 })
        (fun t => (t.mbx 5).st == .done && (t.mbx 5).status == stNotBound)
      ∧ after .commandTake (base.putMbx 5 { Mailbox.reset with st := .posted, opcode := 0x0001, postOrder := 1 })
        (fun t => (t.mbx 5).st == .done && (t.mbx 5).status == stBadOpcode) := by decide +kernel

/-- R77: an idle cycle of the reference is 51 ticks, one in five 52. -/
theorem test_tick :
    (match idleRun 5 base with
      | some t => t.time.mt == base.time.mt + 256
      | none => false) = true := by decide +kernel

/-! ### Ill-formed commands are refused -/

/-- What a start-up finds when it finds nothing. -/
def foundNone : StartInputs := ⟨false, [], [], [], 0, 0, [], []⟩

/-- A frame of no payload, and one of a byte too many. -/
def emptyFrame : Frame := ⟨0, 0, 0, 0, []⟩
def longFrame : Frame := ⟨0, 0, 0, 0, List.replicate 4097 0⟩

/-- An ill-formed term for each check: a number beyond the range the spec gives what it names. -/
theorem test_ill_formed_refused :
  (
  [.powerOn 256 foundNone, .powerOn 0 { foundNone with answers := [⟨16, 0, 0, 0⟩] }, .resetRelease { foundNone with lanes := [⟨8, 0, 0, 0, 0⟩] },
   .resetRelease { foundNone with clusters := List.replicate 9 0 }, .railFault (.base 8), .railFault (.memory 8), .railFault (.compute 8),
   .railFault (.proc 2), .railFault (.optical 4), .powerSample (2 ^ 16) 0 0 false 0, .pmbusPoll [⟨.proc 2, 0, 0, 0⟩],
   .throttleExpiry (2 ^ 14) 0, .throttleExpiry 0 (2 ^ 32), .ppsEdge (2 ^ 64), .ptpMessage ⟨.ipv4, 0, .other⟩ (2 ^ 64), .ptpMessage ⟨.ipv4, 0, .sync (2 ^ 16) none⟩ 0,
   .ptpMessage ⟨.ethernet, 0, .followUp 0 ⟨0, 10 ^ 9, 0⟩⟩ 0, .patrolScrub 0 ⟨[36], []⟩, .comparatorFire 9 0, .commandTimeout 64,
   .identify 64, .fwCommit 64 true, .monumentSeal (2 ^ 16) 0, .monumentSeal 0 3, .layerFailure 0 0 (2 ^ 16), .dieServiceDrained (2 ^ 24) ⟨true, 0⟩,
   .badAccess [⟨144, 0, 8, true⟩] false, .badAccess [⟨0, 2 ^ 32, 8, false⟩] false, .quarRelease 32, .frozenClear 9, .registerWrite 144 0 0, .nopEntry 4096 0,
   .blockPlace 0 0 192, .contextTeardown 64 0, .contextTeardown 0 (2 ^ 16), .add ⟨0, 128, 0⟩, .add ⟨0, 0, 32⟩, .copyLand 0 0 0 256,
   .accumulatorGrant 192 0, .accumulatorGrant 0 4, .gets ⟨11, 0, 0, none, 0, false⟩, .gets ⟨0, 2 ^ 44, 0, none, 0, false⟩, .atom ⟨11, 0, none, 0, 4, 0, 0⟩,
   .atom ⟨0, 2 ^ 52, none, 0, 4, 0, 0⟩, .atom ⟨0, 0, none, 0, 4, 2 ^ 64, 0⟩, .refresh 16 0 0 0 false, .refresh 0 32 0 0 false, .refresh 0 0 2 0 false,
   .refresh 0 0 0 32 false, .saturationWindow [1025] [] [], .saturationWindow (List.replicate 17 0) [] [], .saturationWindow [] [] [⟨64, 0, [], []⟩],
   .rxWrite 32 emptyFrame 0, .rxWrite 0 longFrame 0, .rxWrite 0 emptyFrame (2 ^ 64), .collectiveDeadline 64 0, .neighborSolicitation 33 0,
   .flitReplay 8 0 0, .flitReplay 0 5 0, .flitReplay 0 0 8, .bypass 256, .mbxRead (.i3c 256) 0 0 0, .mbxRead (.ether (2 ^ 128) 0) 0 0 0,
   .mbxRead (.ether 0 (2 ^ 16)) 0 0 0, .mbxRead (.i3c 9) 256 0 0, .setEndpointId (.i3c 9) 256, .bucketAdmission 9 0, .bucketAdmission 0 48] : List Instr).all (fun c => !c.wf) = true := by decide +kernel

/-- The same commands at the end of each range. -/
theorem test_well_formed_accepted :
  (
  [.powerOn 255 foundNone, .railFault (.optical 3), .throttleExpiry (2 ^ 14 - 1) (2 ^ 32 - 1), .comparatorFire 8 0, .commandTimeout 63,
   .monumentSeal (2 ^ 16 - 1) 2, .badAccess [⟨143, 2 ^ 32 - 1, 8, false⟩] false, .quarRelease 31, .frozenClear 8, .blockPlace 4095 0 191,
   .add ⟨0, 127, 31⟩, .gets ⟨10, 2 ^ 44 - 1, 15, none, 0, true⟩, .patrolScrub 0 ⟨[35], [0]⟩, .ptpMessage ⟨.ipv6, 128, .delayResp 0 ⟨0, 0, 7⟩⟩ 0, .refresh 15 31 1 31 true, .saturationWindow [1024] [] [⟨63, 0, [], []⟩],
   .rxWrite 31 emptyFrame (2 ^ 64 - 1), .neighborSolicitation 32 0, .flitReplay 7 4 7, .bypass 255, .bucketAdmission 8 47] : List Instr).all (fun c => c.wf) = true := by decide +kernel

end Sys2Proof.Tests
end

section
/-!
SUPPORT AND PROOF. Bad accesses of one cycle, that is between two ticks of the reference (R57 to R59; log 123): which of them the hub
captures, and when OVERRUN is set.

The ID block takes the accesses of a row one after another, the lowest hart first. The first one is captured or displaces the
captured access of its cycle, or else overruns; no later one comes from a lower hart than the captured access, so each of them only
overruns.
-/

namespace Sys2Proof.Machine

/-! ### KIND does not depend on what ID_BADACC and the outbox hold -/

/-- Which offsets of the ID block are reserved does not depend on the state (R46). -/
theorem State.idRead_isNone_eq (s t : State) (off : Nat) : (s.idRead off).isNone = (t.idRead off).isNone := by
  simp only [State.idRead]
  split_ifs <;> simp only [Option.isNone_some, Option.isNone_none]

theorem State.mbxPage_setIds_setOutbox (s : State) (i : IdState) (o : List Out) :
    ((s.setIds i).setOutbox o).mbxPage = s.mbxPage := rfl

theorem State.mtRead_setIds_setOutbox (s : State) (i : IdState) (o : List Out) :
    ((s.setIds i).setOutbox o).mtRead = s.mtRead := rfl

theorem State.flagwRead_setIds_setOutbox (s : State) (i : IdState) (o : List Out) :
    ((s.setIds i).setOutbox o).flagwRead = s.flagwRead := rfl

theorem State.pwrRead_setIds_setOutbox (s : State) (i : IdState) (o : List Out) :
    ((s.setIds i).setOutbox o).pwrRead = s.pwrRead := rfl

theorem State.memRead_setIds_setOutbox (s : State) (i : IdState) (o : List Out) :
    ((s.setIds i).setOutbox o).memRead = s.memRead := rfl

theorem State.fabRead_setIds_setOutbox (s : State) (i : IdState) (o : List Out) :
    ((s.setIds i).setOutbox o).fabRead = s.fabRead := rfl

theorem State.linkRead_setIds_setOutbox (s : State) (i : IdState) (o : List Out) :
    ((s.setIds i).setOutbox o).linkRead = s.linkRead := rfl

/-- By rewriting: `rfl` would have the kernel take `off - 0x90000` apart by successors. -/
theorem State.cntRead_setIds_setOutbox (s : State) (i : IdState) (o : List Out) (off : Nat) :
    ((s.setIds i).setOutbox o).cntRead off = s.cntRead off := by
  unfold State.cntRead
  rw [State.setOutbox_obs, State.setIds_obs, State.memRead_setIds_setOutbox, State.fabRead_setIds_setOutbox,
    State.linkRead_setIds_setOutbox]

theorem State.trcRead_setIds_setOutbox (s : State) (i : IdState) (o : List Out) :
    ((s.setIds i).setOutbox o).trcRead = s.trcRead := rfl

theorem State.svcRead_setIds_setOutbox (s : State) (i : IdState) (o : List Out) :
    ((s.setIds i).setOutbox o).svcRead = s.svcRead := rfl

/-- Which offsets are reserved does not depend on what the ID block and the outbox hold. -/
theorem State.ctrlRead_setIds_setOutbox_isNone (s : State) (i : IdState) (o : List Out) (off : Nat) :
    (((s.setIds i).setOutbox o).ctrlRead off).isNone = (s.ctrlRead off).isNone := by
  unfold State.ctrlRead
  rw [State.mbxPage_setIds_setOutbox, State.mtRead_setIds_setOutbox, State.flagwRead_setIds_setOutbox,
    State.pwrRead_setIds_setOutbox, State.cntRead_setIds_setOutbox, State.trcRead_setIds_setOutbox,
    State.svcRead_setIds_setOutbox]
  simp only [apply_ite Option.isNone, State.idRead_isNone_eq ((s.setIds i).setOutbox o) s]

/-- Nor does the KIND of an access. -/
theorem State.accessKind_setIds_setOutbox (s : State) (i : IdState) (o : List Out) (a : CtrlAccess) :
    ((s.setIds i).setOutbox o).accessKind a = s.accessKind a := by
  simp only [State.accessKind, State.ctrlRead_setIds_setOutbox_isNone]

/-! ### One bad access, as the ID block takes it -/

/-- What ID_BADACC captures of a bad access: KIND, HART and OFFSET (R56). -/
def State.badNote (s : State) (a : CtrlAccess) : Nat × Nat × Nat := (s.accessKind a, a.hart, a.offset)

/-- The access that ID_BADACC holds. -/
def IdState.captured (i : IdState) : Nat × Nat × Nat := (i.badKind, i.badHart, i.badOffset)

/-- The captured access came in this cycle, and from a higher hart than `e` (R58). -/
def IdState.DisplacedBy (i : IdState) (e : Nat × Nat × Nat) : Prop := i.captured ∈ i.badNow ∧ e.2.1 < i.badHart

/-- The ID block after a bad access: `State.badAccess` on it alone (`State.badAccess_ids`). -/
def IdState.takeBad (i : IdState) (e : Nat × Nat × Nat) : IdState :=
  let i' := { i with badNow := i.badNow ++ [e] }
  if !i.badValid then i'.capture e
  else if i.badNow.contains i.captured ∧ e.2.1 < i.badHart then { i'.capture e with badOverrun := true }
  else { i' with badOverrun := true }

theorem IdState.takeBad_of_clear {i : IdState} (hclear : i.badValid = false) (e : Nat × Nat × Nat) :
    i.takeBad e = { i.capture e with badNow := i.badNow ++ [e] } := by
  simp [IdState.takeBad, IdState.capture, hclear]

theorem IdState.takeBad_of_displacedBy {i : IdState} {e : Nat × Nat × Nat} (hvalid : i.badValid = true) (hdisp : i.DisplacedBy e) :
    i.takeBad e = { i.capture e with badOverrun := true, badNow := i.badNow ++ [e] } := by
  obtain ⟨hnow, hlower⟩ := hdisp
  simp [IdState.takeBad, IdState.capture, hvalid, hnow, hlower]

theorem IdState.takeBad_of_not_displacedBy {i : IdState} {e : Nat × Nat × Nat} (hvalid : i.badValid = true)
    (hstays : ¬ i.DisplacedBy e) : i.takeBad e = { i with badOverrun := true, badNow := i.badNow ++ [e] } := by
  have hcond : ¬ (i.badNow.contains i.captured = true ∧ e.2.1 < i.badHart) := by
    simpa [IdState.DisplacedBy] using hstays
  simp only [IdState.takeBad, hvalid, Bool.not_true, Bool.false_eq_true, if_false, if_neg hcond]

/-- A bad access changes the ID block and the outbox alone. -/
theorem State.badAccess_eq (s : State) (a : CtrlAccess) :
    ∃ o, s.badAccess a = (s.setIds (s.ids.takeBad (s.badNote a))).setOutbox o := by
  by_cases hwrite : a.write = true
  · refine ⟨.hartFault a.hart :: s.outbox, ?_⟩
    simp only [State.badAccess, if_pos hwrite]
    rfl
  · refine ⟨.hartFault a.hart :: .readValue a.hart 0 :: s.outbox, ?_⟩
    simp only [State.badAccess, if_neg hwrite]
    rfl

theorem State.badAccess_ids (s : State) (a : CtrlAccess) : (s.badAccess a).ids = s.ids.takeBad (s.badNote a) := by
  obtain ⟨o, ho⟩ := s.badAccess_eq a
  rw [ho, State.setOutbox_ids, State.setIds_ids]

theorem State.badNote_setIds_setOutbox (s : State) (i : IdState) (o : List Out) :
    ((s.setIds i).setOutbox o).badNote = s.badNote := by
  funext a
  simp only [State.badNote, State.accessKind_setIds_setOutbox]

theorem State.badNote_badAccess (s : State) (a : CtrlAccess) : (s.badAccess a).badNote = s.badNote := by
  obtain ⟨o, ho⟩ := s.badAccess_eq a
  rw [ho, State.badNote_setIds_setOutbox]

/-- The ID block after several bad accesses, each with the KIND that it has at first. -/
theorem State.foldl_badAccess_ids (l : List CtrlAccess) (s : State) :
    (l.foldl State.badAccess s).ids = (l.map s.badNote).foldl IdState.takeBad s.ids := by
  induction l generalizing s with
  | nil => rfl
  | cons a l ih => rw [List.foldl_cons, ih, State.badNote_badAccess, State.badAccess_ids, List.map_cons, List.foldl_cons]

/-! ### The order of the accesses of one cycle (R58) -/

/-- `byHart` is Mathlib's insertion sort by hart. -/
theorem byHart_eq_insertionSort (l : List CtrlAccess) : byHart l = l.insertionSort (fun a b => a.hart ≤ b.hart) := by
  induction l with
  | nil => rfl
  | cons a l ih => simp [byHart, ih, List.orderedInsert_eq_take_drop]

theorem byHart_perm (l : List CtrlAccess) : (byHart l).Perm l := by
  rw [byHart_eq_insertionSort]
  exact List.perm_insertionSort _ l

theorem byHart_pairwise (l : List CtrlAccess) : (byHart l).Pairwise fun a b => a.hart ≤ b.hart := by
  have : Std.Total fun a b : CtrlAccess => a.hart ≤ b.hart := ⟨fun a b => le_total a.hart b.hart⟩
  have : IsTrans CtrlAccess fun a b => a.hart ≤ b.hart := ⟨fun _ _ _ => le_trans⟩
  rw [byHart_eq_insertionSort]
  exact List.pairwise_insertionSort _ l

/-- The access of the lowest hart comes first. -/
theorem byHart_eq_cons_of_lowest {l : List CtrlAccess} {a : CtrlAccess} (hmem : a ∈ l) (hlow : ∀ b ∈ l, b = a ∨ a.hart < b.hart) :
    ∃ rest, byHart l = a :: rest := by
  have hmem' : a ∈ byHart l := (byHart_perm l).mem_iff.2 hmem
  have hsorted := byHart_pairwise l
  cases hcons : byHart l with
  | nil => simp [hcons] at hmem'
  | cons first rest =>
    rw [hcons] at hmem' hsorted
    have hfirst : first.hart ≤ a.hart := by
      obtain rfl | hrest := List.mem_cons.1 hmem'
      · exact le_rfl
      · exact List.rel_of_pairwise_cons hsorted hrest
    have hfirstMem : first ∈ l := (byHart_perm l).mem_iff.1 (hcons ▸ List.mem_cons_self)
    obtain rfl | hlt := hlow first hfirstMem
    · exact ⟨rest, rfl⟩
    · omega

/-! ### The accesses of one cycle -/

/-- Once an access is held that came before this cycle, or from no higher hart than those that follow, these only overrun. -/
theorem IdState.foldl_takeBad_of_held (es : List (Nat × Nat × Nat)) (i : IdState) (hvalid : i.badValid = true)
    (hsorted : es.Pairwise fun e f => e.2.1 ≤ f.2.1) (hheld : ∀ e ∈ es, ¬ i.DisplacedBy e) :
    es.foldl IdState.takeBad i = { i with badOverrun := i.badOverrun || !es.isEmpty, badNow := i.badNow ++ es } := by
  induction es generalizing i with
  | nil => simp
  | cons e es ih =>
    obtain ⟨hfirst, hrest⟩ := List.pairwise_cons.1 hsorted
    have hstill : ∀ f ∈ es, ¬ ({ i with badOverrun := true, badNow := i.badNow ++ [e] } : IdState).DisplacedBy f := by
      rintro f hf ⟨hnow, hlower⟩
      obtain hold | hnew := List.mem_append.1 hnow
      · exact hheld f (List.mem_cons_of_mem e hf) ⟨hold, hlower⟩
      · have hhart : i.badHart = e.2.1 := congrArg (·.2.1) (List.mem_singleton.1 hnew)
        exact absurd (hfirst f hf) (by simpa [hhart] using hlower)
    rw [List.foldl_cons, IdState.takeBad_of_not_displacedBy hvalid (hheld e List.mem_cons_self),
      ih { i with badOverrun := true, badNow := i.badNow ++ [e] } hvalid hrest hstill]
    simp

/-- The ID block after the accesses `e :: es` of one cycle, the lowest hart first (R57, R58). -/
theorem IdState.foldl_takeBad_cons (i : IdState) (e : Nat × Nat × Nat) (es : List (Nat × Nat × Nat))
    (hsorted : (e :: es).Pairwise fun e f => e.2.1 ≤ f.2.1) :
    (i.badValid = false → (e :: es).foldl IdState.takeBad i =
      { i.capture e with badOverrun := i.badOverrun || !es.isEmpty, badNow := i.badNow ++ e :: es })
    ∧ (i.badValid = true → i.DisplacedBy e → (e :: es).foldl IdState.takeBad i =
      { i.capture e with badOverrun := true, badNow := i.badNow ++ e :: es })
    ∧ (i.badValid = true → ¬ i.DisplacedBy e → (e :: es).foldl IdState.takeBad i =
      { i with badOverrun := true, badNow := i.badNow ++ e :: es }) := by
  obtain ⟨hfirst, hrest⟩ := List.pairwise_cons.1 hsorted
  refine ⟨fun hclear => ?_, fun hvalid hdisp => ?_, fun hvalid hstays => ?_⟩
  · have hheld : ∀ f ∈ es, ¬ ({ i.capture e with badNow := i.badNow ++ [e] } : IdState).DisplacedBy f :=
      fun f hf hdisp => absurd hdisp.2 (hfirst f hf).not_gt
    rw [List.foldl_cons, IdState.takeBad_of_clear hclear, IdState.foldl_takeBad_of_held es _ rfl hrest hheld]
    simp [IdState.capture]
  · have hheld : ∀ f ∈ es, ¬ ({ i.capture e with badOverrun := true, badNow := i.badNow ++ [e] } : IdState).DisplacedBy f :=
      fun f hf hdisp => absurd hdisp.2 (hfirst f hf).not_gt
    rw [List.foldl_cons, IdState.takeBad_of_displacedBy hvalid hdisp, IdState.foldl_takeBad_of_held es _ rfl hrest hheld]
    simp [IdState.capture]
  · have hheld : ∀ f ∈ e :: es, ¬ i.DisplacedBy f := by
      rintro f hf ⟨hnow, hlower⟩
      refine hstays ⟨hnow, lt_of_le_of_lt ?_ hlower⟩
      obtain rfl | hf := List.mem_cons.1 hf
      · exact le_rfl
      · exact hfirst f hf
    rw [IdState.foldl_takeBad_of_held _ i hvalid hsorted hheld]
    simp

/-! ### The row -/

/-- The ID block after a BAD_ACCESS all of whose accesses are bad: the write of 1 to VALID, then the accesses by hart. -/
theorem exec_badAccess_ids {s : State} {l : List CtrlAccess} (clearing : Bool) (hup : s.hostUp = true) (hne : l ≠ [])
    (hbad : ∀ b ∈ l, b.hart < 144 ∧ b.offset < 2 ^ 32 ∧ s.accessKind b ≠ 0) :
    ∃ t, exec (.badAccess l clearing) s = .next t
      ∧ t.ids = ((byHart l).map s.badNote).foldl IdState.takeBad { s.ids with badValid := s.ids.badValid && !clearing } := by
  have hall : l.filter (fun a => fromHost a && s.accessKind a != 0) = l := by
    refine List.filter_eq_self.2 fun b hb => ?_
    obtain ⟨hhart, hoffset, hkind⟩ := hbad b hb
    simp only [fromHost, hhart, hoffset, decide_true, Bool.and_self, Bool.true_and,
      bne_iff_ne, ne_eq, hkind, not_false_iff]
  have hsome : (byHart l).isEmpty = false := by
    rw [(byHart_perm l).isEmpty_eq]
    simpa using hne
  have hexec : exec (.badAccess l clearing) s =
      .next ((byHart l).foldl State.badAccess (if clearing then s.setIds { s.ids with badValid := false } else s)) := by
    change execBadAccess l clearing s = _
    simp only [execBadAccess, onEvent, hall, hup, hsome, Bool.not_false, Bool.and_self, if_true]
  refine ⟨_, hexec, ?_⟩
  rw [State.foldl_badAccess_ids]
  cases clearing with
  | false => simp
  | true =>
    have hnotes : (s.setIds { s.ids with badValid := false }).badNote = s.badNote :=
      s.badNote_setIds_setOutbox { s.ids with badValid := false } s.outbox
    simp [hnotes]

/-- Settles O46: of the accesses of a row the hub takes that of the lowest hart first, and what it then holds stays. -/
theorem badAccessCapture : Obligations.BadAccessCapture := by
  unfold Obligations.BadAccessCapture
  intro s l a clearing hup hmem hbad hlow
  obtain ⟨rest, hcons⟩ := byHart_eq_cons_of_lowest hmem hlow
  have hlen : l.length = rest.length + 1 := by rw [← (byHart_perm l).length_eq, hcons, List.length_cons]
  have hsorted : (s.badNote a :: rest.map s.badNote).Pairwise fun e f => e.2.1 ≤ f.2.1 := by
    have hharts := byHart_pairwise l
    rw [hcons] at hharts
    rw [← List.map_cons, List.pairwise_map]
    exact hharts
  obtain ⟨t, hexec, hids⟩ := exec_badAccess_ids clearing hup (List.ne_nil_of_mem hmem) hbad
  rw [hcons, List.map_cons] at hids
  obtain ⟨hcaptures, hdisplaces, hoverruns⟩ := IdState.foldl_takeBad_cons
    { s.ids with badValid := s.ids.badValid && !clearing } (s.badNote a) (rest.map s.badNote) hsorted
  refine ⟨t, hexec, ?_⟩
  by_cases hvalid : s.ids.badValid = true ∧ clearing = false
  · have hvalid' : (s.ids.badValid && !clearing) = true := by simp [hvalid]
    rw [if_pos hvalid]
    by_cases hdisp : (s.ids.badKind, s.ids.badHart, s.ids.badOffset) ∈ s.ids.badNow ∧ a.hart < s.ids.badHart
    · rw [if_pos hdisp, hids, hdisplaces hvalid' hdisp]
      simp [IdState.capture, State.badNote, hlen, hvalid.1]
    · rw [if_neg hdisp, hids, hoverruns hvalid' hdisp]
      simp [hlen, hvalid.1, hvalid.2]
  · have hclear : (s.ids.badValid && !clearing) = false := by simpa using hvalid
    rw [if_neg hvalid, hids, hcaptures hclear]
    cases rest <;> simp [IdState.capture, State.badNote, hlen]

end Sys2Proof.Machine
end

section
/-!
SUPPORT AND PROOF. The mailboxes of Abaom: the ring of notices (R149 to R151) and the writes of MBX_HDR (R141, R144).

What a delivery does outside the mailbox, and what a message of an agent does, stays in the module's pins, the free values and the
outbox; so each of the two statements comes down to what happens in one mailbox.
-/

namespace Sys2Proof.Machine

/-! ### One mailbox of the 64 -/

theorem State.mbx_putMbx_same {s : State} {n : Nat} (hn : n < s.mbxs.length) (m : Mailbox) : (s.putMbx n m).mbx n = m := by
  simp [State.mbx, State.putMbx, nth, hn]

theorem State.mbx_putMbx_ne (s : State) {n k : Nat} (hk : k ≠ n) (m : Mailbox) : (s.putMbx n m).mbx k = s.mbx k := by
  simp [State.mbx, State.putMbx, nth, List.getElem?_set_ne hk.symm]

/-! ### Notices (R149 to R153) -/

/-- The mailbox after a notice: the slot at HEAD written, or the notice counted in LOST (R150). -/
def Mailbox.noticed (m : Mailbox) (words : List Word) : Mailbox :=
  if (m.head + 1) % 16 = m.tail then { m with lost := (m.lost + 1) % 2 ^ 16 }
  else { m with slots := m.slots.set m.head words, head := (m.head + 1) % 16 }

theorem Mailbox.noticed_of_full {m : Mailbox} (hfull : (m.head + 1) % 16 = m.tail) (words : List Word) :
    m.noticed words = { m with lost := (m.lost + 1) % 2 ^ 16 } := if_pos hfull

theorem Mailbox.noticed_of_not_full {m : Mailbox} (hroom : (m.head + 1) % 16 ≠ m.tail) (words : List Word) :
    m.noticed words = { m with slots := m.slots.set m.head words, head := (m.head + 1) % 16 } := if_neg hroom

/-- An interrupt is an identity pending at a hart and an MSI sent. -/
theorem State.interrupt_eq (s : State) (n : Nat) : ∃ c o, s.interrupt n = (s.setConn c).setOutbox o := by
  simp only [State.interrupt]
  split_ifs
  · exact ⟨s.conn, s.outbox, rfl⟩
  · exact ⟨s.conn, _, rfl⟩
  · exact ⟨_, _, rfl⟩
  · exact ⟨s.conn, s.outbox, rfl⟩

/-- An in-band interrupt is sent, or nothing. -/
theorem State.alertSince_eq (s before : State) : ∃ o, s.alertSince before = s.setOutbox o := by
  simp only [State.alertSince]
  split_ifs
  · exact ⟨_, rfl⟩
  · exact ⟨s.outbox, rfl⟩

/-- A message to the agent of record takes a free value for its TAG and is sent (R848). -/
theorem State.tellAgent_eq (s : State) (command : Nat) (fields : List Byte) :
    ∃ f o, s.tellAgent command fields = (s.setFreeCtr f).setOutbox o := by
  simp only [State.tellAgent]
  cases s.agentOfRecord with
  | none => exact ⟨s.freeCtr, s.outbox, rfl⟩
  | some a => exact ⟨_, _, rfl⟩

/-- A notice changes its mailbox; beside that only the interrupt or the message that tells of it is seen. -/
theorem State.postNotice_eq (s : State) (n : Nat) (words : List Word) :
    ∃ c f o, s.postNotice n words = (((s.putMbx n ((s.mbx n).noticed words)).setConn c).setFreeCtr f).setOutbox o := by
  by_cases hfull : ((s.mbx n).head + 1) % 16 = (s.mbx n).tail
  · refine ⟨s.conn, s.freeCtr, s.outbox, ?_⟩
    rw [Mailbox.noticed_of_full hfull]
    simp only [State.postNotice, if_pos hfull]
    rfl
  · rw [Mailbox.noticed_of_not_full hfull]
    simp only [State.postNotice, if_neg hfull]
    generalize s.putMbx n { s.mbx n with
      slots := (s.mbx n).slots.set (s.mbx n).head words, head := ((s.mbx n).head + 1) % 16 } = t
    split_ifs
    · obtain ⟨o, ho⟩ := t.alertSince_eq s
      obtain ⟨f, o', htell⟩ := (t.setOutbox o).tellAgent_eq 0x81
        ((words.map fun w => beBytes 8 w.toNat).flatten ++ beBytes 1 (s.mbx n).head)
      exact ⟨t.conn, f, o', by rw [ho, htell]; rfl⟩
    · obtain ⟨c, o, hint⟩ := t.interrupt_eq n
      exact ⟨c, t.freeCtr, o, hint⟩
    · exact ⟨t.conn, t.freeCtr, t.outbox, rfl⟩

theorem State.mbx_postNotice_same {s : State} {n : Nat} (hn : n < s.mbxs.length) (words : List Word) :
    (s.postNotice n words).mbx n = (s.mbx n).noticed words := by
  obtain ⟨c, f, o, hpost⟩ := s.postNotice_eq n words
  rw [hpost]
  exact State.mbx_putMbx_same hn _

theorem State.mbx_postNotice_ne (s : State) {n k : Nat} (hk : k ≠ n) (words : List Word) :
    (s.postNotice n words).mbx k = s.mbx k := by
  obtain ⟨c, f, o, hpost⟩ := s.postNotice_eq n words
  rw [hpost]
  exact s.mbx_putMbx_ne hk _

theorem State.postNotice_mem (s : State) (n : Nat) (words : List Word) : (s.postNotice n words).mem = s.mem := by
  obtain ⟨c, f, o, hpost⟩ := s.postNotice_eq n words
  rw [hpost]
  rfl

theorem State.postNotice_ctxs (s : State) (n : Nat) (words : List Word) : (s.postNotice n words).ctxs = s.ctxs := by
  obtain ⟨c, f, o, hpost⟩ := s.postNotice_eq n words
  rw [hpost]
  rfl

/-- Settles O8: the mailbox takes the notice as `Mailbox.noticed` says, and its delivery touches no mailbox. -/
theorem noticeRing : Obligations.NoticeRing := by
  unfold Obligations.NoticeRing
  intro s n words hn hslots hhead
  refine ⟨fun k hk => s.mbx_postNotice_ne hk words, s.postNotice_mem n words, s.postNotice_ctxs n words,
    fun hfull => ?_, fun hroom => ?_⟩
  · rw [State.mbx_postNotice_same hn, Mailbox.noticed_of_full hfull]
  · rw [State.mbx_postNotice_same hn, Mailbox.noticed_of_not_full hroom]
    exact ⟨rfl, by simp [nth, hslots, hhead]⟩

/-! ### Writes of MBX_HDR (R138, R141, R144) -/

theorem fieldNat_eq_div_mod {w : Nat} (x : BitVec w) (hi lo : Nat) : fieldNat x hi lo = x.toNat / 2 ^ lo % 2 ^ (hi + 1 - lo) := by
  rw [fieldNat, Nat.shiftRight_eq_div_pow]

/-- STATE is the top field of a header word. -/
theorem fieldNat_hdrState (v : Word) : fieldNat v 63 62 = v.toNat / 2 ^ 62 := by
  have hv : v.toNat < 2 ^ 64 := v.isLt
  rw [fieldNat_eq_div_mod]
  omega

/-- A header word that asks for BUSY or DONE, or for IDLE of a mailbox in BUSY. -/
def Mailbox.IgnoresHdr (m : Mailbox) (v : Word) : Prop := 2 ≤ v.toNat / 2 ^ 62 ∨ (m.st = .busy ∧ v.toNat / 2 ^ 62 = 0)

/-- The mailbox in IDLE, with the other fields of a header word. -/
def Mailbox.idled (m : Mailbox) (v : Word) : Mailbox :=
  { m with
    st := .idle, irq := v.getLsbD 61, argWords := v.toNat / 2 ^ 48 % 2 ^ 8, opcode := v.toNat / 2 ^ 32 % 2 ^ 16
    tag := v.toNat % 2 ^ 16 }

theorem State.writeHdr_of_busy {s : State} {n : Nat} (hbusy : (s.mbx n).st = .busy) (v : Word) : s.writeHdr n v = s := by
  simp only [State.writeHdr, hbusy]

theorem State.writeHdr_of_two_le {s : State} (n : Nat) {v : Word} (hv : 2 ≤ v.toNat / 2 ^ 62) : s.writeHdr n v = s := by
  obtain ⟨k, hk⟩ := Nat.exists_eq_add_of_le' hv
  simp only [State.writeHdr, fieldNat_hdrState, hk]
  cases (s.mbx n).st <;> rfl

theorem State.writeHdr_of_ignoresHdr {s : State} {n : Nat} {v : Word} (hignored : (s.mbx n).IgnoresHdr v) : s.writeHdr n v = s := by
  obtain hv | ⟨hbusy, -⟩ := hignored
  · exact State.writeHdr_of_two_le n hv
  · exact State.writeHdr_of_busy hbusy v

theorem State.writeHdr_of_done_of_idle {s : State} {n : Nat} {v : Word} (hdone : (s.mbx n).st = .done) (hv : v.toNat / 2 ^ 62 = 0) :
    s.writeHdr n v = s.putMbx n ((s.mbx n).idled v) := by
  simp only [State.writeHdr, hdone, fieldNat_hdrState, hv]
  simp [Mailbox.idled, fieldNat_eq_div_mod, bitAt]

/-- R144 of a state `t` that follows a write of `v` to the header of mailbox `n`. -/
def State.HdrWritten (s : State) (n : Nat) (v : Word) (t : State) : Prop :=
  ((s.mbx n).IgnoresHdr v → t.mbxs = s.mbxs ∧ t.abaom = s.abaom)
  ∧ ((s.mbx n).st = .done → v.toNat / 2 ^ 62 = 0 → n < s.mbxs.length →
      t.abaom = s.abaom ∧ t.mbx n = (s.mbx n).idled v ∧ ∀ k, k ≠ n → t.mbx k = s.mbx k)

theorem State.hdrWritten_writeHdr (s : State) (n : Nat) (v : Word) : s.HdrWritten n v (s.writeHdr n v) := by
  refine ⟨fun hignored => ?_, fun hdone hv hn => ?_⟩
  · rw [State.writeHdr_of_ignoresHdr hignored]
    exact ⟨rfl, rfl⟩
  · rw [State.writeHdr_of_done_of_idle hdone hv]
    exact ⟨rfl, State.mbx_putMbx_same hn _, fun k hk => s.mbx_putMbx_ne hk _⟩

/-- The agent of record and the reply are no part of R144. -/
theorem State.hdrWritten_setConn_reply {s t : State} {n : Nat} {v : Word} {c : ModuleState} (h : (s.setConn c).HdrWritten n v t)
    (a : Agent) (command tag status : Nat) (fields : List Byte) : s.HdrWritten n v (t.reply a command tag status fields) := h

/-! ### The rows that write a header (R16, R136, R847, R848) -/

theorem exec_registerWrite (hart off : Nat) (v : Word) (s : State) :
    exec (.registerWrite hart off v) s = execRegisterWrite hart off v s := rfl

theorem exec_mbxWrite (a : Agent) (tag off n : Nat) (words : List Word) (s : State) :
    exec (.mbxWrite a tag off n words) s = execMbxWrite a tag off n words s := rfl

/-- MBX_HDR opens the page of each mailbox (R137). -/
theorem State.mbxPage_zero (s : State) (n : Nat) : s.mbxPage n 0 = some (s.mbx n).hdrWord := rfl

/-- Where the page of mailbox `n` lies in the control space (R42). -/
theorem State.ctrlRead_hdr (s : State) {n : Nat} (hn : n < 64) :
    s.ctrlRead (0x10000 + 0x1000 * n) = some (s.mbx n).hdrWord := by
  have hpage : (0x10000 + 0x1000 * n - 0x10000) / 0x1000 = n := by omega
  have hoff : (0x10000 + 0x1000 * n) % 0x1000 = 0 := by omega
  rw [State.ctrlRead, if_neg (by omega), if_neg (by omega), if_pos (by omega), hpage, hoff, State.mbxPage_zero]

theorem State.ctrlWrite_hdr (s : State) {n : Nat} (hn : n < 63) (v : Word) :
    s.ctrlWrite (0x10000 + 0x1000 * n) v = s.writeHdr n v := by
  have hpage : (0x10000 + 0x1000 * n - 0x10000) / 0x1000 = n := by omega
  have hoff : (0x10000 + 0x1000 * n) % 0x1000 = 0 := by omega
  simp only [State.ctrlWrite, if_neg (show ¬ 0x10000 + 0x1000 * n < 0x10000 by omega),
    if_pos (show 0x10000 + 0x1000 * n < 0x50000 by omega), hpage, hoff, if_neg (show ¬ n = 63 by omega)]
  rfl

/-- A host's write of the header of a mailbox of hosts. -/
theorem exec_registerWrite_hdr {s : State} {hart n : Nat} (hup : s.hostUp = true) (hhart : hart < 144) (hn : n < 63) (v : Word) :
    exec (.registerWrite hart (0x10000 + 0x1000 * n) v) s = .next (s.writeHdr n v) := by
  have hhost : fromHost ⟨hart, 0x10000 + 0x1000 * n, 8, true⟩ = true := by
    simp only [fromHost, Bool.and_eq_true, decide_eq_true_eq]
    omega
  have hgood : s.accessKind ⟨hart, 0x10000 + 0x1000 * n, 8, true⟩ = 0 := by
    simp only [State.accessKind, State.ctrlRead_hdr s (show n < 64 by omega)]
    rw [if_neg (by omega)]
    rfl
  rw [exec_registerWrite]
  simp only [execRegisterWrite, onEvent, hup, hhost, hgood, Bool.and_self, if_true, State.ctrlWrite_hdr s hn]

/-- Every interface carries a message of one word (R843, R845, R847). -/
theorem not_transferUnit_lt_oneWord (a : Agent) : ¬ transferUnit a < headBytes + 3 + 8 * 1 := by
  cases a <;> simp [transferUnit, headBytes]

/-- An agent's write of the header of mailbox 63: it is the agent of record from then on, and it is answered (R848). -/
theorem exec_mbxWrite_hdr {s : State} (hup : s.mbx63Up = true) (hpage : s.pageRun 0 1 = true) (a : Agent) (tag : Nat) (v : Word) :
    exec (.mbxWrite a tag 0 1 [v]) s =
      .next (((s.setConn { s.conn with record := some a }).writeHdr 63 v).reply a 0x02 tag stOk []) := by
  have hlen : ¬ (255 < 1 ∨ [v].length ≠ 1 ∨ transferUnit a < headBytes + 3 + 8 * 1) := by
    simpa using not_transferUnit_lt_oneWord a
  rw [exec_mbxWrite]
  simp only [execMbxWrite, onEvent, hup, if_true, State.agentWrite, if_neg hlen, hpage, Bool.not_true]
  rfl

/-- Settles O47: a host's write is the write of the header, an agent's is that and its reply. -/
theorem mailboxHeaderWrites : Obligations.MailboxHeaderWrites := by
  unfold Obligations.MailboxHeaderWrites
  intro s v
  refine ⟨fun hart n hup hhart hn => ?_, fun a tag hup hpage => ?_⟩
  · exact ⟨_, exec_registerWrite_hdr hup hhart hn v, s.hdrWritten_writeHdr n v, State.writeHdr_of_ignoresHdr⟩
  · exact ⟨_, exec_mbxWrite_hdr hup hpage a tag v,
      State.hdrWritten_setConn_reply (State.hdrWritten_writeHdr _ 63 v) a 0x02 tag stOk []⟩

end Sys2Proof.Machine
end

section
/-!
SUPPORT AND PROOF. The 64 scalar registers of a group (R207).

One lemma per case of `Group.setScalar` and of the read that follows it. s0 is no cell of its own: the read answers 0 and the write
is dropped before the list is looked at, so the other registers keep their places in it.
-/

namespace Sys2Proof.Machine

/-! ### s0 -/

@[simp] theorem Group.scalar_zero (g : Group) : g.scalar 0 = 0 := if_pos rfl

@[simp] theorem Group.setScalar_zero (g : Group) (v : Nat) : g.setScalar 0 v = g := if_pos rfl

/-! ### The other registers -/

theorem Group.scalar_of_ne_zero (g : Group) {n : Nat} (hn : n ≠ 0) : g.scalar n = (nth g.sregs n 0).toNat := if_neg hn

theorem Group.sregs_setScalar (g : Group) {n : Nat} (hn : n ≠ 0) (v : Nat) :
    (g.setScalar n v).sregs = g.sregs.set n (BitVec.ofNat 64 v) := by
  rw [Group.setScalar, if_neg hn]

@[simp] theorem Group.length_sregs_setScalar (g : Group) (n v : Nat) : (g.setScalar n v).sregs.length = g.sregs.length := by
  rcases eq_or_ne n 0 with rfl | hn
  · rw [Group.setScalar_zero]
  · rw [Group.sregs_setScalar g hn, List.length_set]

/-- A register holds 64 bits, so what it reads back is the written value's low 64. -/
theorem Group.scalar_setScalar_same {g : Group} {n : Nat} (hn : n ≠ 0) (hlen : n < g.sregs.length) (v : Nat) :
    (g.setScalar n v).scalar n = v % 2 ^ 64 := by
  rw [Group.scalar_of_ne_zero _ hn, Group.sregs_setScalar g hn, nth, List.getElem?_set_self hlen, Option.getD_some,
    BitVec.toNat_ofNat]

theorem Group.scalar_setScalar_ne (g : Group) {n m : Nat} (hnm : n ≠ m) (v : Nat) :
    (g.setScalar n v).scalar m = g.scalar m := by
  rcases eq_or_ne n 0 with rfl | hn
  · rw [Group.setScalar_zero]
  · rcases eq_or_ne m 0 with rfl | hm
    · rw [Group.scalar_zero, Group.scalar_zero]
    · rw [Group.scalar_of_ne_zero _ hm, Group.scalar_of_ne_zero _ hm, Group.sregs_setScalar g hn, nth,
        List.getElem?_set_ne hnm, nth]

/-! ### At the start of the group -/

theorem Group.sregs_start (regs entry : Nat) (ftz : Bool) :
    (Group.start regs entry ftz).sregs = List.replicate 64 0 := rfl

/-- Also past s63, where the read finds no register. -/
theorem Group.scalar_start (regs entry : Nat) (ftz : Bool) (n : Nat) : (Group.start regs entry ftz).scalar n = 0 := by
  rcases eq_or_ne n 0 with rfl | hn
  · exact Group.scalar_zero _
  · rw [Group.scalar_of_ne_zero _ hn, Group.sregs_start, nth, List.getElem?_replicate]
    split_ifs <;> rfl

/-- Settles O23: s0 is neither read nor written, and the others are the cells of a list of 64 zeros. -/
theorem scalarRegisters : Obligations.ScalarRegisters := by
  unfold Obligations.ScalarRegisters
  intro g
  refine ⟨g.scalar_zero, g.setScalar_zero, fun k v hk hlen => ?_, fun k j v hkj => ?_, g.length_sregs_setScalar,
    fun regs entry ftz => ⟨?_, ?_⟩⟩
  · exact Group.scalar_setScalar_same hk.ne' hlen v
  · exact g.scalar_setScalar_ne hkj v
  · rw [Group.sregs_start, List.length_replicate]
  · exact Group.scalar_start regs entry ftz

end Sys2Proof.Machine
end

section
/-!
SUPPORT AND PROOF. What every command and every reference cycle leave as it is: the queue of commands, and the canonical form of
stacked memory (log 5). One lemma for each of the machine's functions, in the order of the model: the machine that it answers keeps
them where the machine that it starts from does. All that writes to stacked memory goes through `cellWrite`, which keeps the form.
-/

namespace Sys2Proof.Machine

set_option Elab.async false
open Sys2Proof

/-- What every command leaves as it is: the queue of commands, and the canonical form of stacked memory (log 5). -/
def State.Keeps (s t : State) : Prop := t.pending = s.pending ∧ (s.hbmWf → t.hbmWf)

@[simp] theorem State.Keeps.refl (s : State) : s.Keeps s := ⟨rfl, id⟩

theorem State.Keeps.trans {s t u : State} (h : s.Keeps t) (k : t.Keeps u) : s.Keeps u :=
  ⟨k.1.trans h.1, k.2 ∘ h.2⟩

@[simp] theorem State.Keeps.ite {s t u : State} {c : Prop} [Decidable c] (ht : s.Keeps t) (hu : s.Keeps u) :
    s.Keeps (if c then t else u) := by
  split
  · exact ht
  · exact hu

/-- A fold keeps them where each of its steps does. -/
@[simp] theorem State.Keeps.foldl {α : Type} {s t : State} {f : State → α → State}
    (hf : ∀ (u : State) x, u.Keeps (f u x)) (h : s.Keeps t) (l : List α) : s.Keeps (l.foldl f t) := by
  induction l generalizing t with
  | nil => exact h
  | cons x l ih => exact ih (h.trans (hf t x))

/-- The outcome is a next state, and it keeps them. -/
def State.Yields (s : State) (o : Host.Outcome State Fault Refusal) : Prop := ∃ t, o = .next t ∧ s.Keeps t

@[simp] theorem State.yields_next {s t : State} : s.Yields (.next t) ↔ s.Keeps t :=
  ⟨fun ⟨_, hu, h⟩ => by cases hu; exact h, fun h => ⟨t, rfl, h⟩⟩

@[simp] theorem State.Yields.ite {s : State} {o p : Host.Outcome State Fault Refusal} {c : Prop} [Decidable c]
    (ho : s.Yields o) (hp : s.Yields p) : s.Yields (if c then o else p) := by
  split
  · exact ho
  · exact hp

/-- Every machine that an effect carries keeps them. -/
def State.KeepsEffect (s : State) : Effect → Prop
  | .done _ t => s.Keeps t
  | .split _ t _ => s.Keeps t
  | .raise _ _ _ => True
  | .fault t _ _ => s.Keeps t
  | .wait t => s.Keeps t
  | .poison => True

@[simp] theorem State.keepsEffect_done {s t : State} {g : Group} : s.KeepsEffect (.done g t) ↔ s.Keeps t := Iff.rfl

@[simp] theorem State.keepsEffect_split {s t : State} {g : Group} {l : List SubGroup} :
    s.KeepsEffect (.split g t l) ↔ s.Keeps t := Iff.rfl

@[simp] theorem State.keepsEffect_raise {s : State} {x : Exc} {m : BitVec 32} {i : Nat} :
    s.KeepsEffect (.raise x m i) := trivial

@[simp] theorem State.keepsEffect_fault {s t : State} {m : BitVec 32} {i : Nat} :
    s.KeepsEffect (.fault t m i) ↔ s.Keeps t := Iff.rfl

@[simp] theorem State.keepsEffect_wait {s t : State} : s.KeepsEffect (.wait t) ↔ s.Keeps t := Iff.rfl

@[simp] theorem State.keepsEffect_poison {s : State} : s.KeepsEffect .poison := trivial

@[simp] theorem State.KeepsEffect.ite {s : State} {e f : Effect} {c : Prop} [Decidable c] (he : s.KeepsEffect e)
    (hf : s.KeepsEffect f) : s.KeepsEffect (if c then e else f) := by
  split
  · exact he
  · exact hf

theorem State.Keeps.of_eq {α : Type} {s u : State} {x : α} {p : State × α} (h : s.Keeps p.1) (hu : p = (u, x)) : s.Keeps u := by
  subst hu
  exact h

theorem State.Keeps.getD {s t : State} {o : Option State} (h : s.Keeps t) (ho : ∀ u, o = some u → s.Keeps u) :
    s.Keeps (o.getD t) := by
  cases o with
  | none => exact h
  | some u => exact ho u rfl

/-! ### Setters -/

@[simp] theorem State.keeps_setConn {s t : State} (h : s.Keeps t) (v) : s.Keeps (t.setConn v) := h
@[simp] theorem State.keeps_setIds {s t : State} (h : s.Keeps t) (v) : s.Keeps (t.setIds v) := h
@[simp] theorem State.keeps_setTime {s t : State} (h : s.Keeps t) (v) : s.Keeps (t.setTime v) := h
@[simp] theorem State.keeps_setStakes {s t : State} (h : s.Keeps t) (v) : s.Keeps (t.setStakes v) := h
@[simp] theorem State.keeps_setMbxs {s t : State} (h : s.Keeps t) (v) : s.Keeps (t.setMbxs v) := h
@[simp] theorem State.keeps_setAbaom {s t : State} (h : s.Keeps t) (v) : s.Keeps (t.setAbaom v) := h
@[simp] theorem State.keeps_setCtxs {s t : State} (h : s.Keeps t) (v) : s.Keeps (t.setCtxs v) := h
@[simp] theorem State.keeps_setShare {s t : State} (h : s.Keeps t) (v) : s.Keeps (t.setShare v) := h
@[simp] theorem State.keeps_setCompute {s t : State} (h : s.Keeps t) (v) : s.Keeps (t.setCompute v) := h
@[simp] theorem State.keeps_setXlat {s t : State} (h : s.Keeps t) (v) : s.Keeps (t.setXlat v) := h
@[simp] theorem State.keeps_setFab {s t : State} (h : s.Keeps t) (v) : s.Keeps (t.setFab v) := h
@[simp] theorem State.keeps_setCoh {s t : State} (h : s.Keeps t) (v) : s.Keeps (t.setCoh v) := h
@[simp] theorem State.keeps_setJoined {s t : State} (h : s.Keeps t) (v) : s.Keeps (t.setJoined v) := h
@[simp] theorem State.keeps_setMonu {s t : State} (h : s.Keeps t) (v) : s.Keeps (t.setMonu v) := h
@[simp] theorem State.keeps_setPwr {s t : State} (h : s.Keeps t) (v) : s.Keeps (t.setPwr v) := h
@[simp] theorem State.keeps_setTrust {s t : State} (h : s.Keeps t) (v) : s.Keeps (t.setTrust v) := h
@[simp] theorem State.keeps_setDies {s t : State} (h : s.Keeps t) (v) : s.Keeps (t.setDies v) := h
@[simp] theorem State.keeps_setObs {s t : State} (h : s.Keeps t) (v) : s.Keeps (t.setObs v) := h
@[simp] theorem State.keeps_setFreeCtr {s t : State} (h : s.Keeps t) (v) : s.Keeps (t.setFreeCtr v) := h
@[simp] theorem State.keeps_setOutbox {s t : State} (h : s.Keeps t) (v) : s.Keeps (t.setOutbox v) := h

/-- A write of the memory's other fields. -/
@[simp] theorem State.keeps_setMem {s t : State} (h : s.Keeps t) {v : MemState} (hv : v.hbm = t.mem.hbm) :
    s.Keeps (t.setMem v) :=
  ⟨h.1, fun hs => (congrArg (Memory.wf · = true) hv).mpr (h.2 hs)⟩

/-- A run of bytes written to stacked memory. -/
theorem State.keeps_setMem_cellWrite {s t : State} (h : s.Keeps t) {v : MemState} {a : Nat} {bs : List Byte}
    (hv : v.hbm = cellWrite t.mem.hbm a bs) : s.Keeps (t.setMem v) :=
  ⟨h.1, fun hs => (congrArg (Memory.wf · = true) hv).mpr (cellWrite_wf a bs (h.2 hs))⟩

/-! ### Ops -/

@[simp] theorem State.keeps_putMbx {s t : State} (h : s.Keeps t) (n m) : s.Keeps (t.putMbx n m) := by
  simp [State.putMbx, h]

@[simp] theorem State.keeps_putCtx {s t : State} (h : s.Keeps t) (c x) : s.Keeps (t.putCtx c x) := by
  simp [State.putCtx, h]

@[simp] theorem State.keeps_putPort {s t : State} (h : s.Keeps t) (p x) : s.Keeps (t.putPort p x) := by
  simp [State.putPort, h]

@[simp] theorem State.keeps_emit {s t : State} (h : s.Keeps t) (o) : s.Keeps (t.emit o) := by
  simp [State.emit, h]

@[simp] theorem State.keeps_fresh {s t : State} (h : s.Keeps t) : s.Keeps (t.fresh).2 := by
  simp [State.fresh, h]

@[simp] theorem State.keeps_setHot {s t : State} (h : s.Keeps t) (off bit) : s.Keeps (t.setHot off bit) := by
  simp [State.setHot, h]

@[simp] theorem State.keeps_count {s t : State} (h : s.Keeps t) (i n) : s.Keeps (t.count i n) := by
  simp [State.count, h]

@[simp] theorem State.keeps_nearMissed {s t : State} (h : s.Keeps t) (deadline stamp) :
    s.Keeps (t.nearMissed deadline stamp) := by
  unfold State.nearMissed; split <;> simp [h]

@[simp] theorem State.keeps_progCount {s t : State} (h : s.Keeps t) (cluster ctx code n) :
    s.Keeps (t.progCount cluster ctx code n) :=
  State.Keeps.foldl (fun u _ => State.Keeps.ite (State.keeps_setObs (.refl u) _) (.refl u)) h _

@[simp] theorem State.keeps_sectorWrite {s t : State} (h : s.Keeps t) (sector pa bytes) :
    s.Keeps (t.sectorWrite sector pa bytes) := by
  simp only [State.sectorWrite]
  split_ifs
  · exact h
  · exact State.keeps_setMem_cellWrite h rfl
  · exact h
  · exact State.keeps_setMem_cellWrite h rfl

@[simp] theorem State.keeps_hubWrite {s t : State} (h : s.Keeps t) (pa bytes) : s.Keeps (t.hubWrite pa bytes) := by
  simp [State.hubWrite, h]

@[simp] theorem State.keeps_wakeLines {s t : State} (h : s.Keeps t) (pa n) : s.Keeps (t.wakeLines pa n) := by
  simp [State.wakeLines, h]

@[simp] theorem State.keeps_hbmWrite {s t : State} (h : s.Keeps t) (pa bytes) : s.Keeps (t.hbmWrite pa bytes) := by
  simp [State.hbmWrite, h]

@[simp] theorem State.keeps_memError {s t : State} (h : s.Keeps t) (kind place) : s.Keeps (t.memError kind place) := by
  refine State.keeps_setMem h ?_
  simp only [MemState.capture]
  split_ifs <;> rfl

@[simp] theorem State.keeps_putUnit {s t : State} (h : s.Keeps t) (u x) : s.Keeps (t.putUnit u x) := by
  simp [State.putUnit, h]

@[simp] theorem State.keeps_trace {s t : State} (h : s.Keeps t) (u mt flags rec) : s.Keeps (t.trace u mt flags rec).1 := by
  simp only [State.trace]; (repeat' split) <;> simp [h]

theorem State.keeps_of_trace {s t u1 : State} {u mt flags rec} {x} (h : s.Keeps t) (hu : t.trace u mt flags rec = (u1, x)) :
    s.Keeps u1 :=
  (State.keeps_trace h _ _ _ _).of_eq hu

@[simp] theorem State.keeps_traceKept {s t : State} (h : s.Keeps t) (u mt flags rec) :
    s.Keeps (t.traceKept u mt flags rec) := by
  simp only [State.traceKept]; (repeat' split) <;> simp [h]

@[simp] theorem State.keeps_fireTrigger {s t : State} (h : s.Keeps t) (mt late) : s.Keeps (t.fireTrigger mt late) := by
  simp [State.fireTrigger, h]

@[simp] theorem State.keeps_tellAgent {s t : State} (h : s.Keeps t) (command fields) :
    s.Keeps (t.tellAgent command fields) := by
  unfold State.tellAgent; split <;> simp [h]

@[simp] theorem State.keeps_alertSince {s t : State} (h : s.Keeps t) (before) : s.Keeps (t.alertSince before) := by
  simp [State.alertSince, h]

@[simp] theorem State.keeps_interrupt {s t : State} (h : s.Keeps t) (n) : s.Keeps (t.interrupt n) := by
  simp only [State.interrupt]; (repeat' split) <;> simp [h]

@[simp] theorem State.keeps_postNotice {s t : State} (h : s.Keeps t) (n words) : s.Keeps (t.postNotice n words) := by
  grind [State.postNotice, State.keeps_putMbx, State.keeps_tellAgent, State.keeps_alertSince, State.keeps_interrupt]

@[simp] theorem State.keeps_notify {s t : State} (h : s.Keeps t) (mbxs kind status ctx mt flags detail) :
    s.Keeps (t.notify mbxs kind status ctx mt flags detail) := by
  grind [State.notify, State.keeps_postNotice, State.keeps_traceKept, State.keeps_fireTrigger, State.Keeps.foldl,
    State.Keeps.refl]

@[simp] theorem State.keeps_complete {s t : State} (h : s.Keeps t) (n status results) :
    s.Keeps (t.complete n status results) := by
  grind [State.complete, State.keeps_putMbx, State.keeps_alertSince, State.keeps_setConn, State.keeps_tellAgent,
    State.keeps_interrupt]

@[simp] theorem State.keeps_begin_ {s t : State} (h : s.Keeps t) (n) : s.Keeps (t.begin_ n) := by
  simp [State.begin_, h]

@[simp] theorem State.keeps_dropService {s t : State} (h : s.Keeps t) (r) : s.Keeps (t.dropService r) := by
  simp [State.dropService, h]

@[simp] theorem yields_runCommand {s t : State} {f : State → State} (h : s.Keeps t) (hf : s.Keeps (f t)) (n opcode) :
    s.Yields (runCommand n opcode f t) := by
  simp [runCommand, h, hf]

@[simp] theorem yields_onEvent {s t : State} {f : State → State} (h : s.Keeps t) (hf : s.Keeps (f t)) (c) :
    s.Yields (onEvent c f t) := by
  simp [onEvent, h, hf]

/-! ### Image -/

@[simp] theorem State.keeps_commitCut {s t : State} (h : s.Keeps t) (n) : s.Keeps (t.commitCut n) := by
  simp only [State.commitCut]; (repeat' split) <;> simp [h]

@[simp] theorem State.keeps_heardUpdate {s t : State} (h : s.Keeps t) (n opcode) : s.Keeps (t.heardUpdate n opcode) := by
  unfold State.heardUpdate; split <;> simp [h]

@[simp] theorem State.keeps_keepLog {s t : State} (h : s.Keeps t) (n) : s.Keeps (t.keepLog n) := by
  simp [State.keepLog, h]

/-! ### Sync -/

@[simp] theorem State.keeps_syncUnit {s t : State} (h : s.Keeps t) (u) : s.Keeps (t.syncUnit u) := by
  simp [State.syncUnit, h]

@[simp] theorem State.keeps_syncAll {s t : State} (h : s.Keeps t) : s.Keeps (t.syncAll) := by
  simp [State.syncAll, h]

@[simp] theorem State.keeps_synced {s t : State} (h : s.Keeps t) (old) : s.Keeps (State.synced old t) := by
  simp [State.synced, h]

@[simp] theorem yields_onTime {s t : State} {f : State → State} (h : s.Keeps t) (hf : s.Keeps (f t)) (c) :
    s.Yields (onTime c f t) := by
  simp [onTime, h, hf]

@[simp] theorem State.keeps_syncCorrection {s t : State} (h : s.Keeps t) (corr) : s.Keeps (t.syncCorrection corr) := by
  simp [State.syncCorrection, h]

@[simp] theorem State.keeps_loseAlignment {s t : State} (h : s.Keeps t) (refused) : s.Keeps (t.loseAlignment refused) := by
  simp [State.loseAlignment, h]

@[simp] theorem State.keeps_failBacksight {s t : State} (h : s.Keeps t) (refused) : s.Keeps (t.failBacksight refused) := by
  simp [State.failBacksight, h]

/-! ### Transport -/

@[simp] theorem State.keeps_emitFrame {s t : State} (h : s.Keeps t) (p f) : s.Keeps (t.emitFrame p f) := by
  simp [State.emitFrame, h]

@[simp] theorem State.keeps_sendOn {s t : State} (h : s.Keeps t) (p f) : s.Keeps (t.sendOn p f) := by
  grind [State.sendOn, State.keeps_putPort, State.keeps_emitFrame, State.keeps_count]

@[simp] theorem State.keeps_chargeTx {s t : State} (h : s.Keeps t) (c n) : s.Keeps (t.chargeTx c n) := by
  simp [State.chargeTx, h]

@[simp] theorem State.keeps_chargeRx {s t : State} (h : s.Keeps t) (c n) : s.Keeps (t.chargeRx c n) := by
  simp [State.chargeRx, h]

@[simp] theorem State.keeps_putBucket {s t : State} (h : s.Keeps t) (part point b) : s.Keeps (t.putBucket part point b) := by
  simp [State.putBucket, h]

@[simp] theorem State.keeps_sendRegulated {s t : State} (h : s.Keeps t) (p ctx f) : s.Keeps (t.sendRegulated p ctx f) := by
  grind [State.sendRegulated, State.keeps_chargeTx, State.keeps_sendOn, State.keeps_setShare, State.keeps_putBucket]

@[simp] theorem State.keeps_putSend {s t : State} (h : s.Keeps t) (fl) : s.Keeps (t.putSend fl) := by
  simp [State.putSend, h]

@[simp] theorem State.keeps_putRecv {s t : State} (h : s.Keeps t) (r) : s.Keeps (t.putRecv r) := by
  simp [State.putRecv, h]

@[simp] theorem State.keeps_tagTie {s t : State} (h : s.Keeps t) (op tag) : s.Keeps (t.tagTie op tag) := by
  unfold State.tagTie; split <;> simp [h]

@[simp] theorem State.keeps_launchFrame {s t : State} (h : s.Keeps t) (fl u) : s.Keeps (t.launchFrame fl u) := by
  grind [State.launchFrame, State.keeps_putRecv, State.keeps_sendRegulated, State.keeps_tagTie, State.keeps_putSend]

@[simp] theorem State.keeps_flowPut {s t : State} (h : s.Keeps t) (fl u) : s.Keeps (t.flowPut fl u) := by
  simp [State.flowPut, h]

theorem State.keeps_flowSend {s t u : State} (h : s.Keeps t) {h1 payload op} (hu : t.flowSend h1 payload op = some u) :
    s.Keeps u := by
  obtain ⟨p, -, rfl⟩ := Option.map_eq_some_iff.mp hu
  exact State.keeps_flowPut h _ _

@[simp] theorem State.keeps_pump {s t : State} (h : s.Keeps t) (n dst kind ctx) : s.Keeps (State.pump n t dst kind ctx) := by
  induction n generalizing t with
  | zero => exact h
  | succ n ih =>
    unfold State.pump
    split
    · exact h
    · split
      · exact h
      · exact State.Keeps.ite h (ih (State.keeps_launchFrame h _ _))

theorem State.keeps_ctrlTo {s t u : State} (h : s.Keeps t) {dst ws op} (hu : t.ctrlTo dst ws op = some u) : s.Keeps u := by
  grind [State.ctrlTo, → State.keeps_flowSend]

@[simp] theorem State.keeps_ctrl {s t : State} (h : s.Keeps t) (dst ws op) : s.Keeps (t.ctrl dst ws op) := by
  unfold State.ctrl
  cases hu : t.ctrlTo dst ws op with
  | none => exact h
  | some u => exact State.keeps_ctrlTo h hu

@[simp] theorem State.keeps_ctrlPeer {s t : State} (h : s.Keeps t) (p ws) : s.Keeps (t.ctrlPeer p ws) := by
  simp [State.ctrlPeer, h]

@[simp] theorem State.keeps_violWindow {s t : State} (h : s.Keeps t) : s.Keeps (t.violWindow) := by
  simp [State.violWindow, h]

@[simp] theorem State.keeps_violation {s t : State} (h : s.Keeps t) (p f stamp reason answered) :
    s.Keeps (t.violation p f stamp reason answered) := by
  grind [State.violation, State.keeps_violWindow, State.keeps_setHot, State.keeps_putPort, State.keeps_setFab]

@[simp] theorem State.keeps_refuse {s t : State} (h : s.Keeps t) (p f stamp reason seen expect) :
    s.Keeps (t.refuse p f stamp reason seen expect) := by
  grind [State.refuse, State.keeps_count, State.keeps_sendOn, State.keeps_violation]

@[simp] theorem State.keeps_ackFlow {s t : State} (h : s.Keeps t) (r) : s.Keeps (t.ackFlow r) := by
  unfold State.ackFlow; split <;> simp [h]

@[simp] theorem State.keeps_acceptSeq {s t : State} (h : s.Keeps t) (p f stamp) : s.Keeps (t.acceptSeq p f stamp) := by
  simp [State.acceptSeq, h]

@[simp] theorem State.keeps_ackIfDue {s t : State} (h : s.Keeps t) (f) : s.Keeps (t.ackIfDue f) := by
  unfold State.ackIfDue; split <;> simp [h]

@[simp] theorem State.keeps_dropFlows {s t : State} (h : s.Keeps t) (sel) : s.Keeps (t.dropFlows sel).1 := by
  simp [State.dropFlows, h]

theorem State.keeps_of_dropFlows {s t u : State} {sel} {x} (h : s.Keeps t) (hu : t.dropFlows sel = (u, x)) : s.Keeps u :=
  (State.keeps_dropFlows h _).of_eq hu

/-! ### Translate -/

@[simp] theorem State.keeps_askWalk {s t : State} (h : s.Keeps t) (r) : s.Keeps (t.askWalk r) := by
  simp [State.askWalk, h]

@[simp] theorem State.keeps_missTlb {s t : State} (h : s.Keeps t) (core r) : s.Keeps (t.missTlb core r) := by
  simp only [State.missTlb]; (repeat' split) <;> simp [h]

@[simp] theorem State.keeps_room {α : Type} {s t : State} (h : s.Keeps t) (p : α → Bool) (n l) : s.Keeps (t.room p n l).1 := by
  unfold State.room
  split
  · exact h
  · exact State.keeps_fresh h

@[simp] theorem State.keeps_fillTlb {s t : State} (h : s.Keeps t) (e) : s.Keeps (t.fillTlb e) :=
  State.keeps_setXlat (State.keeps_room h _ _ _) _

@[simp] theorem State.keeps_fillL1 {s t : State} (h : s.Keeps t) (y) : s.Keeps (t.fillL1 y) :=
  State.keeps_setXlat (State.keeps_room h _ _ _) _

@[simp] theorem State.keeps_putFault {s t : State} (h : s.Keeps t) (ctx slot r) : s.Keeps (t.putFault ctx slot r) := by
  simp [State.putFault, h]

@[simp] theorem State.keeps_setRecord {s t : State} (h : s.Keeps t) (ctx slot r rank) :
    s.Keeps (t.setRecord ctx slot r rank) := by
  simp [State.setRecord, h]

@[simp] theorem State.keeps_joinFault {s t : State} (h : s.Keeps t) (ctx slot va k by_ engine n) :
    s.Keeps (t.joinFault ctx slot va k by_ engine n) := by
  simp [State.joinFault, h]

@[simp] theorem State.keeps_recordFault {s t : State} (h : s.Keeps t) (ctx va k by_ engine f n) :
    s.Keeps (t.recordFault ctx va k by_ engine f n).1 := by
  grind [State.recordFault, State.keeps_joinFault, State.keeps_count, State.keeps_setRecord, State.keeps_notify]

theorem State.keeps_of_recordFault {s t u : State} {ctx va k by_ engine f n} {x} (h : s.Keeps t) (hu : t.recordFault ctx va k by_ engine f n = (u, x)) :
    s.Keeps u :=
  (State.keeps_recordFault h _ _ _ _ _ _ _).of_eq hu

@[simp] theorem State.keeps_closeTies {s t : State} (h : s.Keeps t) (ctx) : s.Keeps (t.closeTies ctx) := by
  simp [State.closeTies, h]

@[simp] theorem State.keeps_dropTranslations {s t : State} (h : s.Keeps t) (ctx) : s.Keeps (t.dropTranslations ctx) := by
  simp [State.dropTranslations, h]

/-- Chunks that go out one after another, each on the machine that the one before it left, keep them where each of them does. -/
theorem State.Keeps.of_chunks {s t u : State} {send : State → Nat → List Byte → Option State}
    (hsend : ∀ v off b w, send v off b = some w → v.Keeps w) (h : s.Keeps t) (l : List (List Byte)) (off : Nat)
    (hu : (l.foldl (fun (a : Option State × Nat) b => (a.1.bind fun v => send v a.2 b, a.2 + b.length)) (some t,
    off)).1 = some u) :
    s.Keeps u := by
  have hall : ∀ (l : List (List Byte)) (a : Option State × Nat), (∀ v, a.1 = some v → s.Keeps v) →
      ∀ v, (l.foldl (fun (a : Option State × Nat) b => (a.1.bind fun v => send v a.2 b,
      a.2 + b.length)) a).1 = some v → s.Keeps v := by
    intro l
    induction l with
    | nil => exact fun _ ha => ha
    | cons b l ih =>
      refine fun a ha => ih _ fun v hv => ?_
      obtain ⟨w, hw, hv⟩ := Option.bind_eq_some_iff.mp hv
      exact (ha w hw).trans (hsend _ _ _ _ hv)
  refine hall l _ (fun v hv => ?_) u hu
  cases hv
  exact h

/-! ### Records -/

theorem State.keeps_tieSend {s t u : State} (h : s.Keeps t) {ctx node window offset bytes op}
    (hu : t.tieSend ctx node window offset bytes op = some u) : s.Keeps u := by
  refine State.Keeps.of_chunks (send := fun v off b =>
    v.flowSend { v.headTo opWrite node kTie ctx with window, offset := off, length := b.length } b op)
    (fun v _ _ _ hv => State.keeps_flowSend (.refl v) hv) h _ _ hu

@[simp] theorem State.keeps_storePiece {s t : State} (h : s.Keeps t) (ctx p bytes op) :
    s.Keeps (t.storePiece ctx p bytes op).1 := by
  grind [State.storePiece, State.keeps_hubWrite, → State.keeps_tieSend]

theorem State.keeps_of_storePiece {s t u : State} {ctx p bytes op} {x} (h : s.Keeps t) (hu : t.storePiece ctx p bytes op = (u, x)) :
    s.Keeps u :=
  (State.keeps_storePiece h _ _ _ _).of_eq hu

@[simp] theorem State.keeps_storePieces {s t : State} (h : s.Keeps t) (ctx op) (l : List Piece) (bytes) :
    s.Keeps (t.storePieces ctx op l bytes).1 := by
  induction l generalizing t bytes with
  | nil => exact h
  | cons p l ih => grind [State.storePieces, State.keeps_storePiece, → State.keeps_of_storePiece]

theorem State.keeps_of_storePieces {s t u : State} {ctx op a a1} {x} (h : s.Keeps t) (hu : t.storePieces ctx op a a1 = (u, x)) :
    s.Keeps u :=
  (State.keeps_storePieces h _ _ _ _).of_eq hu

@[simp] theorem State.keeps_cpStore {s t : State} (h : s.Keeps t) (ctx va bytes op) :
    s.Keeps (t.cpStore ctx va bytes op).1 := by
  grind [State.cpStore, State.keeps_storePieces, → State.keeps_of_storePieces]

theorem State.keeps_of_cpStore {s t u : State} {ctx va bytes op} {x} (h : s.Keeps t) (hu : t.cpStore ctx va bytes op = (u, x)) :
    s.Keeps u :=
  (State.keeps_cpStore h _ _ _ _).of_eq hu

@[simp] theorem State.keeps_putPass {s t : State} (h : s.Keeps t) (p) : s.Keeps (t.putPass p) := by
  simp [State.putPass, h]

@[simp] theorem State.keeps_writeRecord {s t : State} (h : s.Keeps t) (watch k) : s.Keeps (t.writeRecord watch k).1 := by
  grind [State.writeRecord, State.keeps_cpStore, → State.keeps_of_cpStore, State.keeps_count, State.keeps_putPass]

theorem State.keeps_of_writeRecord {s t u : State} {watch k} {x} (h : s.Keeps t) (hu : t.writeRecord watch k = (u, x)) :
    s.Keeps u :=
  (State.keeps_writeRecord h _ _).of_eq hu

@[simp] theorem State.keeps_writeDone {s t : State} (h : s.Keeps t) (watch completed status first) :
    s.Keeps (t.writeDone watch completed status first) := by
  grind [State.writeDone, State.keeps_hubWrite, State.keeps_setAbaom]

@[simp] theorem State.keeps_listDone {s t : State} (h : s.Keeps t) (watch) : s.Keeps (t.listDone watch) := by
  grind [State.listDone, State.keeps_writeDone]

@[simp] theorem State.keeps_settleList {s t : State} (h : s.Keeps t) (watch) : s.Keeps (t.settleList watch) := by
  simp [State.settleList, h]

@[simp] theorem State.keeps_loseRecord {s t : State} (h : s.Keeps t) (watch k status) :
    s.Keeps (t.loseRecord watch k status) := by
  grind [State.loseRecord, State.keeps_putPass]

@[simp] theorem State.keeps_putColl {s t : State} (h : s.Keeps t) (c) : s.Keeps (t.putColl c) := by
  simp [State.putColl, h]

theorem State.keeps_collTo {s t u : State} (h : s.Keeps t) {dst phase job attempt w1 data op} (hu : t.collTo dst phase job attempt w1 data op = some u) :
    s.Keeps u := by
  grind [State.collTo, → State.keeps_flowSend]

@[simp] theorem State.keeps_collFail {s t : State} (h : s.Keeps t) (c status but) : s.Keeps (t.collFail c status but) := by
  grind [State.collFail, → State.keeps_collTo, State.Keeps.getD, State.Keeps.foldl, State.Keeps.refl]

@[simp] theorem State.keeps_collDone {s t : State} (h : s.Keeps t) (c status eflags) :
    s.Keeps (t.collDone c status eflags) := by
  grind [State.collDone, State.keeps_hubWrite, State.keeps_setJoined]

@[simp] theorem State.keeps_collEnd {s t : State} (h : s.Keeps t) (c status) : s.Keeps (t.collEnd c status) := by
  simp [State.collEnd, h]

@[simp] theorem State.keeps_launchRecord {s t : State} (h : s.Keeps t) (o state stake near) :
    s.Keeps (t.launchRecord o state stake near) := by
  grind [State.launchRecord, State.keeps_cpStore, → State.keeps_of_cpStore]

@[simp] theorem State.keeps_putMonument {s t : State} (h : s.Keeps t) (m) : s.Keeps (t.putMonument m) := by
  simp [State.putMonument, h]

@[simp] theorem State.keeps_monuStore {s t : State} (h : s.Keeps t) (m addr bytes) : s.Keeps (t.monuStore m addr bytes).1 := by
  grind [State.monuStore, State.keeps_cpStore, → State.keeps_of_cpStore, State.keeps_hubWrite]

theorem State.keeps_of_monuStore {s t u : State} {m addr bytes} {x} (h : s.Keeps t) (hu : t.monuStore m addr bytes = (u, x)) :
    s.Keeps u :=
  (State.keeps_monuStore h _ _ _).of_eq hu

@[simp] theorem State.keeps_publish {s t : State} (h : s.Keeps t) (m) : s.Keeps (t.publish m) := by
  grind [State.publish, State.keeps_monuStore, → State.keeps_of_monuStore, State.keeps_putMonument]

@[simp] theorem State.keeps_fillMessage {s t : State} (h : s.Keeps t) (dst sub id ws op) :
    s.Keeps (t.fillMessage dst sub id ws op) := by
  simp [State.fillMessage, h]

@[simp] theorem State.keeps_releaseClaim {s t : State} (h : s.Keeps t) (m) : s.Keeps (t.releaseClaim m) := by
  grind [State.releaseClaim, State.keeps_fillMessage]

@[simp] theorem State.keeps_finishMonument {s t : State} (h : s.Keeps t) (m st status) :
    s.Keeps (t.finishMonument m st status) := by
  grind [State.finishMonument, State.keeps_publish, State.keeps_setMonu, State.keeps_releaseClaim]

@[simp] theorem State.keeps_endMonument {s t : State} (h : s.Keeps t) (id status) : s.Keeps (t.endMonument id status) := by
  grind [State.endMonument, State.keeps_finishMonument]

/-! ### Stakes -/

@[simp] theorem State.keeps_enqueueTimer {s t : State} (h : s.Keeps t) (due e) : s.Keeps (t.enqueueTimer due e) := by
  simp [State.enqueueTimer, h]

@[simp] theorem State.keeps_dropAlloc {s t : State} (h : s.Keeps t) (id) : s.Keeps (t.dropAlloc id) := by
  simp [State.dropAlloc, h]

@[simp] theorem State.keeps_tellDisplaced {s t : State} (h : s.Keeps t) (a word) : s.Keeps (t.tellDisplaced a word) := by
  grind [State.tellDisplaced, State.keeps_notify]

@[simp] theorem State.keeps_endAlloc {s t : State} (h : s.Keeps t) (a) : s.Keeps (t.endAlloc a) := by
  grind [State.endAlloc, State.keeps_dropAlloc, State.keeps_setHot, State.keeps_setObs, State.keeps_endMonument,
    State.keeps_enqueueTimer]

@[simp] theorem State.keeps_displace {s t : State} (h : s.Keeps t) (a word) : s.Keeps (t.displace a word) := by
  simp [State.displace, h]

@[simp] theorem State.keeps_grant {s t : State} (h : s.Keeps t) (loc cls stake owner event) :
    s.Keeps (t.grant loc cls stake owner event).1 := by
  grind [State.grant, State.keeps_displace, State.keeps_setStakes, State.Keeps.foldl, State.Keeps.refl]

theorem State.keeps_of_grant {s t u : State} {loc cls stake owner event} {x} (h : s.Keeps t) (hu : t.grant loc cls stake owner event = (u, x)) :
    s.Keeps u :=
  (State.keeps_grant h _ _ _ _ _).of_eq hu

@[simp] theorem State.keeps_serveRequest {s t : State} (h : s.Keeps t) (r) : s.Keeps (t.serveRequest r) := by
  grind [State.serveRequest, State.keeps_grant, → State.keeps_of_grant, State.keeps_complete]

@[simp] theorem State.keeps_servePending {s t : State} (h : s.Keeps t) (p) : s.Keeps (t.servePending p) := by
  simp [State.servePending, h]

@[simp] theorem State.keeps_allocate {s t : State} (h : s.Keeps t) (loc cls stake owner event) :
    s.Keeps (t.allocate loc cls stake owner event).1 := by
  grind [State.allocate, State.keeps_grant, → State.keeps_of_grant, State.keeps_servePending]

theorem State.keeps_of_allocate {s t u : State} {loc cls stake owner event} {x} (h : s.Keeps t) (hu : t.allocate loc cls stake owner event = (u, x)) :
    s.Keeps u :=
  (State.keeps_allocate h _ _ _ _ _).of_eq hu

@[simp] theorem State.keeps_stakeOrTimer {s t : State} (h : s.Keeps t) (loc cls stake owner event) :
    s.Keeps (t.stakeOrTimer loc cls stake owner event).1 := by
  grind [State.stakeOrTimer, State.keeps_allocate, → State.keeps_of_allocate, State.keeps_enqueueTimer]

theorem State.keeps_of_stakeOrTimer {s t u : State} {loc cls stake owner event} {x} (h : s.Keeps t) (hu : t.stakeOrTimer loc cls stake owner event = (u, x)) :
    s.Keeps u :=
  (State.keeps_stakeOrTimer h _ _ _ _ _).of_eq hu

@[simp] theorem State.keeps_cancelEvent {s t : State} (h : s.Keeps t) (e) : s.Keeps (t.cancelEvent e) := by
  simp [State.cancelEvent, h]

@[simp] theorem State.keeps_requestStake {s t : State} (h : s.Keeps t) (n) : s.Keeps (t.requestStake n) := by
  simp [State.requestStake, h]

@[simp] theorem yields_execStakeAlloc {s t : State} (h : s.Keeps t) (mbx) : s.Yields (execStakeAlloc mbx t) := by
  simp [execStakeAlloc, h]

@[simp] theorem yields_execStakeAllocPass {s t : State} (h : s.Keeps t) : s.Yields (execStakeAllocPass t) := by
  simp [execStakeAllocPass, h]

@[simp] theorem State.keeps_freeStake {s t : State} (h : s.Keeps t) (n) : s.Keeps (t.freeStake n) := by
  grind [State.freeStake, State.keeps_complete, State.keeps_endAlloc]

@[simp] theorem yields_execStakeFree {s t : State} (h : s.Keeps t) (mbx) : s.Yields (execStakeFree mbx t) := by
  simp [execStakeFree, h]

/-! ### Teardown -/

@[simp] theorem State.keeps_endBlocks {s t : State} (h : s.Keeps t) (ctx) : s.Keeps (t.endBlocks ctx) := by
  simp [State.endBlocks, h]

@[simp] theorem State.keeps_endMonuments {s t : State} (h : s.Keeps t) (p status) : s.Keeps (t.endMonuments p status) := by
  grind [State.endMonuments, State.keeps_cancelEvent, State.keeps_endMonument, State.Keeps.foldl, State.Keeps.refl]

@[simp] theorem State.keeps_endOffers {s t : State} (h : s.Keeps t) (ctx) : s.Keeps (t.endOffers ctx) := by
  grind [State.endOffers, State.keeps_cancelEvent, State.keeps_setJoined, State.Keeps.foldl, State.Keeps.refl]

@[simp] theorem State.keeps_freeCounters {s t : State} (h : s.Keeps t) (ctx) : s.Keeps (t.freeCounters ctx) := by
  simp [State.freeCounters, h]

@[simp] theorem State.keeps_releaseOf {s t : State} (h : s.Keeps t) (ctx cause) : s.Keeps (t.releaseOf ctx cause) := by
  have hcolls := State.Keeps.foldl (fun u c => State.keeps_collEnd (.refl u) c stCtxTornDown) h (t.joined.colls.filter fun c
      => c.ctx == ctx)
  exact State.keeps_freeCounters (State.keeps_endOffers (State.keeps_endMonuments
    (State.keeps_closeTies (State.keeps_setStakes hcolls _) _) _ _) _) _

@[simp] theorem State.keeps_teardown {s t : State} (h : s.Keeps t) (ctx cause) : s.Keeps (t.teardown ctx cause) := by
  simp only [State.teardown]
  split
  · exact h
  · exact .ite (State.keeps_putCtx h _ _) h
  · exact State.keeps_setAbaom (State.keeps_releaseOf (State.keeps_endBlocks (State.keeps_count (State.keeps_putCtx h _ _) _
      _) _) _ _) _

@[simp] theorem State.keeps_moreExceptions {s t : State} (h : s.Keeps t) (ctx) : s.Keeps (t.moreExceptions ctx) := by
  grind [State.moreExceptions, State.keeps_putCtx, State.keeps_hubWrite, State.keeps_cpStore, → State.keeps_of_cpStore]

@[simp] theorem State.keeps_capture_ {s t : State} (h : s.Keeps t) (ctx x) : s.Keeps (t.capture_ ctx x) := by
  grind [State.capture_, State.keeps_putCtx, State.keeps_moreExceptions]

@[simp] theorem State.keeps_stopGroup {s t : State} (h : s.Keeps t) (blk grp) : s.Keeps (t.stopGroup blk grp) := by
  simp [State.stopGroup, h]

@[simp] theorem State.keeps_takeException {s t : State} (h : s.Keeps t) (b x e) : s.Keeps (t.takeException b x e) := by
  simp [State.takeException, h]

@[simp] theorem State.keeps_putBlock {s t : State} (h : s.Keeps t) (b) : s.Keeps (t.putBlock b) := by
  simp [State.putBlock, h]

@[simp] theorem State.keeps_tieFault {s t : State} (h : s.Keeps t) (ctx va node window k blk grp cluster engine e site) :
    s.Keeps (t.tieFault ctx va node window k blk grp cluster engine e site) := by
  grind [State.tieFault, State.keeps_moreExceptions, State.keeps_recordFault, → State.keeps_of_recordFault,
    State.keeps_takeException, State.keeps_teardown]

@[simp] theorem State.keeps_endEntry {s t : State} (h : s.Keeps t) (watch k status detail) :
    s.Keeps (t.endEntry watch k status detail) := by
  grind [State.endEntry, State.keeps_putPass]

@[simp] theorem State.keeps_entryFault {s t : State} (h : s.Keeps t) (watch k ctx va) :
    s.Keeps (t.entryFault watch k ctx va) := by
  grind [State.entryFault, State.keeps_capture_, State.keeps_endEntry, State.keeps_putPass]

@[simp] theorem State.keeps_tieReadFault {s t : State} (h : s.Keeps t) (o e) : s.Keeps (t.tieReadFault o e) := by
  grind [State.tieReadFault, State.keeps_moreExceptions, State.keeps_endMonument, State.keeps_recordFault,
    → State.keeps_of_recordFault, State.keeps_takeException, State.keeps_teardown, State.keeps_entryFault]

@[simp] theorem State.keeps_negativeAck {s t : State} (h : s.Keeps t) (job status node) :
    s.Keeps (t.negativeAck job status node) := by
  grind [State.negativeAck, State.keeps_setJoined, State.keeps_ctrl, State.keeps_complete]

@[simp] theorem State.keeps_breakMonument {s t : State} (h : s.Keeps t) (id layer status) :
    s.Keeps (t.breakMonument id layer status) := by
  grind [State.breakMonument, State.keeps_endMonument, State.keeps_putMonument]

@[simp] theorem State.keeps_nextClaim {s t : State} (h : s.Keeps t) (f) : s.Keeps (t.nextClaim f) := by
  grind [State.nextClaim, State.keeps_setMonu, State.keeps_fillMessage]

@[simp] theorem State.keeps_dropClaims {s t : State} (h : s.Keeps t) (sel) : s.Keeps (t.dropClaims sel) := by
  grind [State.dropClaims, State.keeps_nextClaim, State.keeps_setMonu, State.Keeps.foldl, State.Keeps.refl]

@[simp] theorem State.keeps_cpTieFault {s t : State} (h : s.Keeps t) (ctx va node window e) :
    s.Keeps (t.cpTieFault ctx va node window e) := by
  simp [State.cpTieFault, h]

@[simp] theorem State.keeps_unrecord {s t : State} (h : s.Keeps t) (watch k) : s.Keeps (t.unrecord watch k) := by
  grind [State.unrecord, State.keeps_putPass]

@[simp] theorem State.keeps_endOp {s t : State} (h : s.Keeps t) (node op e) : s.Keeps (t.endOp node op e) := by
  unfold State.endOp; split <;> grind [State.keeps_tieFault, State.keeps_tieReadFault, State.keeps_setXlat,
    State.keeps_moreExceptions, State.keeps_entryFault, State.keeps_cpTieFault, State.keeps_loseRecord, State.keeps_unrecord,
    State.keeps_teardown, State.keeps_complete, State.keeps_negativeAck, State.keeps_ctrl, State.keeps_collEnd,
    State.keeps_breakMonument, State.keeps_setMonu, State.Keeps.foldl, State.Keeps.refl]

@[simp] theorem State.keeps_settleInvs {s t : State} (h : s.Keeps t) : s.Keeps (t.settleInvs) := by
  simp [State.settleInvs, h]

@[simp] theorem State.keeps_endTies {s t : State} (h : s.Keeps t) (node e) : s.Keeps (t.endTies node e) := by
  simp [State.endTies, h]

@[simp] theorem State.keeps_endOps {s t : State} (h : s.Keeps t) (ops e) : s.Keeps (t.endOps ops e) := by
  grind [State.endOps, State.keeps_settleInvs, State.keeps_endOp, State.Keeps.foldl, State.Keeps.refl]

@[simp] theorem State.keeps_endColls {s t : State} (h : s.Keeps t) (node status) : s.Keeps (t.endColls node status) := by
  simp [State.endColls, h]

@[simp] theorem State.keeps_markLost {s t : State} (h : s.Keeps t) (node) : s.Keeps (t.markLost node) := by
  simp only [State.markLost]
  split
  · exact h
  · exact State.keeps_settleInvs (State.keeps_endColls (State.keeps_endTies (State.keeps_endOps (State.keeps_dropClaims
      (State.keeps_dropFlows (State.keeps_setFab h _) _) _) _ _) _ _) _ _)

@[simp] theorem State.keeps_loseNode {s t : State} (h : s.Keeps t) (node) : s.Keeps (t.loseNode node) := by
  grind [State.loseNode, State.keeps_notify, State.keeps_markLost]

@[simp] theorem State.keeps_cancelBatches {s t : State} (h : s.Keeps t) : s.Keeps (t.cancelBatches) := by
  simp [State.cancelBatches, h]

@[simp] theorem State.keeps_leaveGroup {s t : State} (h : s.Keeps t) : s.Keeps (t.leaveGroup) := by
  grind [State.leaveGroup, State.keeps_complete, State.keeps_cancelEvent, State.keeps_cancelBatches, State.keeps_setJoined]

@[simp] theorem State.keeps_enterFenced {s t : State} (h : s.Keeps t) (newer) : s.Keeps (t.enterFenced newer) := by
  grind [State.enterFenced, State.keeps_setFab, State.keeps_teardown, State.keeps_leaveGroup, State.keeps_endMonuments,
    State.keeps_notify, State.Keeps.foldl, State.Keeps.refl]

@[simp] theorem State.keeps_hostLoss {s t : State} (h : s.Keeps t) (epoch cause) : s.Keeps (t.hostLoss epoch cause) := by
  grind [State.hostLoss, State.keeps_teardown, State.keeps_setAbaom, State.Keeps.foldl, State.Keeps.refl]

@[simp] theorem State.keeps_tellLosses {s t : State} (h : s.Keeps t) : s.Keeps (t.tellLosses) := by
  simp [State.tellLosses, h]

@[simp] theorem yields_execContextTeardown {s t : State} (h : s.Keeps t) (ctx cause) :
    s.Yields (execContextTeardown ctx cause t) := by
  simp [execContextTeardown, h]

/-! ### Mailbox -/

@[simp] theorem State.keeps_writeHdr {s t : State} (h : s.Keeps t) (n v) : s.Keeps (t.writeHdr n v) := by
  grind [State.writeHdr, State.keeps_putMbx]

@[simp] theorem yields_execMbxPost {s t : State} (h : s.Keeps t) (mbx hdr) : s.Yields (execMbxPost mbx hdr t) := by
  simp [execMbxPost, h]

@[simp] theorem yields_execMbxWithdraw {s t : State} (h : s.Keeps t) (mbx hdr) : s.Yields (execMbxWithdraw mbx hdr t) := by
  simp [execMbxWithdraw, h]

@[simp] theorem yields_execMbxReturnIdle {s t : State} (h : s.Keeps t) (mbx hdr) : s.Yields (execMbxReturnIdle mbx hdr t) := by
  simp [execMbxReturnIdle, h]

@[simp] theorem State.keeps_writeIrq {s t : State} (h : s.Keeps t) (n v) : s.Keeps (t.writeIrq n v) := by
  simp [State.writeIrq, h]

@[simp] theorem yields_execMbxIrqWrite {s t : State} (h : s.Keeps t) (mbx value) : s.Yields (execMbxIrqWrite mbx value t) := by
  simp [execMbxIrqWrite, h]

@[simp] theorem State.keeps_invalidate {s t : State} (h : s.Keeps t) (ctx lo len) : s.Keeps (t.invalidate ctx lo len).1 := by
  simp [State.invalidate, h]

theorem State.keeps_of_invalidate {s t u : State} {ctx lo len} {x} (h : s.Keeps t) (hu : t.invalidate ctx lo len = (u, x)) :
    s.Keeps u :=
  (State.keeps_invalidate h _ _ _).of_eq hu

@[simp] theorem State.keeps_tieTaken {s t : State} (h : s.Keeps t) (n) : s.Keeps (t.tieTaken n) := by
  simp [State.tieTaken, h]

@[simp] theorem State.keeps_tieUndone {s t : State} (h : s.Keeps t) (n) : s.Keeps (t.tieUndone n) := by
  grind [State.tieUndone, State.keeps_setXlat]

@[simp] theorem State.keeps_takenEffect {s t : State} (h : s.Keeps t) (n c) : s.Keeps (t.takenEffect n c) := by
  grind [State.takenEffect, State.keeps_tieTaken, State.keeps_keepLog]

@[simp] theorem State.keeps_take {s t : State} (h : s.Keeps t) (n) : s.Keeps (t.take n) := by
  grind [State.take, State.keeps_heardUpdate, State.keeps_putMbx, State.keeps_setAbaom, State.keeps_complete,
    State.keeps_takenEffect]

@[simp] theorem yields_execCommandTake {s t : State} (h : s.Keeps t) : s.Yields (execCommandTake t) := by
  unfold execCommandTake; split <;> simp [h]

@[simp] theorem State.keeps_undo {s t : State} (h : s.Keeps t) (n c) : s.Keeps (t.undo n c) := by
  grind [State.undo, State.keeps_invalidate, → State.keeps_of_invalidate, State.keeps_setXlat, State.keeps_setStakes,
    State.keeps_setTime, State.keeps_failBacksight, State.keeps_tieUndone, State.keeps_setJoined, State.keeps_cancelEvent,
    State.keeps_setTrust, State.keeps_commitCut, State.keeps_setObs, State.keeps_setDies, State.keeps_dropService,
    State.keeps_setMem]

@[simp] theorem State.keeps_timeOut {s t : State} (h : s.Keeps t) (n) : s.Keeps (t.timeOut n) := by
  grind [State.timeOut, State.keeps_complete, State.keeps_undo]

@[simp] theorem yields_execCommandTimeout {s t : State} (h : s.Keeps t) (mbx) : s.Yields (execCommandTimeout mbx t) := by
  simp [execCommandTimeout, h]

@[simp] theorem State.keeps_claim {s t : State} (h : s.Keeps t) (stamp) : s.Keeps (t.claim stamp) := by
  grind [State.claim, State.keeps_setAbaom, State.keeps_hostLoss, State.keeps_setFab, State.keeps_setConn]

@[simp] theorem yields_execClaim {s t : State} (h : s.Keeps t) (value stamp) : s.Yields (execClaim value stamp t) := by
  simp [execClaim, h]

@[simp] theorem State.keeps_beat {s t : State} (h : s.Keeps t) (epochW stamp) : s.Keeps (t.beat epochW stamp) := by
  grind [State.beat, State.keeps_nearMissed, State.keeps_setAbaom]

@[simp] theorem yields_execBeat {s t : State} (h : s.Keeps t) (value stamp) : s.Yields (execBeat value stamp t) := by
  simp [execBeat, h]

@[simp] theorem yields_execHostLossDeadline {s t : State} (h : s.Keeps t) : s.Yields (execHostLossDeadline t) := by
  grind [execHostLossDeadline, State.yields_next, yields_onEvent, State.keeps_hostLoss, State.keeps_setAbaom]

/-! ### Contexts -/

@[simp] theorem State.keeps_identify {s t : State} (h : s.Keeps t) (n) : s.Keeps (t.identify n) := by
  simp [State.identify, h]

@[simp] theorem yields_execIdentify {s t : State} (h : s.Keeps t) (mbx) : s.Yields (execIdentify mbx t) := by
  simp [execIdentify, h]

@[simp] theorem State.keeps_queryCaps {s t : State} (h : s.Keeps t) (n) : s.Keeps (t.queryCaps n) := by
  simp [State.queryCaps, h]

@[simp] theorem yields_execQueryCaps {s t : State} (h : s.Keeps t) (mbx) : s.Yields (execQueryCaps mbx t) := by
  simp [execQueryCaps, h]

@[simp] theorem yields_execMtQuery {s t : State} (h : s.Keeps t) (mbx) : s.Yields (execMtQuery mbx t) := by
  simp [execMtQuery, h]

@[simp] theorem State.keeps_openContext {s t : State} (h : s.Keeps t) (c mbx partition quota root hart eiid) :
    s.Keeps (t.openContext c mbx partition quota root hart eiid) := by
  grind [State.openContext, State.keeps_putCtx, State.keeps_setPwr, State.keeps_setXlat, State.keeps_putMbx]

@[simp] theorem State.keeps_ctxOpen {s t : State} (h : s.Keeps t) (n) : s.Keeps (t.ctxOpen n) := by
  grind [State.ctxOpen, State.keeps_complete, State.keeps_openContext]

@[simp] theorem yields_execCtxOpen {s t : State} (h : s.Keeps t) (mbx) : s.Yields (execCtxOpen mbx t) := by
  simp [execCtxOpen, h]

@[simp] theorem State.keeps_ctxClose {s t : State} (h : s.Keeps t) (n) : s.Keeps (t.ctxClose n) := by
  grind [State.ctxClose, State.keeps_complete, State.keeps_begin_, State.keeps_teardown, State.keeps_putCtx]

@[simp] theorem yields_execCtxClose {s t : State} (h : s.Keeps t) (mbx) : s.Yields (execCtxClose mbx t) := by
  simp [execCtxClose, h]

@[simp] theorem yields_execCtxQuery {s t : State} (h : s.Keeps t) (mbx) : s.Yields (execCtxQuery mbx t) := by
  simp [execCtxQuery, h]

@[simp] theorem yields_execAcctRead {s t : State} (h : s.Keeps t) (mbx) : s.Yields (execAcctRead mbx t) := by
  simp [execAcctRead, h]

@[simp] theorem State.keeps_setPartitions {s t : State} (h : s.Keeps t) (map) : s.Keeps (t.setPartitions map) := by
  simp [State.setPartitions, h]

@[simp] theorem State.keeps_partSet {s t : State} (h : s.Keeps t) (n) : s.Keeps (t.partSet n) := by
  grind [State.partSet, State.keeps_complete, State.keeps_setPartitions]

@[simp] theorem yields_execPartSet {s t : State} (h : s.Keeps t) (mbx) : s.Yields (execPartSet mbx t) := by
  simp [execPartSet, h]

@[simp] theorem State.keeps_regSet {s t : State} (h : s.Keeps t) (n) : s.Keeps (t.regSet n) := by
  simp [State.regSet, h]

@[simp] theorem yields_execRegSet {s t : State} (h : s.Keeps t) (mbx) : s.Yields (execRegSet mbx t) := by
  simp [execRegSet, h]

@[simp] theorem State.keeps_register {s t : State} (h : s.Keeps t) (n ctx va kind) : s.Keeps (t.register n ctx va kind) := by
  unfold State.register; split <;> grind [State.keeps_complete, State.keeps_setAbaom, State.Keeps.foldl, State.Keeps.refl]

@[simp] theorem yields_execListRegister {s t : State} (h : s.Keeps t) (mbx) : s.Yields (execListRegister mbx t) := by
  simp [execListRegister, h]

@[simp] theorem yields_execWatchFlag {s t : State} (h : s.Keeps t) (mbx) : s.Yields (execWatchFlag mbx t) := by
  simp [execWatchFlag, h]

@[simp] theorem State.keeps_unwatch {s t : State} (h : s.Keeps t) (n) : s.Keeps (t.unwatch n) := by
  grind [State.unwatch, State.keeps_complete, State.keeps_setAbaom]

@[simp] theorem yields_execUnwatchFlag {s t : State} (h : s.Keeps t) (mbx) : s.Yields (execUnwatchFlag mbx t) := by
  simp [execUnwatchFlag, h]

@[simp] theorem State.keeps_tlbInvalidate {s t : State} (h : s.Keeps t) (n) : s.Keeps (t.tlbInvalidate n) := by
  grind [State.tlbInvalidate, State.keeps_invalidate, → State.keeps_of_invalidate, State.keeps_settleInvs, State.keeps_begin_,
    State.keeps_setXlat]

@[simp] theorem yields_execTlbInvalidate {s t : State} (h : s.Keeps t) (mbx) : s.Yields (execTlbInvalidate mbx t) := by
  simp [execTlbInvalidate, h]

@[simp] theorem State.keeps_tieSet {s t : State} (h : s.Keeps t) (n) : s.Keeps (t.tieSet n) := by
  simp [State.tieSet, h]

@[simp] theorem yields_execTieSet {s t : State} (h : s.Keeps t) (mbx) : s.Yields (execTieSet mbx t) := by
  simp [execTieSet, h]

/-! ### Ties -/

@[simp] theorem State.keeps_tieAsk {s t : State} (h : s.Keeps t) (o offset a) : s.Keeps (t.tieAsk o offset a).1 := by
  have hx := fun v => State.keeps_setXlat h v
  simp only [State.tieAsk]
  split
  · exact State.keeps_flowSend (hx _) ‹_›
  · exact h

theorem State.keeps_of_tieAsk {s t u : State} {o offset a} {x} (h : s.Keeps t) (hu : t.tieAsk o offset a = (u, x)) :
    s.Keeps u :=
  (State.keeps_tieAsk h _ _ _).of_eq hu

@[simp] theorem State.keeps_tieTake {s t : State} (h : s.Keeps t) (p) : s.Keeps (t.tieTake p) := by
  simp [State.tieTake, h]

/-! ### Reads -/

@[simp] theorem State.keeps_fetchPiece {s t : State} (h : s.Keeps t) (ctx who by_ e p) :
    s.Keeps (t.fetchPiece ctx who by_ e p).1 := by
  grind [State.fetchPiece, State.keeps_tieAsk, → State.keeps_of_tieAsk]

@[simp] theorem State.keeps_fetchPieces {s t : State} (h : s.Keeps t) (ctx who by_ e) (l : List Piece) :
    s.Keeps (State.fetchPieces ctx who by_ e l t).1 := by
  induction l generalizing t with
  | nil => exact h
  | cons p l ih =>
    have hp := State.keeps_fetchPiece h ctx who by_ e p
    grind [State.fetchPieces]

theorem State.keeps_of_fetchPieces {s t u : State} {ctx who by_ e a} {x} (h : s.Keeps t) (hu : State.fetchPieces ctx who by_ e a t = (u, x)) :
    s.Keeps u :=
  (State.keeps_fetchPieces h _ _ _ _ _).of_eq hu

/-! ### Collectives -/

@[simp] theorem State.keeps_collSend {s t : State} (h : s.Keeps t) (c dst phase w1 data) :
    s.Keeps (t.collSend c dst phase w1 data).1 := by
  grind [State.collSend, → State.keeps_collTo, State.keeps_collEnd]

theorem State.keeps_of_collSend {s t u : State} {c dst phase w1 data} {x} (h : s.Keeps t) (hu : t.collSend c dst phase w1 data = (u, x)) :
    s.Keeps u :=
  (State.keeps_collSend h _ _ _ _ _).of_eq hu

@[simp] theorem State.keeps_collSendAll {s t : State} (h : s.Keeps t) (c phase w1 data) (l : List Nat) :
    s.Keeps (State.collSendAll c phase w1 data l t).1 := by
  induction l generalizing t with
  | nil => exact h
  | cons n l ih =>
    have hn := State.keeps_collSend h c n phase w1 data
    grind [State.collSendAll]

theorem State.keeps_of_collSendAll {s t u : State} {c phase w1 data a} {x} (h : s.Keeps t) (hu : State.collSendAll c phase w1 data a t = (u, x)) :
    s.Keeps u :=
  (State.keeps_collSendAll h _ _ _ _ _).of_eq hu

@[simp] theorem State.keeps_collGrant {s t : State} (h : s.Keeps t) (c l) : s.Keeps (t.collGrant c l).1 := by
  grind [State.collGrant, State.keeps_putColl, State.keeps_collSendAll, → State.keeps_of_collSendAll]

theorem State.keeps_of_collGrant {s t u : State} {c l} {x} (h : s.Keeps t) (hu : t.collGrant c l = (u, x)) : s.Keeps u :=
  (State.keeps_collGrant h _ _).of_eq hu

@[simp] theorem State.keeps_collFault {s t : State} (h : s.Keeps t) (c va k f) : s.Keeps (t.collFault c va k f) := by
  grind [State.collFault, State.keeps_recordFault, → State.keeps_of_recordFault, State.keeps_setXlat, State.keeps_teardown]

@[simp] theorem State.keeps_collOwn {s t : State} (h : s.Keeps t) (c k) : s.Keeps (t.collOwn c k).1 := by
  grind [State.collOwn, State.keeps_teardown, State.keeps_collFault, State.keeps_fetchPieces, → State.keeps_of_fetchPieces,
    State.keeps_tieTake]

theorem State.keeps_of_collOwn {s t u : State} {c k} {x} (h : s.Keeps t) (hu : t.collOwn c k = (u, x)) : s.Keeps u :=
  (State.keeps_collOwn h _ _).of_eq hu

@[simp] theorem State.keeps_collWrite {s t : State} (h : s.Keeps t) (c l) : s.Keeps (t.collWrite c l).1 := by
  grind [State.collWrite, State.keeps_cpStore, → State.keeps_of_cpStore, State.keeps_putColl, State.keeps_teardown,
    State.keeps_collFault]

theorem State.keeps_of_collWrite {s t u : State} {c l} {x} (h : s.Keeps t) (hu : t.collWrite c l = (u, x)) : s.Keeps u :=
  (State.keeps_collWrite h _ _).of_eq hu

@[simp] theorem State.keeps_collResult {s t : State} (h : s.Keeps t) (c l k els) : s.Keeps (t.collResult c l k els).1 := by
  grind [State.collResult, State.keeps_putColl, State.keeps_collSendAll, → State.keeps_of_collSendAll]

theorem State.keeps_of_collResult {s t u : State} {c l k els} {x} (h : s.Keeps t) (hu : t.collResult c l k els = (u, x)) :
    s.Keeps u :=
  (State.keeps_collResult h _ _ _ _).of_eq hu

@[simp] theorem State.keeps_collUp {s t : State} (h : s.Keeps t) (c l own parts) : s.Keeps (t.collUp c l own parts).1 := by
  grind [State.collUp, State.keeps_putColl, State.keeps_collSend, → State.keeps_of_collSend, State.keeps_collResult,
    → State.keeps_of_collResult, State.keeps_collGrant, → State.keeps_of_collGrant]

theorem State.keeps_of_collUp {s t u : State} {c l own parts} {x} (h : s.Keeps t) (hu : t.collUp c l own parts = (u, x)) :
    s.Keeps u :=
  (State.keeps_collUp h _ _ _ _).of_eq hu

@[simp] theorem State.keeps_collStep {s t : State} (h : s.Keeps t) (c l) : s.Keeps (t.collStep c l).1 := by
  grind [State.collStep, State.keeps_collUp, → State.keeps_of_collUp, State.keeps_collOwn, → State.keeps_of_collOwn,
    State.keeps_collResult, → State.keeps_of_collResult]

theorem State.keeps_of_collStep {s t u : State} {c l} {x} (h : s.Keeps t) (hu : t.collStep c l = (u, x)) : s.Keeps u :=
  (State.keeps_collStep h _ _).of_eq hu

@[simp] theorem State.keeps_collFinish {s t : State} (h : s.Keeps t) (ctx slot) : s.Keeps (t.collFinish ctx slot) := by
  grind [State.collFinish, State.keeps_collDone]

@[simp] theorem State.keeps_collRun {s t : State} (h : s.Keeps t) (n ctx slot) : s.Keeps (State.collRun n t ctx slot) := by
  induction n generalizing t with
  | zero => exact h
  | succ n ih =>
    unfold State.collRun
    split
    · exact h
    split
    · exact h
    split
    · exact h
    split
    next hw => exact State.keeps_of_collWrite h hw
    next hw =>
      have hu := State.keeps_of_collWrite h hw
      split
      · exact hu
      split
      next hs => exact ih (State.keeps_of_collStep hu hs)
      next hs => exact State.keeps_collFinish (State.keeps_of_collStep hu hs) _ _

@[simp] theorem State.keeps_driveColl {s t : State} (h : s.Keeps t) (ctx slot) : s.Keeps (t.driveColl ctx slot) := by
  grind [State.driveColl, State.keeps_collRun]

@[simp] theorem State.keeps_startColl {s t : State} (h : s.Keeps t) (w l slot) : s.Keeps (t.startColl w l slot) := by
  grind [State.startColl, State.keeps_setJoined, State.keeps_collDone, State.keeps_collFail, State.keeps_collEnd,
    State.keeps_collGrant, → State.keeps_of_collGrant, State.keeps_driveColl]

@[simp] theorem State.keeps_postSlot {s t : State} (h : s.Keeps t) (w) : s.Keeps (t.postSlot w).1 := by
  grind [State.postSlot, State.keeps_startColl]

theorem State.keeps_of_postSlot {s t u : State} {w} {x} (h : s.Keeps t) (hu : t.postSlot w = (u, x)) : s.Keeps u :=
  (State.keeps_postSlot h _).of_eq hu

@[simp] theorem State.keeps_takeUp {s t : State} (h : s.Keeps t) (c l f) : s.Keeps (t.takeUp c l f) := by
  grind [State.takeUp, State.keeps_collEnd, State.keeps_driveColl, State.keeps_putColl]

@[simp] theorem State.keeps_takeDown {s t : State} (h : s.Keeps t) (c l f) : s.Keeps (t.takeDown c l f) := by
  grind [State.takeDown, State.keeps_collEnd, State.keeps_collSendAll, → State.keeps_of_collSendAll, State.keeps_putColl,
    State.keeps_driveColl]

@[simp] theorem State.keeps_noteEarly {s t : State} (h : s.Keeps t) (f credit fail) : s.Keeps (t.noteEarly f credit fail) := by
  simp [State.noteEarly, h]

@[simp] theorem State.keeps_takeCredit {s t : State} (h : s.Keeps t) (c l f) : s.Keeps (t.takeCredit c l f) := by
  unfold State.takeCredit; split <;> grind [State.keeps_driveColl, State.keeps_putColl, State.keeps_noteEarly,
    State.Keeps.foldl, State.Keeps.refl]

@[simp] theorem State.keeps_takeFail {s t : State} (h : s.Keeps t) (c l f) : s.Keeps (t.takeFail c l f) := by
  unfold State.takeFail; split <;> grind [State.keeps_collDone, State.keeps_collFail, State.keeps_noteEarly, State.Keeps.foldl,
    State.Keeps.refl]

@[simp] theorem State.keeps_takeColl {s t : State} (h : s.Keeps t) (f stamp) : s.Keeps (t.takeColl f stamp) := by
  grind [State.takeColl, State.keeps_takeCredit, State.keeps_takeFail, State.keeps_collEnd, State.keeps_takeUp,
    State.keeps_takeDown]

@[simp] theorem yields_execCollectiveDeadline {s t : State} (h : s.Keeps t) (ctx slot) :
    s.Yields (execCollectiveDeadline ctx slot t) := by
  unfold execCollectiveDeadline; split <;> simp [h]

/-! ### Lists -/

@[simp] theorem State.keeps_holdEntry {s t : State} (h : s.Keeps t) (watch k ctx va slot kind) :
    s.Keeps (t.holdEntry watch k ctx va slot kind) := by
  grind [State.holdEntry, State.keeps_setXlat, State.keeps_putPass]

@[simp] theorem State.keeps_entryFaults {s t : State} (h : s.Keeps t) (watch k ctx va kind f) :
    s.Keeps (t.entryFaults watch k ctx va kind f) := by
  grind [State.entryFaults, State.keeps_recordFault, → State.keeps_of_recordFault, State.keeps_holdEntry,
    State.keeps_entryFault]

@[simp] theorem State.keeps_entryRead {s t : State} (h : s.Keeps t) (watch k ctx va n) :
    s.Keeps (t.entryRead watch k ctx va n).1 := by
  grind [State.entryRead, State.keeps_endEntry, State.keeps_entryFaults, State.keeps_fetchPieces, → State.keeps_of_fetchPieces,
    State.keeps_tieTake]

theorem State.keeps_of_entryRead {s t u : State} {watch k ctx va n} {x} (h : s.Keeps t) (hu : t.entryRead watch k ctx va n = (u, x)) :
    s.Keeps u :=
  (State.keeps_entryRead h _ _ _ _ _).of_eq hu

@[simp] theorem State.keeps_enginePiece {s t : State} (h : s.Keeps t) (ctx op p bytes) :
    s.Keeps (t.enginePiece ctx op p bytes).1 := by
  grind [State.enginePiece, State.keeps_hbmWrite, → State.keeps_tieSend]

@[simp] theorem State.keeps_engineStore {s t : State} (h : s.Keeps t) (ctx op) (l : List Piece) (bytes) :
    s.Keeps (State.engineStore ctx op l bytes t).1 := by
  induction l generalizing t bytes with
  | nil => exact h
  | cons p l ih =>
    have hp := State.keeps_enginePiece h ctx op p (bytes.take p.size)
    grind [State.engineStore]

theorem State.keeps_of_engineStore {s t u : State} {ctx op a a1} {x} (h : s.Keeps t) (hu : State.engineStore ctx op a a1 t = (u, x)) :
    s.Keeps u :=
  (State.keeps_engineStore h _ _ _ _).of_eq hu

@[simp] theorem State.keeps_putEntry {s t : State} (h : s.Keeps t) (watch k e) : s.Keeps (t.putEntry watch k e) := by
  grind [State.putEntry, State.keeps_putPass]

@[simp] theorem State.keeps_skipEntry {s t : State} (h : s.Keeps t) (watch k e) : s.Keeps (t.skipEntry watch k e) := by
  simp [State.skipEntry, h]

@[simp] theorem State.keeps_startEntry {s t : State} (h : s.Keeps t) (watch k e) : s.Keeps (t.startEntry watch k e) := by
  grind [State.startEntry, State.keeps_putEntry, State.keeps_endEntry]

@[simp] theorem State.keeps_readEntry {s t : State} (h : s.Keeps t) (p k e) : s.Keeps (t.readEntry p k e).1 := by
  grind [State.readEntry, State.keeps_entryRead, → State.keeps_of_entryRead, State.keeps_putEntry]

theorem State.keeps_of_readEntry {s t u : State} {p k e} {x} (h : s.Keeps t) (hu : t.readEntry p k e = (u, x)) : s.Keeps u :=
  (State.keeps_readEntry h _ _ _).of_eq hu

@[simp] theorem State.keeps_advance {s t : State} (h : s.Keeps t) (n watch) : s.Keeps (State.advance n watch t) := by
  induction n generalizing t with
  | zero => exact h
  | succ n ih =>
    have hread {p k e u x} (hr : t.readEntry p k e = (u, x)) : s.Keeps u := State.keeps_of_readEntry h hr
    unfold State.advance
    split
    · exact h
    split
    · exact h
    split
    · split
      · exact h
      split
      · exact h
      split
      next hr => exact ih (State.keeps_skipEntry (hread hr) _ _ _)
      next hr => exact hread hr
    · split
      · exact h
      split
      · exact h
      split
      · exact h
      split
      next hr => exact hread hr
      next hr => exact .ite (ih (State.keeps_startEntry (hread hr) _ _ _)) (hread hr)

@[simp] theorem State.keeps_runList {s t : State} (h : s.Keeps t) (watch) : s.Keeps (t.runList watch) := by
  grind [State.runList, State.keeps_advance]

@[simp] theorem State.keeps_countWake {s t : State} (h : s.Keeps t) (acted) : s.Keeps (t.countWake acted) := by
  grind [State.countWake, State.keeps_count, State.keeps_setAbaom]

@[simp] theorem State.keeps_takeList {s t : State} (h : s.Keeps t) (w) : s.Keeps (t.takeList w) := by
  grind [State.takeList, State.keeps_setAbaom, State.keeps_hubWrite, State.keeps_writeDone, State.keeps_runList]

@[simp] theorem State.keeps_endWait {s t : State} (h : s.Keeps t) (watch k e st) : s.Keeps (t.endWait watch k e st) := by
  simp [State.endWait, h]

@[simp] theorem State.keeps_wakeWaits {s t : State} (h : s.Keeps t) (line) : s.Keeps (t.wakeWaits line).1 := by
  simp [State.wakeWaits, h]

theorem State.keeps_of_wakeWaits {s t u : State} {line} {x} (h : s.Keeps t) (hu : t.wakeWaits line = (u, x)) : s.Keeps u :=
  (State.keeps_wakeWaits h _).of_eq hu

@[simp] theorem State.keeps_releaseStaked {s t : State} (h : s.Keeps t) (watch k e) : s.Keeps (t.releaseStaked watch k e) := by
  grind [State.releaseStaked, State.keeps_putEntry, State.keeps_endEntry]

@[simp] theorem yields_execStakedDispatch {s t : State} (h : s.Keeps t) (watch entry) :
    s.Yields (execStakedDispatch watch entry t) := by
  simp only [execStakedDispatch]; (repeat' split) <;> simp [h]

@[simp] theorem yields_onEntry {s t : State} {f : Pass → Entry → State → State} (h : s.Keeps t) (hf : ∀ p e, s.Keeps (f p e t))
    (watch k kind) : s.Yields (onEntry watch k kind f t) := by
  unfold onEntry
  split
  · exact State.yields_next.mpr (hf _ _)
  · exact State.yields_next.mpr h

@[simp] theorem yields_execNopEntry {s t : State} (h : s.Keeps t) (watch entry) : s.Yields (execNopEntry watch entry t) :=
  yields_onEntry h (fun _ _ => State.keeps_endEntry h _ _ _ _) _ _ _

@[simp] theorem yields_execFenceEntry {s t : State} (h : s.Keeps t) (watch entry) : s.Yields (execFenceEntry watch entry t) :=
  yields_onEntry h (fun _ _ => .ite (State.keeps_endEntry h _ _ _ _) h) _ _ _

@[simp] theorem State.keeps_writeEntry {s t : State} (h : s.Keeps t) (watch k p e) : s.Keeps (t.writeEntry watch k p e) := by
  grind [State.writeEntry, State.keeps_endEntry, State.keeps_cpStore, → State.keeps_of_cpStore, State.keeps_entryFaults]

@[simp] theorem yields_execWrite {s t : State} (h : s.Keeps t) (watch entry) : s.Yields (execWrite watch entry t) :=
  yields_onEntry h (fun _ _ => State.keeps_writeEntry h _ _ _ _) _ _ _

@[simp] theorem State.keeps_waitEntry {s t : State} (h : s.Keeps t) (watch k p e) : s.Keeps (t.waitEntry watch k p e) := by
  grind [State.waitEntry, State.keeps_wakeWaits, → State.keeps_of_wakeWaits, State.keeps_endEntry, State.keeps_entryFaults,
    State.keeps_putEntry]

@[simp] theorem yields_execWait {s t : State} (h : s.Keeps t) (watch entry) : s.Yields (execWait watch entry t) :=
  yields_onEntry h (fun _ _ => State.keeps_waitEntry h _ _ _ _) _ _ _

@[simp] theorem yields_execWaitDeadline {s t : State} (h : s.Keeps t) (watch entry) :
    s.Yields (execWaitDeadline watch entry t) := by
  unfold execWaitDeadline; split <;> simp [h]

@[simp] theorem State.keeps_scramble {s t : State} (h : s.Keeps t) (hit bytes) : s.Keeps (t.scramble hit bytes).1 := by
  simp [State.scramble, h]

theorem State.keeps_of_scramble {s t u : State} {hit bytes} {x} (h : s.Keeps t) (hu : t.scramble hit bytes = (u, x)) :
    s.Keeps u :=
  (State.keeps_scramble h _ _).of_eq hu

@[simp] theorem State.keeps_copyTime {s t : State} (h : s.Keeps t) (ctx) : s.Keeps (t.copyTime ctx) := by
  grind [State.copyTime, State.keeps_fresh, State.keeps_putCtx, State.keeps_count]

@[simp] theorem State.keeps_copyBytes {s t : State} (h : s.Keeps t) (watch k ctx src len dst c data) :
    s.Keeps (t.copyBytes watch k ctx src len dst c data) := by
  grind [State.copyBytes, State.keeps_scramble, → State.keeps_of_scramble, State.keeps_endEntry, State.keeps_entryFaults,
    State.keeps_engineStore, → State.keeps_of_engineStore, State.keeps_copyTime]

@[simp] theorem State.keeps_copyEntry {s t : State} (h : s.Keeps t) (watch k p e) : s.Keeps (t.copyEntry watch k p e) := by
  grind [State.copyEntry, State.keeps_endEntry, State.keeps_entryRead, → State.keeps_of_entryRead, State.keeps_copyBytes]

@[simp] theorem yields_execCopy {s t : State} (h : s.Keeps t) (watch entry) : s.Yields (execCopy watch entry t) :=
  yields_onEntry h (fun _ _ => State.keeps_copyEntry h _ _ _ _) _ _ _

@[simp] theorem State.keeps_dispatchEntry {s t : State} (h : s.Keeps t) (watch k p e) :
    s.Keeps (t.dispatchEntry watch k p e) := by
  grind [State.dispatchEntry, State.keeps_endEntry, State.keeps_entryRead, → State.keeps_of_entryRead, State.keeps_putEntry]

@[simp] theorem yields_execDispatch {s t : State} (h : s.Keeps t) (watch entry) : s.Yields (execDispatch watch entry t) :=
  yields_onEntry h (fun _ _ => State.keeps_dispatchEntry h _ _ _ _) _ _ _

@[simp] theorem State.keeps_placeBlock {s t : State} (h : s.Keeps t) (watch k cluster p e kn) :
    s.Keeps (t.placeBlock watch k cluster p e kn) := by
  grind [State.placeBlock, State.keeps_putEntry, State.keeps_setCompute]

@[simp] theorem yields_execBlockPlace {s t : State} (h : s.Keeps t) (watch entry cluster) :
    s.Yields (execBlockPlace watch entry cluster t) := by
  refine yields_onEntry h (fun p e => ?_) _ _ _
  split
  · exact h
  · exact .ite (State.keeps_placeBlock h _ _ _ _ _ _) h

@[simp] theorem yields_execBlockStakeRelease {s t : State} (h : s.Keeps t) (blk) : s.Yields (execBlockStakeRelease blk t) := by
  simp only [execBlockStakeRelease]; (repeat' split) <;> simp [h]

@[simp] theorem State.keeps_endBlock {s t : State} (h : s.Keeps t) (b) : s.Keeps (t.endBlock b) := by
  grind [State.endBlock, State.keeps_setCompute, State.keeps_setShare, State.keeps_putEntry, State.keeps_endEntry]

@[simp] theorem yields_execBlockEnd {s t : State} (h : s.Keeps t) (blk) : s.Yields (execBlockEnd blk t) := by
  unfold execBlockEnd; split <;> simp [h]

@[simp] theorem State.keeps_recordFails {s t : State} (h : s.Keeps t) (watch k ctx va f) :
    s.Keeps (t.recordFails watch k ctx va f).1 := by
  grind [State.recordFails, State.keeps_recordFault, → State.keeps_of_recordFault, State.keeps_holdEntry,
    State.keeps_loseRecord]

theorem State.keeps_of_recordFails {s t u : State} {watch k ctx va f} {x} (h : s.Keeps t) (hu : t.recordFails watch k ctx va f = (u, x)) :
    s.Keeps u :=
  (State.keeps_recordFails h _ _ _ _ _).of_eq hu

@[simp] theorem State.keeps_completeEntry {s t : State} (h : s.Keeps t) (watch k p) : s.Keeps (t.completeEntry watch k p) := by
  grind [State.completeEntry, State.keeps_writeRecord, → State.keeps_of_writeRecord, State.keeps_settleList,
    State.keeps_runList, State.keeps_loseRecord, State.keeps_recordFails, → State.keeps_of_recordFails, State.keeps_teardown]

@[simp] theorem yields_execEntryComplete {s t : State} (h : s.Keeps t) (watch entry) :
    s.Yields (execEntryComplete watch entry t) := by
  unfold execEntryComplete; split <;> simp [h]

@[simp] theorem State.keeps_storeExc {s t : State} (h : s.Keeps t) (ctx x) : s.Keeps (t.storeExc ctx x) := by
  grind [State.storeExc, State.keeps_putCtx, State.keeps_storePieces, → State.keeps_of_storePieces]

@[simp] theorem State.keeps_excEntry {s t : State} (h : s.Keeps t) (ctx x p k e) : s.Keeps (t.excEntry ctx x p k e) := by
  grind [State.excEntry, State.keeps_putPass, State.keeps_writeRecord, → State.keeps_of_writeRecord, State.keeps_teardown,
    State.keeps_loseRecord, State.keeps_recordFails, → State.keeps_of_recordFails]

@[simp] theorem State.keeps_excDispatch {s t : State} (h : s.Keeps t) (ctx x) : s.Keeps (t.excDispatch ctx x) := by
  grind [State.excDispatch, State.keeps_teardown, State.keeps_excEntry]

@[simp] theorem State.keeps_excGoOn {s t : State} (h : s.Keeps t) (ctx) : s.Keeps (t.excGoOn ctx) := by
  grind [State.excGoOn, State.keeps_storeExc, State.keeps_excDispatch]

@[simp] theorem State.keeps_closePass {s t : State} (h : s.Keeps t) (p) : s.Keeps (t.closePass p) := by
  grind [State.closePass, State.keeps_writeDone, State.keeps_listDone]

@[simp] theorem State.keeps_endPass {s t : State} (h : s.Keeps t) (watch n k) : s.Keeps (t.endPass watch n k) := by
  induction n generalizing t k with
  | zero => exact h
  | succ n ih =>
    unfold State.endPass
    split
    · exact h
    split
    · exact State.keeps_closePass h _
    split
    · exact State.keeps_closePass h _
    split
    · exact ih h _
    split
    · exact h
    have hwrite {p v x} (hw : (t.putPass p).writeRecord watch k = (v, x)) : s.Keeps v :=
      State.keeps_of_writeRecord (State.keeps_putPass h _) hw
    simp only
    split
    next hw => exact ih (hwrite hw) _
    next hw => exact ih (State.keeps_loseRecord (hwrite hw) _ _ _) _
    next hw => exact ih (State.keeps_loseRecord (State.keeps_recordFault (hwrite hw) _ _ _ _ _ _ _) _ _ _) _

@[simp] theorem State.keeps_passGoOn {s t : State} (h : s.Keeps t) (watch) : s.Keeps (t.passGoOn watch) := by
  grind [State.passGoOn, State.keeps_settleList, State.keeps_endPass]

@[simp] theorem State.keeps_closeContext {s t : State} (h : s.Keeps t) (ctx) : s.Keeps (t.closeContext ctx) := by
  grind [State.closeContext, State.keeps_complete, State.keeps_putCtx, State.Keeps.foldl, State.Keeps.refl]

@[simp] theorem State.keeps_endContext {s t : State} (h : s.Keeps t) (ctx) : s.Keeps (t.endContext ctx) := by
  grind [State.endContext, State.keeps_dropTranslations, State.keeps_putCtx, State.keeps_notify, State.keeps_closeContext]

@[simp] theorem State.keeps_goOn {s t : State} (h : s.Keeps t) : s.Keeps (t.goOn) := by
  grind [State.goOn, State.keeps_excGoOn, State.keeps_passGoOn, State.keeps_tellLosses, State.keeps_endContext,
    State.Keeps.foldl, State.Keeps.refl]

@[simp] theorem State.keeps_restartWait {s t : State} (h : s.Keeps t) (w) : s.Keeps (t.restartWait w) := by
  unfold State.restartWait; split <;> grind [State.keeps_putPass, State.keeps_runList, State.keeps_driveColl,
    State.keeps_askWalk, State.Keeps.foldl, State.Keeps.refl]

@[simp] theorem State.keeps_dropLeaf {s t : State} (h : s.Keeps t) (ctx addr) : s.Keeps (t.dropLeaf ctx addr) := by
  simp [State.dropLeaf, h]

@[simp] theorem State.keeps_faultReplay {s t : State} (h : s.Keeps t) (n) : s.Keeps (t.faultReplay n) := by
  grind [State.faultReplay, State.keeps_complete, State.keeps_putFault, State.keeps_setXlat, State.keeps_dropLeaf,
    State.keeps_restartWait, State.Keeps.foldl, State.Keeps.refl]

@[simp] theorem yields_execFaultReplay {s t : State} (h : s.Keeps t) (mbx) : s.Yields (execFaultReplay mbx t) := by
  simp [execFaultReplay, h]

/-! ### Time -/

@[simp] theorem State.keeps_passTimers {s t : State} (h : s.Keeps t) : s.Keeps (t.passTimers) := by
  simp [State.passTimers, h]

@[simp] theorem State.keeps_step_ {s t : State} (h : s.Keeps t) (corr) : s.Keeps (t.step_ corr) := by
  simp [State.step_, h]

@[simp] theorem State.keeps_correct {s t : State} (h : s.Keeps t) (corr) : s.Keeps (t.correct corr) := by
  grind [State.correct, State.keeps_setTime, State.keeps_step_]

@[simp] theorem State.keeps_releaseHost {s t : State} (h : s.Keeps t) : s.Keeps (t.releaseHost) := by
  grind [State.releaseHost, State.keeps_emit, State.keeps_setConn]

@[simp] theorem State.keeps_enterHall {s t : State} (h : s.Keeps t) : s.Keeps (t.enterHall) := by
  simp [State.enterHall, h]

@[simp] theorem yields_execTimeWaitExpiry {s t : State} (h : s.Keeps t) : s.Yields (execTimeWaitExpiry t) := by
  simp [execTimeWaitExpiry, h]

@[simp] theorem State.keeps_acquire {s t : State} (h : s.Keeps t) : s.Keeps (t.acquire) := by
  grind [State.acquire, State.keeps_enterHall, State.keeps_correct, State.keeps_loseAlignment]

@[simp] theorem State.keeps_askDelay {s t : State} (h : s.Keeps t) (m t1) : s.Keeps (t.askDelay m t1) := by
  simp [State.askDelay, h]

@[simp] theorem State.keeps_measureHall {s t : State} (h : s.Keeps t) (t1 t3 t4) : s.Keeps (t.measureHall t1 t3 t4) := by
  simp [State.measureHall, h]

@[simp] theorem State.keeps_ptpMessage {s t : State} (h : s.Keeps t) (m stamp) : s.Keeps (t.ptpMessage m stamp) := by
  grind [State.ptpMessage, State.keeps_setTime, State.keeps_askDelay, State.keeps_measureHall]

@[simp] theorem yields_execPtpMessage {s t : State} (h : s.Keeps t) (message stamp) :
    s.Yields (execPtpMessage message stamp t) := by
  simp [execPtpMessage, h]

@[simp] theorem yields_execPtpLockLoss {s t : State} (h : s.Keeps t) : s.Yields (execPtpLockLoss t) := by
  simp [execPtpLockLoss, h]

@[simp] theorem State.keeps_ppsEdge {s t : State} (h : s.Keeps t) (stamp) : s.Keeps (t.ppsEdge stamp) := by
  grind [State.ppsEdge, State.keeps_acquire, State.keeps_setTime, State.keeps_fireTrigger]

@[simp] theorem yields_execPpsEdge {s t : State} (h : s.Keeps t) (stamp) : s.Yields (execPpsEdge stamp t) := by
  simp [execPpsEdge, h]

@[simp] theorem yields_execPpsSeenExpiry {s t : State} (h : s.Keeps t) : s.Yields (execPpsSeenExpiry t) := by
  simp [execPpsSeenExpiry, h]

@[simp] theorem yields_execPpsOut {s t : State} (h : s.Keeps t) : s.Yields (execPpsOut t) := by
  grind [execPpsOut, State.yields_next, yields_onEvent, State.keeps_setTime, State.keeps_emit]

@[simp] theorem State.keeps_writeMtCtrl {s t : State} (h : s.Keeps t) (v) : s.Keeps (t.writeMtCtrl v) := by
  grind [State.writeMtCtrl, State.keeps_setHot, State.keeps_setObs, State.keeps_setTime]

@[simp] theorem yields_execPpsTimeWrite {s t : State} (h : s.Keeps t) (value) : s.Yields (execPpsTimeWrite value t) := by
  simp [execPpsTimeWrite, h]

@[simp] theorem yields_execRefLoss {s t : State} (h : s.Keeps t) : s.Yields (execRefLoss t) := by
  simp [execRefLoss, h]

@[simp] theorem State.keeps_startBacksight {s t : State} (h : s.Keeps t) (mbx posted datum) :
    s.Keeps (t.startBacksight mbx posted datum) := by
  simp [State.startBacksight, h]

@[simp] theorem State.keeps_measurePort {s t : State} (h : s.Keeps t) (port want limit) :
    s.Keeps (t.measurePort port want limit) := by
  simp [State.measurePort, h]

@[simp] theorem State.keeps_backsightRun {s t : State} (h : s.Keeps t) (n) : s.Keeps (t.backsightRun n) := by
  grind [State.backsightRun, State.keeps_complete, State.keeps_begin_, State.keeps_startBacksight]

@[simp] theorem yields_execBacksightRun {s t : State} (h : s.Keeps t) (mbx) : s.Yields (execBacksightRun mbx t) := by
  grind [execBacksightRun, State.yields_next, yields_runCommand, State.keeps_synced, State.keeps_backsightRun]

@[simp] theorem State.keeps_sendBsx {s t : State} (h : s.Keeps t) (p t1 t2 t3 t4) : s.Keeps (t.sendBsx p t1 t2 t3 t4) := by
  simp [State.sendBsx, h]

@[simp] theorem State.keeps_writeDelays {s t : State} (h : s.Keeps t) (r) : s.Keeps (t.writeDelays r) := by
  simp [State.writeDelays, h]

@[simp] theorem State.keeps_sendNotices {s t : State} (h : s.Keeps t) (alignedMt) : s.Keeps (t.sendNotices alignedMt) := by
  simp [State.sendNotices, h]

@[simp] theorem State.keeps_enterAligned {s t : State} (h : s.Keeps t) (r) : s.Keeps (t.enterAligned r) := by
  grind [State.enterAligned, State.keeps_setTime, State.keeps_sendNotices, State.keeps_complete]

@[simp] theorem State.keeps_applyTotal {s t : State} (h : s.Keeps t) (r total) : s.Keeps (t.applyTotal r total) := by
  grind [State.applyTotal, State.keeps_failBacksight, State.keeps_setTime, State.keeps_correct, State.keeps_syncCorrection,
    State.keeps_enterAligned]

@[simp] theorem State.keeps_backsightFails {s t : State} (h : s.Keeps t) (r status) : s.Keeps (t.backsightFails r status) := by
  grind [State.backsightFails, State.keeps_failBacksight, State.keeps_complete]

@[simp] theorem State.keeps_finishExchanges {s t : State} (h : s.Keeps t) (r) : s.Keeps (t.finishExchanges r) := by
  grind [State.finishExchanges, State.keeps_writeDelays, State.keeps_setTime, State.keeps_applyTotal,
    State.keeps_backsightFails]

@[simp] theorem State.keeps_applyMeasure {s t : State} (h : s.Keeps t) (off) : s.Keeps (t.applyMeasure off) := by
  grind [State.applyMeasure, State.keeps_setTime, State.keeps_loseAlignment, State.keeps_syncCorrection, State.keeps_correct]

@[simp] theorem State.keeps_finishMeasure {s t : State} (h : s.Keeps t) (r) : s.Keeps (t.finishMeasure r) := by
  grind [State.finishMeasure, State.keeps_writeDelays, State.keeps_setTime, State.keeps_setConn, State.keeps_measurePort,
    State.keeps_applyMeasure]

@[simp] theorem State.keeps_exchange {s t : State} (h : s.Keeps t) (r) : s.Keeps (t.exchange r) := by
  simp [State.exchange, h]

@[simp] theorem State.keeps_runExchange {s t : State} (h : s.Keeps t) (r) : s.Keeps (t.runExchange r) := by
  grind [State.runExchange, State.keeps_exchange, State.keeps_setTime, State.keeps_finishExchanges]

@[simp] theorem State.keeps_measExchange {s t : State} (h : s.Keeps t) (r) : s.Keeps (t.measExchange r) := by
  grind [State.measExchange, State.keeps_exchange, State.keeps_setTime, State.keeps_finishMeasure]

@[simp] theorem State.keeps_backsightExchange {s t : State} (h : s.Keeps t) : s.Keeps (t.backsightExchange) := by
  grind [State.backsightExchange, State.keeps_runExchange, State.keeps_measExchange]

@[simp] theorem yields_execBacksightExchange {s t : State} (h : s.Keeps t) : s.Yields (execBacksightExchange t) := by
  simp [execBacksightExchange, h]

@[simp] theorem yields_execBacksightRepeat {s t : State} (h : s.Keeps t) : s.Yields (execBacksightRepeat t) :=
  yields_onEvent h (State.keeps_measurePort (State.keeps_setTime h _) _ _ _) _

@[simp] theorem yields_execAlignedNoticeRepeat {s t : State} (h : s.Keeps t) : s.Yields (execAlignedNoticeRepeat t) :=
  yields_onEvent h (State.keeps_sendNotices (State.keeps_setTime h _) _) _

@[simp] theorem yields_execParentRemeasureTimeout {s t : State} (h : s.Keeps t) : s.Yields (execParentRemeasureTimeout t) := by
  grind [execParentRemeasureTimeout, State.yields_next, yields_onTime, State.keeps_loseAlignment]

@[simp] theorem State.keeps_correctionEnds {s t : State} (h : s.Keeps t) : s.Keeps (t.correctionEnds) := by
  grind [State.correctionEnds, State.keeps_enterAligned]

@[simp] theorem yields_execForwardStep {s t : State} (h : s.Keeps t) : s.Yields (execForwardStep t) := by
  grind [execForwardStep, State.yields_next, yields_onTime, State.keeps_correctionEnds, State.keeps_step_]

@[simp] theorem yields_execSlewEnd {s t : State} (h : s.Keeps t) : s.Yields (execSlewEnd t) := by
  grind [execSlewEnd, State.yields_next, yields_onTime, State.keeps_correctionEnds, State.keeps_syncAll, State.keeps_setTime]

@[simp] theorem State.keeps_refReturn {s t : State} (h : s.Keeps t) : s.Keeps (t.refReturn) := by
  grind [State.refReturn, State.keeps_startBacksight, State.keeps_setTime, State.keeps_enterHall, State.keeps_acquire]

@[simp] theorem yields_execRefReturn {s t : State} (h : s.Keeps t) : s.Yields (execRefReturn t) := by
  simp [execRefReturn, h]

@[simp] theorem State.keeps_takeBsx {s t : State} (h : s.Keeps t) (p f stamp) : s.Keeps (t.takeBsx p f stamp) := by
  simp [State.takeBsx, h]

@[simp] theorem State.keeps_heedNotice {s t : State} (h : s.Keeps t) (p f) : s.Keeps (t.heedNotice p f) := by
  grind [State.heedNotice, State.keeps_setTime, State.keeps_fresh, State.keeps_applyTotal, State.keeps_sendNotices]

@[simp] theorem State.keeps_takeNotice {s t : State} (h : s.Keeps t) (p f) : s.Keeps (t.takeNotice p f) := by
  simp [State.takeNotice, h]

@[simp] theorem State.keeps_hallCorrection {s t : State} (h : s.Keeps t) (ahead) : s.Keeps (t.hallCorrection ahead) := by
  grind [State.hallCorrection, State.keeps_setTime, State.keeps_ctrlPeer, State.keeps_enqueueTimer, State.Keeps.foldl,
    State.Keeps.refl]

@[simp] theorem yields_execHallCorrection {s t : State} (h : s.Keeps t) (ahead) : s.Yields (execHallCorrection ahead t) := by
  simp [execHallCorrection, h]

@[simp] theorem State.keeps_takeHall {s t : State} (h : s.Keeps t) (p f) : s.Keeps (t.takeHall p f) := by
  grind [State.takeHall, State.keeps_setTime, State.keeps_ctrlPeer, State.keeps_enqueueTimer, State.Keeps.foldl,
    State.Keeps.refl]

@[simp] theorem State.keeps_beginHallSlew {s t : State} (h : s.Keeps t) (corr) : s.Keeps (t.beginHallSlew corr) := by
  simp [State.beginHallSlew, h]

/-! ### Issue -/

@[simp] theorem State.keeps_putGroup {s t : State} (h : s.Keeps t) (blk k g) : s.Keeps (t.putGroup blk k g) := by
  simp [State.putGroup, h]

@[simp] theorem State.keeps_givePair {s t : State} (h : s.Keeps t) (cluster core blk grp) :
    s.Keeps (t.givePair cluster core blk grp) := by
  simp [State.givePair, h]

@[simp] theorem State.keeps_countIssue {s t : State} (h : s.Keeps t) (a merges) : s.Keeps (t.countIssue a merges) := by
  grind [State.countIssue, State.keeps_progCount, State.keeps_putCtx, State.keeps_count]

@[simp] theorem State.keeps_hwFault {s t : State} (h : s.Keeps t) (ctx) : s.Keeps (t.hwFault ctx) := by
  simp [State.hwFault, h]

@[simp] theorem State.keeps_settleEffect {s t : State} (h : s.Keeps t) {e} (he : s.KeepsEffect e) (a merges) :
    s.Keeps (t.settleEffect a merges e) := by
  cases e with
  | done g u => exact State.keeps_countIssue (State.keeps_putGroup he _ _ _) _ _
  | split g u subs => exact State.keeps_countIssue (State.keeps_putGroup he _ _ _) _ _
  | raise x lanes info => exact State.keeps_takeException h _ _ _
  | fault u lanes info => exact State.keeps_takeException he _ _ _
  | wait u => exact he
  | poison => exact State.keeps_hwFault h _

theorem State.keeps_of_fetchWord {s t u : State} (h : s.Keeps t) {b core pc who site}
    (hu : t.fetchWord b core pc who site = .inl (.wait u)) : s.Keeps u := by
  grind [State.fetchWord, State.keeps_missTlb, State.keeps_tieAsk, → State.keeps_of_tieAsk]

theorem State.keeps_of_fetchInsn {s t u : State} (h : s.Keeps t) {b gi g sg} (hu : t.fetchInsn b gi g sg = .wait u) :
    s.Keeps u := by
  grind [State.fetchInsn, → State.keeps_of_fetchWord]

theorem State.keeps_of_chooseIn {s t u : State} (h : s.Keeps t) {b gi g sg} (hu : t.chooseIn b gi g sg = .fetching u) :
    s.Keeps u := by
  grind [State.chooseIn, → State.keeps_of_fetchInsn]

/-- A sub-group that waits for its instruction has done nothing but ask for it. -/
theorem State.keeps_of_choose {s t u : State} (h : s.Keeps t) {r} (hu : t.choose r = .fetching u) : s.Keeps u := by
  unfold State.choose at hu
  split at hu
  · cases hu
  split at hu
  · cases hu
  split at hu
  · cases hu
  · exact State.keeps_of_chooseIn h hu

@[simp] theorem State.keeps_issue {s t : State} {effect : At → State → Effect} (h :
    s.Keeps t) (he : ∀ a, s.KeepsEffect (effect a t))
    (mine r) : s.Keeps (t.issue mine effect r) := by
  unfold State.issue
  split
  · exact h
  · exact h
  next hu => exact State.keeps_of_choose h hu
  · exact State.keeps_hwFault h _
  next a _ =>
    refine .ite ?_ h
    split
    next heq => exact State.keeps_settleEffect h (heq ▸ he a) _ _
    · exact h
  next a merges _ =>
    exact .ite h (.ite (State.keeps_takeException h _ _ _) (.ite (State.keeps_settleEffect h (e := .done _ t) h _ _)
      (State.keeps_settleEffect h (he a) _ _)))

@[simp] theorem yields_onIssue {s t : State} {effect : At → State → Effect} (h :
    s.Keeps t) (he : ∀ a, s.KeepsEffect (effect a t))
    (cls op r) : s.Yields (onIssue cls op effect r t) :=
  State.yields_next.mpr (State.keeps_issue h he _ _)

@[simp] theorem State.keeps_illegalAt {s t : State} (h : s.Keeps t) (r) : s.Keeps (t.illegalAt r) := by
  grind [State.illegalAt, → State.keeps_of_choose, State.keeps_hwFault, State.keeps_takeException]

@[simp] theorem yields_execException {s t : State} (h : s.Keeps t) (r) : s.Yields (execException r t) := by
  simp [execException, h]

/-! ### IsaAlu -/

@[simp] theorem keeps_intEffect {s t : State} (h : s.Keeps t) (f a) : s.KeepsEffect (intEffect f a t) := by
  simp [intEffect, h]

@[simp] theorem keeps_rdlaneEffect {s t : State} (h : s.Keeps t) (a) : s.KeepsEffect (rdlaneEffect a t) := by
  simp [rdlaneEffect, h]

@[simp] theorem yields_execAdd {s t : State} (h : s.Keeps t) (r) : s.Yields (execAdd r t) := by
  simp [execAdd, h]

@[simp] theorem yields_execSub {s t : State} (h : s.Keeps t) (r) : s.Yields (execSub r t) := by
  simp [execSub, h]

@[simp] theorem yields_execMulLo {s t : State} (h : s.Keeps t) (r) : s.Yields (execMulLo r t) := by
  simp [execMulLo, h]

@[simp] theorem yields_execMulHi {s t : State} (h : s.Keeps t) (r) : s.Yields (execMulHi r t) := by
  simp [execMulHi, h]

@[simp] theorem yields_execDiv {s t : State} (h : s.Keeps t) (r) : s.Yields (execDiv r t) := by
  simp [execDiv, h]

@[simp] theorem yields_execRem {s t : State} (h : s.Keeps t) (r) : s.Yields (execRem r t) := by
  simp [execRem, h]

@[simp] theorem yields_execAnd {s t : State} (h : s.Keeps t) (r) : s.Yields (execAnd r t) := by
  simp [execAnd, h]

@[simp] theorem yields_execOr {s t : State} (h : s.Keeps t) (r) : s.Yields (execOr r t) := by
  simp [execOr, h]

@[simp] theorem yields_execXor {s t : State} (h : s.Keeps t) (r) : s.Yields (execXor r t) := by
  simp [execXor, h]

@[simp] theorem yields_execShl {s t : State} (h : s.Keeps t) (r) : s.Yields (execShl r t) := by
  simp [execShl, h]

@[simp] theorem yields_execShr {s t : State} (h : s.Keeps t) (r) : s.Yields (execShr r t) := by
  simp [execShr, h]

@[simp] theorem yields_execMin {s t : State} (h : s.Keeps t) (r) : s.Yields (execMin r t) := by
  simp [execMin, h]

@[simp] theorem yields_execMax {s t : State} (h : s.Keeps t) (r) : s.Yields (execMax r t) := by
  simp [execMax, h]

@[simp] theorem yields_execCmp {s t : State} (h : s.Keeps t) (r) : s.Yields (execCmp r t) := by
  simp [execCmp, h]

@[simp] theorem yields_execSel {s t : State} (h : s.Keeps t) (r) : s.Yields (execSel r t) := by
  simp [execSel, h]

@[simp] theorem yields_execMov {s t : State} (h : s.Keeps t) (r) : s.Yields (execMov r t) := by
  simp [execMov, h]

@[simp] theorem yields_execLaneId {s t : State} (h : s.Keeps t) (r) : s.Yields (execLaneId r t) := by
  simp [execLaneId, h]

@[simp] theorem yields_execRdlane {s t : State} (h : s.Keeps t) (r) : s.Yields (execRdlane r t) := by
  simp [execRdlane, h]

@[simp] theorem yields_execPopc {s t : State} (h : s.Keeps t) (r) : s.Yields (execPopc r t) := by
  simp [execPopc, h]

@[simp] theorem yields_execClz {s t : State} (h : s.Keeps t) (r) : s.Yields (execClz r t) := by
  simp [execClz, h]

@[simp] theorem keeps_floatEffect {s t : State} (h : s.Keeps t) (f a) : s.KeepsEffect (floatEffect f a t) := by
  simp [floatEffect, h]

@[simp] theorem keeps_fcvtEffect {s t : State} (h : s.Keeps t) (a) : s.KeepsEffect (fcvtEffect a t) := by
  simp [fcvtEffect, h]

@[simp] theorem yields_execFadd {s t : State} (h : s.Keeps t) (r) : s.Yields (execFadd r t) := by
  simp [execFadd, h]

@[simp] theorem yields_execFsub {s t : State} (h : s.Keeps t) (r) : s.Yields (execFsub r t) := by
  simp [execFsub, h]

@[simp] theorem yields_execFmul {s t : State} (h : s.Keeps t) (r) : s.Yields (execFmul r t) := by
  simp [execFmul, h]

@[simp] theorem yields_execFfma {s t : State} (h : s.Keeps t) (r) : s.Yields (execFfma r t) := by
  simp [execFfma, h]

@[simp] theorem yields_execFdiv {s t : State} (h : s.Keeps t) (r) : s.Yields (execFdiv r t) := by
  simp [execFdiv, h]

@[simp] theorem yields_execFsqrt {s t : State} (h : s.Keeps t) (r) : s.Yields (execFsqrt r t) := by
  simp [execFsqrt, h]

@[simp] theorem yields_execFmin {s t : State} (h : s.Keeps t) (r) : s.Yields (execFmin r t) := by
  simp [execFmin, h]

@[simp] theorem yields_execFmax {s t : State} (h : s.Keeps t) (r) : s.Yields (execFmax r t) := by
  simp [execFmax, h]

@[simp] theorem yields_execFcmp {s t : State} (h : s.Keeps t) (r) : s.Yields (execFcmp r t) := by
  simp [execFcmp, h]

@[simp] theorem yields_execFcvt {s t : State} (h : s.Keeps t) (r) : s.Yields (execFcvt r t) := by
  simp [execFcvt, h]

@[simp] theorem yields_execFcvtI {s t : State} (h : s.Keeps t) (r) : s.Yields (execFcvtI r t) := by
  simp [execFcvtI, h]

@[simp] theorem yields_execFcvtF {s t : State} (h : s.Keeps t) (r) : s.Yields (execFcvtF r t) := by
  simp [execFcvtF, h]

/-! ### IsaControl -/

@[simp] theorem State.keeps_bmWrite {s t : State} (h : s.Keeps t) (b offset bytes) : s.Keeps (t.bmWrite b offset bytes) := by
  simp [State.bmWrite, h]

@[simp] theorem At.keeps_jump {s t : State} (h : s.Keeps t) (a pc) : s.KeepsEffect (At.jump a pc t) := by
  simp [At.jump, h]

@[simp] theorem At.keeps_jumpChecked {s t : State} (h : s.Keeps t) (a sg pc) : s.KeepsEffect (At.jumpChecked a sg pc t) := by
  simp [At.jumpChecked, h]

@[simp] theorem keeps_brEffect {s t : State} (h : s.Keeps t) (a) : s.KeepsEffect (brEffect a t) := by
  simp [brEffect, h]

@[simp] theorem keeps_brREffect {s t : State} (h : s.Keeps t) (a) : s.KeepsEffect (brREffect a t) := by
  simp [brREffect, h]

@[simp] theorem keeps_brCEffect {s t : State} (h : s.Keeps t) (a) : s.KeepsEffect (brCEffect a t) := by
  simp only [brCEffect]; (repeat' split) <;> simp [h]

@[simp] theorem keeps_callEffect {s t : State} (h : s.Keeps t) (a) : s.KeepsEffect (callEffect a t) := by
  simp [callEffect, h]

@[simp] theorem keeps_callREffect {s t : State} (h : s.Keeps t) (a) : s.KeepsEffect (callREffect a t) := by
  simp [callREffect, h]

@[simp] theorem keeps_retEffect {s t : State} (h : s.Keeps t) (a) : s.KeepsEffect (retEffect a t) := by
  unfold retEffect; split <;> simp [h]

@[simp] theorem keeps_exitEffect {s t : State} (h : s.Keeps t) (a) : s.KeepsEffect (exitEffect a t) := by
  simp [exitEffect, h]

@[simp] theorem keeps_trapEffect {s t : State} (_ : s.Keeps t) (a) : s.KeepsEffect (trapEffect a t) := by
  simp [trapEffect]

@[simp] theorem keeps_nopEffect {s t : State} (h : s.Keeps t) (a) : s.KeepsEffect (nopEffect a t) := by
  simp [nopEffect, h]

@[simp] theorem yields_execBr {s t : State} (h : s.Keeps t) (r) : s.Yields (execBr r t) := by
  simp [execBr, h]

@[simp] theorem yields_execBrC {s t : State} (h : s.Keeps t) (r) : s.Yields (execBrC r t) := by
  simp [execBrC, h]

@[simp] theorem yields_execBrR {s t : State} (h : s.Keeps t) (r) : s.Yields (execBrR r t) := by
  simp [execBrR, h]

@[simp] theorem yields_execCall {s t : State} (h : s.Keeps t) (r) : s.Yields (execCall r t) := by
  simp [execCall, h]

@[simp] theorem yields_execCallR {s t : State} (h : s.Keeps t) (r) : s.Yields (execCallR r t) := by
  simp [execCallR, h]

@[simp] theorem yields_execRet {s t : State} (h : s.Keeps t) (r) : s.Yields (execRet r t) := by
  simp [execRet, h]

@[simp] theorem yields_execExit {s t : State} (h : s.Keeps t) (r) : s.Yields (execExit r t) := by
  simp [execExit, h]

@[simp] theorem yields_execTrap {s t : State} (h : s.Keeps t) (r) : s.Yields (execTrap r t) := by
  simp [execTrap, h]

@[simp] theorem yields_execNop {s t : State} (h : s.Keeps t) (r) : s.Yields (execNop r t) := by
  simp [execNop, h]

@[simp] theorem keeps_fenceEffect {s t : State} (h : s.Keeps t) (a) : s.KeepsEffect (fenceEffect a t) := by
  simp [fenceEffect, h]

@[simp] theorem At.keeps_holds {s t : State} (h : s.Keeps t) (a h1) : s.KeepsEffect (At.holds a h1 t) := by
  simp [At.holds, h]

@[simp] theorem keeps_barGroupEffect {s t : State} (h : s.Keeps t) (a) : s.KeepsEffect (barGroupEffect a t) := by
  simp [barGroupEffect, h]

@[simp] theorem keeps_barBlockEffect {s t : State} (h : s.Keeps t) (a) : s.KeepsEffect (barBlockEffect a t) := by
  simp [barBlockEffect, h]

@[simp] theorem keeps_arrWaitEffect {s t : State} (h : s.Keeps t) (a) : s.KeepsEffect (arrWaitEffect a t) := by
  simp only [arrWaitEffect]; split <;> simp [h]

@[simp] theorem keeps_stakeWaitEffect {s t : State} (h : s.Keeps t) (a) : s.KeepsEffect (stakeWaitEffect a t) := by
  simp [stakeWaitEffect, h]

@[simp] theorem keeps_mtReadEffect {s t : State} (h : s.Keeps t) (a) : s.KeepsEffect (mtReadEffect a t) := by
  simp [mtReadEffect, h]

@[simp] theorem yields_execFence {s t : State} (h : s.Keeps t) (r) : s.Yields (execFence r t) := by
  simp [execFence, h]

@[simp] theorem yields_execBarGroup {s t : State} (h : s.Keeps t) (r) : s.Yields (execBarGroup r t) := by
  simp [execBarGroup, h]

@[simp] theorem yields_execBarBlock {s t : State} (h : s.Keeps t) (r) : s.Yields (execBarBlock r t) := by
  simp [execBarBlock, h]

@[simp] theorem yields_execArrWait {s t : State} (h : s.Keeps t) (r) : s.Yields (execArrWait r t) := by
  simp [execArrWait, h]

@[simp] theorem yields_execStakeWait {s t : State} (h : s.Keeps t) (r) : s.Yields (execStakeWait r t) := by
  simp [execStakeWait, h]

@[simp] theorem yields_execMtRead {s t : State} (h : s.Keeps t) (r) : s.Yields (execMtRead r t) := by
  simp [execMtRead, h]

@[simp] theorem yields_execBarGroupRelease {s t : State} (h : s.Keeps t) (blk grp) :
    s.Yields (execBarGroupRelease blk grp t) := by
  unfold execBarGroupRelease; split <;> simp [h]

@[simp] theorem yields_execBarBlockRelease {s t : State} (h : s.Keeps t) (blk) : s.Yields (execBarBlockRelease blk t) := by
  unfold execBarBlockRelease; split <;> simp [h]

@[simp] theorem State.keeps_unhold {s t : State} (h : s.Keeps t) (r g x) : s.Keeps (t.unhold r g x) := by
  simp [State.unhold, h]

@[simp] theorem yields_execArrWaitRelease {s t : State} (h : s.Keeps t) (r) : s.Yields (execArrWaitRelease r t) := by
  simp only [execArrWaitRelease]; (repeat' split) <;> simp [h]

@[simp] theorem yields_execStakeWaitRelease {s t : State} (h : s.Keeps t) (r) : s.Yields (execStakeWaitRelease r t) := by
  simp only [execStakeWaitRelease]; (repeat' split) <;> simp [h]

@[simp] theorem keeps_srReadEffect {s t : State} (h : s.Keeps t) (a) : s.KeepsEffect (srReadEffect a t) := by
  simp [srReadEffect, h]

@[simp] theorem keeps_srWriteEffect {s t : State} (h : s.Keeps t) (a) : s.KeepsEffect (srWriteEffect a t) := by
  simp [srWriteEffect, h]

@[simp] theorem keeps_srClrEffect {s t : State} (h : s.Keeps t) (a) : s.KeepsEffect (srClrEffect a t) := by
  simp [srClrEffect, h]

@[simp] theorem yields_execSrRead {s t : State} (h : s.Keeps t) (r) : s.Yields (execSrRead r t) := by
  simp [execSrRead, h]

@[simp] theorem yields_execSrWrite {s t : State} (h : s.Keeps t) (r) : s.Yields (execSrWrite r t) := by
  simp [execSrWrite, h]

@[simp] theorem yields_execSrClr {s t : State} (h : s.Keeps t) (r) : s.Yields (execSrClr r t) := by
  simp [execSrClr, h]

/-! ### Memory -/

@[simp] theorem State.keeps_putPseudo {s t : State} (h : s.Keeps t) (x) : s.Keeps (t.putPseudo x) := by
  simp [State.putPseudo, h]

@[simp] theorem State.keeps_countActivation {s t : State} (h : s.Keeps t) (p) : s.Keeps (t.countActivation p) := by
  simp [State.countActivation, h]

@[simp] theorem State.keeps_visitRow {s t : State} (h : s.Keeps t) (p read) : s.Keeps (t.visitRow p read) := by
  grind [State.visitRow, State.keeps_putPseudo, State.keeps_countActivation]

@[simp] theorem State.keeps_markDrain {s t : State} (h : s.Keeps t) (p) : s.Keeps (t.markDrain p) := by
  simp [State.markDrain, h]

@[simp] theorem State.keeps_admitTracked {s t : State} (h : s.Keeps t) : s.Keeps (t.admitTracked) := by
  grind [State.admitTracked, State.keeps_markDrain, State.keeps_setMem, State.Keeps.foldl, State.Keeps.refl]

@[simp] theorem State.keeps_memAsk {s t : State} (h : s.Keeps t) (r) : s.Keeps (t.memAsk r) := by
  grind [State.memAsk, State.keeps_setMem, State.keeps_admitTracked, State.keeps_setShare, State.keeps_putBucket]

@[simp] theorem State.keeps_memRequest {s t : State} (h : s.Keeps t) (line sectors write cls agent partition ctx) :
    s.Keeps (t.memRequest line sectors write cls agent partition ctx) := by
  simp [State.memRequest, h]

@[simp] theorem State.keeps_memPart {s t : State} (h : s.Keeps t) (line sectors part cls partition ctx) :
    s.Keeps (t.memPart line sectors part cls partition ctx) := by
  simp [State.memPart, h]

@[simp] theorem State.keeps_memAlu {s t : State} (h : s.Keeps t) (line bytes cls partition ctx) :
    s.Keeps (t.memAlu line bytes cls partition ctx) := by
  simp [State.memAlu, h]

@[simp] theorem yields_execBucketAdmission {s t : State} (h : s.Keeps t) (partition bucket) :
    s.Yields (execBucketAdmission partition bucket t) := by
  unfold execBucketAdmission; split <;> grind [State.yields_next, State.keeps_putBucket, State.keeps_setShare,
    State.keeps_sendOn, State.keeps_admitTracked, State.Keeps.foldl, State.Keeps.refl]

@[simp] theorem yields_execReadAgePromote {s t : State} (h : s.Keeps t) (req) : s.Yields (execReadAgePromote req t) := by
  grind [execReadAgePromote, State.yields_next, yields_onEvent, State.keeps_admitTracked, State.keeps_setMem]

@[simp] theorem State.keeps_countMoved {s t : State} (h : s.Keeps t) (stack bytes write scrub) :
    s.Keeps (t.countMoved stack bytes write scrub) := by
  grind [State.countMoved, State.keeps_setMem, State.keeps_count]

@[simp] theorem State.keeps_chargeHbm {s t : State} (h : s.Keeps t) (ctx write bytes) :
    s.Keeps (t.chargeHbm ctx write bytes) := by
  unfold State.chargeHbm; split <;> grind [State.keeps_putCtx, State.Keeps.foldl, State.Keeps.refl]

@[simp] theorem State.keeps_codeword {s t : State} (h : s.Keeps t) (symbols) : s.Keeps (t.codeword symbols).1 := by
  grind [State.codeword, State.keeps_fresh]

@[simp] theorem State.keeps_readSector {s t : State} (h : s.Keeps t) (e) : s.Keeps (t.readSector e).1 := by
  simp [State.readSector, h]

theorem State.keeps_of_readSector {s t u : State} {e} {x} (h : s.Keeps t) (hu : t.readSector e = (u, x)) : s.Keeps u :=
  (State.keeps_readSector h _).of_eq hu

@[simp] theorem State.keeps_corrupt {s t : State} (h : s.Keeps t) (sector) : s.Keeps (t.corrupt sector) := by
  simp only [State.corrupt]
  generalize List.map _ _ = bytes
  exact State.keeps_setMem_cellWrite (State.keeps_setFreeCtr h _) rfl

@[simp] theorem State.keeps_sectorError {s t : State} (h : s.Keeps t) (sector v) : s.Keeps (t.sectorError sector v) := by
  unfold State.sectorError; split <;> grind [State.keeps_memError, State.keeps_count, State.keeps_setMem, State.keeps_corrupt,
    State.Keeps.foldl, State.Keeps.refl]

@[simp] theorem State.keeps_correctBack {s t : State} (h : s.Keeps t) (sector v) : s.Keeps (t.correctBack sector v) := by
  simp [State.correctBack, h]

@[simp] theorem State.keeps_checkSector {s t : State} (h : s.Keeps t) (write e) : s.Keeps (t.checkSector write e) := by
  grind [State.checkSector, State.keeps_readSector, → State.keeps_of_readSector, State.keeps_sectorError,
    State.keeps_correctBack]

@[simp] theorem State.keeps_countRequest {s t : State} (h : s.Keeps t) (r) : s.Keeps (t.countRequest r) := by
  grind [State.countRequest, State.keeps_chargeHbm, State.keeps_countMoved]

@[simp] theorem State.keeps_endRequest {s t : State} (h : s.Keeps t) (r errors) : s.Keeps (t.endRequest r errors) := by
  grind [State.endRequest, State.keeps_visitRow, State.keeps_setMem, State.keeps_markDrain, State.keeps_admitTracked,
    State.keeps_checkSector, State.keeps_countRequest, State.Keeps.foldl, State.Keeps.refl]

@[simp] theorem yields_execPatrolScrub {s t : State} (h : s.Keeps t) (sector errors) :
    s.Yields (execPatrolScrub sector errors t) := by
  grind [execPatrolScrub, State.yields_next, yields_onEvent, State.keeps_checkSector, State.keeps_visitRow,
    State.keeps_countMoved]

@[simp] theorem yields_execRefresh {s t : State} (h : s.Keeps t) (stack channel pseudo bank manage) :
    s.Yields (execRefresh stack channel pseudo bank manage t) := by
  grind [execRefresh, State.yields_next, yields_onEvent, State.keeps_putPseudo, State.keeps_setMem]

@[simp] theorem State.keeps_fenceRow {s t : State} (h : s.Keeps t) (r) : s.Keeps (t.fenceRow r) := by
  grind [State.fenceRow, State.keeps_setMem, State.keeps_complete, State.keeps_memError]

@[simp] theorem State.keeps_startRepairs {s t : State} (h : s.Keeps t) (n) : s.Keeps (State.startRepairs n t) := by
  induction n generalizing t with
  | zero => exact h
  | succ n ih =>
    unfold State.startRepairs
    split
    · simp only
      split_ifs
      · refine ih (State.keeps_fenceRow (State.keeps_setMem h ?_) _)
        rfl
      · refine State.keeps_setMem (State.keeps_setMem h ?_) ?_ <;> rfl
    · exact h

@[simp] theorem State.keeps_stackRepairStart {s t : State} (h : s.Keeps t) (n) : s.Keeps (t.stackRepairStart n) := by
  refine .ite (State.keeps_complete h _ _ _) (State.keeps_startRepairs (State.keeps_setMem (State.keeps_begin_ h n) ?_) _)
  rfl

@[simp] theorem yields_execStackRepair {s t : State} (h : s.Keeps t) (mbx) : s.Yields (execStackRepair mbx t) := by
  simp [execStackRepair, h]

@[simp] theorem State.keeps_copyRow {s t : State} (h : s.Keeps t) (r errors) : s.Keeps (t.copyRow r errors) := by
  grind [State.copyRow, State.keeps_checkSector, State.keeps_visitRow, State.keeps_countMoved, State.Keeps.foldl,
    State.Keeps.refl]

@[simp] theorem yields_execStackRepairDrained {s t : State} (h : s.Keeps t) (copy) :
    s.Yields (execStackRepairDrained copy t) := by
  unfold execStackRepairDrained; split <;> grind [State.yields_next, State.keeps_startRepairs, State.keeps_setMem,
    State.keeps_copyRow, State.keeps_complete, State.keeps_fenceRow, State.keeps_admitTracked, State.Keeps.foldl,
    State.Keeps.refl]

/-! ### Coherence -/

@[simp] theorem State.keeps_dropCopies {s t : State} (h : s.Keeps t) (line) : s.Keeps (t.dropCopies line) := by
  simp [State.dropCopies, h]

@[simp] theorem State.keeps_putDir {s t : State} (h : s.Keeps t) (d) : s.Keeps (t.putDir d) := by
  grind [State.putDir, State.keeps_setCoh, State.keeps_dropCopies]

@[simp] theorem State.keeps_evict {s t : State} (h : s.Keeps t) (l) : s.Keeps (t.evict l) := by
  simp [State.evict, h]

@[simp] theorem State.keeps_install {s t : State} (h : s.Keeps t) (l) : s.Keeps (t.install l) := by
  grind [State.install, State.keeps_setCoh, State.keeps_evict]

@[simp] theorem State.keeps_removeWatch {s t : State} (h : s.Keeps t) (line) : s.Keeps (t.removeWatch line) := by
  simp [State.removeWatch, h]

@[simp] theorem State.keeps_rmw {s t : State} (h : s.Keeps t) (pa op size a c) : s.Keeps (t.rmw pa op size a c).1 := by
  simp [State.rmw, h]

theorem State.keeps_of_rmw {s t u : State} {pa op size a c} {x} (h : s.Keeps t) (hu : t.rmw pa op size a c = (u, x)) :
    s.Keeps u :=
  (State.keeps_rmw h _ _ _ _ _).of_eq hu

@[simp] theorem State.keeps_predict {s t : State} (h : s.Keeps t) (home agent line) :
    s.Keeps (t.predict home agent line).1 := by
  grind [State.predict, State.keeps_setCoh]

theorem State.keeps_of_predict {s t u : State} {home agent line} {x} (h : s.Keeps t) (hu : t.predict home agent line = (u, x)) :
    s.Keeps u :=
  (State.keeps_predict h _ _ _).of_eq hu

@[simp] theorem State.keeps_atomPlace {s t : State} (h : s.Keeps t) (agent line) : s.Keeps (t.atomPlace agent line).1 := by
  grind [State.atomPlace, State.keeps_predict, → State.keeps_of_predict]

theorem State.keeps_of_atomPlace {s t u : State} {agent line} {x} (h : s.Keeps t) (hu : t.atomPlace agent line = (u, x)) :
    s.Keeps u :=
  (State.keeps_atomPlace h _ _).of_eq hu

@[simp] theorem State.keeps_countFar {s t : State} (h : s.Keeps t) (line cells atomics) :
    s.Keeps (t.countFar line cells atomics) := by
  simp [State.countFar, h]

@[simp] theorem State.keeps_farLine {s t : State} (h : s.Keeps t) (line cells atomics cls partition ctx) :
    s.Keeps (t.farLine line cells atomics cls partition ctx) := by
  grind [State.farLine, State.keeps_putDir, State.keeps_removeWatch, State.keeps_dropCopies, State.keeps_memAlu,
    State.keeps_countFar]

@[simp] theorem State.keeps_homeLine {s t : State} (h : s.Keeps t) (line ctx) : s.Keeps (t.homeLine line ctx) := by
  grind [State.homeLine, State.keeps_putDir, State.keeps_removeWatch, State.keeps_dropCopies, State.keeps_install]

@[simp] theorem State.keeps_atomHolders {s t : State} (h : s.Keeps t) (agent pa cls ctx) :
    s.Keeps (t.atomHolders agent pa cls ctx) := by
  grind [State.atomHolders, State.keeps_atomPlace, → State.keeps_of_atomPlace, State.keeps_homeLine, State.keeps_farLine]

@[simp] theorem State.keeps_sendCoh {s t : State} (h : s.Keeps t) (kind agent line sectors) :
    s.Keeps (t.sendCoh kind agent line sectors) := by
  simp [State.sendCoh, h]

theorem State.keeps_of_takeMsg {s t u : State} {m} (h : s.Keeps t) {agent line p} (hu : t.takeMsg agent line p = some (u, m)) :
    s.Keeps u := by
  obtain ⟨_, -, hm⟩ := Option.map_eq_some_iff.mp hu
  cases hm
  exact State.keeps_setCoh h _

@[simp] theorem State.keeps_putReq {s t : State} (h : s.Keeps t) (r) : s.Keeps (t.putReq r) := by
  simp [State.putReq, h]

@[simp] theorem State.keeps_putTxn {s t : State} (h : s.Keeps t) (t1) : s.Keeps (t.putTxn t1) := by
  simp [State.putTxn, h]

@[simp] theorem State.keeps_acceptAsk {s t : State} (h : s.Keeps t) (r) : s.Keeps (t.acceptAsk r) := by
  grind [State.acceptAsk, State.keeps_removeWatch, State.keeps_putReq, State.keeps_setCoh, State.keeps_sendCoh,
    State.keeps_memRequest, State.Keeps.foldl, State.Keeps.refl]

@[simp] theorem State.keeps_performAsk {s t : State} (h : s.Keeps t) (t1) : s.Keeps (t.performAsk t1).1 := by
  grind [State.performAsk, State.keeps_memPart, State.keeps_hbmWrite, State.keeps_atomPlace, → State.keeps_of_atomPlace,
    State.keeps_homeLine, State.keeps_farLine, State.keeps_rmw, → State.keeps_of_rmw, State.keeps_putDir]

theorem State.keeps_of_performAsk {s t u : State} {t1} {x} (h : s.Keeps t) (hu : t.performAsk t1 = (u, x)) : s.Keeps u :=
  (State.keeps_performAsk h _).of_eq hu

@[simp] theorem State.keeps_endTxn {s t : State} (h : s.Keeps t) (line) : s.Keeps (t.endTxn line) := by
  grind [State.endTxn, State.keeps_setCoh, State.keeps_acceptAsk]

@[simp] theorem State.keeps_settleTxn {s t : State} (h : s.Keeps t) (line) : s.Keeps (t.settleTxn line) := by
  grind [State.settleTxn, State.keeps_performAsk, → State.keeps_of_performAsk, State.keeps_sendCoh, State.keeps_putTxn,
    State.keeps_endTxn]

@[simp] theorem State.keeps_askHome {s t : State} (h : s.Keeps t) (r) : s.Keeps (t.askHome r) := by
  grind [State.askHome, State.keeps_settleTxn, State.keeps_acceptAsk, State.keeps_count, State.keeps_putReq,
    State.keeps_sendCoh, State.keeps_setCoh]

@[simp] theorem State.keeps_ask {s t : State} (h : s.Keeps t) (agent line sectors ctx age kind) :
    s.Keeps (t.ask agent line sectors ctx age kind) := by
  grind [State.ask, State.keeps_askHome, State.keeps_setCoh]

@[simp] theorem yields_execGets {s t : State} (h : s.Keeps t) (req) : s.Yields (execGets req t) := by
  simp [execGets, h]

@[simp] theorem State.keeps_zeroLine {s t : State} (h : s.Keeps t) (agent line) : s.Keeps (t.zeroLine agent line) :=
  State.keeps_setCoh (State.keeps_hbmWrite h _ _) _

@[simp] theorem State.keeps_cboZero {s t : State} (h : s.Keeps t) (agent line ctx age) :
    s.Keeps (t.cboZero agent line ctx age) := by
  grind [State.cboZero, State.keeps_zeroLine, State.keeps_ask]

@[simp] theorem yields_execGetx {s t : State} (h : s.Keeps t) (req) : s.Yields (execGetx req t) := by
  simp [execGetx, h]

@[simp] theorem yields_execCoherenceClaim {s t : State} (h : s.Keeps t) (req) : s.Yields (execCoherenceClaim req t) := by
  simp [execCoherenceClaim, h]

@[simp] theorem yields_execGlance {s t : State} (h : s.Keeps t) (req) : s.Yields (execGlance req t) := by
  simp [execGlance, h]

@[simp] theorem yields_execPlace {s t : State} (h : s.Keeps t) (req offset bytes) :
    s.Yields (execPlace req offset bytes t) := by
  simp [execPlace, h]

@[simp] theorem yields_execAtom {s t : State} (h : s.Keeps t) (req) : s.Yields (execAtom req t) := by
  simp [execAtom, h]

@[simp] theorem State.keeps_evictNow {s t : State} (h : s.Keeps t) (agent line dirty) :
    s.Keeps (t.evictNow agent line dirty).1 := by
  grind [State.evictNow, State.keeps_evict]

theorem State.keeps_of_evictNow {s t u : State} {agent line dirty} {x} (h : s.Keeps t) (hu : t.evictNow agent line dirty = (u, x)) :
    s.Keeps u :=
  (State.keeps_evictNow h _ _ _).of_eq hu

@[simp] theorem yields_execVacate {s t : State} (h : s.Keeps t) (req) : s.Yields (execVacate req t) := by
  grind [execVacate, State.yields_next, State.keeps_evictNow, → State.keeps_of_evictNow, State.keeps_setCoh, State.keeps_putDir]

@[simp] theorem yields_execSpill {s t : State} (h : s.Keeps t) (req) : s.Yields (execSpill req t) := by
  grind [execSpill, State.yields_next, State.keeps_evictNow, → State.keeps_of_evictNow, State.keeps_setCoh,
    State.keeps_sendCoh, State.keeps_putDir]

@[simp] theorem State.keeps_absentReply {s t : State} (h : s.Keeps t) (agent line) : s.Keeps (t.absentReply agent line) := by
  simp [State.absentReply, h]

@[simp] theorem yields_execProbeGive {s t : State} (h : s.Keeps t) (req) : s.Yields (execProbeGive req t) := by
  unfold execProbeGive; split <;> grind [State.yields_next, → State.keeps_of_takeMsg, State.keeps_absentReply,
    State.keeps_setCoh, State.keeps_sendCoh, State.Keeps.foldl, State.Keeps.refl]

@[simp] theorem yields_execProbeKill {s t : State} (h : s.Keeps t) (req) : s.Yields (execProbeKill req t) := by
  grind [execProbeKill, State.yields_next, → State.keeps_of_takeMsg, State.keeps_absentReply, State.keeps_setCoh,
    State.keeps_sendCoh]

@[simp] theorem yields_execReply {s t : State} (h : s.Keeps t) (req) : s.Yields (execReply req t) := by
  unfold execReply; split <;> grind [State.yields_next, → State.keeps_of_takeMsg, State.keeps_putDir, State.keeps_putTxn,
    State.keeps_memRequest, State.keeps_settleTxn, State.Keeps.foldl, State.Keeps.refl]

@[simp] theorem yields_execSpillCargo {s t : State} (h : s.Keeps t) (req) : s.Yields (execSpillCargo req t) := by
  unfold execSpillCargo; split <;> grind [State.yields_next, → State.keeps_of_takeMsg, State.keeps_setCoh,
    State.keeps_memRequest, State.keeps_settleTxn, State.keeps_putTxn, State.Keeps.foldl, State.Keeps.refl]

@[simp] theorem State.keeps_finishReq {s t : State} (h : s.Keeps t) (r) : s.Keeps (t.finishReq r) := by
  grind [State.finishReq, State.keeps_setCoh, State.keeps_sendCoh]

@[simp] theorem State.keeps_seat {s t : State} (h : s.Keeps t) (r st) : s.Keeps (t.seat r st) := by
  grind [State.seat, State.keeps_zeroLine, State.keeps_install]

@[simp] theorem yields_execGrant {s t : State} (h : s.Keeps t) (req) : s.Yields (execGrant req t) := by
  unfold execGrant; split <;> grind [State.yields_next, → State.keeps_of_takeMsg, State.keeps_putReq, State.keeps_seat,
    State.keeps_finishReq, State.Keeps.foldl, State.Keeps.refl]

@[simp] theorem yields_execCargo {s t : State} (h : s.Keeps t) (req) : s.Yields (execCargo req t) := by
  grind [execCargo, State.yields_next, → State.keeps_of_takeMsg, State.keeps_setCoh, State.keeps_putReq, State.keeps_finishReq]

@[simp] theorem yields_execSeated {s t : State} (h : s.Keeps t) (req) : s.Yields (execSeated req t) := by
  grind [execSeated, State.yields_next, → State.keeps_of_takeMsg, State.keeps_settleTxn, State.keeps_endTxn]

@[simp] theorem yields_execRetry {s t : State} (h : s.Keeps t) (req) : s.Yields (execRetry req t) := by
  grind [execRetry, State.yields_next, → State.keeps_of_takeMsg, State.keeps_putReq]

@[simp] theorem yields_execRetryResend {s t : State} (h : s.Keeps t) (req) : s.Yields (execRetryResend req t) := by
  unfold execRetryResend; split <;> simp [h]

@[simp] theorem yields_execMemoryRequestComplete {s t : State} (h : s.Keeps t) (req errors held) :
    s.Yields (execMemoryRequestComplete req errors held t) := by
  grind [execMemoryRequestComplete, State.yields_next, State.keeps_endRequest, State.keeps_settleTxn, State.keeps_putTxn]

@[simp] theorem yields_execPredictorDecay {s t : State} (h : s.Keeps t) : s.Yields (execPredictorDecay t) := by
  simp [execPredictorDecay, h]

@[simp] theorem State.keeps_glanceLine {s t : State} (h : s.Keeps t) (line sectors cls partition ctx) :
    s.Keeps (t.glanceLine line sectors cls partition ctx) := by
  grind [State.glanceLine, State.keeps_putDir, State.keeps_setCoh, State.keeps_memRequest]

@[simp] theorem State.keeps_placeLine {s t : State} (h : s.Keeps t) (line sectors part cls partition ctx) :
    s.Keeps (t.placeLine line sectors part cls partition ctx) := by
  grind [State.placeLine, State.keeps_putDir, State.keeps_dropCopies, State.keeps_memPart]

@[simp] theorem State.keeps_glanceRange {s t : State} (h : s.Keeps t) (pa n cls ctx) :
    s.Keeps (t.glanceRange pa n cls ctx) := by
  simp [State.glanceRange, h]

@[simp] theorem State.keeps_placeRange {s t : State} (h : s.Keeps t) (pa n cls ctx) : s.Keeps (t.placeRange pa n cls ctx) := by
  simp [State.placeRange, h]

@[simp] theorem State.keeps_walkRead {s t : State} (h : s.Keeps t) (tile ctx pa) : s.Keeps (t.walkRead tile ctx pa) := by
  grind [State.walkRead, State.keeps_glanceLine]

@[simp] theorem State.keeps_loadL1 {s t : State} (h : s.Keeps t) (cluster core ctx line) :
    s.Keeps (t.loadL1 cluster core ctx line) := by
  grind [State.loadL1, State.keeps_setCoh, State.keeps_progCount]

@[simp] theorem State.keeps_storeL2 {s t : State} (h : s.Keeps t) (cluster core ctx line sectors) :
    s.Keeps (t.storeL2 cluster core ctx line sectors) := by
  simp [State.storeL2, h]

@[simp] theorem State.keeps_prefetch {s t : State} (h : s.Keeps t) (cluster core ctx blk grp pc line) :
    s.Keeps (t.prefetch cluster core ctx blk grp pc line) := by
  grind [State.prefetch, State.keeps_setCoh, State.keeps_progCount, State.Keeps.foldl, State.Keeps.refl]

/-! ### IsaMem -/

@[simp] theorem At.keeps_translate {s t : State} (h : s.Keeps t) (a e k l) : s.Keeps (At.translate a e k l t).1 := by
  grind [At.translate, State.keeps_missTlb, State.Keeps.foldl, State.Keeps.refl]

theorem At.keeps_of_translate {s t u : State} {a e k l} {x} (h : s.Keeps t) (hu : At.translate a e k l t = (u, x)) :
    s.Keeps u :=
  (At.keeps_translate h _ _ _ _).of_eq hu

@[simp] theorem State.keeps_lanesTake {s t : State} (h : s.Keeps t) (a) : s.Keeps (t.lanesTake a) := by
  simp [State.lanesTake, h]

theorem State.keeps_tieFaults {s t : State} (h : s.Keeps t) {a engine k l e} (he : t.tieFaults a engine k l = some e) :
    s.KeepsEffect e := by
  unfold State.tieFaults at he
  simp only at he
  split at he
  · cases he
  · cases he
    refine State.Keeps.foldl (fun u q => ?_) h _
    split
    · exact State.keeps_recordFault (.refl u) _ _ _ _ _ _ _
    · exact .refl u

@[simp] theorem At.keeps_stalled {s t u : State} (ht : s.Keeps t) (hu : s.Keeps u) (a : At) (e k acc) :
    s.KeepsEffect (a.stalled e k acc t u) := by
  unfold At.stalled
  simp only
  split
  · exact ht
  · exact State.Keeps.foldl (fun u y => State.keeps_recordFault (.refl u) _ _ _ _ _ _ _) hu _

@[simp] theorem keeps_raiseLanes (s : State) (x l) : s.KeepsEffect (raiseLanes x l) := by
  unfold raiseLanes
  exact State.keepsEffect_raise

@[simp] theorem At.keeps_raise (s : State) (a : At) (x info) : s.KeepsEffect (a.raise x info) := State.keepsEffect_raise

@[simp] theorem State.keeps_askPieces {s t : State} (h : s.Keeps t) (a e k ask) (l : List LanePiece) :
    s.Keeps (State.askPieces a e k ask l t) := by
  induction l generalizing t with
  | nil => exact h
  | cons p l ih => grind [State.askPieces, State.keeps_tieAsk]

@[simp] theorem State.keeps_loadMarks {s t : State} (h : s.Keeps t) (a l) : s.Keeps (t.loadMarks a l) := by
  simp only [State.loadMarks]; split <;> grind [State.keeps_glanceRange, State.keeps_loadL1, State.keeps_prefetch,
    State.Keeps.foldl, State.Keeps.refl]

@[simp] theorem keeps_loadEffect {s t : State} (h : s.Keeps t) (size sgn a) : s.KeepsEffect (loadEffect size sgn a t) := by
  unfold loadEffect
  simp only
  split
  · split
    · exact .ite h h
    · exact keeps_raiseLanes _ _ _
  split
  · exact h
  split
  next ht => exact At.keeps_stalled (At.keeps_of_translate h ht) h _ _ _ _
  next ht =>
    have ht := At.keeps_of_translate h ht
    split
    next he => exact State.keeps_tieFaults ht he
    · exact .ite State.keepsEffect_poison (.ite (State.keeps_lanesTake (State.keeps_loadMarks (State.keeps_askPieces ht _ _ _
        _ _) _ _) _)
        (State.keeps_askPieces ht _ _ _ _ _))

@[simp] theorem State.keeps_storeLane {s t : State} (h : s.Keeps t) (a e p bytes) : s.Keeps (t.storeLane a e p bytes) := by
  unfold State.storeLane
  split
  · split
    · exact State.keeps_placeRange (State.keeps_hbmWrite h _ _) _ _ _ _
    · exact State.Keeps.foldl (fun u k => State.keeps_storeL2 (.refl u) _ _ _ _ _) (State.keeps_hbmWrite h _ _) _
  · split
    · exact State.Keeps.getD (State.keeps_setXlat h _) fun u hu => State.keeps_tieSend (State.keeps_setXlat h _) hu
    · exact h

@[simp] theorem State.keeps_storePieceList {s t : State} (h : s.Keeps t) (a e data) (l : List LanePiece) (lane done) :
    s.Keeps (State.storePieceList a e data l lane done t) := by
  induction l generalizing t lane done with
  | nil => exact h
  | cons p l ih => exact ih (State.keeps_storeLane h _ _ _ _) _ _

@[simp] theorem keeps_storeEffect {s t : State} (h : s.Keeps t) (size a) : s.KeepsEffect (storeEffect size a t) := by
  unfold storeEffect
  simp only
  split
  · split
    · exact .ite h (State.Keeps.foldl (fun u x => State.keeps_bmWrite (.refl u) _ _ _) h _)
    · exact keeps_raiseLanes _ _ _
  split
  · exact h
  split
  next ht => exact At.keeps_stalled (At.keeps_of_translate h ht) h _ _ _ _
  next ht =>
    have ht := At.keeps_of_translate h ht
    split
    next he => exact State.keeps_tieFaults ht he
    · exact State.keeps_storePieceList ht _ _ _ _ _ _

@[simp] theorem State.keeps_atomLane {s t : State} (h : s.Keeps t) (a op size p) : s.Keeps (t.atomLane a op size p).1 := by
  grind [State.atomLane, State.keeps_rmw, → State.keeps_of_rmw, State.keeps_atomHolders]

@[simp] theorem State.keeps_atomLanes {s t : State} (h : s.Keeps t) (a op size) (l : List LanePiece) :
    s.Keeps (State.atomLanes a op size l t).1 := by
  induction l generalizing t with
  | nil => exact h
  | cons p l ih => exact ih (State.keeps_atomLane h _ _ _ _)

@[simp] theorem State.keeps_atomBlock {s t : State} (h : s.Keeps t) (a op size) (l : List LaneAccess) :
    s.Keeps (State.atomBlock a op size l t).1 := by
  induction l generalizing t with
  | nil => exact h
  | cons x l ih => exact ih (State.keeps_bmWrite h _ _ _)

@[simp] theorem keeps_atomEffect {s t : State} (h : s.Keeps t) (op size a) : s.KeepsEffect (atomEffect op size a t) := by
  unfold atomEffect
  simp only
  split
  · exact keeps_raiseLanes _ _ _
  split
  · split
    · exact .ite h (State.keeps_atomBlock h _ _ _ _)
    · exact keeps_raiseLanes _ _ _
  split
  · exact h
  split
  next ht => exact At.keeps_stalled (At.keeps_of_translate h ht) h _ _ _ _
  next ht =>
    have ht := At.keeps_of_translate h ht
    split
    next he => exact State.keeps_tieFaults ht he
    · exact .ite State.keepsEffect_poison (.ite (State.keeps_lanesTake (State.keeps_atomLanes (State.keeps_askPieces ht _ _ _
        _ _) _ _ _ _) _)
        (State.keeps_askPieces ht _ _ _ _ _))

@[simp] theorem yields_execLdB8 {s t : State} (h : s.Keeps t) (r) : s.Yields (execLdB8 r t) := by
  simp [execLdB8, h]

@[simp] theorem yields_execLdB16 {s t : State} (h : s.Keeps t) (r) : s.Yields (execLdB16 r t) := by
  simp [execLdB16, h]

@[simp] theorem yields_execLdB32 {s t : State} (h : s.Keeps t) (r) : s.Yields (execLdB32 r t) := by
  simp [execLdB32, h]

@[simp] theorem yields_execLdB64 {s t : State} (h : s.Keeps t) (r) : s.Yields (execLdB64 r t) := by
  simp [execLdB64, h]

@[simp] theorem yields_execLdB128 {s t : State} (h : s.Keeps t) (r) : s.Yields (execLdB128 r t) := by
  simp [execLdB128, h]

@[simp] theorem yields_execLdS8 {s t : State} (h : s.Keeps t) (r) : s.Yields (execLdS8 r t) := by
  simp [execLdS8, h]

@[simp] theorem yields_execLdS16 {s t : State} (h : s.Keeps t) (r) : s.Yields (execLdS16 r t) := by
  simp [execLdS16, h]

@[simp] theorem yields_execStB8 {s t : State} (h : s.Keeps t) (r) : s.Yields (execStB8 r t) := by
  simp [execStB8, h]

@[simp] theorem yields_execStB16 {s t : State} (h : s.Keeps t) (r) : s.Yields (execStB16 r t) := by
  simp [execStB16, h]

@[simp] theorem yields_execStB32 {s t : State} (h : s.Keeps t) (r) : s.Yields (execStB32 r t) := by
  simp [execStB32, h]

@[simp] theorem yields_execStB64 {s t : State} (h : s.Keeps t) (r) : s.Yields (execStB64 r t) := by
  simp [execStB64, h]

@[simp] theorem yields_execStB128 {s t : State} (h : s.Keeps t) (r) : s.Yields (execStB128 r t) := by
  simp [execStB128, h]

@[simp] theorem yields_onAtomic {s t : State} (h : s.Keeps t) (op r) : s.Yields (onAtomic op r t) := by
  simp [onAtomic, h]

@[simp] theorem yields_execAtomAdd {s t : State} (h : s.Keeps t) (r) : s.Yields (execAtomAdd r t) := by
  simp [execAtomAdd, h]

@[simp] theorem yields_execAtomMinU {s t : State} (h : s.Keeps t) (r) : s.Yields (execAtomMinU r t) := by
  simp [execAtomMinU, h]

@[simp] theorem yields_execAtomMaxU {s t : State} (h : s.Keeps t) (r) : s.Yields (execAtomMaxU r t) := by
  simp [execAtomMaxU, h]

@[simp] theorem yields_execAtomMinS {s t : State} (h : s.Keeps t) (r) : s.Yields (execAtomMinS r t) := by
  simp [execAtomMinS, h]

@[simp] theorem yields_execAtomMaxS {s t : State} (h : s.Keeps t) (r) : s.Yields (execAtomMaxS r t) := by
  simp [execAtomMaxS, h]

@[simp] theorem yields_execAtomAnd {s t : State} (h : s.Keeps t) (r) : s.Yields (execAtomAnd r t) := by
  simp [execAtomAnd, h]

@[simp] theorem yields_execAtomOr {s t : State} (h : s.Keeps t) (r) : s.Yields (execAtomOr r t) := by
  simp [execAtomOr, h]

@[simp] theorem yields_execAtomXor {s t : State} (h : s.Keeps t) (r) : s.Yields (execAtomXor r t) := by
  simp [execAtomXor, h]

@[simp] theorem yields_execAtomExch {s t : State} (h : s.Keeps t) (r) : s.Yields (execAtomExch r t) := by
  simp [execAtomExch, h]

@[simp] theorem yields_execAtomCas {s t : State} (h : s.Keeps t) (r) : s.Yields (execAtomCas r t) := by
  simp [execAtomCas, h]

@[simp] theorem yields_execAtomFadd {s t : State} (h : s.Keeps t) (r) : s.Yields (execAtomFadd r t) := by
  simp [execAtomFadd, h]

/-! ### Matrix -/

@[simp] theorem State.keeps_takePair {s t : State} (h : s.Keeps t) (a) : s.Keeps (t.takePair a) := by
  simp [State.takePair, h]

@[simp] theorem yields_execAccumulatorGrant {s t : State} (h : s.Keeps t) (cluster core) :
    s.Yields (execAccumulatorGrant cluster core t) := by
  grind [execAccumulatorGrant, State.yields_next, State.keeps_givePair]

@[simp] theorem State.keeps_settleGroup {s t : State} (h : s.Keeps t) (blk grp) : s.Keeps (t.settleGroup blk grp) := by
  grind [State.settleGroup, State.keeps_setCompute]

@[simp] theorem Group.keeps_raising {s : State} {f : Group → State × Group} (hf : ∀ g, s.Keeps (f g).1) (g : Group) (cycle) :
    s.Keeps (g.raising cycle f).1 := hf _

@[simp] theorem At.keeps_enqueue {s t : State} (h : s.Keeps t) (a pipe) : s.KeepsEffect (At.enqueue a pipe t) := by
  simp [At.enqueue, h]

@[simp] theorem keeps_mmaEffect {s t : State} (h : s.Keeps t) (a) : s.KeepsEffect (mmaEffect a t) := by
  simp only [mmaEffect]; (repeat' split) <;> simp [h]

@[simp] theorem keeps_anchorEffect {s t : State} (h : s.Keeps t) (a) : s.KeepsEffect (anchorEffect a t) := by
  simp only [anchorEffect]; split <;> simp [h]

@[simp] theorem keeps_accReadEffect {s t : State} (h : s.Keeps t) (a) : s.KeepsEffect (accReadEffect a t) := by
  simp only [accReadEffect]; (repeat' split) <;> simp [h]

@[simp] theorem keeps_accZeroEffect {s t : State} (h : s.Keeps t) (a) : s.KeepsEffect (accZeroEffect a t) := by
  simp [accZeroEffect, h]

@[simp] theorem yields_execMmaMx8 {s t : State} (h : s.Keeps t) (r) : s.Yields (execMmaMx8 r t) := by
  simp [execMmaMx8, h]

@[simp] theorem yields_execMmaMx6 {s t : State} (h : s.Keeps t) (r) : s.Yields (execMmaMx6 r t) := by
  simp [execMmaMx6, h]

@[simp] theorem yields_execMmaMx4 {s t : State} (h : s.Keeps t) (r) : s.Yields (execMmaMx4 r t) := by
  simp [execMmaMx4, h]

@[simp] theorem yields_execMmaXi8 {s t : State} (h : s.Keeps t) (r) : s.Yields (execMmaXi8 r t) := by
  simp [execMmaXi8, h]

@[simp] theorem yields_execMmaSf32 {s t : State} (h : s.Keeps t) (r) : s.Yields (execMmaSf32 r t) := by
  simp [execMmaSf32, h]

@[simp] theorem yields_execMmaSf64 {s t : State} (h : s.Keeps t) (r) : s.Yields (execMmaSf64 r t) := by
  simp [execMmaSf64, h]

@[simp] theorem yields_execAccAnchor {s t : State} (h : s.Keeps t) (r) : s.Yields (execAccAnchor r t) := by
  simp [execAccAnchor, h]

@[simp] theorem yields_execAccRead {s t : State} (h : s.Keeps t) (r) : s.Yields (execAccRead r t) := by
  simp [execAccRead, h]

@[simp] theorem yields_execAccZero {s t : State} (h : s.Keeps t) (r) : s.Yields (execAccZero r t) := by
  simp [execAccZero, h]

@[simp] theorem State.keeps_matrixTime {s t : State} (h : s.Keeps t) (b cycles) : s.Keeps (t.matrixTime b cycles) := by
  grind [State.matrixTime, State.keeps_putCtx, State.keeps_progCount, State.keeps_count]

@[simp] theorem State.keeps_matrixOp {s t : State} (h : s.Keeps t) (b g o) : s.Keeps (t.matrixOp b g o).1 := by
  simp only [State.matrixOp]
  split
  · exact State.keeps_matrixTime h _ _
  · exact State.keeps_matrixTime (State.keeps_bmWrite h _ _ _) _ _
  · exact State.keeps_matrixTime h _ _
  · exact .ite (State.keeps_progCount (State.keeps_matrixTime h _ _) _ _ _ _) (State.keeps_matrixTime h _ _)

@[simp] theorem yields_execMatrixOpComplete {s t : State} (h : s.Keeps t) (blk grp) :
    s.Yields (execMatrixOpComplete blk grp t) := by
  unfold execMatrixOpComplete
  refine State.yields_next.mpr ?_
  split
  · split
    · exact .ite h (State.keeps_settleGroup (State.keeps_putGroup
        (Group.keeps_raising (fun g => State.keeps_matrixOp h _ g _) _ _) _ _ _) _ _)
    · exact h
  · exact h

@[simp] theorem State.keeps_addCells {s t : State} (h : s.Keeps t) (pa) (l : List (Nat × Nat × Nat)) :
    s.Keeps (t.addCells pa l) := by
  induction l generalizing t pa with
  | nil => exact h
  | cons c l ih => exact ih (State.keeps_hbmWrite h _ _) _

@[simp] theorem State.keeps_farCells {s t : State} (h : s.Keeps t) (pa cells cls partition ctx) :
    s.Keeps (t.farCells pa cells cls partition ctx) := by
  grind [State.farCells, State.keeps_farLine, State.keeps_addCells, State.Keeps.foldl, State.Keeps.refl]

@[simp] theorem State.keeps_xaddPiece {s t : State} (h : s.Keeps t) (a p cells) : s.Keeps (t.xaddPiece a p cells) := by
  unfold State.xaddPiece
  split
  · exact State.keeps_farCells h _ _ _ _ _
  · split
    · exact State.Keeps.getD (State.keeps_setXlat h _) fun u hu => State.keeps_flowSend (State.keeps_setXlat h _) hu
    · exact h

@[simp] theorem State.keeps_xaddAll {s t : State} (h : s.Keeps t) (a) (l : List LanePiece) (cells) :
    s.Keeps (State.xaddAll a l cells t) := by
  induction l generalizing t cells with
  | nil => exact h
  | cons p l ih => exact ih (State.keeps_xaddPiece h _ _ _) _

@[simp] theorem State.keeps_addBlockCells {s t : State} (h : s.Keeps t) (b off) (l : List (Nat × Nat × Nat)) :
    s.Keeps (State.addBlockCells b off l t) := by
  induction l generalizing t off with
  | nil => exact h
  | cons c l ih => exact ih (State.keeps_bmWrite h _ _ _) _

@[simp] theorem State.keeps_xaddBlock {s t : State} (h : s.Keeps t) (a) (l : List LaneAccess) (cells) :
    s.Keeps (State.xaddBlock a l cells t) := by
  induction l generalizing t cells with
  | nil => exact h
  | cons x l ih => exact ih (State.keeps_addBlockCells h _ _ _) _

@[simp] theorem keeps_xaddSend {s t : State} {send : Int → State} (h : s.Keeps t) (hs : ∀ v, s.Keeps (send v)) (anchor) :
    s.Keeps (xaddSend anchor send t) := by
  cases anchor with
  | none => exact h
  | some v => exact hs v

@[simp] theorem keeps_xaddEffect {s t : State} (h : s.Keeps t) (a) : s.KeepsEffect (xaddEffect a t) := by
  unfold xaddEffect
  simp only
  split
  · exact h
  split
  · exact At.keeps_raise _ _ _ _
  split
  · exact At.keeps_raise _ _ _ _
  split
  · split
    · exact At.keeps_raise _ _ _ _
    · have hp := State.keeps_takePair h a
      exact .ite h (keeps_xaddSend hp (fun v => State.keeps_xaddBlock hp _ _ _) _)
  split
  · exact h
  split
  next ht => exact At.keeps_stalled (At.keeps_of_translate h ht) h _ _ _ _
  next ht =>
    have ht := At.keeps_of_translate h ht
    split
    next he => exact State.keeps_tieFaults ht he
    · have hp := State.keeps_takePair ht a
      exact .ite State.keepsEffect_poison (keeps_xaddSend hp (fun v => State.keeps_xaddAll hp _ _ _) _)

@[simp] theorem yields_execAtomXadd {s t : State} (h : s.Keeps t) (r) : s.Yields (execAtomXadd r t) := by
  simp [execAtomXadd, h]

/-! ### Vector -/

@[simp] theorem At.keeps_inOrder {s t : State} (h : s.Keeps t) {k : Effect} (hk : s.KeepsEffect k) (a : At) :
    s.KeepsEffect (a.inOrder t k) := .ite h hk

@[simp] theorem At.keeps_vector {s t : State} (h : s.Keeps t) (a) : s.KeepsEffect (At.vector a t) := by
  grind [At.vector, State.keepsEffect_done, State.keepsEffect_raise, State.keepsEffect_wait, State.keepsEffect_poison,
    At.keeps_enqueue, State.keeps_takePair]

@[simp] theorem keeps_vepRunEffect {s t : State} (h : s.Keeps t) (a) : s.KeepsEffect (vepRunEffect a t) := by
  simp only [vepRunEffect]; (repeat' split) <;> simp [h]

@[simp] theorem keeps_vpermEffect {s t : State} (h : s.Keeps t) (a) : s.KeepsEffect (vpermEffect a t) := by
  simp [vpermEffect, h]

@[simp] theorem keeps_vsumEffect {s t : State} (h : s.Keeps t) (a) : s.KeepsEffect (vsumEffect a t) := by
  simp [vsumEffect, h]

@[simp] theorem At.keeps_readAll {s t : State} {k : State → List Byte → Effect} (h : s.Keeps t)
    (hk : ∀ u bytes, s.Keeps u → s.KeepsEffect (k u bytes)) (a : At) (acc) : s.KeepsEffect (a.readAll acc t k) := by
  unfold At.readAll
  split
  next ht => exact At.keeps_stalled (At.keeps_of_translate h ht) h _ _ _ _
  next ht =>
    have ht := At.keeps_of_translate h ht
    split
    next he => exact State.keeps_tieFaults ht he
    · have hu := State.keeps_askPieces ht a
      exact .ite State.keepsEffect_poison (.ite (hk _ _ (hu _ _ _ _)) (hu _ _ _ _))

@[simp] theorem keeps_vldEffect {s t : State} (h : s.Keeps t) (a) : s.KeepsEffect (vldEffect a t) := by
  unfold vldEffect
  split
  · exact At.keeps_raise _ _ _ _
  split
  · split
    · exact At.keeps_raise _ _ _ _
    · exact At.keeps_vector h _
  · exact At.keeps_inOrder h (At.keeps_readAll h (fun u _ hu => At.keeps_vector (State.keeps_lanesTake hu _) _) _ _) _

@[simp] theorem keeps_vstEffect {s t : State} (h : s.Keeps t) (a) : s.KeepsEffect (vstEffect a t) := by
  unfold vstEffect
  split
  · exact At.keeps_raise _ _ _ _
  split
  · split
    · exact At.keeps_raise _ _ _ _
    · exact At.keeps_vector h _
  refine At.keeps_inOrder h ?_ _
  split
  next ht => exact At.keeps_stalled (At.keeps_of_translate h ht) h _ _ _ _
  next ht =>
    have ht := At.keeps_of_translate h ht
    split
    next he => exact State.keeps_tieFaults ht he
    · exact At.keeps_vector (State.keeps_storePieceList ht _ _ _ _ _ _) _

@[simp] theorem keeps_vepLoadEffect {s t : State} (h : s.Keeps t) (a) : s.KeepsEffect (vepLoadEffect a t) := by
  refine At.keeps_inOrder h (.ite (At.keeps_raise _ _ _ _) (At.keeps_readAll h (fun u header hu => ?_) _ _)) _
  refine .ite (At.keeps_raise _ _ _ _) (At.keeps_readAll hu (fun v words hv => ?_) _ _)
  split
  · exact At.keeps_raise _ _ _ _
  · exact At.keeps_vector (State.keeps_lanesTake hv _) _

@[simp] theorem yields_execVepLoad {s t : State} (h : s.Keeps t) (r) : s.Yields (execVepLoad r t) := by
  simp [execVepLoad, h]

@[simp] theorem yields_execVepRun {s t : State} (h : s.Keeps t) (r) : s.Yields (execVepRun r t) := by
  simp [execVepRun, h]

@[simp] theorem yields_execVperm {s t : State} (h : s.Keeps t) (r) : s.Yields (execVperm r t) := by
  simp [execVperm, h]

@[simp] theorem yields_execVldT {s t : State} (h : s.Keeps t) (r) : s.Yields (execVldT r t) := by
  simp [execVldT, h]

@[simp] theorem yields_execVstT {s t : State} (h : s.Keeps t) (r) : s.Yields (execVstT r t) := by
  simp [execVstT, h]

@[simp] theorem yields_execVsumAny {s t : State} (h : s.Keeps t) (r) : s.Yields (execVsumAny r t) := by
  simp [execVsumAny, h]

@[simp] theorem yields_execVsumAll {s t : State} (h : s.Keeps t) (r) : s.Yields (execVsumAll r t) := by
  simp [execVsumAll, h]

@[simp] theorem yields_execVsumCount {s t : State} (h : s.Keeps t) (r) : s.Yields (execVsumCount r t) := by
  simp [execVsumCount, h]

@[simp] theorem yields_execVsumMin {s t : State} (h : s.Keeps t) (r) : s.Yields (execVsumMin r t) := by
  simp [execVsumMin, h]

@[simp] theorem yields_execVsumMax {s t : State} (h : s.Keeps t) (r) : s.Yields (execVsumMax r t) := by
  simp [execVsumMax, h]

@[simp] theorem yields_execVsumFirst {s t : State} (h : s.Keeps t) (r) : s.Yields (execVsumFirst r t) := by
  simp [execVsumFirst, h]

@[simp] theorem State.keeps_vectorTime {s t : State} (h : s.Keeps t) (b cycles) : s.Keeps (t.vectorTime b cycles) := by
  grind [State.vectorTime, State.keeps_putCtx, State.keeps_progCount, State.keeps_count]

@[simp] theorem State.keeps_vepStore {s t : State} (h : s.Keeps t) (b c f vals) : s.Keeps (t.vepStore b c f vals) := by
  grind [State.vepStore, State.keeps_scramble, → State.keeps_of_scramble, State.keeps_bmWrite, State.Keeps.foldl,
    State.Keeps.refl]

@[simp] theorem State.keeps_vepPut {s t : State} (h : s.Keeps t) (b g c outs) : s.Keeps (t.vepPut b g c outs).1 := by
  grind [State.vepPut, State.keeps_vepStore]

@[simp] theorem State.keeps_vepRun {s t : State} (h : s.Keeps t) (b g c) : s.Keeps (t.vepRun b g c).1 := by
  simp [State.vepRun, h]

@[simp] theorem State.keeps_vsum {s t : State} (h : s.Keeps t) (b g i) : s.Keeps (t.vsum b g i).1 := by
  grind [State.vsum, State.keeps_vectorTime, State.keeps_fresh]

@[simp] theorem State.keeps_vectorOp {s t : State} (h : s.Keeps t) (b g o) : s.Keeps (t.vectorOp b g o).1 := by
  have hv := State.keeps_vectorTime h b
  simp only [State.vectorOp]
  split
  · exact hv _
  · split
    · exact State.keeps_vepRun h _ _ _
    · exact h
  · exact hv _
  · split <;> exact hv _
  · split
    · exact State.Keeps.foldl (fun u k => State.keeps_bmWrite (.refl u) _ _ _) (hv _) _
    · exact hv _
  · exact State.keeps_vsum h _ _ _

@[simp] theorem yields_execVectorOpComplete {s t : State} (h : s.Keeps t) (blk grp) :
    s.Yields (execVectorOpComplete blk grp t) := by
  unfold execVectorOpComplete
  refine State.yields_next.mpr ?_
  split
  · split
    · exact .ite h (State.keeps_settleGroup (State.keeps_putGroup
        (Group.keeps_raising (fun g => State.keeps_vectorOp h _ g _) _ _) _ _ _) _ _)
    · exact h
  · exact h

/-! ### Trace -/

@[simp] theorem State.keeps_counterConfig {s t : State} (h : s.Keeps t) (n) : s.Keeps (t.counterConfig n) := by
  grind [State.counterConfig, State.keeps_complete, State.keeps_setObs]

@[simp] theorem yields_execCounterConfig {s t : State} (h : s.Keeps t) (mbx) : s.Yields (execCounterConfig mbx t) := by
  simp [execCounterConfig, h]

@[simp] theorem State.keeps_markRecord {s t : State} (h : s.Keeps t) (u id mt flags rec) :
    s.Keeps (t.markRecord u id mt flags rec) := by
  grind [State.markRecord, State.keeps_fireTrigger, State.keeps_trace, → State.keeps_of_trace, State.keeps_count]

@[simp] theorem keeps_markEffect {s t : State} (h : s.Keeps t) (ends a) : s.KeepsEffect (markEffect ends a t) := by
  simp [markEffect, h]

@[simp] theorem yields_execMarkBegin {s t : State} (h : s.Keeps t) (r) : s.Yields (execMarkBegin r t) := by
  simp [execMarkBegin, h]

@[simp] theorem yields_execMarkEnd {s t : State} (h : s.Keeps t) (r) : s.Yields (execMarkEnd r t) := by
  simp [execMarkEnd, h]

@[simp] theorem State.keeps_markEntry {s t : State} (h : s.Keeps t) (watch k p e) : s.Keeps (t.markEntry watch k p e) := by
  grind [State.markEntry, State.keeps_endEntry, State.keeps_markRecord]

@[simp] theorem yields_execMark {s t : State} (h : s.Keeps t) (watch entry) : s.Yields (execMark watch entry t) := by
  simp [execMark, h]

@[simp] theorem yields_runTrace {s t : State} {f : State → State} (h : s.Keeps t) (hf : s.Keeps (f t)) (n op) :
    s.Yields (runTrace n op f t) :=
  yields_runCommand h (.ite hf h) _ _

@[simp] theorem State.keeps_traceSet {s t : State} (h : s.Keeps t) (n) : s.Keeps (t.traceSet n) := by
  grind [State.traceSet, State.keeps_complete, State.keeps_putUnit, State.Keeps.foldl, State.Keeps.refl]

@[simp] theorem yields_execTraceSet {s t : State} (h : s.Keeps t) (mbx) : s.Yields (execTraceSet mbx t) := by
  simp [execTraceSet, h]

@[simp] theorem State.keeps_enableUnit {s t : State} (h : s.Keeps t) (u) : s.Keeps (t.enableUnit u) := by
  grind [State.enableUnit, State.keeps_syncUnit, State.keeps_putUnit]

@[simp] theorem State.keeps_traceEnable {s t : State} (h : s.Keeps t) (n) : s.Keeps (t.traceEnable n) := by
  grind [State.traceEnable, State.keeps_complete, State.keeps_enableUnit, State.Keeps.foldl, State.Keeps.refl]

@[simp] theorem yields_execTraceEnable {s t : State} (h : s.Keeps t) (mbx) : s.Yields (execTraceEnable mbx t) := by
  simp [execTraceEnable, h]

@[simp] theorem State.keeps_settleDisable {s t : State} (h : s.Keeps t) : s.Keeps (t.settleDisable) := by
  simp [State.settleDisable, h]

@[simp] theorem State.keeps_traceDisable {s t : State} (h : s.Keeps t) (n) : s.Keeps (t.traceDisable n) := by
  grind [State.traceDisable, State.keeps_putUnit, State.keeps_settleDisable, State.keeps_begin_, State.keeps_complete,
    State.Keeps.foldl, State.Keeps.refl]

@[simp] theorem yields_execTraceDisable {s t : State} (h : s.Keeps t) (mbx) : s.Yields (execTraceDisable mbx t) := by
  simp [execTraceDisable, h]

@[simp] theorem State.keeps_traceDump {s t : State} (h : s.Keeps t) (n) : s.Keeps (t.traceDump n) := by
  grind [State.traceDump, State.keeps_complete, State.keeps_hubWrite, State.Keeps.foldl, State.Keeps.refl]

@[simp] theorem yields_execTraceDump {s t : State} (h : s.Keeps t) (mbx) : s.Yields (execTraceDump mbx t) := by
  simp [execTraceDump, h]

@[simp] theorem State.keeps_unfreeze {s t : State} (h : s.Keeps t) (u) : s.Keeps (t.unfreeze u) := by
  simp [State.unfreeze, h]

@[simp] theorem yields_execTraceRelease {s t : State} (h : s.Keeps t) (mbx) : s.Yields (execTraceRelease mbx t) := by
  grind [execTraceRelease, State.yields_next, yields_runTrace, State.keeps_complete, State.keeps_unfreeze, State.Keeps.foldl,
    State.Keeps.refl]

@[simp] theorem yields_execFrozenClear {s t : State} (h : s.Keeps t) (unit) : s.Yields (execFrozenClear unit t) := by
  simp [execFrozenClear, h]

@[simp] theorem State.keeps_triggerUnit {s t : State} (h : s.Keeps t) (u) : s.Keeps (t.triggerUnit u) := by
  grind [State.triggerUnit, State.keeps_trace, → State.keeps_of_trace, State.keeps_putUnit]

@[simp] theorem State.keeps_takeTrigger {s t : State} (h : s.Keeps t) : s.Keeps (t.takeTrigger) := by
  grind [State.takeTrigger, State.keeps_triggerUnit, State.keeps_setObs, State.Keeps.foldl, State.Keeps.refl]

@[simp] theorem State.keeps_dropTrigger {s t : State} (h : s.Keeps t) : s.Keeps (t.dropTrigger) := by
  grind [State.dropTrigger, State.keeps_dropAlloc, State.keeps_setTime]

@[simp] theorem State.keeps_armTrigger {s t : State} (h : s.Keeps t) (source key stake alloc) :
    s.Keeps (t.armTrigger source key stake alloc) := by
  simp [State.armTrigger, h]

@[simp] theorem State.keeps_traceArm {s t : State} (h : s.Keeps t) (n) : s.Keeps (t.traceArm n) := by
  grind [State.traceArm, State.keeps_complete, State.keeps_allocate, → State.keeps_of_allocate, State.keeps_dropTrigger,
    State.keeps_armTrigger, State.keeps_setTime, State.keeps_fireTrigger]

@[simp] theorem yields_execTraceArm {s t : State} (h : s.Keeps t) (mbx) : s.Yields (execTraceArm mbx t) := by
  grind [execTraceArm, State.yields_next, yields_runTrace, State.keeps_traceArm, State.keeps_takeTrigger]

@[simp] theorem yields_execTraceTrigger {s t : State} (h : s.Keeps t) : s.Yields (execTraceTrigger t) := by
  simp [execTraceTrigger, h]

@[simp] theorem State.keeps_sampleCluster {s t : State} (h : s.Keeps t) (cluster mt) :
    s.Keeps (t.sampleCluster cluster mt) := by
  simp [State.sampleCluster, h]

@[simp] theorem State.keeps_sampleUnit {s t : State} (h : s.Keeps t) (u) : s.Keeps (t.sampleUnit u) := by
  grind [State.sampleUnit, State.keeps_sampleCluster, State.keeps_putUnit, State.Keeps.foldl, State.Keeps.refl]

@[simp] theorem yields_execTraceSample {s t : State} (h : s.Keeps t) : s.Yields (execTraceSample t) := by
  simp [execTraceSample, h]

@[simp] theorem State.keeps_writeSlot {s t : State} (h : s.Keeps t) (u slot rec) : s.Keeps (t.writeSlot u slot rec) := by
  grind [State.writeSlot, State.keeps_placeRange, State.keeps_hubWrite, State.keeps_hbmWrite]

@[simp] theorem State.keeps_refuseRecord {s t : State} (h : s.Keeps t) (u rec) : s.Keeps (t.refuseRecord u rec) := by
  grind [State.refuseRecord, State.keeps_writeSlot, State.keeps_count, State.keeps_putUnit]

@[simp] theorem State.keeps_keepRecord {s t : State} (h : s.Keeps t) (u rec) : s.Keeps (t.keepRecord u rec) := by
  simp [State.keepRecord, h]

@[simp] theorem State.keeps_bufferWrite {s t : State} (h : s.Keeps t) (u) : s.Keeps (t.bufferWrite u) := by
  grind [State.bufferWrite, State.keeps_putUnit, State.keeps_refuseRecord, State.keeps_keepRecord, State.keeps_settleDisable]

@[simp] theorem yields_execTraceBufferWrite {s t : State} (h : s.Keeps t) (unit) : s.Yields (execTraceBufferWrite unit t) := by
  simp [execTraceBufferWrite, h]

/-! ### Copies -/

@[simp] theorem keeps_xferEffect {s t : State} (h : s.Keeps t) (a) : s.KeepsEffect (xferEffect a t) := by
  simp only [xferEffect]; (repeat' split) <;> simp [h]

@[simp] theorem yields_execXferCv {s t : State} (h : s.Keeps t) (r) : s.Yields (execXferCv r t) := by
  simp [execXferCv, h]

@[simp] theorem State.keeps_copyPieces {s t : State} (h : s.Keeps t) (b c k va n) : s.Keeps (t.copyPieces b c k va n).1 := by
  grind [State.copyPieces, State.keeps_missTlb, State.Keeps.foldl, State.Keeps.refl]

theorem State.keeps_of_copyPieces {s t u : State} {b c k va n} {x} (h : s.Keeps t) (hu : t.copyPieces b c k va n = (u, x)) :
    s.Keeps u :=
  (State.keeps_copyPieces h _ _ _ _ _).of_eq hu

@[simp] theorem State.keeps_copyFault {s t : State} (h : s.Keeps t) (b c k va f) : s.Keeps (t.copyFault b c k va f) := by
  simp [State.copyFault, h]

@[simp] theorem State.keeps_copySource {s t : State} (h : s.Keeps t) (b c first n) : s.Keeps (t.copySource b c first n).1 := by
  grind [State.copySource, State.keeps_copyPieces, → State.keeps_of_copyPieces, State.keeps_fetchPieces,
    → State.keeps_of_fetchPieces, State.keeps_copyFault, State.keeps_hwFault]

theorem State.keeps_of_copySource {s t u : State} {b c first n} {x} (h : s.Keeps t) (hu : t.copySource b c first n = (u, x)) :
    s.Keeps u :=
  (State.keeps_copySource h _ _ _ _).of_eq hu

@[simp] theorem State.keeps_copyStore {s t : State} (h : s.Keeps t) (b c) (l : List Piece) (bytes) :
    s.Keeps (State.copyStore b c l bytes t).1 := by
  induction l generalizing t bytes with
  | nil => exact h
  | cons p l ih =>
    have hp := fun v op => State.keeps_enginePiece (State.keeps_setXlat h v) b.ctx op p (bytes.take p.size)
    grind [State.copyStore]

theorem State.keeps_of_copyStore {s t u : State} {b c a a1} {x} (h : s.Keeps t) (hu : State.copyStore b c a a1 t = (u, x)) :
    s.Keeps u :=
  (State.keeps_copyStore h _ _ _ _).of_eq hu

@[simp] theorem State.keeps_putCopy {s t : State} (h : s.Keeps t) (blk c) : s.Keeps (t.putCopy blk c) := by
  grind [State.putCopy, State.keeps_putBlock]

@[simp] theorem State.keeps_countLanded {s t : State} (h : s.Keeps t) (b c n) : s.Keeps (t.countLanded b c n) := by
  grind [State.countLanded, State.keeps_bmWrite, State.keeps_putCtx, State.keeps_progCount, State.keeps_count]

@[simp] theorem State.keeps_copyScramble {s t : State} (h : s.Keeps t) (c out lo conv bytes) :
    s.Keeps (t.copyScramble c out lo conv bytes).1 := by
  grind [State.copyScramble, State.keeps_scramble, → State.keeps_of_scramble]

theorem State.keeps_of_copyScramble {s t u : State} {c out lo conv bytes} {x} (h : s.Keeps t) (hu : t.copyScramble c out lo conv bytes = (u, x)) :
    s.Keeps u :=
  (State.keeps_copyScramble h _ _ _ _ _).of_eq hu

@[simp] theorem State.keeps_landRange {s t : State} (h : s.Keeps t) (b c conv lo count left) :
    s.Keeps (t.landRange b c conv lo count left) := by
  unfold State.landRange; split <;> grind [State.keeps_copySource, → State.keeps_of_copySource, State.keeps_copyScramble,
    → State.keeps_of_copyScramble, State.keeps_tieTake, State.keeps_bmWrite, State.keeps_putCopy, State.keeps_countLanded,
    State.keeps_copyPieces, → State.keeps_of_copyPieces, State.keeps_copyStore, → State.keeps_of_copyStore,
    State.keeps_copyFault, State.keeps_hwFault, State.Keeps.foldl, State.Keeps.refl]

@[simp] theorem State.keeps_copyLand {s t : State} (h : s.Keeps t) (b c lo count) : s.Keeps (t.copyLand b c lo count) := by
  grind [State.copyLand, State.keeps_putCopy, State.keeps_countLanded, State.keeps_landRange]

@[simp] theorem yields_execCopyLand {s t : State} (h : s.Keeps t) (blk copy lo count) :
    s.Yields (execCopyLand blk copy lo count t) := by
  grind [execCopyLand, State.yields_next, State.keeps_copyLand]

@[simp] theorem State.keeps_cachePointer {s t : State} (h : s.Keeps t) (x) : s.Keeps (t.cachePointer x) := by
  grind [State.cachePointer, State.keeps_room, State.keeps_setXlat]

@[simp] theorem State.keeps_cachePointers {s t : State} (h : s.Keeps t) (die ctx va) :
    s.Keeps (t.cachePointers die ctx va) := by
  simp [State.cachePointers, h]

@[simp] theorem State.keeps_walkFault {s t : State} (h : s.Keeps t) (r f) : s.Keeps (t.walkFault r f) := by
  unfold State.walkFault
  simp only
  split
  next hu => exact State.keeps_setXlat (State.keeps_of_recordFault h hu) _
  next hu =>
    split
    · exact State.keeps_takeException (State.keeps_of_recordFault h hu) _ _ _
    · exact State.keeps_teardown (State.keeps_of_recordFault h hu) _ _

@[simp] theorem State.keeps_walked {s t : State} (h : s.Keeps t) (r) : s.Keeps (t.walked r) := by
  grind [State.walked, State.keeps_progCount, State.keeps_cachePointers, State.keeps_walkRead, State.Keeps.foldl,
    State.Keeps.refl]

@[simp] theorem State.keeps_keepLeaf {s t : State} (h : s.Keeps t) (r e) : s.Keeps (t.keepLeaf r e) := by
  grind [State.keepLeaf, State.keeps_fillL1, State.keeps_fillTlb]

@[simp] theorem State.keeps_walkOne {s t : State} (h : s.Keeps t) (r) : s.Keeps (t.walkOne r) := by
  grind [State.walkOne, State.keeps_setXlat, State.keeps_walkFault, State.keeps_hwFault, State.keeps_progCount,
    State.keeps_walked, State.keeps_keepLeaf]

@[simp] theorem yields_execWalk {s t : State} (h : s.Keeps t) (request) : s.Yields (execWalk request t) := by
  grind [execWalk, State.yields_next, State.keeps_walkOne]

/-! ### Fabric -/

@[simp] theorem State.keeps_routeSet {s t : State} (h : s.Keeps t) (n) : s.Keeps (t.routeSet n) :=
  State.keeps_complete (State.Keeps.foldl (fun u i => State.keeps_setFab (.refl u) _) h _) _ _ _

@[simp] theorem yields_execRouteSet {s t : State} (h : s.Keeps t) (mbx) : s.Yields (execRouteSet mbx t) := by
  simp [execRouteSet, h]

@[simp] theorem State.keeps_newEpoch {s t : State} (h : s.Keeps t) (node epoch) : s.Keeps (t.newEpoch node epoch) :=
  State.keeps_settleInvs (State.keeps_endColls (State.keeps_endTies (State.keeps_endOps (State.keeps_dropClaims
    (State.keeps_dropFlows (State.keeps_setFab h _) _) _) _ _) _ _) _ _)

@[simp] theorem yields_execEpochSet {s t : State} (h : s.Keeps t) (mbx) : s.Yields (execEpochSet mbx t) := by
  grind [execEpochSet, State.yields_next, yields_runCommand, State.keeps_complete, State.keeps_newEpoch]

@[simp] theorem State.keeps_holdFrame {s t : State} (h : s.Keeps t) (p f stamp) : s.Keeps (t.holdFrame p f stamp) := by
  simp [State.holdFrame, h]

@[simp] theorem State.keeps_forward {s t : State} (h : s.Keeps t) (p f stamp) : s.Keeps (t.forward p f stamp) := by
  grind [State.forward, State.keeps_refuse, State.keeps_holdFrame, State.keeps_sendOn]

@[simp] theorem State.keeps_epochCheck {s t : State} (h : s.Keeps t) (p f stamp) : s.Keeps (t.epochCheck p f stamp).1 := by
  grind [State.epochCheck, State.keeps_refuse, State.keeps_holdFrame, State.keeps_enterFenced]

theorem State.keeps_of_epochCheck {s t u : State} {p f stamp} {x} (h : s.Keeps t) (hu : t.epochCheck p f stamp = (u, x)) :
    s.Keeps u :=
  (State.keeps_epochCheck h _ _ _).of_eq hu

@[simp] theorem State.keeps_flowLost {s t : State} (h : s.Keeps t) (fl) : s.Keeps (t.flowLost fl) := by
  simp [State.flowLost, h]

@[simp] theorem State.keeps_flowOn {s t : State} (h : s.Keeps t) (fl) : s.Keeps (t.flowOn fl) := by
  grind [State.flowOn, State.keeps_pump, State.keeps_flowLost]

@[simp] theorem State.keeps_pumpAll {s t : State} (h : s.Keeps t) : s.Keeps (t.pumpAll) := by
  simp [State.pumpAll, h]

@[simp] theorem State.keeps_entryAcked {s t : State} (h : s.Keeps t) (op) : s.Keeps (t.entryAcked op) := by
  unfold State.entryAcked; split <;> grind [State.keeps_putEntry, State.keeps_settleList, State.keeps_passGoOn,
    State.keeps_complete, State.keeps_collFinish, State.Keeps.foldl, State.Keeps.refl]

@[simp] theorem State.keeps_takeAck {s t : State} (h : s.Keeps t) (src kind ctx n) : s.Keeps (t.takeAck src kind ctx n) := by
  grind [State.takeAck, State.keeps_putSend, State.keeps_settleInvs, State.keeps_entryAcked, State.keeps_pumpAll,
    State.Keeps.foldl, State.Keeps.refl]

@[simp] theorem State.keeps_resend {s t : State} (h : s.Keeps t) (fl expect) : s.Keeps (t.resend fl expect) := by
  grind [State.resend, State.keeps_flowLost, State.keeps_putSend, State.keeps_count, State.keeps_sendRegulated,
    State.Keeps.foldl, State.Keeps.refl]

@[simp] theorem State.keeps_resetFlow {s t : State} (h : s.Keeps t) (fl e) : s.Keeps (t.resetFlow fl e) := by
  simp [State.resetFlow, h]

@[simp] theorem State.keeps_endRefusedOp {s t : State} (h : s.Keeps t) (fl seq e) : s.Keeps (t.endRefusedOp fl seq e) := by
  grind [State.endRefusedOp, State.keeps_putSend, State.keeps_endOps]

@[simp] theorem State.keeps_staleSeen {s t : State} (h : s.Keeps t) (p seen) : s.Keeps (t.staleSeen p seen) := by
  grind [State.staleSeen, State.keeps_notify, State.keeps_setFab]

@[simp] theorem State.keeps_resendControl {s t : State} (h : s.Keeps t) (fl u) : s.Keeps (t.resendControl fl u) := by
  grind [State.resendControl, State.keeps_putSend, State.keeps_flowPut, State.keeps_endOps]

@[simp] theorem State.keeps_staleNak {s t : State} (h : s.Keeps t) (fl node seq seen) :
    s.Keeps (t.staleNak fl node seq seen) := by
  simp only [State.staleNak]; split <;> grind [State.keeps_endRefusedOp, State.keeps_resendControl, State.keeps_loseNode,
    State.keeps_setFab, State.Keeps.foldl, State.Keeps.refl]

@[simp] theorem State.keeps_refuseAnswered {s t : State} (h : s.Keeps t) (f e) : s.Keeps (t.refuseAnswered f e) := by
  grind [State.refuseAnswered, State.keeps_endOps]

@[simp] theorem State.keeps_takeNak {s t : State} (h : s.Keeps t) (p f stamp) : s.Keeps (t.takeNak p f stamp) := by
  unfold State.takeNak
  generalize hu : (t.count 13 1).putPort p _ = u
  have hu : s.Keeps u := hu ▸ State.keeps_putPort (State.keeps_count h _ _) _ _
  simp only
  refine .ite (State.keeps_violation hu _ _ _ _ _) (.ite (.ite (State.keeps_enterFenced hu _) (.ite (State.keeps_staleSeen hu
      _ _) hu))
    (.ite hu (.ite (State.keeps_markLost hu _) (.ite (State.keeps_staleNak hu _ _ _ _) ?_))))
  split
  · exact State.keeps_refuseAnswered hu _ _
  · exact .ite (State.keeps_resetFlow hu _ _) (.ite (.ite (State.keeps_resetFlow hu _ _) (State.keeps_resend hu _ _))
      (.ite (State.keeps_putSend hu _) (.ite (State.keeps_endRefusedOp hu _ _ _) (State.keeps_refuseAnswered hu _ _))))

@[simp] theorem State.keeps_hear {s t : State} (h : s.Keeps t) (p f stamp) : s.Keeps (t.hear p f stamp) := by
  grind [State.hear, State.keeps_nearMissed, State.keeps_count, State.keeps_putPort]

theorem State.keeps_of_findFlow {s t u : State} (h : s.Keeps t) {f stamp e} (hu : t.findFlow f stamp = .expects u e) :
    s.Keeps u := by
  unfold State.findFlow at hu
  simp only at hu
  split at hu
  · split at hu <;> cases hu
    · exact h
    · exact State.keeps_putRecv h _
  · split at hu
    · cases hu
    split at hu
    · cases hu
      exact h
    split at hu <;> cases hu
    exact State.keeps_setFab h _

/-- What performing a frame does keeps the queue and stacked memory's form. -/
def State.KeepsPerformed (s : State) (perform : Nat → Frame → Nat → State → Performed) : Prop :=
  ∀ p f stamp u, s.Keeps u → s.Keeps (perform p f stamp u).state

@[simp] theorem State.keeps_inSequence {s t : State} {perform} (h : s.Keeps t) (hp : s.KeepsPerformed perform) (p f stamp) :
    s.Keeps (State.inSequence perform p f stamp t) := by
  unfold State.inSequence
  split
  next hu => exact State.keeps_of_epochCheck h hu
  next u hu =>
    have hu := State.keeps_of_epochCheck h hu
    have hv : s.Keeps (if f.ackv then u.takeAck f.src f.kind f.context f.ack else u) := .ite (State.keeps_takeAck hu _ _ _ _) hu
    simp only
    split
    · exact State.keeps_refuse hv _ _ _ _ _ _
    · exact State.keeps_refuse hv _ _ _ _ _ _
    next hw =>
      have hw := State.keeps_of_findFlow hv hw
      have hr := hp p f stamp _ (State.keeps_acceptSeq hw p f stamp)
      split_ifs
      · split
        · exact State.keeps_ackFlow hw _
        · exact hw
      · exact State.keeps_refuse hw _ _ _ _ _ _
      · exact State.keeps_ackIfDue hr _
      · exact State.keeps_ackIfDue (State.keeps_refuse hr _ _ _ _ _ _) _

@[simp] theorem State.keeps_atDevice {s t : State} {perform} (h : s.Keeps t) (hp : s.KeepsPerformed perform) (p f stamp) :
    s.Keeps (State.atDevice perform p f stamp t) := by
  have hrefuse := fun f reason => State.keeps_refuse h p f stamp reason 0 0
  exact .ite (.ite (hrefuse _ _) (State.keeps_forward h _ _ _)) (.ite (hrefuse _ _) (.ite (hrefuse _ _)
    (.ite (State.keeps_takeAck h _ _ _ _) (.ite (State.keeps_takeNak h _ _ _) (State.keeps_inSequence h hp _ _ _)))))

@[simp] theorem State.keeps_arrive {s t : State} {perform} (h : s.Keeps t) (hp : s.KeepsPerformed perform) (p f stamp) :
    s.Keeps (State.arrive perform p f stamp t) :=
  .ite h (.ite (State.keeps_hear h _ _ _) (State.keeps_atDevice (State.keeps_hear h _ _ _) hp _ _ _))

@[simp] theorem yields_onFrame {s t : State} {perform} (h : s.Keeps t) (hp : s.KeepsPerformed perform) (mine p f stamp) :
    s.Yields (onFrame mine perform p f stamp t) :=
  yields_onEvent h (State.keeps_arrive h hp _ _ _) _

@[simp] theorem keeps_performNone {s t : State} (h : s.Keeps t) (x x1 x2) : s.Keeps (performNone x x1 x2 t).state := by
  simp [performNone, h]

@[simp] theorem yields_execRxAck {s t : State} (h : s.Keeps t) (port frame stamp) :
    s.Yields (execRxAck port frame stamp t) := by
  exact yields_onFrame h (fun _ _ _ _ hu => keeps_performNone hu _ _ _) _ _ _ _

@[simp] theorem yields_execRxNak {s t : State} (h : s.Keeps t) (port frame stamp) :
    s.Yields (execRxNak port frame stamp t) := by
  exact yields_onFrame h (fun _ _ _ _ hu => keeps_performNone hu _ _ _) _ _ _ _

@[simp] theorem yields_execRxUnsupportedOpcode {s t : State} (h : s.Keeps t) (port frame stamp) :
    s.Yields (execRxUnsupportedOpcode port frame stamp t) := by
  exact yields_onFrame h (fun _ _ _ _ hu => keeps_performNone hu _ _ _) _ _ _ _

@[simp] theorem State.keeps_heartbeat {s t : State} (h : s.Keeps t) (p f stamp) : s.Keeps (t.heartbeat p f stamp) := by
  grind [State.heartbeat, State.keeps_hear, State.keeps_refuse, State.keeps_putPort]

@[simp] theorem yields_execRxHeartbeat {s t : State} (h : s.Keeps t) (port frame stamp) :
    s.Yields (execRxHeartbeat port frame stamp t) := by
  simp [execRxHeartbeat, h]

@[simp] theorem State.keeps_bsxFrame {s t : State} (h : s.Keeps t) (p f stamp) : s.Keeps (t.bsxFrame p f stamp) := by
  grind [State.bsxFrame, State.keeps_hear, State.keeps_refuse, State.keeps_takeBsx]

@[simp] theorem yields_execRxBsx {s t : State} (h : s.Keeps t) (port frame stamp) :
    s.Yields (execRxBsx port frame stamp t) := by
  simp [execRxBsx, h]

@[simp] theorem yields_execRxLinkError {s t : State} (h : s.Keeps t) (port) : s.Yields (execRxLinkError port t) := by
  simp [execRxLinkError, h]

theorem State.keeps_throughWindow {s t : State} {go : Nat → TieWindow → State → Performed} (h : s.Keeps t)
    (hgo : ∀ pa w u, s.Keeps u → s.Keeps (go pa w u).state) (f n k) : s.Keeps (t.throughWindow f n k go).state := by
  unfold State.throughWindow
  split
  · exact h
  · exact hgo _ _ _ (State.keeps_chargeRx h _ _)

theorem State.Keeps.state_ite {s : State} {c : Prop} [Decidable c] {x y : Performed} (hx : s.Keeps x.state) (hy :
    s.Keeps y.state) :
    s.Keeps (if c then x else y).state := by
  split
  · exact hx
  · exact hy

@[simp] theorem State.keeps_respond {s t : State} (h : s.Keeps t) (f op ctx bytes) : s.Keeps (t.respond f op ctx bytes) := by
  grind [State.respond, → State.keeps_flowSend, State.keeps_chargeTx]

@[simp] theorem keeps_performWrite {s t : State} (h : s.Keeps t) (p f stamp) : s.Keeps (performWrite p f stamp t).state :=
  State.keeps_throughWindow h (fun _ _ _ hu => State.keeps_hbmWrite (State.keeps_placeRange hu _ _ _ _) _ _) _ _ _

@[simp] theorem keeps_performRead {s t : State} (h : s.Keeps t) (p f stamp) : s.Keeps (performRead p f stamp t).state :=
  State.keeps_throughWindow h (fun _ _ _ hu =>
    .state_ite hu (State.keeps_respond (State.keeps_glanceRange hu _ _ _ _) _ _ _ _)) _ _ _

@[simp] theorem keeps_performAtomic {s t : State} (h : s.Keeps t) (p f stamp) : s.Keeps (performAtomic p f stamp t).state := by
  unfold performAtomic
  refine State.keeps_throughWindow h (fun _ _ u hu => .state_ite hu ?_) _ _ _
  exact State.keeps_respond (State.keeps_rmw (State.keeps_atomHolders hu _ _ _ _) _ _ _ _ _) _ _ _ _

@[simp] theorem keeps_performXadd {s t : State} (h : s.Keeps t) (p f stamp) : s.Keeps (performXadd p f stamp t).state :=
  State.keeps_throughWindow h (fun _ _ _ hu => .state_ite hu (State.keeps_farCells hu _ _ _ _ _)) _ _ _

@[simp] theorem yields_execRxWrite {s t : State} (h : s.Keeps t) (port frame stamp) :
    s.Yields (execRxWrite port frame stamp t) := by
  exact yields_onFrame h (fun _ _ _ _ hu => keeps_performWrite hu _ _ _) _ _ _ _

@[simp] theorem yields_execRxReadReq {s t : State} (h : s.Keeps t) (port frame stamp) :
    s.Yields (execRxReadReq port frame stamp t) := by
  exact yields_onFrame h (fun _ _ _ _ hu => keeps_performRead hu _ _ _) _ _ _ _

@[simp] theorem yields_execRxAtomic {s t : State} (h : s.Keeps t) (port frame stamp) :
    s.Yields (execRxAtomic port frame stamp t) := by
  exact yields_onFrame h (fun _ _ _ _ hu => keeps_performAtomic hu _ _ _) _ _ _ _

@[simp] theorem yields_execRxXadd {s t : State} (h : s.Keeps t) (port frame stamp) :
    s.Yields (execRxXadd port frame stamp t) := by
  exact yields_onFrame h (fun _ _ _ _ hu => keeps_performXadd hu _ _ _) _ _ _ _

@[simp] theorem State.keeps_answered {s t : State} (h : s.Keeps t) (w) : s.Keeps (t.answered w) := by
  unfold State.answered; split <;> grind [State.keeps_runList, State.keeps_driveColl, State.Keeps.foldl, State.Keeps.refl]

@[simp] theorem State.keeps_takeAnswer {s t : State} (h : s.Keeps t) (f atomic bytes) :
    s.Keeps (t.takeAnswer f atomic bytes) := by
  simp only [State.takeAnswer]; split <;> grind [State.keeps_chargeRx, State.keeps_setXlat, State.keeps_pumpAll,
    State.keeps_settleInvs, State.keeps_answered, State.Keeps.foldl, State.Keeps.refl]

@[simp] theorem keeps_performAtomicRsp {s t : State} (h : s.Keeps t) (x f x1) : s.Keeps (performAtomicRsp x f x1 t).state := by
  simp [performAtomicRsp, h]

@[simp] theorem yields_execRxAtomicRsp {s t : State} (h : s.Keeps t) (port frame stamp) :
    s.Yields (execRxAtomicRsp port frame stamp t) := by
  exact yields_onFrame h (fun _ _ _ _ hu => keeps_performAtomicRsp hu _ _ _) _ _ _ _

@[simp] theorem keeps_performAligned {s t : State} (h : s.Keeps t) (p f x) : s.Keeps (performAligned p f x t).state := by
  simp [performAligned, h]

@[simp] theorem yields_execRxAlignedNotice {s t : State} (h : s.Keeps t) (port frame stamp) :
    s.Yields (execRxAlignedNotice port frame stamp t) := by
  exact yields_onFrame h (fun _ _ _ _ hu => keeps_performAligned hu _ _ _) _ _ _ _

@[simp] theorem keeps_performHall {s t : State} (h : s.Keeps t) (p f x) : s.Keeps (performHall p f x t).state := by
  simp [performHall, h]

@[simp] theorem yields_execRxHallCorrection {s t : State} (h : s.Keeps t) (port frame stamp) :
    s.Yields (execRxHallCorrection port frame stamp t) := by
  exact yields_onFrame h (fun _ _ _ _ hu => keeps_performHall hu _ _ _) _ _ _ _

@[simp] theorem yields_execViolationMsTick {s t : State} (h : s.Keeps t) : s.Yields (execViolationMsTick t) := by
  simp [execViolationMsTick, h]

@[simp] theorem State.keeps_sendHeartbeat {s t : State} (h : s.Keeps t) (p) : s.Keeps (t.sendHeartbeat p) := by
  simp [State.sendHeartbeat, h]

@[simp] theorem yields_execHeartbeatSend {s t : State} (h : s.Keeps t) (port) : s.Yields (execHeartbeatSend port t) := by
  simp [execHeartbeatSend, h]

@[simp] theorem yields_execAckSend {s t : State} (h : s.Keeps t) (flow) : s.Yields (execAckSend flow t) := by
  grind [execAckSend, State.yields_next, State.keeps_ackFlow]

@[simp] theorem State.keeps_retransmit {s t : State} (h : s.Keeps t) (fl) : s.Keeps (t.retransmit fl) := by
  simp [State.retransmit, h]

@[simp] theorem yields_execRetransmitTimeout {s t : State} (h : s.Keeps t) (flow) :
    s.Yields (execRetransmitTimeout flow t) := by
  grind [execRetransmitTimeout, State.yields_next, State.keeps_retransmit]

@[simp] theorem yields_execBusyResend {s t : State} (h : s.Keeps t) (flow) : s.Yields (execBusyResend flow t) := by
  grind [execBusyResend, State.yields_next, State.keeps_resend]

@[simp] theorem yields_execFlowStateExpiry {s t : State} (h : s.Keeps t) (flow) : s.Yields (execFlowStateExpiry flow t) := by
  refine State.yields_next.mpr ?_
  split
  · exact .ite (State.keeps_setFab h _) h
  · split
    · exact .ite (State.keeps_setFab h _) h
    · exact h

@[simp] theorem yields_execFlowResetResume {s t : State} (h : s.Keeps t) (flow) : s.Yields (execFlowResetResume flow t) := by
  grind [execFlowResetResume, State.yields_next, State.keeps_flowOn, State.keeps_putSend]

@[simp] theorem State.keeps_reparent {s t : State} (h : s.Keeps t) : s.Keeps (t.reparent) := by
  grind [State.reparent, State.keeps_measurePort, State.keeps_setTime]

@[simp] theorem State.keeps_portLost {s t : State} (h : s.Keeps t) (p) : s.Keeps (t.portLost p) := by
  grind [State.portLost, State.keeps_putPort, State.keeps_setShare, State.keeps_loseNode, State.keeps_resend,
    State.keeps_reparent, State.Keeps.foldl, State.Keeps.refl]

@[simp] theorem yields_execPortLoss {s t : State} (h : s.Keeps t) (port) : s.Yields (execPortLoss port t) := by
  simp [execPortLoss, h]

@[simp] theorem State.keeps_recordSource {s t : State} (h : s.Keeps t) (p) : s.Keeps (t.recordSource p) := by
  simp [State.recordSource, h]

@[simp] theorem State.keeps_portUp {s t : State} (h : s.Keeps t) (p) : s.Keeps (t.portUp p) := by
  grind [State.portUp, State.keeps_recordSource, State.keeps_putPort, State.keeps_measurePort]

@[simp] theorem yields_execPortUp {s t : State} (h : s.Keeps t) (port) : s.Yields (execPortUp port t) := by
  simp [execPortUp, h]

/-! ### Joined -/

@[simp] theorem State.keeps_putOffer {s t : State} (h : s.Keeps t) (o) : s.Keeps (t.putOffer o) := by
  simp [State.putOffer, h]

@[simp] theorem State.keeps_dropOffer {s t : State} (h : s.Keeps t) (job) : s.Keeps (t.dropOffer job) := by
  grind [State.dropOffer, State.keeps_cancelEvent, State.keeps_setJoined]

@[simp] theorem State.keeps_launchTo {s t : State} (h : s.Keeps t) (dst payload job commit) :
    s.Keeps (t.launchTo dst payload job commit) := by
  grind [State.launchTo, → State.keeps_flowSend, State.keeps_endOp]

@[simp] theorem State.keeps_offerTo {s t : State} (h : s.Keeps t) (o i node) : s.Keeps (t.offerTo o i node) := by
  simp [State.offerTo, h]

@[simp] theorem State.keeps_tryAck {s t : State} (h : s.Keeps t) (job) : s.Keeps (t.tryAck job) := by
  grind [State.tryAck, State.keeps_ctrl, State.keeps_putOffer, State.keeps_complete]

@[simp] theorem State.keeps_holdOffer {s t : State} (h : s.Keeps t) (o) : s.Keeps (t.holdOffer o) := by
  grind [State.holdOffer, State.keeps_dropOffer, State.keeps_negativeAck, State.keeps_setJoined, State.keeps_allocate,
    → State.keeps_of_allocate, State.keeps_tryAck, State.keeps_offerTo, State.Keeps.foldl, State.Keeps.refl]

@[simp] theorem State.keeps_launchOffer {s t : State} (h : s.Keeps t) (n) : s.Keeps (t.launchOffer n) := by
  have hend := fun status => State.keeps_complete h n status []
  unfold State.launchOffer
  exact .ite (hend _) (.ite (hend _) (.ite (hend _) (.ite (hend _) (.ite (hend _) (.ite (hend _)
    (State.keeps_holdOffer (State.keeps_begin_ (State.keeps_dropOffer h _) _) _))))))

@[simp] theorem yields_execLaunchOffer {s t : State} (h : s.Keeps t) (mbx) : s.Yields (execLaunchOffer mbx t) := by
  simp [execLaunchOffer, h]

@[simp] theorem yields_execLaunchDeadline {s t : State} (h : s.Keeps t) : s.Yields (execLaunchDeadline t) := by
  refine State.yields_next.mpr (State.Keeps.foldl (fun u n => ?_) h _)
  split
  · refine .ite ?_ (.refl u)
    split
    · exact .ite (.refl u) (State.keeps_complete (State.keeps_putOffer (.refl u) _) _ _ _)
    · exact State.keeps_complete (.refl u) _ _ _
  · exact .refl u

@[simp] theorem State.keeps_takeOffer {s t : State} (h : s.Keeps t) (f) : s.Keeps (t.takeOffer f) := by
  grind [State.takeOffer, State.keeps_holdOffer, State.keeps_setJoined, State.keeps_dropOffer]

@[simp] theorem State.keeps_takeAckMsg {s t : State} (h : s.Keeps t) (f stamp) : s.Keeps (t.takeAckMsg f stamp) := by
  grind [State.takeAckMsg, State.keeps_putOffer, State.keeps_nearMissed, State.keeps_negativeAck, State.keeps_tryAck]

@[simp] theorem State.keeps_toKids {s t : State} (h : s.Keeps t) (o type w1) : s.Keeps (t.toKids o type w1) := by
  simp [State.toKids, h]

@[simp] theorem State.keeps_commitOffer {s t : State} (h : s.Keeps t) (o stake near) : s.Keeps (t.commitOffer o stake near) :=
  State.keeps_stakeOrTimer (State.keeps_toKids (State.keeps_setJoined (State.keeps_dropOffer
    (State.keeps_launchRecord h _ _ _ _) _) _) _ _ _) _ _ _ _ _

@[simp] theorem State.keeps_endOffer {s t : State} (h : s.Keeps t) (o st stake) : s.Keeps (t.endOffer o st stake) := by
  simp [State.endOffer, h]

@[simp] theorem State.keeps_rearm {s t : State} (h : s.Keeps t) (old new stake) : s.Keeps (t.rearm old new stake) := by
  simp [State.rearm, h]

@[simp] theorem State.keeps_abortOffer {s t : State} (h : s.Keeps t) (o stake) : s.Keeps (t.abortOffer o stake) := by
  grind [State.abortOffer, State.keeps_toKids, State.keeps_endOffer, State.keeps_rearm, State.keeps_putOffer]

@[simp] theorem State.keeps_lapse {s t : State} (h : s.Keeps t) (job stamp commit) : s.Keeps (t.lapse job stamp commit) := by
  unfold State.lapse
  split
  · exact h
  refine .ite h ?_
  split
  · exact .ite (State.keeps_endOffer h _ _ _) h
  · exact .ite (State.keeps_endOffer h _ _ _) h

@[simp] theorem State.keeps_launchCommit {s t : State} (h : s.Keeps t) (n) : s.Keeps (t.launchCommit n) := by
  grind [State.launchCommit, State.keeps_lapse, State.keeps_complete, State.keeps_commitOffer]

@[simp] theorem yields_execLaunchCommit {s t : State} (h : s.Keeps t) (mbx) : s.Yields (execLaunchCommit mbx t) := by
  simp [execLaunchCommit, h]

@[simp] theorem State.keeps_launchAbort {s t : State} (h : s.Keeps t) (n) : s.Keeps (t.launchAbort n) := by
  grind [State.launchAbort, State.keeps_lapse, State.keeps_complete, State.keeps_setJoined, State.keeps_abortOffer]

@[simp] theorem yields_execLaunchAbort {s t : State} (h : s.Keeps t) (mbx) : s.Yields (execLaunchAbort mbx t) := by
  simp [execLaunchAbort, h]

@[simp] theorem State.keeps_takeCommit {s t : State} (h : s.Keeps t) (f stamp) : s.Keeps (t.takeCommit f stamp) := by
  grind [State.takeCommit, State.keeps_lapse, State.keeps_commitOffer, State.keeps_nearMissed]

@[simp] theorem State.keeps_takeAbort {s t : State} (h : s.Keeps t) (f stamp) : s.Keeps (t.takeAbort f stamp) := by
  grind [State.takeAbort, State.keeps_lapse, State.keeps_abortOffer]

@[simp] theorem State.keeps_offerFires {s t : State} (h : s.Keeps t) (job) : s.Keeps (t.offerFires job) := by
  grind [State.offerFires, State.keeps_endOffer]

@[simp] theorem keeps_performOffer {s t : State} (h : s.Keeps t) (x f x1) : s.Keeps (performOffer x f x1 t).state := by
  simp [performOffer, h]

@[simp] theorem keeps_performLaunchAck {s t : State} (h : s.Keeps t) (x f stamp) :
    s.Keeps (performLaunchAck x f stamp t).state := by
  simp [performLaunchAck, h]

@[simp] theorem keeps_performCommit {s t : State} (h : s.Keeps t) (x f stamp) : s.Keeps (performCommit x f stamp t).state := by
  simp [performCommit, h]

@[simp] theorem keeps_performAbort {s t : State} (h : s.Keeps t) (x f stamp) : s.Keeps (performAbort x f stamp t).state := by
  simp [performAbort, h]

@[simp] theorem yields_execRxLaunchOffer {s t : State} (h : s.Keeps t) (port frame stamp) :
    s.Yields (execRxLaunchOffer port frame stamp t) := by
  exact yields_onFrame h (fun _ _ _ _ hu => keeps_performOffer hu _ _ _) _ _ _ _

@[simp] theorem yields_execRxLaunchAck {s t : State} (h : s.Keeps t) (port frame stamp) :
    s.Yields (execRxLaunchAck port frame stamp t) := by
  exact yields_onFrame h (fun _ _ _ _ hu => keeps_performLaunchAck hu _ _ _) _ _ _ _

@[simp] theorem yields_execRxLaunchCommit {s t : State} (h : s.Keeps t) (port frame stamp) :
    s.Yields (execRxLaunchCommit port frame stamp t) := by
  exact yields_onFrame h (fun _ _ _ _ hu => keeps_performCommit hu _ _ _) _ _ _ _

@[simp] theorem yields_execRxLaunchAbort {s t : State} (h : s.Keeps t) (port frame stamp) :
    s.Yields (execRxLaunchAbort port frame stamp t) := by
  exact yields_onFrame h (fun _ _ _ _ hu => keeps_performAbort hu _ _ _) _ _ _ _

@[simp] theorem keeps_performColl {s t : State} (h : s.Keeps t) (x f stamp) : s.Keeps (performColl x f stamp t).state := by
  simp [performColl, h]

@[simp] theorem yields_execRxCollUp {s t : State} (h : s.Keeps t) (port frame stamp) :
    s.Yields (execRxCollUp port frame stamp t) := by
  exact yields_onFrame h (fun _ _ _ _ hu => keeps_performColl hu _ _ _) _ _ _ _

@[simp] theorem yields_execRxCollDown {s t : State} (h : s.Keeps t) (port frame stamp) :
    s.Yields (execRxCollDown port frame stamp t) := by
  exact yields_onFrame h (fun _ _ _ _ hu => keeps_performColl hu _ _ _) _ _ _ _

@[simp] theorem yields_execRxCollCredit {s t : State} (h : s.Keeps t) (port frame stamp) :
    s.Yields (execRxCollCredit port frame stamp t) := by
  exact yields_onFrame h (fun _ _ _ _ hu => keeps_performColl hu _ _ _) _ _ _ _

@[simp] theorem yields_execRxCollFail {s t : State} (h : s.Keeps t) (port frame stamp) :
    s.Yields (execRxCollFail port frame stamp t) := by
  exact yields_onFrame h (fun _ _ _ _ hu => keeps_performColl hu _ _ _) _ _ _ _

@[simp] theorem State.keeps_launchStarts {s t : State} (h : s.Keeps t) (job) : s.Keeps (t.launchStarts job) := by
  grind [State.launchStarts, State.keeps_postSlot, → State.keeps_of_postSlot, State.Keeps.foldl, State.Keeps.refl]

@[simp] theorem State.keeps_flagWake {s t : State} (h : s.Keeps t) (w) : s.Keeps (t.flagWake w) := by
  grind [State.flagWake, State.keeps_setAbaom, State.keeps_glanceLine, State.keeps_countWake, State.keeps_takeList,
    State.keeps_wakeWaits, → State.keeps_of_wakeWaits, State.keeps_postSlot, → State.keeps_of_postSlot]

@[simp] theorem yields_execFlagWake {s t : State} (h : s.Keeps t) (watch) : s.Yields (execFlagWake watch t) := by
  grind [execFlagWake, State.yields_next, State.keeps_flagWake]

/-! ### Power -/

@[simp] theorem State.keeps_clockStep {s t : State} (h : s.Keeps t) (stake) : s.Keeps (t.clockStep stake) := by
  grind [State.clockStep, State.keeps_cancelEvent, State.keeps_setPwr, State.keeps_stakeOrTimer, → State.keeps_of_stakeOrTimer]

@[simp] theorem State.keeps_setTarget {s t : State} (h : s.Keeps t) (mhz stake) : s.Keeps (t.setTarget mhz stake) := by
  grind [State.setTarget, State.keeps_setPwr, State.keeps_clockStep]

@[simp] theorem State.keeps_groupTarget {s t : State} (h : s.Keeps t) (mhz stake) : s.Keeps (t.groupTarget mhz stake) := by
  grind [State.groupTarget, State.keeps_setTarget, State.keeps_cancelEvent]

@[simp] theorem yields_execClockStep {s t : State} (h : s.Keeps t) : s.Yields (execClockStep t) := by
  grind [execClockStep, State.yields_next, State.keeps_clockStep]

@[simp] theorem State.keeps_applyBatch {s t : State} (h : s.Keeps t) (b viaTimer late) :
    s.Keeps (t.applyBatch b viaTimer late) := by
  grind [State.applyBatch, State.keeps_setJoined, State.keeps_count, State.keeps_groupTarget, State.keeps_notify]

@[simp] theorem State.keeps_settleBatches {s t : State} (h : s.Keeps t) : s.Keeps (t.settleBatches) := by
  grind [State.settleBatches, State.keeps_cancelBatches, State.keeps_applyBatch, State.keeps_stakeOrTimer,
    → State.keeps_of_stakeOrTimer, State.Keeps.foldl, State.Keeps.refl]

@[simp] theorem State.keeps_batchFires {s t : State} (h : s.Keeps t) (stake viaTimer late) :
    s.Keeps (t.batchFires stake viaTimer late) := by
  grind [State.batchFires, State.keeps_cancelEvent, State.keeps_settleBatches, State.keeps_applyBatch]

@[simp] theorem State.keeps_firstCopy {s t : State} (h : s.Keeps t) (n but) : s.Keeps (t.firstCopy n but) := by
  grind [State.firstCopy, State.keeps_setJoined, State.keeps_ctrlPeer, State.keeps_settleBatches, State.Keeps.foldl,
    State.Keeps.refl]

@[simp] theorem State.keeps_takeThrottle {s t : State} (h : s.Keeps t) (p f) : s.Keeps (t.takeThrottle p f) := by
  simp [State.takeThrottle, h]

@[simp] theorem keeps_performThrottle {s t : State} (h : s.Keeps t) (p f x) : s.Keeps (performThrottle p f x t).state := by
  simp [performThrottle, h]

@[simp] theorem yields_execRxThrottle {s t : State} (h : s.Keeps t) (port frame stamp) :
    s.Yields (execRxThrottle port frame stamp t) := by
  exact yields_onFrame h (fun _ _ _ _ hu => keeps_performThrottle hu _ _ _) _ _ _ _

@[simp] theorem State.keeps_originate {s t : State} (h : s.Keeps t) (group) : s.Keeps (t.originate group) := by
  grind [State.originate, State.keeps_count, State.keeps_setJoined, State.keeps_firstCopy, State.keeps_setPwr]

@[simp] theorem yields_execThrottleOriginate {s t : State} (h : s.Keeps t) : s.Yields (execThrottleOriginate t) := by
  grind [execThrottleOriginate, State.yields_next, State.keeps_originate]

@[simp] theorem State.keeps_expireThrottle {s t : State} (h : s.Keeps t) (n) : s.Keeps (t.expireThrottle n) := by
  grind [State.expireThrottle, State.keeps_setJoined, State.keeps_groupTarget]

@[simp] theorem yields_execThrottleExpiry {s t : State} (h : s.Keeps t) (origin nseq) :
    s.Yields (execThrottleExpiry origin nseq t) := by
  refine State.yields_next.mpr ?_
  split
  · exact .ite (State.keeps_expireThrottle h _) h
  · exact h

@[simp] theorem State.keeps_plumbJoin {s t : State} (h : s.Keeps t) (n) : s.Keeps (t.plumbJoin n) := by
  grind [State.plumbJoin, State.keeps_complete, State.keeps_setJoined, State.keeps_begin_, State.keeps_stakeOrTimer,
    → State.keeps_of_stakeOrTimer]

@[simp] theorem yields_execPlumbJoin {s t : State} (h : s.Keeps t) (mbx) : s.Yields (execPlumbJoin mbx t) := by
  simp [execPlumbJoin, h]

@[simp] theorem State.keeps_joinFires {s t : State} (h : s.Keeps t) : s.Keeps t.joinFires := by
  unfold State.joinFires
  split
  · exact h
  · exact State.keeps_settleBatches (State.keeps_complete (State.keeps_setJoined (State.keeps_setPwr
      (State.keeps_cancelEvent (State.keeps_cancelEvent h _) _) _) _) _ _ _)

@[simp] theorem yields_execPlumbLeave {s t : State} (h : s.Keeps t) (mbx) : s.Yields (execPlumbLeave mbx t) := by
  grind [execPlumbLeave, State.yields_next, yields_runCommand, State.keeps_complete, State.keeps_leaveGroup]

@[simp] theorem yields_execPmbusPoll {s t : State} (h : s.Keeps t) (readings) : s.Yields (execPmbusPoll readings t) := by
  simp [execPmbusPoll, h]

@[simp] theorem State.keeps_gateShares {s t : State} (h : s.Keeps t) (gating) : s.Keeps (t.gateShares gating) := by
  grind [State.gateShares, State.keeps_setPwr, State.keeps_setFreeCtr]

@[simp] theorem State.keeps_gatingDecision {s t : State} (h : s.Keeps t) (input slope) :
    s.Keeps (t.gatingDecision input slope) := by
  grind [State.gatingDecision, State.keeps_setPwr, State.keeps_gateShares, State.keeps_setJoined, State.keeps_setTarget]

@[simp] theorem State.keeps_inputCheck {s t : State} (h : s.Keeps t) (vin) : s.Keeps (t.inputCheck vin).1 := by
  unfold State.inputCheck
  split
  · exact h
  split_ifs
  · exact State.keeps_setPwr h _
  · exact State.keeps_setPwr h _
  · exact h

theorem State.keeps_of_inputCheck {s t u : State} {vin} {x} (h : s.Keeps t) (hu : t.inputCheck vin = (u, x)) : s.Keeps u :=
  (State.keeps_inputCheck h _).of_eq hu

@[simp] theorem yields_execInputUndervoltage {s t : State} (h : s.Keeps t) : s.Yields (execInputUndervoltage t) := by
  grind [execInputUndervoltage, State.yields_next, yields_onEvent, State.keeps_gatingDecision, State.keeps_setPwr]

@[simp] theorem yields_execTargetRestore {s t : State} (h : s.Keeps t) : s.Yields (execTargetRestore t) := by
  simp [execTargetRestore, h]

@[simp] theorem State.keeps_powerSample {s t : State} (h : s.Keeps t) (vin watts load busy cycles) :
    s.Keeps (t.powerSample vin watts load busy cycles) := by
  grind [State.powerSample, State.keeps_setPwr, State.keeps_inputCheck, → State.keeps_of_inputCheck, State.keeps_gatingDecision]

@[simp] theorem yields_execPowerSample {s t : State} (h : s.Keeps t) (vin watts load busy cycles) :
    s.Yields (execPowerSample vin watts load busy cycles t) := by
  simp [execPowerSample, h]

@[simp] theorem State.keeps_actHint {s t : State} (h : s.Keeps t) (heavy phase) : s.Keeps (t.actHint heavy phase) := by
  simp [State.actHint, h]

@[simp] theorem State.keeps_registerHint {s t : State} (h : s.Keeps t) (heavy phase owner) :
    s.Keeps (t.registerHint heavy phase owner).1 := by
  grind [State.registerHint, State.keeps_setPwr, State.keeps_actHint, State.keeps_stakeOrTimer, → State.keeps_of_stakeOrTimer]

theorem State.keeps_of_registerHint {s t u : State} {heavy phase owner} {x} (h : s.Keeps t) (hu : t.registerHint heavy phase owner = (u, x)) :
    s.Keeps u :=
  (State.keeps_registerHint h _ _ _).of_eq hu

@[simp] theorem State.keeps_hintFires {s t : State} (h : s.Keeps t) (id) : s.Keeps (t.hintFires id) := by
  grind [State.hintFires, State.keeps_cancelEvent, State.keeps_setPwr, State.keeps_actHint, State.Keeps.foldl, State.Keeps.refl]

@[simp] theorem yields_execPwrHint {s t : State} (h : s.Keeps t) (mbx) : s.Yields (execPwrHint mbx t) := by
  grind [execPwrHint, State.yields_next, yields_runCommand, State.keeps_registerHint, → State.keeps_of_registerHint,
    State.keeps_complete]

@[simp] theorem yields_execHint {s t : State} (h : s.Keeps t) (watch entry) : s.Yields (execHint watch entry t) := by
  grind [execHint, State.yields_next, yields_onEntry, State.keeps_endEntry, State.keeps_registerHint,
    → State.keeps_of_registerHint]

@[simp] theorem yields_execHeavyHandoverTimeout {s t : State} (h : s.Keeps t) : s.Yields (execHeavyHandoverTimeout t) := by
  simp [execHeavyHandoverTimeout, h]

@[simp] theorem yields_execPwrSetLimit {s t : State} (h : s.Keeps t) (mbx) : s.Yields (execPwrSetLimit mbx t) := by
  grind [execPwrSetLimit, State.yields_next, yields_runCommand, State.keeps_complete, State.keeps_setPwr]

@[simp] theorem yields_execPwrMode {s t : State} (h : s.Keeps t) (mbx) : s.Yields (execPwrMode mbx t) := by
  grind [execPwrMode, State.yields_next, yields_runCommand, State.keeps_cancelEvent, State.keeps_leaveGroup,
    State.keeps_complete, State.keeps_setPwr]

@[simp] theorem State.keeps_writeNoncrit {s t : State} (h : s.Keeps t) (v) : s.Keeps (t.writeNoncrit v) := by
  simp [State.writeNoncrit, h]

@[simp] theorem yields_execNoncritWrite {s t : State} (h : s.Keeps t) (value) : s.Yields (execNoncritWrite value t) := by
  simp [execNoncritWrite, h]

@[simp] theorem State.keeps_apportion {s t : State} (h : s.Keeps t) : s.Keeps (t.apportion) := by
  grind [State.apportion, State.keeps_putCtx, State.keeps_setPwr, State.Keeps.foldl, State.Keeps.refl]

@[simp] theorem yields_execEnergyApportion {s t : State} (h : s.Keeps t) : s.Yields (execEnergyApportion t) := by
  simp [execEnergyApportion, h]

/-! ### Monument -/

@[simp] theorem State.keeps_issueMonument {s t : State} (h : s.Keeps t) (n m) : s.Keeps (t.issueMonument n m) := by
  grind [State.issueMonument, State.keeps_allocate, → State.keeps_of_allocate, State.keeps_setMonu, State.keeps_complete,
    State.keeps_publish]

@[simp] theorem State.keeps_startMonument {s t : State} (h : s.Keeps t) (n restore layers layer) :
    s.Keeps (t.startMonument n restore layers layer) := by
  grind [State.startMonument, State.keeps_complete, State.keeps_issueMonument]

@[simp] theorem yields_execMonumentStart {s t : State} (h : s.Keeps t) (mbx) : s.Yields (execMonumentStart mbx t) := by
  grind [execMonumentStart, State.yields_next, yields_runCommand, State.keeps_complete, State.keeps_startMonument]

@[simp] theorem yields_execRestore {s t : State} (h : s.Keeps t) (mbx) : s.Yields (execRestore mbx t) := by
  grind [execRestore, State.yields_next, yields_runCommand, State.keeps_complete, State.keeps_startMonument]

@[simp] theorem yields_execMonumentQuery {s t : State} (h : s.Keeps t) (mbx) : s.Yields (execMonumentQuery mbx t) := by
  grind [execMonumentQuery, State.yields_next, yields_runCommand, State.keeps_complete]

theorem State.keeps_bulkWrite {s t u : State} (h : s.Keeps t) {id node window offset bytes}
    (hu : t.bulkWrite id node window offset bytes = some u) : s.Keeps u :=
  State.Keeps.of_chunks (send := fun v off b =>
    v.flowSend { v.headTo opWrite node kBulk 0 with window, offset := off, length := b.length } b (.monument id))
    (fun v _ _ _ hv => State.keeps_flowSend (.refl v) hv) h _ _ hu

@[simp] theorem State.keeps_layerWrite {s t : State} (h : s.Keeps t) (m off bytes) : s.Keeps (t.layerWrite m off bytes) := by
  grind [State.layerWrite, State.keeps_setMonu, State.keeps_breakMonument, → State.keeps_bulkWrite]

@[simp] theorem State.keeps_unseal {s t : State} (h : s.Keeps t) (m) : s.Keeps (t.unseal m) := State.keeps_layerWrite h _ _ _

@[simp] theorem State.keeps_writeImage {s t : State} (h : s.Keeps t) (m image) : s.Keeps (t.writeImage m image) := by
  grind [State.writeImage, State.keeps_layerWrite, State.keeps_putMonument]

@[simp] theorem State.keeps_readRegion {s t : State} (h : s.Keeps t) (m r) : s.Keeps (t.readRegion m r).1 := by
  grind [State.readRegion, State.keeps_fetchPieces, → State.keeps_of_fetchPieces]

theorem State.keeps_of_readRegion {s t u : State} {m r} {x} (h : s.Keeps t) (hu : t.readRegion m r = (u, x)) : s.Keeps u :=
  (State.keeps_readRegion h _ _).of_eq hu

@[simp] theorem State.keeps_readRegions {s t : State} (h : s.Keeps t) (m) (l : List MonRegion) :
    s.Keeps (State.readRegions m l t).1 := by
  induction l generalizing t with
  | nil => exact h
  | cons r l ih =>
    unfold State.readRegions
    split
    next hu =>
      have hv := State.Keeps.foldl (f := fun (v : State) (p : Nat × Nat) => v.glanceRange p.1 p.2 .background m.ctx)
        (fun v p => State.keeps_glanceRange (.refl v) _ _ _ _) (State.keeps_of_readRegion h hu)
      simp only
      split
      next hw => exact State.Keeps.of_eq (ih (hv _)) hw
      · exact ih (hv _)
    · exact State.keeps_readRegion h m r

theorem State.keeps_of_readRegions {s t u : State} {m a} {x} (h : s.Keeps t) (hu : State.readRegions m a t = (u, x)) :
    s.Keeps u :=
  (State.keeps_readRegions h _ _).of_eq hu

@[simp] theorem State.keeps_capture {s t : State} (h : s.Keeps t) (id) : s.Keeps (t.capture id) := by
  unfold State.capture; split <;> grind [State.keeps_readRegions, → State.keeps_of_readRegions, State.keeps_endMonument,
    State.keeps_tieTake, State.keeps_unseal, State.keeps_putMonument, State.keeps_writeImage, State.Keeps.foldl,
    State.Keeps.refl]

@[simp] theorem State.keeps_beginCapture {s t : State} (h : s.Keeps t) (m late) : s.Keeps (t.beginCapture m late) := by
  simp [State.beginCapture, h]

@[simp] theorem State.keeps_nextCapture {s t : State} (h : s.Keeps t) : s.Keeps (t.nextCapture) := by
  grind [State.nextCapture, State.keeps_beginCapture]

@[simp] theorem State.keeps_captureFires {s t : State} (h : s.Keeps t) (id late) : s.Keeps (t.captureFires id late) := by
  grind [State.captureFires, State.keeps_nextCapture, State.keeps_putMonument, State.keeps_beginCapture]

theorem State.keeps_bulkRead {s t u : State} (h : s.Keeps t) {id node window fuel off n}
    (hu : State.bulkRead id node window fuel off n t = some u) : s.Keeps u := by
  induction fuel generalizing t off n with
  | zero =>
    cases hu
    exact h
  | succ fuel ih =>
    unfold State.bulkRead at hu
    split at hu
    · cases hu
      exact h
    simp only at hu
    split at hu
    next hv => exact ih (State.keeps_flowSend (State.keeps_setMonu h _) hv) hu
    · cases hu

@[simp] theorem State.keeps_askBytes {s t : State} (h : s.Keeps t) (m place off n) : s.Keeps (t.askBytes m place off n) := by
  grind [State.askBytes, → State.keeps_bulkRead, State.keeps_breakMonument]

@[simp] theorem State.keeps_readSource {s t : State} (h : s.Keeps t) (m src) : s.Keeps (t.readSource m src) := by
  grind [State.readSource, State.keeps_unseal, State.keeps_putMonument, State.keeps_writeImage, State.keeps_breakMonument,
    State.keeps_askBytes]

@[simp] theorem State.keeps_closeMonument {s t : State} (h : s.Keeps t) (m) : s.Keeps (t.closeMonument m) := by
  simp [State.closeMonument, h]

@[simp] theorem State.keeps_nextDrain {s t : State} (h : s.Keeps t) (fuel m) : s.Keeps (State.nextDrain fuel t m) := by
  induction fuel generalizing m with
  | zero => exact h
  | succ fuel ih =>
    unfold State.nextDrain
    split
    · exact State.keeps_closeMonument h _
    simp only
    split
    · exact ih _
    · grind [State.keeps_putMonument, State.keeps_publish, State.keeps_readSource]

@[simp] theorem State.keeps_wakeDrains {s t : State} (h : s.Keeps t) : s.Keeps (t.wakeDrains) := by
  grind [State.wakeDrains, State.keeps_nextDrain, State.Keeps.foldl, State.Keeps.refl]

@[simp] theorem State.keeps_layerEnds {s t : State} (h : s.Keeps t) (m) : s.Keeps (t.layerEnds m) := by
  grind [State.layerEnds, State.keeps_nextDrain, State.keeps_wakeDrains, State.keeps_nextCapture]

@[simp] theorem State.keeps_sealLayer {s t : State} (h : s.Keeps t) (m) : s.Keeps (t.sealLayer m) := by
  grind [State.sealLayer, State.keeps_layerEnds, State.keeps_layerWrite, State.keeps_breakMonument, State.keeps_putMonument]

@[simp] theorem yields_execMonumentSeal {s t : State} (h : s.Keeps t) (id layer) : s.Yields (execMonumentSeal id layer t) := by
  grind [execMonumentSeal, State.yields_next, State.keeps_sealLayer]

@[simp] theorem State.keeps_failLayer {s t : State} (h : s.Keeps t) (m status) : s.Keeps (t.failLayer m status) := by
  grind [State.failLayer, State.keeps_wakeDrains, State.keeps_nextCapture, State.keeps_closeMonument, State.keeps_capture,
    State.keeps_putMonument, State.keeps_layerEnds]

@[simp] theorem State.keeps_failSource {s t : State} (h : s.Keeps t) (m src status) : s.Keeps (t.failSource m src status) := by
  grind [State.failSource, State.keeps_setMonu, State.keeps_readSource, State.keeps_failLayer]

@[simp] theorem yields_execLayerFailure {s t : State} (h : s.Keeps t) (id layer status) :
    s.Yields (execLayerFailure id layer status t) := by
  grind [execLayerFailure, State.yields_next, State.keeps_failLayer, State.keeps_failSource]

@[simp] theorem State.keeps_restoreStore {s t : State} (h : s.Keeps t) (m addr bytes) :
    s.Keeps (t.restoreStore m addr bytes).1 := by
  grind [State.restoreStore, State.keeps_monuStore, → State.keeps_of_monuStore, State.keeps_placeRange, State.Keeps.foldl,
    State.Keeps.refl]

theorem State.keeps_of_restoreStore {s t u : State} {m addr bytes} {x} (h : s.Keeps t) (hu : t.restoreStore m addr bytes = (u, x)) :
    s.Keeps u :=
  (State.keeps_restoreStore h _ _ _).of_eq hu

@[simp] theorem State.keeps_restoreRegions {s t : State} (h : s.Keeps t) (m off bytes base) (l : List MonRegion) :
    s.Keeps (State.restoreRegions m off bytes base l t).1 := by
  induction l generalizing t base with
  | nil => exact h
  | cons r l ih =>
    unfold State.restoreRegions
    simp only
    split
    · exact ih h _
    split
    next hu => exact ih (State.keeps_of_restoreStore h hu) _
    · exact State.keeps_restoreStore h _ _ _

theorem State.keeps_of_restoreRegions {s t u : State} {m off bytes a a1} {x} (h : s.Keeps t) (hu : State.restoreRegions m off bytes a a1 t = (u, x)) :
    s.Keeps u :=
  (State.keeps_restoreRegions h _ _ _ _ _).of_eq hu

@[simp] theorem State.keeps_phaseOver {s t : State} (h : s.Keeps t) (m) : s.Keeps (t.phaseOver m) := by
  grind [State.phaseOver, State.keeps_endMonument, State.keeps_putMonument]

@[simp] theorem State.keeps_takeBytes {s t : State} (h : s.Keeps t) (m b) : s.Keeps (t.takeBytes m b) := by
  grind [State.takeBytes, State.keeps_putMonument, State.keeps_restoreRegions, → State.keeps_of_restoreRegions,
    State.keeps_endMonument, State.keeps_phaseOver]

@[simp] theorem State.keeps_driveRestore {s t : State} (h : s.Keeps t) (fuel id) : s.Keeps (State.driveRestore fuel t id) := by
  induction fuel generalizing t with
  | zero => exact h
  | succ fuel ih =>
    unfold State.driveRestore
    split
    · exact h
    refine .ite h ?_
    split
    · exact .ite (ih (State.keeps_takeBytes h _ _)) (State.keeps_endMonument h _ _)
    · exact .ite h (State.keeps_askBytes (State.keeps_putMonument h _) _ _ _ _)

@[simp] theorem State.keeps_restoreFires {s t : State} (h : s.Keeps t) (id late) : s.Keeps (t.restoreFires id late) := by
  grind [State.restoreFires, State.keeps_publish, State.keeps_endMonument, State.keeps_fillMessage, State.keeps_driveRestore]

@[simp] theorem State.keeps_restoreCursor {s t : State} (h : s.Keeps t) (m) : s.Keeps (t.restoreCursor m).1 := by
  grind [State.restoreCursor, State.keeps_restoreStore, → State.keeps_of_restoreStore]

theorem State.keeps_of_restoreCursor {s t u : State} {m} {x} (h : s.Keeps t) (hu : t.restoreCursor m = (u, x)) : s.Keeps u :=
  (State.keeps_restoreCursor h _).of_eq hu

@[simp] theorem State.keeps_completeRestore {s t : State} (h : s.Keeps t) (m) : s.Keeps (t.completeRestore m) := by
  grind [State.completeRestore, State.keeps_endMonument, State.keeps_restoreCursor, → State.keeps_of_restoreCursor,
    State.keeps_finishMonument]

@[simp] theorem yields_execRestoreComplete {s t : State} (h : s.Keeps t) (id) : s.Yields (execRestoreComplete id t) := by
  grind [execRestoreComplete, State.yields_next, State.keeps_completeRestore]

@[simp] theorem State.keeps_takeBulk {s t : State} (h : s.Keeps t) (f) : s.Keeps (t.takeBulk f) := by
  grind [State.takeBulk, State.keeps_setMonu, State.keeps_driveRestore, State.keeps_takeBytes, State.keeps_putMonument,
    State.keeps_writeImage]

@[simp] theorem State.keeps_captureOn {s t : State} (h : s.Keeps t) : s.Keeps (t.captureOn) := by
  simp [State.captureOn, h]

@[simp] theorem keeps_performReadRsp {s t : State} (h : s.Keeps t) (x f x1) : s.Keeps (performReadRsp x f x1 t).state := by
  grind [performReadRsp, State.keeps_takeBulk, State.keeps_captureOn, State.keeps_takeAnswer]

@[simp] theorem yields_execRxReadRsp {s t : State} (h : s.Keeps t) (port frame stamp) :
    s.Yields (execRxReadRsp port frame stamp t) := by
  exact yields_onFrame h (fun _ _ _ _ hu => keeps_performReadRsp hu _ _ _) _ _ _ _

@[simp] theorem State.keeps_takeClaim {s t : State} (h : s.Keeps t) (f) : s.Keeps (t.takeClaim f) := by
  grind [State.takeClaim, State.keeps_fillMessage, State.keeps_setMonu]

@[simp] theorem State.keeps_takeRelease {s t : State} (h : s.Keeps t) (f) : s.Keeps (t.takeRelease f) := by
  grind [State.takeRelease, State.keeps_nextClaim, State.keeps_setMonu]

@[simp] theorem State.keeps_takeGrant {s t : State} (h : s.Keeps t) (f) : s.Keeps (t.takeGrant f) := by
  grind [State.takeGrant, State.keeps_putMonument, State.keeps_fillMessage, State.keeps_driveRestore]

@[simp] theorem State.keeps_takeStage {s t : State} (h : s.Keeps t) (f) : s.Keeps (t.takeStage f) := by
  grind [State.takeStage, State.keeps_fillMessage, State.keeps_hubWrite, State.keeps_placeRange, State.Keeps.foldl,
    State.Keeps.refl]

@[simp] theorem State.keeps_takeProgress {s t : State} (h : s.Keeps t) (f) : s.Keeps (t.takeProgress f) := by
  grind [State.takeProgress, State.keeps_driveRestore, State.keeps_putMonument]

@[simp] theorem State.keeps_takeFillFail {s t : State} (h : s.Keeps t) (f) : s.Keeps (t.takeFillFail f) := by
  grind [State.takeFillFail, State.keeps_endMonument]

@[simp] theorem keeps_performFill {s t : State} (h : s.Keeps t) (x f x1) : s.Keeps (performFill x f x1 t).state := by
  grind [performFill, State.keeps_takeClaim, State.keeps_takeGrant, State.keeps_takeRelease, State.keeps_takeStage,
    State.keeps_takeProgress, State.keeps_takeFillFail]

@[simp] theorem yields_execRxClaim {s t : State} (h : s.Keeps t) (port frame stamp) :
    s.Yields (execRxClaim port frame stamp t) := by
  exact yields_onFrame h (fun _ _ _ _ hu => keeps_performFill hu _ _ _) _ _ _ _

@[simp] theorem yields_execRxGrant {s t : State} (h : s.Keeps t) (port frame stamp) :
    s.Yields (execRxGrant port frame stamp t) := by
  exact yields_onFrame h (fun _ _ _ _ hu => keeps_performFill hu _ _ _) _ _ _ _

@[simp] theorem yields_execRxRelease {s t : State} (h : s.Keeps t) (port frame stamp) :
    s.Yields (execRxRelease port frame stamp t) := by
  exact yields_onFrame h (fun _ _ _ _ hu => keeps_performFill hu _ _ _) _ _ _ _

@[simp] theorem yields_execRxStage {s t : State} (h : s.Keeps t) (port frame stamp) :
    s.Yields (execRxStage port frame stamp t) := by
  exact yields_onFrame h (fun _ _ _ _ hu => keeps_performFill hu _ _ _) _ _ _ _

@[simp] theorem yields_execRxProgress {s t : State} (h : s.Keeps t) (port frame stamp) :
    s.Yields (execRxProgress port frame stamp t) := by
  exact yields_onFrame h (fun _ _ _ _ hu => keeps_performFill hu _ _ _) _ _ _ _

@[simp] theorem yields_execRxFail {s t : State} (h : s.Keeps t) (port frame stamp) :
    s.Yields (execRxFail port frame stamp t) := by
  exact yields_onFrame h (fun _ _ _ _ hu => keeps_performFill hu _ _ _) _ _ _ _

/-! ### Fire -/

@[simp] theorem keeps_performAny {s t : State} (h : s.Keeps t) (p f stamp) : s.Keeps (performAny p f stamp t).state := by
  grind [performAny, keeps_performWrite, keeps_performRead, keeps_performReadRsp, keeps_performAtomic, keeps_performAtomicRsp,
    keeps_performXadd, keeps_performColl, keeps_performAligned, keeps_performHall, keeps_performOffer, keeps_performLaunchAck,
    keeps_performCommit, keeps_performAbort, keeps_performThrottle, keeps_performFill, keeps_performNone]

theorem keepsPerformed_performAny (s : State) : s.KeepsPerformed performAny := fun _ _ _ _ hu => keeps_performAny hu _ _ _

@[simp] theorem State.keeps_recheckHeld {s t : State} (h : s.Keeps t) : s.Keeps t.recheckHeld :=
  State.Keeps.foldl (fun u _ => .ite (.refl u) (State.keeps_atDevice (.refl u) (keepsPerformed_performAny u) _ _ _))
    (State.keeps_setFab h _) _

@[simp] theorem State.keeps_takeNode {s t : State} (h : s.Keeps t) (node epoch) : s.Keeps (t.takeNode node epoch) := by
  grind [State.takeNode, State.keeps_setFab, State.keeps_dropFlows, → State.keeps_of_dropFlows, State.keeps_endOps,
    State.keeps_dropClaims, State.keeps_settleInvs, State.keeps_endColls, State.keeps_endTies, State.Keeps.foldl,
    State.Keeps.refl]

@[simp] theorem State.keeps_bindActs {s t : State} (h : s.Keeps t) (b) : s.Keeps (t.bindActs b) := by
  grind [State.bindActs, State.keeps_setFab, State.keeps_takeNode, State.keeps_enterFenced, State.keeps_newEpoch,
    State.keeps_recheckHeld]

@[simp] theorem State.keeps_bindFires {s t : State} (h : s.Keeps t) (node epoch plat stake) :
    s.Keeps (t.bindFires node epoch plat stake) := by
  grind [State.bindFires, State.keeps_bindActs]

@[simp] theorem State.keeps_witnessBind {s t : State} (h : s.Keeps t) (n) : s.Keeps (t.witnessBind n) := by
  grind [State.witnessBind, State.keeps_setFab, State.keeps_bindActs, State.keeps_stakeOrTimer, → State.keeps_of_stakeOrTimer,
    State.keeps_complete]

@[simp] theorem yields_execWitnessBind {s t : State} (h : s.Keeps t) (mbx) : s.Yields (execWitnessBind mbx t) := by
  simp [execWitnessBind, h]

@[simp] theorem State.keeps_eventFires {s t : State} (h : s.Keeps t) (e stake viaTimer late) :
    s.Keeps (t.eventFires e stake viaTimer late) := by
  unfold State.eventFires; split <;> grind [State.keeps_beginHallSlew, State.keeps_bindFires, State.keeps_offerFires,
    State.keeps_launchStarts, State.keeps_joinFires, State.keeps_batchFires, State.keeps_clockStep, State.keeps_hintFires,
    State.keeps_captureFires, State.keeps_restoreFires, State.keeps_fireTrigger, State.Keeps.foldl, State.Keeps.refl]

@[simp] theorem State.keeps_allocFires {s t : State} (h : s.Keeps t) (a) : s.Keeps (t.allocFires a) := by
  grind [State.allocFires, State.keeps_notify, State.keeps_eventFires, State.keeps_dropAlloc]

@[simp] theorem State.keeps_placeFires {s t : State} (h : s.Keeps t) (a place) : s.Keeps (t.placeFires a place) := by
  grind [State.placeFires, State.keeps_setStakes, State.keeps_allocFires, State.keeps_dropAlloc]

@[simp] theorem yields_execComparatorFire {s t : State} (h : s.Keeps t) (location index) :
    s.Yields (execComparatorFire location index t) := by
  grind [execComparatorFire, State.yields_next, State.keeps_placeFires]

@[simp] theorem yields_execTimerQueueExpiry {s t : State} (h : s.Keeps t) : s.Yields (execTimerQueueExpiry t) := by
  grind [execTimerQueueExpiry, State.yields_next, State.keeps_eventFires, State.keeps_setStakes]

/-! ### Dies -/

@[simp] theorem State.keeps_putLink {s t : State} (h : s.Keeps t) (d p l) : s.Keeps (t.putLink d p l) := by
  simp [State.putLink, h]

@[simp] theorem State.keeps_onBundle {s t : State} (h : s.Keeps t) (d p b f) : s.Keeps (t.onBundle d p b f) := by
  simp [State.onBundle, h]

@[simp] theorem State.keeps_fenceLinks {s t : State} (h : s.Keeps t) (code) : s.Keeps (t.fenceLinks code) := by
  simp [State.fenceLinks, h]

@[simp] theorem State.keeps_tearResident {s t : State} (h : s.Keeps t) (on) : s.Keeps (t.tearResident on) := by
  simp [State.tearResident, h]

@[simp] theorem State.keeps_dropCompute {s t : State} (h : s.Keeps t) (d) : s.Keeps (t.dropCompute d) := by
  simp [State.dropCompute, h]

@[simp] theorem State.keeps_dropBase {s t : State} (h : s.Keeps t) (d) : s.Keeps (t.dropBase d) := by
  grind [State.dropBase, State.keeps_setIds, State.keeps_teardown, State.keeps_fenceLinks, State.Keeps.foldl, State.Keeps.refl]

@[simp] theorem State.keeps_dropProc {s t : State} (h : s.Keeps t) (p) : s.Keeps (t.dropProc p) := by
  simp [State.dropProc, h]

@[simp] theorem State.keeps_dropOptical {s t : State} (h : s.Keeps t) (k) : s.Keeps (t.dropOptical k) := by
  grind [State.dropOptical, State.keeps_setIds, State.keeps_portLost, State.keeps_putPort, State.Keeps.foldl, State.Keeps.refl]

@[simp] theorem State.keeps_fenceDie {s t : State} (h : s.Keeps t) (code) : s.Keeps (t.fenceDie code) := by
  grind [State.fenceDie, State.keeps_dropBase, State.keeps_dropProc]

@[simp] theorem State.keeps_clusterFault {s t : State} (h : s.Keeps t) (c) : s.Keeps (t.clusterFault c) := by
  simp [State.clusterFault, h]

@[simp] theorem yields_execClusterFault {s t : State} (h : s.Keeps t) (cluster) : s.Yields (execClusterFault cluster t) := by
  simp [execClusterFault, h]

@[simp] theorem State.keeps_beginRetrain {s t : State} (h : s.Keeps t) (d p b) : s.Keeps (t.beginRetrain d p b) := by
  grind [State.beginRetrain, State.keeps_onBundle]

@[simp] theorem State.keeps_nextRetrain {s t : State} (h : s.Keeps t) (d p) : s.Keeps (t.nextRetrain d p) := by
  grind [State.nextRetrain, State.keeps_beginRetrain]

@[simp] theorem State.keeps_flitReplay {s t : State} (h : s.Keeps t) (d p b) : s.Keeps (t.flitReplay d p b) := by
  grind [State.flitReplay, State.keeps_nextRetrain, State.keeps_count, State.keeps_onBundle]

@[simp] theorem yields_execFlitReplay {s t : State} (h : s.Keeps t) (tile port bundle) :
    s.Yields (execFlitReplay tile port bundle t) := by
  simp [execFlitReplay, h]

@[simp] theorem State.keeps_retrained {s t : State} (h : s.Keeps t) (d p b out inn) : s.Keeps (t.retrained d p b out inn) := by
  simp [State.retrained, h]

@[simp] theorem State.keeps_bundleRetrain {s t : State} (h : s.Keeps t) (f ownFails farFails) :
    s.Keeps (t.bundleRetrain f ownFails farFails) := by
  grind [State.bundleRetrain, State.keeps_retrained, State.keeps_nextRetrain, State.keeps_fenceDie]

@[simp] theorem yields_execBundleRetrain {s t : State} (h : s.Keeps t) (faults ownFails farFails) :
    s.Yields (execBundleRetrain faults ownFails farFails t) := by
  grind [execBundleRetrain, State.yields_next, State.keeps_bundleRetrain]

@[simp] theorem State.keeps_startService {s t : State} (h : s.Keeps t) (n) : s.Keeps (t.startService n) := by
  grind [State.startService, State.keeps_complete, State.keeps_setDies, State.keeps_setIds]

@[simp] theorem State.keeps_nextService {s t : State} (h : s.Keeps t) (k) : s.Keeps (State.nextService k t) := by
  induction k generalizing t with
  | zero => exact h
  | succ k ih =>
    unfold State.nextService
    split
    · exact ih (State.keeps_startService (State.keeps_setDies h _) _)
    · exact h

@[simp] theorem yields_execDieService {s t : State} (h : s.Keeps t) (mbx) : s.Yields (execDieService mbx t) := by
  grind [execDieService, State.yields_next, yields_runCommand, State.keeps_setDies, State.keeps_begin_, State.keeps_nextService]

@[simp] theorem State.keeps_powerCycle {s t : State} (h : s.Keeps t) (d stop) : s.Keeps (t.powerCycle d stop) := by
  grind [State.powerCycle, State.keeps_setCoh, State.keeps_setXlat, State.keeps_setCompute, State.keeps_traceKept]

@[simp] theorem State.keeps_serviceEnds {s t : State} (h : s.Keeps t) (r passed linkOk stop) :
    s.Keeps (t.serviceEnds r passed linkOk stop) := by
  grind [State.serviceEnds, State.keeps_setDies, State.keeps_powerCycle, State.keeps_complete, State.keeps_setIds,
    State.keeps_nextService]

@[simp] theorem yields_execDieServiceDrained {s t : State} (h : s.Keeps t) (passed back) :
    s.Yields (execDieServiceDrained passed back t) := by
  grind [execDieServiceDrained, State.yields_next, State.keeps_serviceEnds, State.keeps_nextService]

@[simp] theorem State.keeps_serviceTimesOut {s t : State} (h : s.Keeps t) (r) : s.Keeps (t.serviceTimesOut r) := by
  grind [State.serviceTimesOut, State.keeps_complete, State.keeps_dropService, State.keeps_nextService]

@[simp] theorem yields_execDieServiceTimeout {s t : State} (h : s.Keeps t) : s.Yields (execDieServiceTimeout t) := by
  grind [execDieServiceTimeout, State.yields_next, State.keeps_serviceTimesOut]

@[simp] theorem State.keeps_judgeMemory {s t : State} (h : s.Keeps t) (full empty) : s.Keeps (t.judgeMemory full empty) := by
  simp [State.judgeMemory, h]

@[simp] theorem State.keeps_judgeContexts {s t : State} (h : s.Keeps t) (clashes) : s.Keeps (t.judgeContexts clashes) := by
  simp [State.judgeContexts, h]

@[simp] theorem yields_execSaturationWindow {s t : State} (h : s.Keeps t) (full empty clashes) :
    s.Yields (execSaturationWindow full empty clashes t) := by
  simp [execSaturationWindow, h]

/-! ### Boot -/

@[simp] theorem State.keeps_logEvent {s t : State} (h : s.Keeps t) (kind svn reason digest) :
    s.Keeps (t.logEvent kind svn reason digest) := by
  simp [State.logEvent, h]

@[simp] theorem State.keeps_trainLinks {s t : State} (h : s.Keeps t) (found used) : s.Keeps (t.trainLinks found used) := by
  simp [State.trainLinks, h]

@[simp] theorem State.keeps_setLive {s t : State} (h : s.Keeps t) (found live) : s.Keeps (t.setLive found live) := by
  grind [State.setLive, State.keeps_setIds, State.keeps_setMem]

@[simp] theorem State.keeps_startPackage {s t : State} (h : s.Keeps t) (found) : s.Keeps (t.startPackage found) := by
  grind [State.startPackage, State.keeps_trainLinks, State.keeps_setDies, State.keeps_fenceLinks, State.keeps_setLive,
    State.keeps_setConn, State.Keeps.foldl, State.Keeps.refl]

@[simp] theorem State.keeps_runBoot {s t : State} (h : s.Keeps t) (found kind reason) :
    s.Keeps (t.runBoot found kind reason) := by
  unfold State.runBoot
  simp only
  refine .ite (State.keeps_notify (State.keeps_setTrust ?_ _) _ _ _ _ _ _ _) ?_ <;>
    exact State.keeps_startPackage (State.keeps_setStakes (State.keeps_setConn (State.keeps_setTrust (State.keeps_logEvent
      (State.keeps_logEvent h _ _ _ _) _ _ _ _) _) _) _) _

@[simp] theorem State.keeps_boot {s t : State} (h : s.Keeps t) (found) : s.Keeps (t.boot found) := by
  grind [State.boot, State.keeps_setConn, State.keeps_fresh, State.keeps_runBoot, State.keeps_setTrust, State.keeps_alertSince]

@[simp] theorem State.keeps_moduleReset {s t : State} (h : s.Keeps t) : s.Keeps t.moduleReset := ⟨h.1, fun _ => rfl⟩

@[simp] theorem State.keeps_standbyFalls {s t : State} (h : s.Keeps t) : s.Keeps t.standbyFalls :=
  State.keeps_setObs (State.keeps_setTrust (State.keeps_setFab (State.keeps_setConn (State.keeps_moduleReset h) _) _) _) _

@[simp] theorem yields_execPowerLoss {s t : State} (h : s.Keeps t) : s.Yields (execPowerLoss t) := by
  simp [execPowerLoss, h]

@[simp] theorem State.keeps_powerOn {s t : State} (h : s.Keeps t) (slot found) : s.Keeps (t.powerOn slot found) := by
  grind [State.powerOn, State.keeps_setFab, State.keeps_setConn, State.keeps_boot]

@[simp] theorem yields_execPowerOn {s t : State} (h : s.Keeps t) (slot found) : s.Yields (execPowerOn slot found t) := by
  simp [execPowerOn, h]

@[simp] theorem State.keeps_resetAssert {s t : State} (h : s.Keeps t) : s.Keeps (t.resetAssert) := by
  grind [State.resetAssert, State.keeps_setConn, State.keeps_moduleReset]

@[simp] theorem yields_execResetAssert {s t : State} (h : s.Keeps t) : s.Yields (execResetAssert t) := by
  simp [execResetAssert, h]

@[simp] theorem State.keeps_resetRelease {s t : State} (h : s.Keeps t) (found) : s.Keeps (t.resetRelease found) := by
  grind [State.resetRelease, State.keeps_setConn, State.keeps_boot]

@[simp] theorem yields_execResetRelease {s t : State} (h : s.Keeps t) (found) : s.Yields (execResetRelease found t) := by
  simp [execResetRelease, h]

@[simp] theorem yields_execInputFaultReset {s t : State} (h : s.Keeps t) : s.Yields (execInputFaultReset t) := by
  simp [execInputFaultReset, h]

@[simp] theorem yields_execThermalTrip {s t : State} (h : s.Keeps t) : s.Yields (execThermalTrip t) := by
  grind [execThermalTrip, State.yields_next, yields_onEvent, State.keeps_moduleReset, State.keeps_setConn]

@[simp] theorem State.keeps_raiseEvent {s t : State} (h : s.Keeps t) (sensor band) : s.Keeps (t.raiseEvent sensor band) := by
  grind [State.raiseEvent, State.keeps_setConn, State.keeps_alertSince, State.keeps_emit]

@[simp] theorem State.keeps_railFault {s t : State} (h : s.Keeps t) (r) : s.Keeps (t.railFault r) := by
  unfold State.railFault; split <;> grind [State.keeps_raiseEvent, State.keeps_setConn, State.keeps_standbyFalls,
    State.keeps_moduleReset, State.keeps_dropCompute, State.keeps_dropBase, State.keeps_dropProc, State.keeps_dropOptical,
    State.Keeps.foldl, State.Keeps.refl]

@[simp] theorem yields_execRailFault {s t : State} (h : s.Keeps t) (rail) : s.Yields (execRailFault rail t) := by
  simp [execRailFault, h]

@[simp] theorem State.keeps_trainingEnds {s t : State} (h : s.Keeps t) : s.Keeps (t.trainingEnds) := by
  grind [State.trainingEnds, State.keeps_setFab, State.keeps_setConn, State.keeps_setTime]

@[simp] theorem yields_execPortTrainingDeadline {s t : State} (h : s.Keeps t) : s.Yields (execPortTrainingDeadline t) := by
  simp [execPortTrainingDeadline, h]

/-! ### Trust -/

@[simp] theorem State.keeps_setSession {s t : State} (h : s.Keeps t) (x) : s.Keeps (t.setSession x) := by
  simp [State.setSession, h]

@[simp] theorem State.keeps_openSession {s t : State} (h : s.Keeps t) (n) : s.Keeps (t.openSession n) := by
  grind [State.openSession, State.keeps_setTrust, State.keeps_complete, State.keeps_setSession]

@[simp] theorem State.keeps_fwBegin {s t : State} (h : s.Keeps t) (n) : s.Keeps (t.fwBegin n) := by
  grind [State.fwBegin, State.keeps_openSession, State.keeps_complete]

@[simp] theorem yields_execFwBegin {s t : State} (h : s.Keeps t) (mbx) : s.Yields (execFwBegin mbx t) := by
  simp [execFwBegin, h]

@[simp] theorem State.keeps_fwChunk {s t : State} (h : s.Keeps t) (n) : s.Keeps (t.fwChunk n) := by
  grind [State.fwChunk, State.keeps_complete, State.keeps_setTrust]

@[simp] theorem yields_execFwChunk {s t : State} (h : s.Keeps t) (mbx) : s.Yields (execFwChunk mbx t) := by
  simp [execFwChunk, h]

@[simp] theorem State.keeps_programSlot {s t : State} (h : s.Keeps t) : s.Keeps (t.programSlot) := by
  simp [State.programSlot, h]

@[simp] theorem State.keeps_activate {s t : State} (h : s.Keeps t) : s.Keeps (t.activate) := by
  grind [State.activate, State.keeps_setTrust, State.keeps_logEvent, State.keeps_notify]

@[simp] theorem State.keeps_beginPause {s t : State} (h : s.Keeps t) (length) : s.Keeps (t.beginPause length) := by
  grind [State.beginPause, State.keeps_setTrust, State.keeps_setAbaom]

@[simp] theorem State.keeps_pauseTick {s t : State} (h : s.Keeps t) : s.Keeps (t.pauseTick) := by
  grind [State.pauseTick, State.keeps_fresh, State.keeps_beginPause, State.keeps_activate, State.keeps_setTrust]

@[simp] theorem State.keeps_bootFetched {s t : State} (h : s.Keeps t) : s.Keeps (t.bootFetched) := by
  grind [State.bootFetched, State.keeps_runBoot]

@[simp] theorem State.keeps_fwCommit {s t : State} (h : s.Keeps t) (n x verified) : s.Keeps (t.fwCommit n x verified) := by
  grind [State.fwCommit, State.keeps_setSession, State.keeps_complete, State.keeps_setTrust, State.keeps_programSlot,
    State.keeps_bootFetched]

@[simp] theorem yields_execFwCommit {s t : State} (h : s.Keeps t) (mbx verified) : s.Yields (execFwCommit mbx verified t) := by
  grind [execFwCommit, State.yields_next, yields_runCommand, State.keeps_complete, State.keeps_fwCommit]

@[simp] theorem yields_execFwSessionTimeout {s t : State} (h : s.Keeps t) : s.Yields (execFwSessionTimeout t) := by
  refine State.yields_next.mpr ?_
  split
  · exact .ite (State.keeps_setSession h _) h
  · exact h

@[simp] theorem State.keeps_askFetch {s t : State} (h : s.Keeps t) (r) : s.Keeps (t.askFetch r) := by
  grind [State.askFetch, State.keeps_emit, State.keeps_setTrust]

@[simp] theorem State.keeps_turnTo {s t : State} (h : s.Keeps t) (r source) : s.Keeps (t.turnTo r source) := by
  grind [State.turnTo, State.keeps_askFetch, State.keeps_setTrust]

@[simp] theorem yields_execRecoveryFetch {s t : State} (h : s.Keeps t) : s.Yields (execRecoveryFetch t) := by
  grind [execRecoveryFetch, State.yields_next, State.keeps_turnTo]

@[simp] theorem yields_execFetchRetry {s t : State} (h : s.Keeps t) : s.Yields (execFetchRetry t) := by
  grind [execFetchRetry, State.yields_next, State.keeps_turnTo, State.keeps_askFetch]

@[simp] theorem State.keeps_fetchDone {s t : State} (h : s.Keeps t) (r verified) : s.Keeps (t.fetchDone r verified) := by
  grind [State.fetchDone, State.keeps_turnTo, State.keeps_setTrust, State.keeps_bootFetched, State.keeps_programSlot]

@[simp] theorem State.keeps_takeFetched {s t : State} (h : s.Keeps t) (r bytes verified) :
    s.Keeps (t.takeFetched r bytes verified) := by
  grind [State.takeFetched, State.keeps_setTrust, State.keeps_turnTo, State.keeps_fetchDone, State.keeps_askFetch]

@[simp] theorem yields_execNeighbourFetchReply {s t : State} (h : s.Keeps t) (addr bytes verified) :
    s.Yields (execNeighbourFetchReply addr bytes verified t) := by
  grind [execNeighbourFetchReply, State.yields_next, State.keeps_takeFetched]

@[simp] theorem yields_execRecoveryFetchRequest {s t : State} (h : s.Keeps t) (addr port bytes) :
    s.Yields (execRecoveryFetchRequest addr port bytes t) := by
  simp [execRecoveryFetchRequest, h]

theorem State.keeps_storeReport {s t u : State} (h : s.Keeps t) {n addr bytes} (hu : t.storeReport n addr bytes = some u) :
    s.Keeps u := by
  grind [State.storeReport, State.keeps_hubWrite, State.keeps_engineStore, → State.keeps_of_engineStore]

@[simp] theorem State.keeps_sign {s t : State} (h : s.Keeps t) (a) : s.Keeps (t.sign a) := by
  grind [State.sign, State.keeps_complete, → State.keeps_storeReport, State.keeps_setTrust, State.keeps_begin_]

@[simp] theorem State.keeps_attest {s t : State} (h : s.Keeps t) (n) : s.Keeps (t.attest n) := by
  grind [State.attest, State.keeps_sign, State.keeps_setTrust, State.keeps_begin_]

@[simp] theorem yields_execAttest {s t : State} (h : s.Keeps t) (mbx) : s.Yields (execAttest mbx t) := by
  simp [execAttest, h]

@[simp] theorem State.keeps_rebuild {s t : State} (h : s.Keeps t) : s.Keeps (t.rebuild) := by
  simp [State.rebuild, h]

@[simp] theorem yields_execIdentityStateRebuilt {s t : State} (h : s.Keeps t) : s.Yields (execIdentityStateRebuilt t) := by
  simp [execIdentityStateRebuilt, h]

@[simp] theorem yields_execFirewallDrop {s t : State} (h : s.Keeps t) (engine) : s.Yields (execFirewallDrop engine t) := by
  simp [execFirewallDrop, h]

@[simp] theorem State.keeps_setIr {s t : State} (h : s.Keeps t) (code) : s.Keeps (t.setIr code) := by
  simp [State.setIr, h]

@[simp] theorem State.keeps_tapBypass {s t : State} (h : s.Keeps t) (code) : s.Keeps (t.tapBypass code) := by
  simp [State.tapBypass, h]

@[simp] theorem yields_execBypass {s t : State} (h : s.Keeps t) (code) : s.Yields (execBypass code t) := by
  simp [execBypass, h]

@[simp] theorem yields_execIdcode {s t : State} (h : s.Keeps t) : s.Yields (execIdcode t) := by
  grind [execIdcode, State.yields_next, yields_onEvent, State.keeps_emit, State.keeps_setIr]

@[simp] theorem State.keeps_drawChallenge {s t : State} (h : s.Keeps t) : s.Keeps (t.drawChallenge).2 := by
  grind [State.drawChallenge, State.keeps_fresh]

@[simp] theorem yields_execAuthChal {s t : State} (h : s.Keeps t) : s.Yields (execAuthChal t) :=
  yields_onEvent h (State.keeps_emit (State.keeps_setIr (State.keeps_setTrust (State.keeps_drawChallenge h) _) _) _) _

@[simp] theorem State.keeps_authResp {s t : State} (h : s.Keeps t) (token) : s.Keeps (t.authResp token) := by
  grind [State.authResp, State.keeps_setIr, State.keeps_setTrust, State.keeps_logEvent]

@[simp] theorem yields_execAuthResp {s t : State} (h : s.Keeps t) (token) : s.Yields (execAuthResp token t) := by
  simp [execAuthResp, h]

@[simp] theorem yields_execSamplePreload {s t : State} (h : s.Keeps t) (levels cells) :
    s.Yields (execSamplePreload levels cells t) := by
  grind [execSamplePreload, State.yields_next, yields_onEvent, State.keeps_tapBypass, State.keeps_emit, State.keeps_setIr,
    State.keeps_setTrust]

@[simp] theorem yields_execExtest {s t : State} (h : s.Keeps t) (levels cells) : s.Yields (execExtest levels cells t) := by
  grind [execExtest, State.yields_next, yields_onEvent, State.keeps_tapBypass, State.keeps_emit, State.keeps_setIr,
    State.keeps_setTrust]

theorem yields_execVendorDebug {s t : State} (h : s.Keeps t) (hi : t.trust.invasive = false) (code) :
    s.Yields (execVendorDebug code t) := by
  simpa [execVendorDebug, hi] using
    yields_onEvent (f := fun v => v.tapBypass code) h (State.keeps_tapBypass h code) (t.tapUp && decide (0x20 ≤ code) &&
        decide (code < 0x30))

/-- VENDOR_DEBUG goes on only where it acts as BYPASS. -/
theorem keeps_of_execVendorDebug {s t u : State} (h : s.Keeps t) {code} (hu : execVendorDebug code t = .next u) :
    s.Keeps u := by
  unfold execVendorDebug at hu
  split at hu
  · cases hu
  · obtain ⟨v, hv, hk⟩ := yields_onEvent (f := fun v => v.tapBypass code) h (State.keeps_tapBypass h code)
      (t.tapUp && decide (0x20 ≤ code) && decide (code < 0x30))
    cases hv.symm.trans hu
    exact hk

/-! ### Registers -/

@[simp] theorem State.keeps_writeBadacc {s t : State} (h : s.Keeps t) (v) : s.Keeps (t.writeBadacc v) := by
  simp [State.writeBadacc, h]

@[simp] theorem State.keeps_writeTail {s t : State} (h : s.Keeps t) (n v) : s.Keeps (t.writeTail n v) := by
  simp [State.writeTail, h]

@[simp] theorem State.keeps_writeArg {s t : State} (h : s.Keeps t) (n i v) : s.Keeps (t.writeArg n i v) := by
  simp [State.writeArg, h]

@[simp] theorem State.keeps_writeBeat {s t : State} (h : s.Keeps t) (v) : s.Keeps (t.writeBeat v) := by
  grind [State.writeBeat, State.keeps_claim, State.keeps_beat]

@[simp] theorem State.keeps_writePage {s t : State} (h : s.Keeps t) (n off v) : s.Keeps (t.writePage n off v) := by
  grind [State.writePage, State.keeps_writeHdr, State.keeps_writeTail, State.keeps_writeBeat, State.keeps_writeIrq,
    State.keeps_writeArg]

@[simp] theorem State.keeps_releasePort {s t : State} (h : s.Keeps t) (p) : s.Keeps (t.releasePort p) := by
  simp [State.releasePort, h]

theorem MemState.writeErrlog_hbm (m : MemState) (v : Word) : (m.writeErrlog v).hbm = m.hbm := by
  unfold MemState.writeErrlog
  simp only
  split_ifs
  · split <;> rfl
  · rfl

@[simp] theorem State.keeps_writeCnt {s t : State} (h : s.Keeps t) (off v) : s.Keeps (t.writeCnt off v) :=
  .ite (State.keeps_setMem h (MemState.writeErrlog_hbm _ _)) (.ite (State.keeps_setFab h _) (.ite (State.keeps_setFab h _)
    (.ite (.ite (State.keeps_releasePort (State.keeps_putPort h _ _) _) (State.keeps_putPort h _ _)) h)))

@[simp] theorem State.keeps_writeTrc {s t : State} (h : s.Keeps t) (off v) : s.Keeps (t.writeTrc off v) := by
  grind [State.writeTrc, State.keeps_unfreeze, State.keeps_setObs]

@[simp] theorem State.keeps_ctrlWrite {s t : State} (h : s.Keeps t) (off v) : s.Keeps (t.ctrlWrite off v) := by
  unfold State.ctrlWrite
  exact .ite (.ite (State.keeps_writeBadacc h _) h) (.ite (.ite h (State.keeps_writePage h _ _ _)) (.ite
      (State.keeps_writeMtCtrl h _)
    (.ite (State.keeps_writeNoncrit h _) (.ite (State.keeps_writeCnt h _ _) (.ite (State.keeps_writeTrc h _ _)
    (.ite (State.keeps_setXlat h _) h))))))

@[simp] theorem State.keeps_badAccess {s t : State} (h : s.Keeps t) (a) : s.Keeps (t.badAccess a) := by
  grind [State.badAccess, State.keeps_setIds, State.keeps_emit]

@[simp] theorem yields_execBadAccess {s t : State} (h : s.Keeps t) (accesses clearing) :
    s.Yields (execBadAccess accesses clearing t) := by
  grind [execBadAccess, State.yields_next, yields_onEvent, State.keeps_badAccess, State.keeps_setIds, State.Keeps.foldl,
    State.Keeps.refl]

@[simp] theorem yields_execHostReservedAccess {s t : State} (h : s.Keeps t) (hart addr) :
    s.Yields (execHostReservedAccess hart addr t) := by
  simp [execHostReservedAccess, h]

@[simp] theorem yields_execQuarRelease {s t : State} (h : s.Keeps t) (port) : s.Yields (execQuarRelease port t) := by
  grind [execQuarRelease, State.yields_next, yields_onEvent, State.keeps_releasePort]

@[simp] theorem yields_execRegisterWrite {s t : State} (h : s.Keeps t) (hart offset value) :
    s.Yields (execRegisterWrite hart offset value t) := by
  grind [execRegisterWrite, State.yields_next, yields_onEvent, State.keeps_ctrlWrite, State.keeps_badAccess]

/-! ### Mgmt -/

@[simp] theorem State.keeps_reply {s t : State} (h : s.Keeps t) (a command tag status fields) :
    s.Keeps (t.reply a command tag status fields) := by
  simp [State.reply, h]

@[simp] theorem State.keeps_agentRead {s t : State} (h : s.Keeps t) (a tag off n) : s.Keeps (t.agentRead a tag off n) := by
  grind [State.agentRead, State.keeps_reply, State.keeps_setConn]

@[simp] theorem yields_execMbxRead {s t : State} (h : s.Keeps t) (agent tag offset count) :
    s.Yields (execMbxRead agent tag offset count t) := by
  simp [execMbxRead, h]

@[simp] theorem State.keeps_writeWords {s t : State} (h : s.Keeps t) (off) (ws : List Word) :
    s.Keeps (t.writeWords off ws) := by
  induction ws generalizing t off with
  | nil => exact h
  | cons w ws ih => exact ih (State.keeps_writePage h _ _ _) _

@[simp] theorem State.keeps_agentWrite {s t : State} (h : s.Keeps t) (a tag off n words) :
    s.Keeps (t.agentWrite a tag off n words) := by
  grind [State.agentWrite, State.keeps_reply, State.keeps_setConn, State.keeps_writeWords]

@[simp] theorem yields_execMbxWrite {s t : State} (h : s.Keeps t) (agent tag offset count words) :
    s.Yields (execMbxWrite agent tag offset count words t) := by
  simp [execMbxWrite, h]

@[simp] theorem State.keeps_refuseWindow {s t : State} (h : s.Keeps t) (a command tag status) :
    s.Keeps (t.refuseWindow a command tag status) := by
  simp [State.refuseWindow, h]

@[simp] theorem State.keeps_countAccess {s t : State} (h : s.Keeps t) : s.Keeps (t.countAccess) := by
  simp [State.countAccess, h]

@[simp] theorem State.keeps_svcMove {s t : State} (h : s.Keeps t) (a tag base) : s.Keeps (t.svcMove a tag base) := by
  grind [State.svcMove, State.keeps_refuseWindow, State.keeps_reply, State.keeps_setXlat]

@[simp] theorem yields_execSvcMove {s t : State} (h : s.Keeps t) (agent tag base) :
    s.Yields (execSvcMove agent tag base t) := by
  simp [execSvcMove, h]

@[simp] theorem State.keeps_svcLoad {s t : State} (h : s.Keeps t) (a tag off n) : s.Keeps (t.svcLoad a tag off n) := by
  grind [State.svcLoad, State.keeps_reply, State.keeps_refuseWindow, State.keeps_glanceRange, State.keeps_countAccess]

@[simp] theorem yields_execSvcRead {s t : State} (h : s.Keeps t) (agent tag offset length) :
    s.Yields (execSvcRead agent tag offset length t) := by
  simp [execSvcRead, h]

@[simp] theorem State.keeps_storeWords {s t : State} (h : s.Keeps t) (pa bytes n) : s.Keeps (t.storeWords pa bytes n) := by
  induction n generalizing t pa bytes with
  | zero => exact h
  | succ n ih => exact ih (State.keeps_hbmWrite h _ _) _ _

@[simp] theorem State.keeps_svcStore {s t : State} (h : s.Keeps t) (a tag off n bytes) :
    s.Keeps (t.svcStore a tag off n bytes) := by
  grind [State.svcStore, State.keeps_reply, State.keeps_refuseWindow, State.keeps_storeWords, State.keeps_placeRange,
    State.keeps_countAccess]

@[simp] theorem yields_execSvcWrite {s t : State} (h : s.Keeps t) (agent tag offset length bytes) :
    s.Yields (execSvcWrite agent tag offset length bytes t) := by
  simp [execSvcWrite, h]

@[simp] theorem State.keeps_posSet {s t : State} (h : s.Keeps t) (a tag hall row rack device) :
    s.Keeps (t.posSet a tag hall row rack device) := by
  unfold State.posSet; split <;> grind [State.keeps_reply, State.keeps_setFab, State.Keeps.foldl, State.Keeps.refl]

@[simp] theorem yields_execPosSet {s t : State} (h : s.Keeps t) (agent tag hall row rack device) :
    s.Yields (execPosSet agent tag hall row rack device t) := by
  simp [execPosSet, h]

@[simp] theorem yields_execDynamicAddressAssignment {s t : State} (h : s.Keeps t) (addr ibi) :
    s.Yields (execDynamicAddressAssignment addr ibi t) := by
  simp [execDynamicAddressAssignment, h]

@[simp] theorem State.keeps_setEndpoint {s t : State} (h : s.Keeps t) (a eid) : s.Keeps (t.setEndpoint a eid) := by
  grind [State.setEndpoint, State.keeps_emit, State.keeps_setConn]

@[simp] theorem yields_execSetEndpointId {s t : State} (h : s.Keeps t) (agent eid) :
    s.Yields (execSetEndpointId agent eid t) := by
  simp [execSetEndpointId, h]

@[simp] theorem yields_execGetEndpointId {s t : State} (h : s.Keeps t) (agent) : s.Yields (execGetEndpointId agent t) := by
  simp [execGetEndpointId, h]

@[simp] theorem yields_execGetMctpVersionSupport {s t : State} (h : s.Keeps t) (agent kind) :
    s.Yields (execGetMctpVersionSupport agent kind t) := by
  simp [execGetMctpVersionSupport, h]

@[simp] theorem yields_execGetMessageTypeSupport {s t : State} (h : s.Keeps t) (agent) :
    s.Yields (execGetMessageTypeSupport agent t) := by
  simp [execGetMessageTypeSupport, h]

@[simp] theorem yields_execGetVendorDefinedMessageSupport {s t : State} (h : s.Keeps t) (agent selector) :
    s.Yields (execGetVendorDefinedMessageSupport agent selector t) := by
  simp [execGetVendorDefinedMessageSupport, h]

@[simp] theorem State.keeps_noteHeat {s t : State} (h : s.Keeps t) (id v) : s.Keeps (t.noteHeat id v) := by
  simp [State.noteHeat, h]

@[simp] theorem State.keeps_sensorUpdate {s t : State} (h : s.Keeps t) (id value) : s.Keeps (t.sensorUpdate id value) := by
  grind [State.sensorUpdate, State.keeps_noteHeat, State.keeps_setConn, State.keeps_raiseEvent]

@[simp] theorem yields_execSensorUpdate {s t : State} (h : s.Keeps t) (sensor value) :
    s.Yields (execSensorUpdate sensor value t) := by
  simp [execSensorUpdate, h]

@[simp] theorem yields_execGetTid {s t : State} (h : s.Keeps t) (agent) : s.Yields (execGetTid agent t) := by
  simp [execGetTid, h]

@[simp] theorem yields_execGetPldmVersion {s t : State} (h : s.Keeps t) (agent kind) :
    s.Yields (execGetPldmVersion agent kind t) := by
  simp [execGetPldmVersion, h]

@[simp] theorem yields_execGetPldmTypes {s t : State} (h : s.Keeps t) (agent) : s.Yields (execGetPldmTypes agent t) := by
  simp [execGetPldmTypes, h]

@[simp] theorem yields_execGetPldmCommands {s t : State} (h : s.Keeps t) (agent kind) :
    s.Yields (execGetPldmCommands agent kind t) := by
  simp [execGetPldmCommands, h]

@[simp] theorem State.keeps_getPdr {s t : State} (h : s.Keeps t) (a record) : s.Keeps (t.getPdr a record) := by
  grind [State.getPdr, State.keeps_emit]

@[simp] theorem yields_execGetPdr {s t : State} (h : s.Keeps t) (agent record) : s.Yields (execGetPdr agent record t) := by
  simp [execGetPdr, h]

@[simp] theorem yields_execGetSensorReading {s t : State} (h : s.Keeps t) (agent sensor) :
    s.Yields (execGetSensorReading agent sensor t) := by
  simp [execGetSensorReading, h]

@[simp] theorem yields_execGetStateSensorReadings {s t : State} (h : s.Keeps t) (agent sensor) :
    s.Yields (execGetStateSensorReadings agent sensor t) := by
  simp [execGetStateSensorReadings, h]

@[simp] theorem yields_execSetEventReceiver {s t : State} (h : s.Keeps t) (agent receiver) :
    s.Yields (execSetEventReceiver agent receiver t) := by
  grind [execSetEventReceiver, State.yields_next, yields_onEvent, State.keeps_emit, State.keeps_setConn]

@[simp] theorem yields_execPldmEventAcknowledgement {s t : State} (h : s.Keeps t) (agent event) :
    s.Yields (execPldmEventAcknowledgement agent event t) := by
  simp [execPldmEventAcknowledgement, h]

@[simp] theorem yields_execNeighborSolicitation {s t : State} (h : s.Keeps t) (port target) :
    s.Yields (execNeighborSolicitation port target t) := by
  simp [execNeighborSolicitation, h]

@[simp] theorem State.keeps_advertised {s t : State} (h : s.Keeps t) (p mac router pfx) :
    s.Keeps (t.advertised p mac router pfx) := by
  unfold State.advertised; split <;> grind [State.keeps_setConn, State.keeps_putPort, State.Keeps.foldl, State.Keeps.refl]

@[simp] theorem yields_execRouterAdvertisement {s t : State} (h : s.Keeps t) (port mac router pfx) :
    s.Yields (execRouterAdvertisement port mac router pfx t) := by
  simp [execRouterAdvertisement, h]

@[simp] theorem yields_execArpRequest {s t : State} (h : s.Keeps t) (target) : s.Yields (execArpRequest target t) := by
  simp [execArpRequest, h]

/-! ### Dispatch -/

/-- Every command completes, but vendor debug while INVASIVE is open, and keeps the queue and the form of stacked memory. -/
theorem yields_exec {s t : State} (h : s.Keeps t) (c : Instr) (hc : ∀ code, c = .vendorDebug code → t.trust.invasive = false) :
    s.Yields (exec c t) := by
  cases c
  case vendorDebug code => exact yields_execVendorDebug h (hc code rfl) code
  all_goals simp only [exec]; simp [h]

/-! ### Tick -/

@[simp] theorem State.keeps_countHeld {s t : State} (h : s.Keeps t) (n) : s.Keeps (t.countHeld n) := by
  grind [State.countHeld, State.keeps_progCount, State.Keeps.foldl, State.Keeps.refl]

@[simp] theorem State.keeps_countFaulted {s t : State} (h : s.Keeps t) (n) : s.Keeps (t.countFaulted n) := by
  grind [State.countFaulted, State.keeps_progCount, State.Keeps.foldl, State.Keeps.refl]

@[simp] theorem State.keeps_countPairWaits {s t : State} (h : s.Keeps t) (n) : s.Keeps (t.countPairWaits n) := by
  grind [State.countPairWaits, State.keeps_progCount, State.Keeps.foldl, State.Keeps.refl]

@[simp] theorem State.keeps_plumbCycles {s t : State} (h : s.Keeps t) : s.Keeps (t.plumbCycles) := by
  grind [State.plumbCycles, State.keeps_setPwr, State.keeps_count, State.keeps_countPairWaits, State.keeps_countFaulted,
    State.keeps_countHeld, State.keeps_progCount, State.Keeps.foldl, State.Keeps.refl]

@[simp] theorem State.keeps_tick {s t : State} (h : s.Keeps t) : s.Keeps t.tick := by
  refine .ite h (State.keeps_pauseTick (State.keeps_goOn (State.keeps_plumbCycles (State.keeps_setShare (State.keeps_setAbaom
    (State.keeps_setFab (State.keeps_setMem (State.keeps_setIds (State.keeps_setTime h _) _) ?_) _) _) _))))
  rfl

/-- A step keeps the rest of the queue, and the form of stacked memory. -/
theorem step_keeps {s t : State} (h : step s = .next t) : (s.setPending s.pending.tail).Keeps t := by
  unfold step at h
  split at h
  next hp =>
    cases h
    have hk := State.keeps_tick (.refl s)
    exact ⟨by simp [hk.1, hp], hk.2⟩
  next c rest hp =>
    rw [hp, List.tail_cons]
    by_cases hc : ∀ code, c = .vendorDebug code → s.trust.invasive = false
    · obtain ⟨u, hu, hk⟩ := yields_exec (.refl (s.setPending rest)) c hc
      cases hu.symm.trans h
      exact hk
    · push Not at hc
      obtain ⟨code, rfl, -⟩ := hc
      exact keeps_of_execVendorDebug (.refl _) h

/-- Settles O4: no command writes to stacked memory but through `cellWrite`, which keeps the form. -/
theorem stepKeepsMemoryCanonical : Obligations.StepKeepsMemoryCanonical := by
  unfold Obligations.StepKeepsMemoryCanonical
  exact fun s t hs h => (step_keeps h).2 hs

/-- Settles O5: `exec` leaves the queue that it is given. -/
theorem stepConsumesFrontCommand : Obligations.StepConsumesFrontCommand := by
  unfold Obligations.StepConsumesFrontCommand
  exact fun s t h => (step_keeps h).1

/-- Settles O6: every arm of `exec` but VENDOR_DEBUG's answers a next state. -/
theorem everyCommandCompletes : Obligations.EveryCommandCompletes := by
  unfold Obligations.EveryCommandCompletes
  intro c s hc
  obtain ⟨t, ht, -⟩ := yields_exec (.refl s) c hc
  exact ⟨t, ht⟩

/-- Settles O1, by the definition of `step`. -/
theorem stepRunsFrontCommand : Obligations.StepRunsFrontCommand := by
  unfold Obligations.StepRunsFrontCommand
  intro c rest s h
  simp only [step, h]

/-- Settles O3: the memory is empty. -/
theorem resetMemoryCanonical : Obligations.ResetMemoryCanonical := by
  unfold Obligations.ResetMemoryCanonical
  rfl

end Sys2Proof.Machine
end

section
/-!
PROOF. The reference cycle (R77, R82).
-/

namespace Sys2Proof.Machine

set_option Elab.async false

/-- A machine with nothing in hand, and one interrupt that the last cycle sent. -/
def State.sending : State :=
  { State.reset with conn := { State.reset.conn with phase := .ready }, outbox := [.msi 0 1] }

/-- A reference cycle marks what was sent before it (R580). -/
theorem State.sending_tick_sentMark : State.sending.tick.fab.sentMark = 1 := by decide +kernel

/-- Refutes O2: a cycle with nothing in hand does change the fabric, for it marks in it how much has been sent. -/
theorem not_idleSteps : ¬ Obligations.IdleSteps := by
  unfold Obligations.IdleSteps
  rintro ⟨⟨-, hquiet, -⟩, -⟩
  obtain ⟨t, hstep, -, -, -, -, -, -, hfab⟩ := hquiet State.sending rfl (by decide) rfl (by decide +kernel) rfl
  cases (Host.Outcome.next.inj hstep : State.sending.tick = t)
  exact absurd ((congrArg (·.sentMark) hfab).symm.trans State.sending_tick_sentMark) (by decide)

end Sys2Proof.Machine
end

section
/-!
SUPPORT AND PROOF. The integer and float instructions of lanes and scalars (R269 to R275): each operation on numbers is the one on
words of `w` bits.
-/

namespace Sys2Proof.Machine

set_option Elab.async false

/-! ### Words of `w` bits -/

theorem toNat_ofNat_of_lt {w x : Nat} (hx : x < 2 ^ w) : (BitVec.ofNat w x).toNat = x := by
  rw [BitVec.toNat_ofNat, Nat.mod_eq_of_lt hx]

theorem signedNat_toNat {w : Nat} (hw : 0 < w) (x : BitVec w) : signedNat w x.toNat = x.toInt := by
  obtain ⟨v, rfl⟩ : ∃ v, w = v + 1 := ⟨w - 1, by omega⟩
  rw [BitVec.toInt_eq_toNat_cond, signedNat, Nat.add_sub_cancel, pow_succ, Nat.mod_eq_of_lt (pow_succ 2 v ▸ x.isLt)]
  split_ifs <;> first | rfl | omega

theorem wrapInt_eq_toNat (w : Nat) (v : Int) : wrapInt w v = (BitVec.ofInt w v).toNat := by
  rw [wrapInt, BitVec.toNat_ofInt, Nat.cast_pow, Nat.cast_ofNat]

theorem ofInt_tdiv {w : Nat} (x y : BitVec w) : BitVec.ofInt w (x.toInt.tdiv y.toInt) = x.sdiv y :=
  BitVec.eq_of_toInt_eq (by rw [BitVec.toInt_ofInt, BitVec.toInt_sdiv])

theorem ofInt_tmod {w : Nat} (x y : BitVec w) : BitVec.ofInt w (x.toInt.tmod y.toInt) = x.srem y := by
  rw [← BitVec.toInt_srem, BitVec.ofInt_toInt]

theorem ofInt_fdiv_two_pow {w : Nat} (x : BitVec w) (n : Nat) : BitVec.ofInt w (x.toInt.fdiv (2 ^ n)) = x.sshiftRight n := by
  rw [BitVec.sshiftRight, Int.shiftRight_eq_div_pow, Int.fdiv_eq_ediv_of_nonneg _ (by positivity)]
  push_cast
  rfl

/-- The conditions of R271 on words. -/
def wordCond {w : Nat} (sgn : Bool) (cond : Nat) (x y : BitVec w) : Bool :=
  let lt := fun (p q : BitVec w) => if sgn then p.slt q else p.ult q
  match cond with
  | 0 => x == y
  | 1 => x != y
  | 2 => lt x y
  | 3 => !(lt y x)
  | 4 => lt y x
  | _ => !(lt x y)

theorem intCond_toNat {w : Nat} (hw : 0 < w) (cond : Nat) (sgn : Bool) (x y : BitVec w) :
    intCond cond w sgn x.toNat y.toNat = wordCond sgn cond x y := by
  have hx (z : BitVec w) : z.toNat % 2 ^ w = z.toNat := Nat.mod_eq_of_lt z.isLt
  have heq : decide (x.toNat = y.toNat) = (x == y) := by rw [Bool.eq_iff_iff]; simp [BitVec.toNat_inj]
  unfold intCond wordCond
  simp only [hx, signedNat_toNat hw, BitVec.slt, BitVec.ult]
  split <;> first | rfl | simp [bne, heq]

/-! ### The operands (R270, R271) -/

theorem Group.lanes32_lt (g : Group) (l n k : Nat) : g.lanes32 l n k < 2 ^ (32 * k) := by
  induction k generalizing n with
  | zero => exact Nat.one_pos
  | succ k ih =>
    have := (g.lane l n).isLt
    have := ih (n + 1)
    rw [Group.lanes32, Nat.mul_succ, pow_add]
    omega

theorem Group.operand_lt (g : Group) (l k : Nat) (o : Opd) : g.operand l k o < 2 ^ (32 * k) := by
  cases o with
  | lane n => exact g.lanes32_lt l n k
  | scalar n => exact Nat.mod_lt _ (by positivity)
  | tile _ => exact Nat.two_pow_pos _
  | acc _ => exact Nat.two_pow_pos _
  | bad => exact Nat.two_pow_pos _

/-- Two words are the operands of an integer operation. -/
structure IntArgs.Reads (x : IntArgs) (a b : BitVec x.w) : Prop where
  pos : 0 < x.w
  a_eq : x.a = a.toNat
  b_eq : x.b = b.toNat

theorem At.reads_intArgs (a : At) {k : Nat} (hk : 0 < k) (l : Nat) :
    (a.intArgs k l).Reads (BitVec.ofNat (32 * k) (a.g.operand l k (a.opd a.i.src1)))
      (BitVec.ofNat (32 * k) (if a.i.immSrc then a.i.immediate else a.g.operand l k (a.opd a.i.src2))) where
  pos := Nat.mul_pos (by decide) hk
  a_eq := (toNat_ofNat_of_lt (a.g.operand_lt _ _ _)).symm
  b_eq := by
    change (if a.i.immSrc then a.i.immediate % 2 ^ (32 * k) else a.g.operand l k (a.opd a.i.src2)) = BitVec.toNat (BitVec.ofNat (32 * k) _)
    rw [BitVec.toNat_ofNat]
    split_ifs
    · rfl
    · rw [Nat.mod_eq_of_lt (a.g.operand_lt _ _ _)]

/-! ### The integer operations on words (R269 to R272) -/

namespace IntArgs.Reads

variable {x : IntArgs} {a b : BitVec x.w} (h : x.Reads a b)
include h

theorem intAdd : intAdd x = (a + b).toNat := by rw [Machine.intAdd, h.a_eq, h.b_eq, BitVec.toNat_add]

theorem intSub : intSub x = (a - b).toNat := by
  rw [Machine.intSub, h.a_eq, h.b_eq, Nat.mod_eq_of_lt b.isLt, BitVec.toNat_sub, add_comm]

theorem intMulLo : intMulLo x = (a * b).toNat := by rw [Machine.intMulLo, h.a_eq, h.b_eq, BitVec.toNat_mul]

theorem intMulHi : intMulHi x = (if x.signed then BitVec.ofInt x.w (a.toInt * b.toInt / 2 ^ x.w)
    else BitVec.ofNat x.w (a.toNat * b.toNat / 2 ^ x.w)).toNat := by
  unfold Machine.intMulHi
  rw [h.a_eq, h.b_eq]
  split
  · rw [wrapInt_eq_toNat, signedNat_toNat h.pos, signedNat_toNat h.pos, Int.fdiv_eq_ediv_of_nonneg _ (by positivity)]
  · rw [BitVec.toNat_ofNat]

theorem b_eq_zero_iff : b = 0 ↔ x.b % 2 ^ x.w = 0 := by
  rw [h.b_eq, Nat.mod_eq_of_lt b.isLt, ← BitVec.toNat_inj]
  simp

theorem intQuot : intQuot x = (if b = 0 then BitVec.allOnes x.w else if x.signed then a.sdiv b else a / b).toNat := by
  unfold Machine.intQuot intDiv
  simp only [h.b_eq_zero_iff]
  split_ifs
  · rw [BitVec.toNat_allOnes]
  · rw [← ofInt_tdiv, ← wrapInt_eq_toNat, wrapInt, h.a_eq, h.b_eq, signedNat_toNat h.pos, signedNat_toNat h.pos]
  · rw [h.a_eq, h.b_eq, BitVec.toNat_udiv, Nat.mod_eq_of_lt a.isLt, Nat.mod_eq_of_lt b.isLt]

theorem intRest : intRest x = (if b = 0 then a else if x.signed then a.srem b else a % b).toNat := by
  unfold Machine.intRest intRem
  simp only [h.b_eq_zero_iff]
  split_ifs
  · rw [h.a_eq, Nat.mod_eq_of_lt a.isLt]
  · rw [← ofInt_tmod, ← wrapInt_eq_toNat, wrapInt, h.a_eq, h.b_eq, signedNat_toNat h.pos, signedNat_toNat h.pos]
  · rw [h.a_eq, h.b_eq, BitVec.toNat_umod, Nat.mod_eq_of_lt a.isLt, Nat.mod_eq_of_lt b.isLt]

theorem intAnd : intAnd x = (a &&& b).toNat := by rw [Machine.intAnd, h.a_eq, h.b_eq, BitVec.toNat_and]

theorem intOr : intOr x = (a ||| b).toNat := by rw [Machine.intOr, h.a_eq, h.b_eq, BitVec.toNat_or]

theorem intXor : intXor x = (a ^^^ b).toNat := by rw [Machine.intXor, h.a_eq, h.b_eq, BitVec.toNat_xor]

theorem intShl : intShl x = (a <<< (b.toNat % x.w)).toNat := by
  rw [Machine.intShl, h.a_eq, h.b_eq, BitVec.toNat_shiftLeft, Nat.shiftLeft_eq]

theorem intShr : intShr x = (if x.signed then a.sshiftRight (b.toNat % x.w) else a >>> (b.toNat % x.w)).toNat := by
  unfold Machine.intShr
  rw [h.a_eq, h.b_eq]
  split
  · rw [wrapInt_eq_toNat, signedNat_toNat h.pos, ofInt_fdiv_two_pow]
  · rw [BitVec.toNat_ushiftRight, Nat.mod_eq_of_lt a.isLt, Nat.shiftRight_eq_div_pow]

theorem intCond (cond : Nat) : intCond cond x.w x.signed x.a x.b = wordCond x.signed cond a b := by
  rw [h.a_eq, h.b_eq, intCond_toNat h.pos]

theorem intMin : intMin x = (if wordCond x.signed 3 a b then a else b).toNat := by
  rw [Machine.intMin, h.intCond, apply_ite BitVec.toNat, h.a_eq, h.b_eq]

theorem intMax : intMax x = (if wordCond x.signed 3 a b then b else a).toNat := by
  rw [Machine.intMax, h.intCond, apply_ite BitVec.toNat, h.a_eq, h.b_eq]

theorem intCmp : intCmp x = (if wordCond x.signed x.cond a b then 1#x.w else 0#x.w).toNat := by
  rw [Machine.intCmp, h.intCond, apply_ite BitVec.toNat, BitVec.toNat_ofNat, BitVec.toNat_ofNat, Nat.zero_mod,
    Nat.mod_eq_of_lt (Nat.one_lt_two_pow h.pos.ne')]
  rfl

theorem intSel : intSel x = (if x.c ≠ 0 then a else b).toNat := by
  rw [Machine.intSel, apply_ite BitVec.toNat, h.a_eq, h.b_eq]

theorem intMov : intMov x = (if x.immSrc then b else a).toNat := by
  rw [Machine.intMov, apply_ite BitVec.toNat, h.a_eq, h.b_eq]

theorem intPopc : intPopc x = (BitVec.ofNat x.w ((List.range x.w).filter a.getLsbD).length).toNat := by
  have hle := (List.length_filter_le a.getLsbD (List.range x.w)).trans_eq List.length_range
  rw [toNat_ofNat_of_lt (hle.trans_lt Nat.lt_two_pow_self), Machine.intPopc, h.a_eq]
  rfl

theorem intClz : intClz x = (BitVec.ofNat x.w (if a = 0 then x.w else x.w - 1 - a.toNat.log2)).toNat := by
  have hlt := Nat.lt_two_pow_self (n := x.w)
  have hz : a.toNat = 0 ↔ a = 0 := by rw [← BitVec.toNat_inj]; simp
  rw [toNat_ofNat_of_lt (by split_ifs <;> omega), Machine.intClz, h.a_eq, clzNat, Nat.mod_eq_of_lt a.isLt]
  simp only [hz]

end IntArgs.Reads

/-! ### The rows -/

theorem exec_of_intArgs {s : State} {r : SubRef} {a : At} {n : Nat} (h : s.issuing r = some (a, n)) (hc : a.i.cls = 0x00)
    {k : Nat} (hk : k = if a.i.isWide64 || (a.opd a.i.dst).isScalar then 2 else 1) {op : Nat} (ho : a.i.op = op)
    {f : IntArgs → Nat} {v : Nat → Nat} (hv : ∀ l, f (a.intArgs k l) = v l) :
    onIssue 0x00 op (intEffect f) r s = .next (s.executed a n (a.write k v)) := by
  rw [onIssue_of_issuing h hc ho]
  simp only [intEffect, ← hk, State.settleEffect_done, hv]

/-- Settles O9: each row is its operation on words, for the active lanes or the scalar. -/
theorem integerInstructionResults : Obligations.IntegerInstructionResults := by
  unfold Obligations.IntegerInstructionResults
  intro s r a n h hc k hk out A B holds
  have hpos : 0 < k := by rw [hk]; split_ifs <;> decide
  have hr := a.reads_intArgs hpos
  refine ⟨fun ho => exec_of_intArgs h hc hk ho fun l => (hr l).intAdd, fun ho => exec_of_intArgs h hc hk ho fun l => (hr l).intSub,
    fun ho => exec_of_intArgs h hc hk ho fun l => (hr l).intMulLo, fun ho => exec_of_intArgs h hc hk ho fun l => (hr l).intMulHi,
    fun ho => exec_of_intArgs h hc hk ho fun l => (hr l).intQuot, fun ho => exec_of_intArgs h hc hk ho fun l => (hr l).intRest,
    fun ho => exec_of_intArgs h hc hk ho fun l => (hr l).intAnd, fun ho => exec_of_intArgs h hc hk ho fun l => (hr l).intOr,
    fun ho => exec_of_intArgs h hc hk ho fun l => (hr l).intXor, fun ho => exec_of_intArgs h hc hk ho fun l => (hr l).intShl,
    fun ho => exec_of_intArgs h hc hk ho fun l => (hr l).intShr, fun ho => exec_of_intArgs h hc hk ho fun l => (hr l).intMin,
    fun ho => exec_of_intArgs h hc hk ho fun l => (hr l).intMax, fun ho => exec_of_intArgs h hc hk ho fun l => (hr l).intCmp,
    fun ho => exec_of_intArgs h hc hk ho fun l => (hr l).intSel, fun ho => exec_of_intArgs h hc hk ho fun l => (hr l).intMov,
    fun ho => exec_of_intArgs h hc hk ho fun _ => rfl, fun ho => onIssue_of_issuing h hc ho _,
    fun ho => exec_of_intArgs h hc hk ho fun l => (hr l).intPopc, fun ho => exec_of_intArgs h hc hk ho fun l => (hr l).intClz⟩

/-! ### Floats (R273 to R275) -/

theorem exec_of_floatArgs {s : State} {r : SubRef} {a : At} {n : Nat} (h : s.issuing r = some (a, n)) (hc : a.i.cls = 0x01)
    {op : Nat} (ho : a.i.op = op) {f : FloatArgs → Nat × Flags} {k : Nat} (hk : k = floatRegs (a.i.mod % 4)) {v : Nat → Nat × Flags}
    (hv : ∀ l, perElement (a.i.mod % 4) (a.i.mod / 4 % 4) (a.i.imm % 8) f (a.g.operand l k (a.opd a.i.src1))
      (a.g.operand l k (a.opd a.i.src2)) (a.g.operand l k (a.opd (a.i.imm % 512))) = v l) :
    onIssue 0x01 op (floatEffect f) r s = .next (s.executed a n (a.writeF k v)) := by
  rw [onIssue_of_issuing h hc ho]
  simp only [floatEffect, ← hk, State.settleEffect_done, hv]

theorem floatRegs_of_lt {ty : Nat} (h : ty < 4) : floatRegs ty = if ty = 1 then 2 else 1 := by
  interval_cases ty <;> rfl

/-- A TYPE field names its format by its two low bits. -/
theorem floatFmt_mod (ty : Nat) : floatFmt (ty % 4) = floatFmt ty := by
  simp only [floatFmt, Nat.mod_mod]

/-- Settles O10: each row is its operation on the elements of its type. -/
theorem floatInstructionResults : Obligations.FloatInstructionResults := by
  unfold Obligations.FloatInstructionResults
  intro s r a n h hc ty k fmt rm A B C each out
  have hty : ty < 4 := Nat.mod_lt _ (by decide)
  have hk : k = floatRegs (a.i.mod % 4) := (floatRegs_of_lt hty).symm
  have hfmt : floatFmt (a.i.mod % 4) = fmt := floatFmt_mod a.i.mod
  have hrow {op : Nat} (ho : a.i.op = op) (f : FloatArgs → Nat × Flags) :
      onIssue 0x01 op (floatEffect f) r s = out fun x y z => f ⟨fmt, rm, a.i.imm % 8, x, y, z⟩ :=
    exec_of_floatArgs h hc ho hk fun l => by rw [perElement, hfmt]
  refine ⟨fun ho => hrow ho floatAdd, fun ho => hrow ho floatSub, fun ho => hrow ho floatMul, fun ho => hrow ho floatFma,
    fun ho => hrow ho floatDiv, fun ho => hrow ho floatSqrt, fun ho => hrow ho floatMin, fun ho => hrow ho floatMax,
    fun ho => hrow ho floatCmp, fun ho => ?_, fun ho => hrow ho floatToInt, fun ho => hrow ho floatOfInt⟩
  refine (onIssue_of_issuing h hc ho fcvtEffect).trans ?_
  simp only [fcvtEffect, hfmt, pairElement, mul_zero, pow_zero, Nat.div_one, mul_one]
  by_cases hpair : 2 ≤ a.i.mod % 4 ∨ 2 ≤ a.i.imm % 4
  · rw [if_pos hpair]
    exact congrArg Host.Outcome.next (if_pos hpair).symm
  · rw [if_neg hpair, ← hk]
    exact congrArg Host.Outcome.next (if_neg hpair).symm

end Sys2Proof.Machine
end

section
/-!
PROOF. Control flow (R209 to R214, R276 to R280).
-/

namespace Sys2Proof.Machine

set_option Elab.async false

/-- The target of a branch or call, by the two forms of its instruction (R276). -/
theorem At.target_eq (a : At) : a.target = if a.i.wide then (a.i.pc + a.i.ext) % 2 ^ 64
    else (a.i.pc + (BitVec.ofInt 64 (signedNat 16 a.i.imm)).toNat * 8) % 2 ^ 64 := by
  unfold At.target Insn.immediate
  split_ifs <;> rfl

/-- Where the next instruction lies (R259). -/
theorem At.next_eq (a : At) : a.next = (a.i.pc + if a.i.wide then 16 else 8) % 2 ^ 64 := rfl

/-- Settles O11: each row splits its sub-group into the ones that its cases name. -/
theorem controlFlow : Obligations.ControlFlow := by
  unfold Obligations.ControlFlow
  intro s r a n h hc goTo relative past deeper trapped target test
  have hrel : a.target = relative := a.target_eq
  have hpast : a.next = past := a.next_eq
  have htarget : a.scalar a.i.src1 = target := rfl
  have hrow {op : Nat} (ho : a.i.op = op) (eff : At → State → Effect) :
      onIssue 0x02 op eff r s = .next (s.settleEffect a n (eff a s)) := onIssue_of_issuing h hc ho eff
  refine ⟨fun ho => (hrow ho brEffect).trans ?_, fun ho => (hrow ho brCEffect).trans ?_, fun ho => (hrow ho brREffect).trans ?_,
    fun ho => (hrow ho callEffect).trans ?_, fun ho => (hrow ho callREffect).trans ?_, fun ho => (hrow ho retEffect).trans ?_,
    fun ho => hrow ho exitEffect, fun ho => hrow ho trapEffect, fun ho => hrow ho nopEffect⟩
  · rw [← hrel]
    rfl
  · rw [← hrel, ← hpast, brCEffect]
    cases a.opd a.i.src1 with
    | lane v =>
      simp only
      split_ifs <;> rfl
    | _ =>
      simp only
      split_ifs <;> rfl
  · simp only [brREffect, At.jumpChecked, htarget]
    split_ifs <;> rfl
  · rw [← hrel, callEffect]
    split_ifs <;> rfl
  · simp only [callREffect, At.jumpChecked, htarget]
    split_ifs <;> rfl
  · rw [retEffect]
    cases a.sg.rets <;> rfl

end Sys2Proof.Machine
end

section
/-!
SUPPORT AND PROOF. Loads, stores and atomics of lanes (R282 to R289), where no piece of the access lies in a far device.
-/

namespace Sys2Proof.Machine

set_option Elab.async false

/-! ### Accesses of block memory -/

/-- Accesses of one size within the block's allocation: none lies outside (R285). -/
theorem At.outside_eq_nil {a : At} {size : Nat} {l : List LaneAccess} (hsize : ∀ x ∈ l, x.size = size)
    (hin : ∀ x ∈ l, x.va + size ≤ a.b.bmSize) : a.outside l = [] := by
  simp only [At.outside, badLanes, List.filter_eq_nil_iff, Block.holds, Bool.not_eq_true', decide_eq_false_iff_not, not_not]
  intro x hx
  rw [hsize x hx]
  exact hin x hx

theorem At.outside_eq_filter {a : At} {size : Nat} {l : List LaneAccess} (hsize : ∀ x ∈ l, x.size = size) :
    a.outside l = l.filter fun y => decide (a.b.bmSize < y.va + size) := by
  refine List.filter_congr fun x hx => ?_
  simp [Block.holds, hsize x hx, ← decide_not]

theorem At.loadAccesses_size (a : At) (size : Nat) : ∀ x ∈ a.loadAccesses size, x.size = size := by
  simp [At.loadAccesses]

/-- The accesses of a store or an atomic: one for each active lane. -/
def At.laneAccesses (a : At) (size offset : Nat) : List LaneAccess := a.lanes.map fun l => ⟨l, a.addressOf size offset l, size⟩

theorem At.laneAccesses_size (a : At) (size offset : Nat) : ∀ x ∈ a.laneAccesses size offset, x.size = size := by
  simp [At.laneAccesses]

/-! ### Pieces in this device's memory -/

/-- Every piece lies in this device's memory, by its translation. -/
def AllLocal (l : List LanePiece) : Prop := ∀ p ∈ l, ∃ pa, p.piece.target = .local_ pa

/-- ... and none of its bytes is poisoned. -/
def State.AllClean (s : State) (l : List LanePiece) : Prop :=
  ∀ p ∈ l, ∃ pa, p.piece.target = .local_ pa ∧ s.poisoned pa p.piece.size = false

theorem State.AllClean.allLocal {s : State} {l : List LanePiece} (h : s.AllClean l) : AllLocal l := fun p hp =>
  let ⟨pa, hpa, _⟩ := h p hp; ⟨pa, hpa⟩

theorem State.pieceHome_local (s : State) (k : AccKind) {p : LanePiece} {pa : Nat} (hp : p.piece.target = .local_ pa) :
    s.pieceHome k p = some pa := by
  simp [State.pieceHome, hp]

theorem State.pieceFault_local (s : State) (a : At) (k : AccKind) {p : LanePiece} {pa : Nat} (hp : p.piece.target = .local_ pa) :
    s.pieceFault a k p = none := by
  simp [State.pieceFault, hp]

theorem State.tieFaults_local (s : State) (a : At) (e : Engine) (k : AccKind) {l : List LanePiece} (hl : AllLocal l) :
    s.tieFaults a e k l = none := by
  have hbad : (l.filter fun p => (s.pieceFault a k p).isSome) = [] := by
    simp only [List.filter_eq_nil_iff]
    intro p hp
    obtain ⟨pa, hpa⟩ := hl p hp
    simp [s.pieceFault_local a k hpa]
  simp [State.tieFaults, hbad]

theorem State.piecesPoisoned_clean {s : State} {l : List LanePiece} (hl : s.AllClean l) (k : AccKind) :
    s.piecesPoisoned k l = false := by
  simp only [State.piecesPoisoned, List.any_eq_false]
  intro p hp
  obtain ⟨pa, hpa, hclean⟩ := hl p hp
  simp [s.pieceHome_local k hpa, hclean]

theorem State.askPieces_local (a : At) (e : Engine) (k : AccKind) (ask : Nat → TieAsk) (s : State) :
    ∀ {l : List LanePiece}, AllLocal l → State.askPieces a e k ask l s = s := by
  intro l
  induction l with
  | nil => exact fun _ => rfl
  | cons p l ih =>
    intro hl
    obtain ⟨pa, hpa⟩ := hl p List.mem_cons_self
    simp only [State.askPieces, hpa]
    exact ih fun q hq => hl q (List.mem_cons_of_mem _ hq)

theorem State.allAnswered_local (s : State) (a : At) {l : List LanePiece} (hl : AllLocal l) : s.allAnswered a l = true := by
  simp only [State.allAnswered, List.all_eq_true]
  intro p hp
  obtain ⟨pa, hpa⟩ := hl p hp
  simp [hpa]

/-- The bytes of local pieces are those of stacked memory. -/
theorem State.flatMap_pieceBytes_local (s : State) (a : At) {l : List LanePiece} (hl : AllLocal l) :
    l.flatMap (s.pieceBytes a) = l.flatMap fun p =>
      match p.piece.target with
      | .local_ pa => s.hbmRead pa p.piece.size
      | .tie _ _ _ => [] := by
  refine List.flatMap_congr fun p hp => ?_
  obtain ⟨pa, hpa⟩ := hl p hp
  simp only [State.pieceBytes, s.pieceHome_local .read hpa, hpa]

/-! ### What a load, a store and an atomic do -/

/-- A load within the block's memory (R285 to R287). -/
theorem loadEffect_block {a : At} {size : Nat} {sgn : Bool} {s : State} (hb : a.i.blockMem = true)
    (hin : ∀ x ∈ a.loadAccesses size, x.va + size ≤ a.b.bmSize) :
    loadEffect size sgn a s = if a.blockWaits false (a.loadAccesses size) then .wait s
      else .done (a.loadInto size fun l => loadValue size sgn (s.bmRead a.b (a.addressOf size a.i.immediate l) size)) s := by
  simp only [loadEffect, hb, if_true, At.outside_eq_nil (a.loadAccesses_size size) hin]

theorem loadEffect_outside {a : At} {size : Nat} {sgn : Bool} {s : State} (hb : a.i.blockMem = true) {x : LaneAccess}
    {xs : List LaneAccess} (hout : (a.loadAccesses size).filter (fun y => decide (a.b.bmSize < y.va + size)) = x :: xs) :
    loadEffect size sgn a s = raiseLanes .blockRange (x :: xs) := by
  simp only [loadEffect, hb, if_true, At.outside_eq_filter (a.loadAccesses_size size), hout]

theorem loadEffect_local {a : At} {size : Nat} {sgn : Bool} {s : State} (hb : a.i.blockMem = false) (hw : a.sysWaits s = false)
    {l : List LanePiece} (htr : a.translate .alu .read (a.loadAccesses size) s = (s, some l)) (hl : s.AllClean l) :
    loadEffect size sgn a s = .done (a.loadInto size fun k => loadValue size sgn
      ((l.filter fun p => p.lane == k).flatMap (s.pieceBytes a))) ((s.loadMarks a l).lanesTake a) := by
  have hloc := hl.allLocal
  simp only [loadEffect, hb, hw, htr, s.tieFaults_local a .alu .read hloc, State.piecesPoisoned_clean hl,
    State.askPieces_local a .alu .read _ s hloc, s.allAnswered_local a hloc]
  rfl

theorem storeEffect_block {a : At} {size : Nat} {s : State} (hb : a.i.blockMem = true)
    (hin : ∀ x ∈ a.laneAccesses size a.i.immediate, x.va + size ≤ a.b.bmSize) :
    storeEffect size a s = if a.blockWaits true (a.laneAccesses size a.i.immediate) then .wait s
      else .done a.g ((a.laneAccesses size a.i.immediate).foldl (fun t x => t.bmWrite a.b x.va (a.storeData size x.lane)) s) := by
  have hout := At.outside_eq_nil (a.laneAccesses_size size a.i.immediate) hin
  rw [At.laneAccesses] at hout ⊢
  simp only [storeEffect, hb, if_true, hout]

theorem storeEffect_outside {a : At} {size : Nat} {s : State} (hb : a.i.blockMem = true) {x : LaneAccess} {xs : List LaneAccess}
    (hf : (a.laneAccesses size a.i.immediate).filter (fun y => decide (a.b.bmSize < y.va + size)) = x :: xs) :
    storeEffect size a s = raiseLanes .blockRange (x :: xs) := by
  have hout := At.outside_eq_filter (a := a) (a.laneAccesses_size size a.i.immediate)
  rw [At.laneAccesses] at hout hf
  simp only [storeEffect, hb, if_true, hout, hf]

theorem storeEffect_local {a : At} {size : Nat} {s : State} (hb : a.i.blockMem = false) (hw : a.sysWaits s = false)
    {l : List LanePiece} (htr : a.translate .alu .write (a.laneAccesses size a.i.immediate) s = (s, some l)) (hl : AllLocal l) :
    storeEffect size a s = .done a.g (State.storePieceList a .alu (a.storeData size) l 32 0 s) := by
  rw [At.laneAccesses] at htr
  simp only [storeEffect, hb, hw, htr, s.tieFaults_local a .alu .write hl]
  rfl

/-- The offset of an atomic: none for atom.cas (R288). -/
def At.atomOffset (a : At) (op : Nat) : Nat := if op % 16 = 9 then 0 else a.i.immediate

theorem atomEffect_misaligned {a : At} {op size : Nat} {s : State} {x : LaneAccess} {xs : List LaneAccess}
    (hbad : (a.laneAccesses size (a.atomOffset op)).filter (fun y => y.va % size != 0) = x :: xs) :
    atomEffect op size a s = raiseLanes .align (x :: xs) := by
  rw [At.laneAccesses, At.atomOffset] at hbad
  simp only [atomEffect, badLanes, hbad]

theorem At.filter_aligned {a : At} {op size : Nat} (hal : ∀ x ∈ a.laneAccesses size (a.atomOffset op), x.va % size = 0) :
    (a.laneAccesses size (a.atomOffset op)).filter (fun y => y.va % size != 0) = [] := by
  simpa [List.filter_eq_nil_iff] using hal

theorem atomEffect_block {a : At} {op size : Nat} {s : State}
    (hal : ∀ x ∈ a.laneAccesses size (a.atomOffset op), x.va % size = 0) (hb : a.i.blockMem = true)
    (hin : ∀ x ∈ a.laneAccesses size (a.atomOffset op), x.va + size ≤ a.b.bmSize) :
    atomEffect op size a s = if a.blockWaits true (a.laneAccesses size (a.atomOffset op)) then .wait s
      else .done (a.atomInto size (State.atomBlock a op size (a.laneAccesses size (a.atomOffset op)) s).2)
        (State.atomBlock a op size (a.laneAccesses size (a.atomOffset op)) s).1 := by
  have hgood := At.filter_aligned hal
  have hout := At.outside_eq_nil (a.laneAccesses_size size (a.atomOffset op)) hin
  rw [At.laneAccesses, At.atomOffset] at hgood hout ⊢
  simp only [atomEffect, badLanes, hgood, hb, if_true, hout]

theorem atomEffect_local {a : At} {op size : Nat} {s : State}
    (hal : ∀ x ∈ a.laneAccesses size (a.atomOffset op), x.va % size = 0) (hb : a.i.blockMem = false)
    (hw : a.sysWaits s = false) {l : List LanePiece}
    (htr : a.translate .alu .atomic (a.laneAccesses size (a.atomOffset op)) s = (s, some l)) (hl : s.AllClean l) :
    atomEffect op size a s = .done (a.atomInto size (State.atomLanes a op size l s).2)
      ((State.atomLanes a op size l s).1.lanesTake a) := by
  have hgood := At.filter_aligned hal
  have hloc := hl.allLocal
  rw [At.laneAccesses, At.atomOffset] at hgood htr
  simp only [atomEffect, badLanes, hgood, hb, hw, htr, s.tieFaults_local a .alu .atomic hloc, State.piecesPoisoned_clean hl,
    State.askPieces_local a .alu .atomic _ s hloc, s.allAnswered_local a hloc]
  rfl

/-! ### The obligation -/

/-- An effect that waits or is done, as the machine after the issue. -/
theorem State.settleEffect_waitOrDone (s t : State) (a : At) (n : Nat) (g : Group) (c : Bool) :
    s.settleEffect a n (if c then .wait s else .done g t) = if c then s else t.executed a n g := by
  cases c <;> rfl

/-- An atomic's row runs the operation of the width that its instruction has (R268). -/
theorem onAtomic_of_issuing {s : State} {r : SubRef} {a : At} {n : Nat} (h : s.issuing r = some (a, n)) (hc : a.i.cls = 0x04)
    {op size : Nat} (ho : (a.i.op = op ∧ size = 4) ∨ (a.i.op = 16 + op ∧ size = 8)) :
    onAtomic op r s = .next (s.settleEffect a n (atomEffect op size a s)) := by
  have hmine : (a.i.cls == 0x04 && (a.i.op == op || a.i.op == 16 + op)) = true := by
    rcases ho with ⟨ho, _⟩ | ⟨ho, _⟩ <;> simp [hc, ho]
  have hsize : (if a.i.op = op then 4 else 8) = size := by
    rcases ho with ⟨ho, rfl⟩ | ⟨ho, rfl⟩ <;> simp [ho]
  unfold onAtomic
  rw [State.issue_of_issuing h hmine, hsize]

/-- A load's row, whichever it is, runs the load of its size. -/
theorem exec_load {s : State} {r : SubRef} {a : At} {n : Nat} (h : s.issuing r = some (a, n)) (hc : a.i.cls = 0x03)
    {c : Instr} {size : Nat} {sgn : Bool}
    (hmem : (c, a.i.op, size, sgn) ∈ [(.ldB8 r, 0, 1, false), (.ldB16 r, 1, 2, false), (.ldB32 r, 2, 4, false),
      (.ldB64 r, 3, 8, false), (.ldB128 r, 4, 16, false), (.ldS8 r, 5, 1, true), (.ldS16 r, 6, 2, true)]) :
    exec c s = .next (s.settleEffect a n (loadEffect size sgn a s)) := by
  simp only [List.mem_cons, Prod.mk.injEq, List.not_mem_nil, or_false] at hmem
  rcases hmem with ⟨rfl, ho, rfl, rfl⟩ | ⟨rfl, ho, rfl, rfl⟩ | ⟨rfl, ho, rfl, rfl⟩ | ⟨rfl, ho, rfl, rfl⟩ | ⟨rfl, ho, rfl, rfl⟩ |
    ⟨rfl, ho, rfl, rfl⟩ | ⟨rfl, ho, rfl, rfl⟩
  all_goals exact onIssue_of_issuing h hc ho _

theorem exec_store {s : State} {r : SubRef} {a : At} {n : Nat} (h : s.issuing r = some (a, n)) (hc : a.i.cls = 0x03)
    {c : Instr} {size : Nat}
    (hmem : (c, a.i.op, size) ∈ [(.stB8 r, 8, 1), (.stB16 r, 9, 2), (.stB32 r, 10, 4), (.stB64 r, 11, 8), (.stB128 r, 12, 16)]) :
    exec c s = .next (s.settleEffect a n (storeEffect size a s)) := by
  simp only [List.mem_cons, Prod.mk.injEq, List.not_mem_nil, or_false] at hmem
  rcases hmem with ⟨rfl, ho, rfl⟩ | ⟨rfl, ho, rfl⟩ | ⟨rfl, ho, rfl⟩ | ⟨rfl, ho, rfl⟩ | ⟨rfl, ho, rfl⟩
  all_goals exact onIssue_of_issuing h hc ho _

/-- An atomic's row runs the atomic, and only atom.cas takes no offset (R288). -/
theorem exec_atomic {s : State} {r : SubRef} {a : At} {n : Nat} (h : s.issuing r = some (a, n)) (hc : a.i.cls = 0x04)
    {c : Instr} {op : Nat}
    (hmem : (c, op) ∈ [(Instr.atomAdd r, 0), (.atomMinU r, 1), (.atomMaxU r, 2), (.atomMinS r, 3), (.atomMaxS r, 4),
      (.atomAnd r, 5), (.atomOr r, 6), (.atomXor r, 7), (.atomExch r, 8), (.atomCas r, 9), (.atomFadd r, 10)])
    {size : Nat} (ho : (a.i.op = op ∧ size = 4) ∨ (a.i.op = 16 + op ∧ size = 8)) :
    exec c s = .next (s.settleEffect a n (atomEffect op size a s)) ∧ (if op = 9 then 0 else a.i.immediate) = a.atomOffset op := by
  simp only [List.mem_cons, Prod.mk.injEq, List.not_mem_nil, or_false] at hmem
  rcases hmem with ⟨rfl, rfl⟩ | ⟨rfl, rfl⟩ | ⟨rfl, rfl⟩ | ⟨rfl, rfl⟩ | ⟨rfl, rfl⟩ | ⟨rfl, rfl⟩ | ⟨rfl, rfl⟩ | ⟨rfl, rfl⟩ |
    ⟨rfl, rfl⟩ | ⟨rfl, rfl⟩ | ⟨rfl, rfl⟩
  all_goals exact ⟨onAtomic_of_issuing h hc ho, rfl⟩

/-- Settles O12: each row runs its effect, which the access's place decides. -/
theorem laneMemoryInstructions : Obligations.LaneMemoryInstructions := by
  refine ⟨?loads, ?stores, ?atomics⟩
  case loads =>
    intro s r a n h hc c size sgn hmem acc value
    have hrow := exec_load h hc hmem
    refine ⟨fun hb hin => ?_, fun hb x xs hout => ?_, fun hb hw l htr hl => ?_⟩
    · rw [hrow, loadEffect_block hb hin, State.settleEffect_waitOrDone]
      rfl
    · rw [hrow, loadEffect_outside hb hout]
      rfl
    · have hloc := (show s.AllClean l from hl).allLocal
      rw [hrow, loadEffect_local hb hw htr hl, State.settleEffect_done]
      congr 3
      funext k
      rw [s.flatMap_pieceBytes_local a fun p hp => hloc p (List.mem_of_mem_filter hp)]
      rfl
  case stores =>
    intro s r a n h hc c size hmem acc
    have hrow := exec_store h hc hmem
    refine ⟨fun hb hin => ?_, fun hb x xs hout => ?_, fun hb hw l htr hl => ?_⟩
    · rw [hrow, storeEffect_block hb hin, State.settleEffect_waitOrDone]
      rfl
    · rw [hrow, storeEffect_outside hb hout]
      rfl
    · rw [hrow, storeEffect_local hb hw htr hl]
      rfl
  case atomics =>
    intro s r a n h hc c op hmem size ho
    obtain ⟨hrow, hoff⟩ := exec_atomic h hc hmem ho
    rw [hoff]
    intro acc
    refine ⟨fun x xs hbad => ?_, fun hal hb hin => ?_, fun hal hb hw l htr hl => ?_⟩
    · rw [hrow, atomEffect_misaligned hbad]
      rfl
    · rw [hrow, atomEffect_block hal hb hin, State.settleEffect_waitOrDone]
      rfl
    · rw [hrow, atomEffect_local hal hb hw htr hl]
      rfl

end Sys2Proof.Machine
end

section
/-!
SUPPORT AND PROOF. Fences, barriers, waits, marks and status registers (R216, R218, R231, R252, R291, R295 to R297, R300, R809).
-/

namespace Sys2Proof.Machine

set_option Elab.async false

theorem placed_eq_mul (v n : Nat) : placed v n = v * 2 ^ n := Nat.shiftLeft_eq v n

/-- sr.clr names one of the three sticky registers (R297). -/
theorem imm_of_legal_srClr {a : At} (hl : a.i.legal a.b.regs = true) (hc : a.i.cls = 0x09) (ho : a.i.op = 2) :
    a.i.imm = 0x10 ∨ a.i.imm = 0x11 ∨ a.i.imm = 0x12 := by
  simp only [Insn.legal, hc, legalStatus, ho, Bool.and_eq_true, Bool.or_eq_true, decide_eq_true_eq] at hl
  tauto

/-- SR_FSTAT has no bit that an engine sets (R302): a clear of it never meets a set. -/
theorem Group.setAgain_fstat (g : Group) (cycle : Nat) : g.setAgain 0x10 cycle = g := by
  simp [Group.setAgain]

/-- A clear of SR_ASTAT leaves what an engine has set in the same cycle (R18, R302). -/
theorem Group.clear_setAgain_astat (g : Group) (mask cycle : Nat) :
    (g.clear 0x11 mask).setAgain 0x11 cycle = { g with
      astat := (g.astat &&& ~~~ (BitVec.ofNat 4 mask)) ||| (if g.raised.cycle = cycle then g.raised.astat else 0) } := by
  by_cases h : g.raised.cycle = cycle <;> simp [Group.clear, Group.setAgain, h]

/-- A clear of SR_VSTAT leaves what an engine has set in the same cycle. -/
theorem Group.clear_setAgain_vstat (g : Group) (mask cycle : Nat) :
    (g.clear 0x12 mask).setAgain 0x12 cycle = { g with
      vstat := (g.vstat &&& ~~~ (BitVec.ofNat 5 mask)) ||| (if g.raised.cycle = cycle then g.raised.vstat else 0),
      range := (g.range && !(mask.testBit 8)) || (decide (g.raised.cycle = cycle) && g.raised.range) } := by
  by_cases h : g.raised.cycle = cycle <;> simp [Group.clear, Group.setAgain, h]

/-- The status registers (R300). -/
theorem At.status_eq (a : At) (n : Nat) : a.status n = match n with
    | 0x00 => a.b.cluster / 24
    | 0x01 => a.b.cluster
    | 0x02 => a.b.index
    | 0x03 => a.b.blocks
    | 0x04 => a.gi
    | 0x05 => a.b.groups.length
    | 0x06 => a.b.ctx
    | 0x07 => a.b.bmSize
    | 0x08 => a.b.args
    | 0x09 => a.g.issuer * 2 ^ 32 + a.sg.mask.toNat
    | 0x10 => a.g.fstat.toNat
    | 0x11 => a.g.astat.toNat
    | 0x12 => (if a.g.range then 256 else 0) + a.g.vstat.toNat
    | _ => if a.g.ftz32 then 1 else 0 := by
  have hrange : placed (flagNat a.g.range) 8 = if a.g.range then 256 else 0 := by cases a.g.range <;> rfl
  unfold At.status Group.vstatBits
  rw [hrange, placed_eq_mul]
  rfl

/-- What sr.clr makes of its group (R297, R302): the issuer's own sub-group clears in a later cycle than any set that it clears (R223). -/
theorem srClrEffect_eq (a : At) (s : State) (himm : a.i.imm = 0x10 ∨ a.i.imm = 0x11 ∨ a.i.imm = 0x12) :
    srClrEffect a s =
      let now := a.sg.mask.getLsbD a.g.issuer = false ∧ a.g.raised.cycle = s.abaom.posts
      let src1 := a.scalar a.i.src1
      .done (match a.i.imm with
        | 0x10 => { a.g with fstat := a.g.fstat &&& ~~~ (BitVec.ofNat 5 src1) }
        | 0x11 => { a.g with astat := (a.g.astat &&& ~~~ (BitVec.ofNat 4 src1)) ||| (if now then a.g.raised.astat else 0) }
        | _ => { a.g with
            vstat := (a.g.vstat &&& ~~~ (BitVec.ofNat 5 src1)) ||| (if now then a.g.raised.vstat else 0),
            range := (a.g.range && !(src1.testBit 8)) || (decide now && a.g.raised.range) }) s := by
  unfold srClrEffect
  rcases himm with himm | himm | himm <;> cases hiss : a.sg.mask.getLsbD a.g.issuer <;> simp only [himm]
  · simp only [Group.setAgain_fstat]
    rfl
  · rfl
  · simp only [Group.clear_setAgain_astat, true_and]
    rfl
  · simp [Group.clear]
  · simp only [Group.clear_setAgain_vstat, true_and]
    rfl
  · simp [Group.clear]

/-- Settles O13: each row's effect, of the sub-group that issues it. -/
theorem synchronisationAndStatusInstructions : Obligations.SynchronisationAndStatusInstructions := by
  unfold Obligations.SynchronisationAndStatusInstructions
  intro s r a n h past held src1 src2 toDst
  have hrow {cls op : Nat} (hc : a.i.cls = cls) (ho : a.i.op = op) (eff : At → State → Effect) :
      onIssue cls op eff r s = .next (s.settleEffect a n (eff a s)) := onIssue_of_issuing h hc ho eff
  refine ⟨fun hc => ⟨fun ho hfree => ?_, fun ho hsys hpend => ?_, fun ho => hrow hc ho barGroupEffect,
      fun ho => hrow hc ho barBlockEffect, fun ho => (hrow hc ho arrWaitEffect).trans ?_⟩,
    fun hc => ⟨fun ho => hrow hc ho stakeWaitEffect, fun ho => hrow hc ho mtReadEffect⟩,
    fun hc => ⟨fun ho => hrow hc ho (markEffect false), fun ho => hrow hc ho (markEffect true)⟩,
    fun hc => ⟨fun ho => (hrow hc ho srReadEffect).trans ?_, fun ho => hrow hc ho srWriteEffect,
      fun ho => (hrow hc ho srClrEffect).trans ?_⟩⟩
  · have hno : ¬ (a.i.scope = 3 ∧ s.tieWritesBefore a.b.id a.gi = true) := fun ⟨hsys, hpend⟩ =>
      hfree.elim (fun hn => hn hsys) fun hn => by simp [hn] at hpend
    refine (hrow hc ho fenceEffect).trans ?_
    rw [fenceEffect, if_neg hno]
    rfl
  · refine (hrow hc ho fenceEffect).trans ?_
    rw [fenceEffect, if_pos ⟨hsys, hpend⟩]
    rfl
  · have hsrc : a.scalar a.i.src1 = src1 := rfl
    simp only [arrWaitEffect, hsrc, Block.holds, decide_eq_true_eq]
    split_ifs <;> rfl
  · rw [srReadEffect, At.status_eq]
    rfl
  · obtain ⟨_, hl, _⟩ := State.choose_of_issuing h
    rw [srClrEffect_eq a s (imm_of_legal_srClr hl hc ho)]
    rfl

/-! ### Releases -/

theorem Group.allHeld_iff (g : Group) (h : Hold) : g.allHeld h = true ↔ ∀ x ∈ g.subs, x.hold = h := by
  simp [Group.allHeld]

theorem Group.not_allHeld {g : Group} {h : Hold} (hx : ∃ x ∈ g.subs, x.hold ≠ h) : g.allHeld h = false := by
  obtain ⟨x, hx, hh⟩ := hx
  exact Bool.eq_false_iff.mpr fun hall => hh ((g.allHeld_iff h).mp hall x hx)

/-- Settles O14: each release by the case of its condition. -/
theorem barriersRelease : Obligations.BarriersRelease := by
  unfold Obligations.BarriersRelease
  intro s
  refine ⟨fun blk grp g hg hstop hops hheld => ?_, fun blk grp g hg hx => ?_, fun blk b hb hall => ?_, fun blk b hb hx => ?_,
    fun r b g x off v hsub hhold => ?_, fun r b g x m hsub hhold => ?_⟩
  · have hready : (g.allHeld .barGroup && g.ops.isEmpty && !g.stopped) = true := by
      simp [(g.allHeld_iff _).mpr hheld, hops, hstop]
    show execBarGroupRelease blk grp s = _
    rw [execBarGroupRelease, hg]
    simp only [hready]
    rfl
  · show execBarGroupRelease blk grp s = _
    simp [execBarGroupRelease, hg, Group.not_allHeld hx]
  · have hready : (b.groups.all fun g => g.allHeld .barBlock && !g.stopped) = true := by
      simp only [List.all_eq_true, Bool.and_eq_true, Bool.not_eq_true', Group.allHeld_iff]
      exact fun g hg => ⟨(hall g hg).2, (hall g hg).1⟩
    show execBarBlockRelease blk s = _
    rw [execBarBlockRelease, hb]
    simp only [hready]
    rfl
  · obtain ⟨g, hg, hx⟩ := hx
    have hwaits : (b.groups.all fun g => g.allHeld .barBlock && !g.stopped) = false :=
      List.all_eq_false.mpr ⟨g, hg, by simp [Group.not_allHeld hx]⟩
    show execBarBlockRelease blk s = _
    simp [execBarBlockRelease, hb, hwaits]
  · show execArrWaitRelease r s = _
    rw [execArrWaitRelease, hsub]
    simp only [hhold]
    rfl
  · show execStakeWaitRelease r s = _
    rw [execStakeWaitRelease, hsub]
    simp only [hhold]
    rfl

end Sys2Proof.Machine
end

section
/-!
SUPPORT AND PROOF. The matrix instructions, from issue to completion, the accumulator pairs and anchored adds (R290, R298, R312 to R364).
-/

namespace Sys2Proof.Machine

set_option Elab.async false

/-! ### Issue -/

/-- The checks of an mma's panels, and the place that it takes in the engine (R298, R326). -/
def panelEffect (a : At) (s : State) : Effect :=
  if a.b.bmSize < a.scalar a.i.src1 + a.i.panelBytes 64 then a.raise .blockRange (a.scalar a.i.src1)
  else if a.b.bmSize < a.scalar a.i.src2 + a.i.panelBytes 128 then a.raise .blockRange (a.scalar a.i.src2)
  else a.enqueue .multiply (s.takePair a)

/-- A product of panels in block formats asks nothing of its tile (R298, R341). -/
theorem mmaEffect_blocks {a : At} (hop : a.i.op < 4) (s : State) :
    mmaEffect a s = if a.scalar a.i.src1 % 64 ≠ 0 then a.raise .operand (a.scalar a.i.src1)
      else if a.scalar a.i.src2 % 64 ≠ 0 then a.raise .operand (a.scalar a.i.src2) else panelEffect a s := by
  simp [mmaEffect, panelEffect, Block.holds, Nat.not_le.mpr hop]

/-- A slice product needs its tile in the anchored form (R341). -/
theorem mmaEffect_slices {a : At} (hop : 4 ≤ a.i.op) (s : State) :
    mmaEffect a s = if a.scalar a.i.src1 % 64 ≠ 0 then a.raise .operand (a.scalar a.i.src1)
      else if a.scalar a.i.src2 % 64 ≠ 0 then a.raise .operand (a.scalar a.i.src2)
      else if a.g.tilePending a.b.regs (a.opd a.i.dst).number then .wait s
      else if (a.g.acc (a.opd a.i.dst).number).isFp32 then a.raise .operand (a.scalar a.i.src1) else panelEffect a s := by
  simp [mmaEffect, panelEffect, Block.holds, hop]

/-- The bytes that a read of a tile writes, by its format (R352). -/
theorem readBytes_eq (fmt : Nat) : readBytes fmt = match fmt with | 0 => 32768 | 1 => 65536 | _ => 262144 := by
  rcases fmt with _ | _ | m <;> rfl

/-- Settles O15: each row runs its checks in the order of R298, R344, R352. -/
theorem matrixInstructionsIssue : Obligations.MatrixInstructionsIssue := by
  unfold Obligations.MatrixInstructionsIssue
  intro s r a n h hc t order oa ob joins raises panels
  have hrow {op : Nat} (ho : a.i.op = op) (eff : At → State → Effect) :
      onIssue 0x10 op eff r s = .next (s.settleEffect a n (eff a s)) := onIssue_of_issuing h hc ho eff
  have hoa : a.scalar a.i.src1 = oa := rfl
  have hob : a.scalar a.i.src2 = ob := rfl
  have hpanels : s.settleEffect a n (panelEffect a s) = panels := by
    simp only [panelEffect, panels, hoa, hob]
    split_ifs <;> rfl
  refine ⟨fun c op hmem ho => ?_, fun c op hmem ho => ?_, fun ho => (hrow ho anchorEffect).trans ?_,
    fun ho => (hrow ho accReadEffect).trans ?_, fun ho => hrow ho accZeroEffect⟩
  · have hexec : op < 4 ∧ exec c s = onIssue 0x10 op mmaEffect r s := by
      simp only [List.mem_cons, Prod.mk.injEq, List.not_mem_nil, or_false] at hmem
      rcases hmem with ⟨rfl, rfl⟩ | ⟨rfl, rfl⟩ | ⟨rfl, rfl⟩ | ⟨rfl, rfl⟩ <;> exact ⟨by decide, rfl⟩
    rw [hexec.2, hrow ho, mmaEffect_blocks (ho ▸ hexec.1), hoa, hob, ← hpanels]
    split_ifs <;> rfl
  · have hexec : 4 ≤ op ∧ exec c s = onIssue 0x10 op mmaEffect r s := by
      simp only [List.mem_cons, Prod.mk.injEq, List.not_mem_nil, or_false] at hmem
      rcases hmem with ⟨rfl, rfl⟩ | ⟨rfl, rfl⟩ <;> exact ⟨by decide, rfl⟩
    rw [hexec.2, hrow ho, mmaEffect_slices (ho ▸ hexec.1), hoa, hob, ← hpanels]
    split_ifs <;> rfl
  · simp only [anchorEffect, hoa]
    split_ifs <;> rfl
  · have hread := readBytes_eq a.i.mod
    simp only [accReadEffect, hob, Block.holds, decide_eq_true_eq]
    rcases hmod : a.i.mod with _ | _ | m <;> rw [hmod] at hread <;> simp only [hread] <;> split_ifs <;> rfl

/-! ### Completion -/

/-- What the completion of an engine's operation leaves: the group with the flags that its work raises (R302, R314). -/
theorem execMatrixOpComplete_eq {s : State} {blk grp : Nat} {b : Block} {g : Group} {o : GcOp} {rest : List GcOp}
    (hb : s.block blk = some b) (hg : s.group blk grp = some g) (hops : g.ops = o :: rest) (hstop : g.stopped = false)
    (hpipe : o.pipe ≠ .vector) {t : State} {x : Group}
    (hwork : s.matrixOp b { g with ops := rest, astat := 0, vstat := 0, range := false } o = (t, x)) :
    exec (.matrixOpComplete blk grp) s = .next ((t.putGroup blk grp (g.raisedIn s x)).settleGroup blk grp) := by
  have hgo : (o.pipe == Pipe.vector || g.stopped) = false := by simp [hpipe, hstop]
  show execMatrixOpComplete blk grp s = _
  simp only [execMatrixOpComplete, hb, hg, hops, hgo, Group.raising, hwork]
  rfl

/-- Settles O16: each operation's work, by its operation code. -/
theorem matrixInstructionsComplete : Obligations.MatrixInstructionsComplete := by
  unfold Obligations.MatrixInstructionsComplete
  intro s blk grp b g o rest hb hg hops hstop hpipe i k h leaves
  have hleaves {t : State} {x : Group} (hwork : s.matrixOp b h o = (t, x)) : leaves t x :=
    execMatrixOpComplete_eq hb hg hops hstop hpipe hwork
  have hword : insnOf o.pc o.word o.ext = i := rfl
  refine ⟨fun ho => hleaves ?_, fun ho => hleaves ?_, fun ho => hleaves ?_, fun ho => hleaves ?_⟩
  · simp only [State.matrixOp, hword, ho]
    rfl
  · simp only [State.matrixOp, hword, ho]
    rfl
  · simp only [State.matrixOp, hword, ho]
    rfl
  · have h8 : i.op ≠ 8 := by omega
    have h9 : i.op ≠ 9 := by omega
    have h10 : i.op ≠ 10 := by omega
    simp only [State.matrixOp, hword]
    rfl

/-! ### Pairs and anchored adds -/

/-- An element that a row-by-row walk of the tile finds out of window (R350). -/
theorem At.any_xaddElements (a : At) (els : List AnchEl) :
    (a.xaddElements els).any AnchEl.out = (List.range (a.i.ext / 256 % 256)).any fun i =>
      (List.range (a.i.ext % 256)).any fun j => (nth els (128 * i + j) AnchEl.zero).out := by
  simp [At.xaddElements, List.any_flatMap, List.any_map, Function.comp_def]

/-- The group once atom.xadd has read its tile (R350). -/
theorem At.xaddRead_eq (a : At) (s : State) (k : Nat) (els : List AnchEl) :
    a.xaddRead s k els = a.g.raisedIn s
      ({ a.g with astat := 0, vstat := 0, range := false }.raiseAstat (2 * k + 1)
        ((List.range (a.i.ext / 256 % 256)).any fun i =>
          (List.range (a.i.ext % 256)).any fun j => (nth els (128 * i + j) AnchEl.zero).out)) := by
  rw [← a.any_xaddElements]
  rfl

/-- Once the instructions before it on its tile have completed, atom.xadd asks for the anchored form and then for aligned rows (R290, R304). -/
theorem xaddEffect_fp32 {a : At} {s : State} (hp : a.g.tilePending a.b.regs (a.opd a.i.dst).number = false) {els}
    (htile : a.g.acc (a.opd a.i.dst).number = .fp32 els) : xaddEffect a s = a.raise .operand (a.scalar a.i.src1) := by
  simp [xaddEffect, hp, htile]

theorem xaddEffect_misaligned {a : At} {s : State} (hp : a.g.tilePending a.b.regs (a.opd a.i.dst).number = false) {v els}
    (htile : a.g.acc (a.opd a.i.dst).number = .anchored v els) {x : LaneAccess} {xs : List LaneAccess}
    (hbad : a.xaddRows.filter (fun y => y.va % 32 != 0) = x :: xs) : xaddEffect a s = a.raise .align x.va := by
  simp only [xaddEffect, hp, htile, badLanes, hbad]
  rfl

/-- Rows at multiples of 32 bytes. -/
def At.RowsAligned (a : At) : Prop := ∀ y ∈ a.xaddRows, y.va % 32 = 0

theorem At.RowsAligned.filter_eq_nil {a : At} (hal : a.RowsAligned) : a.xaddRows.filter (fun y => y.va % 32 != 0) = [] := by
  simpa [List.filter_eq_nil_iff] using (show ∀ y ∈ a.xaddRows, y.va % 32 = 0 from hal)

theorem xaddEffect_outside {a : At} {s : State} (hp : a.g.tilePending a.b.regs (a.opd a.i.dst).number = false) {v els}
    (htile : a.g.acc (a.opd a.i.dst).number = .anchored v els) (hal : a.RowsAligned) (hb : a.i.blockMem = true)
    {x : LaneAccess} {xs : List LaneAccess} (hout : a.outside a.xaddRows = x :: xs) :
    xaddEffect a s = a.raise .blockRange x.va := by
  simp only [xaddEffect, hp, htile, badLanes, hal.filter_eq_nil, hb, hout]
  rfl

theorem xaddEffect_block {a : At} {s : State} (hp : a.g.tilePending a.b.regs (a.opd a.i.dst).number = false) {v els}
    (htile : a.g.acc (a.opd a.i.dst).number = .anchored v els) (hal : a.RowsAligned) (hb : a.i.blockMem = true)
    (hout : a.outside a.xaddRows = []) (hw : a.blockWaits true a.xaddRows = false) :
    xaddEffect a s = .done (a.xaddRead s (a.opd a.i.dst).number els)
      (xaddSend v (fun anchor => State.xaddBlock a a.xaddRows (a.xaddCells anchor els) (s.takePair a)) (s.takePair a)) := by
  simp only [xaddEffect, hp, htile, badLanes, hal.filter_eq_nil, hb, hout, hw]
  rfl

theorem xaddEffect_local {a : At} {s : State} (hp : a.g.tilePending a.b.regs (a.opd a.i.dst).number = false) {v els}
    (htile : a.g.acc (a.opd a.i.dst).number = .anchored v els) (hal : a.RowsAligned) (hb : a.i.blockMem = false)
    (hw : a.sysWaits s = false) {l : List LanePiece} (htr : a.translate .alu .atomic a.xaddRows s = (s, some l))
    (hl : s.AllClean l) :
    xaddEffect a s = .done (a.xaddRead s (a.opd a.i.dst).number els)
      (xaddSend v (fun anchor => State.xaddAll a l (a.xaddCells anchor els) (s.takePair a)) (s.takePair a)) := by
  simp only [xaddEffect, hp, htile, badLanes, hal.filter_eq_nil, hb, hw, htr, s.tieFaults_local a .alu .atomic hl.allLocal,
    State.piecesPoisoned_clean hl]
  rfl

/-- Settles O17: the pair by its owner, atom.xadd by its tile, its rows and the place of its cells. -/
theorem accumulatorPairsAndAnchors : Obligations.AccumulatorPairsAndAnchors := by
  refine ⟨fun s cluster core => ⟨fun blk grp howner hnext => ?_, fun o howner => ?_⟩, fun s r a n h hc ho hp => ?_⟩
  · show execAccumulatorGrant cluster core s = _
    rw [execAccumulatorGrant, howner, hnext]
    rfl
  · show execAccumulatorGrant cluster core s = _
    rw [execAccumulatorGrant, howner]
  · intro t k rows cols reads
    have hrow : exec (.atomXadd r) s = .next (s.settleEffect a n (xaddEffect a s)) := onIssue_of_issuing h hc ho xaddEffect
    have hreads (els : List AnchEl) : reads els = a.xaddRead s k els := (a.xaddRead_eq s k els).symm
    refine ⟨fun els htile => ?_, fun v els x xs htile hbad => ?_, fun v els htile hal hb => ⟨fun x xs hout => ?_, fun hout hw => ?_⟩,
      fun v els l htile hal hb hw htr hl => ?_⟩
    · rw [hrow, xaddEffect_fp32 hp htile]
      rfl
    · rw [hrow, xaddEffect_misaligned hp htile hbad]
      rfl
    · rw [hrow, xaddEffect_outside hp htile hal hb hout]
      rfl
    · rw [hrow, xaddEffect_block hp htile hal hb hout hw, hreads]
      rfl
    · rw [hrow, xaddEffect_local hp htile hal hb hw htr hl, hreads]
      rfl

end Sys2Proof.Machine
end

section
/-!
SUPPORT AND PROOF. The tile-vector instructions, from issue to completion (R403 to R444).
-/

namespace Sys2Proof.Machine

set_option Elab.async false

/-! ### Issue -/

theorem At.inOrder_ready {a : At} (hp : a.g.vectorPending = false) (s : State) (k : Effect) : a.inOrder s k = k := by
  simp [At.inOrder, hp]

/-- A read of clean bytes of this device's memory goes on with them at once (R225). -/
theorem At.readAll_local {a : At} {acc : List LaneAccess} {s : State} {l : List LanePiece}
    (htr : a.translate .vector .read acc s = (s, some l)) (hl : s.AllClean l) (k : State → List Byte → Effect) :
    a.readAll acc s k = k s (l.flatMap (s.pieceBytes a)) := by
  have hloc := hl.allLocal
  simp only [At.readAll, htr, s.tieFaults_local a .vector .read hloc, State.piecesPoisoned_clean hl,
    State.askPieces_local a .vector .read _ s hloc, s.allAnswered_local a hloc]
  rfl

/-- ... of one clean piece. -/
theorem At.readAll_piece {a : At} {acc : List LaneAccess} {s : State} {lane va size pa : Nat}
    (htr : a.translate .vector .read acc s = (s, some [⟨lane, ⟨.local_ pa, va, size⟩⟩])) (hclean : s.poisoned pa size = false)
    (k : State → List Byte → Effect) : a.readAll acc s k = k s (s.hbmRead pa size) := by
  have hl : s.AllClean [⟨lane, ⟨.local_ pa, va, size⟩⟩] := by simp [State.AllClean, hclean]
  rw [At.readAll_local htr hl, s.flatMap_pieceBytes_local a hl.allLocal]
  simp

/-- The operand check of vld.t and vst.t (R408). -/
theorem At.tileOperand_eq_none {a : At} (h1 : a.scalar a.i.src1 % 4 = 0) (h2 : a.scalar a.i.src2 % 4 = 0) : a.tileOperand = none := by
  simp [At.tileOperand, h1, h2]

theorem At.tileBeyond_eq_none {a : At} (hin : ∀ v ∈ a.tileRows, 0 ≤ v ∧ v + 64 ≤ (a.b.bmSize : Int)) : a.tileBeyond = none := by
  simp only [At.tileBeyond, List.find?_eq_none, Bool.or_eq_true, decide_eq_true_eq, not_or, not_lt]
  exact hin

/-- What a tile's access of block memory, or of an operand that fails its check, does is common to vld.t and vst.t (R408). -/
def tileEffect (a : At) (s : State) (global : Effect) : Effect :=
  match a.tileOperand with
  | some v => a.raise .operand v
  | none =>
    if a.i.blockMem then
      match a.tileBeyond with
      | some v => a.raise .blockRange (intInfo v)
      | none => a.vector s
    else global

theorem vldEffect_eq (a : At) (s : State) : vldEffect a s = tileEffect a s (a.inOrder s <| a.readAll a.tileAccesses s fun t bytes =>
    ({ a with g := { a.g with tiles := a.g.tiles.set (a.opd a.i.dst).number (tileWords bytes) } } : At).vector (t.lanesTake a)) := by
  unfold vldEffect tileEffect
  cases a.tileOperand with
  | some v => rfl
  | none => cases a.i.blockMem <;> rfl

/-- An access of global memory whose operands pass their check (R408). -/
theorem tileEffect_global {a : At} (h1 : a.scalar a.i.src1 % 4 = 0) (h2 : a.scalar a.i.src2 % 4 = 0) (hb : a.i.blockMem = false)
    (s : State) (global : Effect) : tileEffect a s global = global := by
  simp [tileEffect, At.tileOperand_eq_none h1 h2, hb]

/-- The part of vst.t that writes memory at issue (R407, R409). -/
def vstGlobal (a : At) (s : State) : Effect :=
  match a.translate .vector .write a.tileAccesses s with
  | (t, none) => a.stalled .vector .write a.tileAccesses t s
  | (t, some l) =>
    match t.tieFaults a .vector .write l with
    | some e => e
    | none => a.vector (State.storePieceList a .vector (fun _ => tileBytes (nth a.g.tiles (a.opd a.i.dst).number [])) l 32 0 t)

theorem vstEffect_eq (a : At) (s : State) : vstEffect a s = tileEffect a s (a.inOrder s (vstGlobal a s)) := by
  unfold vstEffect tileEffect vstGlobal
  cases a.tileOperand with
  | some v => rfl
  | none => cases a.i.blockMem <;> rfl

theorem vstGlobal_local {a : At} {s : State} {l : List LanePiece} (htr : a.translate .vector .write a.tileAccesses s = (s, some l))
    (hl : AllLocal l) : vstGlobal a s =
      a.vector (State.storePieceList a .vector (fun _ => tileBytes (nth a.g.tiles (a.opd a.i.dst).number [])) l 32 0 s) := by
  have hties := s.tieFaults_local a .vector .write hl
  unfold vstGlobal
  rw [htr]
  dsimp only
  rw [hties]

/-- The effects of the two rows, by their operation codes. -/
theorem exec_tile {s : State} {r : SubRef} {a : At} {n : Nat} (h : s.issuing r = some (a, n)) (hc : a.i.cls = 0x11)
    {c : Instr} {op : Nat} (hmem : (c, op) ∈ [(Instr.vldT r, 3), (.vstT r, 4)]) (ho : a.i.op = op) :
    exec c s = .next (s.settleEffect a n (if op = 3 then vldEffect a s else vstEffect a s)) := by
  simp only [List.mem_cons, Prod.mk.injEq, List.not_mem_nil, or_false] at hmem
  rcases hmem with ⟨rfl, rfl⟩ | ⟨rfl, rfl⟩
  · exact onIssue_of_issuing h hc ho vldEffect
  · exact onIssue_of_issuing h hc ho vstEffect

/-- A program's call whose operands and ports pass their checks joins the engine (R422 to R427). -/
theorem vepRunEffect_good {a : At} {s : State} {c : VepCall}
    (hcall : vepCall a.b.regs a.g a.i (a.scalar a.i.src1) (a.scalar a.i.src2) (a.scalar a.i.dst) = some c) (hok : c.operandOk = true)
    (hports : ∀ p ∈ [c.in0, c.in1, c.out],
      p.misaligned c.shape.1 c.shape.2 = none ∧ p.beyond a.b.bmSize c.shape.1 c.shape.2 = none) :
    vepRunEffect a s = a.vector s := by
  have hmis : [c.in0, c.in1, c.out].findSome? (fun p => p.misaligned c.shape.1 c.shape.2) = none :=
    List.findSome?_eq_none_iff.mpr fun p hp => (hports p hp).1
  have hbey : [c.in0, c.in1, c.out].findSome? (fun p => p.beyond a.b.bmSize c.shape.1 c.shape.2) = none :=
    List.findSome?_eq_none_iff.mpr fun p hp => (hports p hp).2
  simp only [vepRunEffect, hcall, hok, hmis, hbey]
  rfl

/-- Settles O18: each row runs its checks, and then joins the engine. -/
theorem vectorInstructionsIssue : Obligations.VectorInstructionsIssue := by
  unfold Obligations.VectorInstructionsIssue
  intro s r a n h hc taken joins raises s1 s2 vsums
  have hrow {op : Nat} (ho : a.i.op = op) (eff : At → State → Effect) :
      onIssue 0x11 op eff r s = .next (s.settleEffect a n (eff a s)) := onIssue_of_issuing h hc ho eff
  have hs1 : a.scalar a.i.src1 = s1 := rfl
  have hs2 : a.scalar a.i.src2 = s2 := rfl
  have hjoins (t : State) : .next (s.settleEffect a n (a.vector t)) = joins t a.g := rfl
  refine ⟨fun ho => hrow ho vpermEffect, fun c op hmem ho => ?_, fun ho hcall => (hrow ho vepRunEffect).trans ?_,
    fun ho c hcall => ⟨fun hbad => (hrow ho vepRunEffect).trans ?_, fun hok hports => (hrow ho vepRunEffect).trans ?_⟩,
    fun c op hmem ho => ?_, fun ho hp => (hrow ho vepLoadEffect).trans ?_, fun ho hp hbad => (hrow ho vepLoadEffect).trans ?_,
    fun ho hp hal pa m htr hclean hm =>
      ⟨fun hbad => (hrow ho vepLoadEffect).trans ?_, fun pb htrb hcleanb p hparse => (hrow ho vepLoadEffect).trans ?_⟩⟩
  · have hexec : exec c s = onIssue 0x11 op vsumEffect r s := by
      simp only [vsums, List.mem_cons, Prod.mk.injEq, List.not_mem_nil, or_false] at hmem
      rcases hmem with ⟨rfl, rfl⟩ | ⟨rfl, rfl⟩ | ⟨rfl, rfl⟩ | ⟨rfl, rfl⟩ | ⟨rfl, rfl⟩ | ⟨rfl, rfl⟩ <;> rfl
    rw [hexec, hrow ho]
    rfl
  · simp only [vepRunEffect, hs1, hs2, hcall]
    rfl
  · simp only [vepRunEffect, hs1, hs2, hcall, hbad]
    rfl
  · rw [vepRunEffect_good hcall hok hports]
    rfl
  · have htile := exec_tile h hc hmem ho
    rw [htile, vldEffect_eq, vstEffect_eq]
    refine ⟨fun h1 => ?_, fun h1 h2 => ?_, fun h1 h2 hb hin => ?_, fun h1 h2 hb v hv => ?_, fun h1 h2 hb hp l htr hl => ?_⟩
    · have hop : a.tileOperand = some s1 := by simp [At.tileOperand, hs1, h1]
      simp only [tileEffect, hop, ite_self]
      rfl
    · have hop : a.tileOperand = some s2 := by simp [At.tileOperand, hs1, hs2, h1, h2]
      simp only [tileEffect, hop, ite_self]
      rfl
    · simp only [tileEffect, At.tileOperand_eq_none h1 h2, hb, if_true, At.tileBeyond_eq_none hin, ite_self]
      rfl
    · simp only [tileEffect, At.tileOperand_eq_none h1 h2, hb, if_true, hv, ite_self]
      rfl
    · have hclean : s.AllClean l := hl
      simp only [tileEffect_global h1 h2 hb, At.inOrder_ready hp]
      split_ifs at htr ⊢ with h3
      · rw [At.readAll_local htr hclean, s.flatMap_pieceBytes_local a hclean.allLocal]
        rfl
      · rw [vstGlobal_local htr hclean.allLocal]
        exact hjoins _
  · simp only [vepLoadEffect, At.inOrder, hp]
    rfl
  · simp only [vepLoadEffect, At.inOrder_ready hp, hs1, if_pos hbad]
    rfl
  · simp only [vepLoadEffect, At.inOrder_ready hp, hs1, hal, At.readAll_piece htr hclean, hbad]
    rfl
  · subst hm
    cases hgood : headerOk (s.hbmRead pa 64) with
    | false => simp [parseProg, hgood] at hparse
    | true =>
      simp only [vepLoadEffect, At.inOrder_ready hp, hs1, hal, At.readAll_piece htr hclean, hgood, At.readAll_piece htrb hcleanb, hparse]
      rfl

/-! ### Completion -/

/-- What the completion of the engine's oldest operation leaves (R302, R433). -/
theorem execVectorOpComplete_eq {s : State} {blk grp : Nat} {b : Block} {g : Group} {o : GcOp} {rest : List GcOp}
    (hb : s.block blk = some b) (hg : s.group blk grp = some g) (hops : g.ops = o :: rest) (hstop : g.stopped = false)
    (hpipe : o.pipe = .vector) (hfirst : s.vectorFirst b grp o = true) {t : State} {x : Group}
    (hwork : s.vectorOp b { g with ops := rest, astat := 0, vstat := 0, range := false } o = (t, x)) :
    exec (.vectorOpComplete blk grp) s = .next ((t.putGroup blk grp (g.raisedIn s x)).settleGroup blk grp) := by
  have hgo : (o.pipe != Pipe.vector || g.stopped || !(s.vectorFirst b grp o)) = false := by simp [hpipe, hstop, hfirst]
  show execVectorOpComplete blk grp s = _
  simp only [execVectorOpComplete, hb, hg, hops, hgo, Group.raising, hwork]
  rfl

@[simp] theorem Group.readAcc_acc (g : Group) (m n : Nat) : (g.readAcc m).acc n = g.acc n := by
  unfold Group.readAcc Group.raiseAstat
  split_ifs <;> rfl

@[simp] theorem Group.readAcc_ftz32 (g : Group) (m : Nat) : (g.readAcc m).ftz32 = g.ftz32 := by
  unfold Group.readAcc Group.raiseAstat
  split_ifs <;> rfl

/-- A summary of an accumulator that is not read in INT32 (R442, R350). -/
theorem vsum_acc {s : State} {b : Block} {g : Group} {i : Insn} {x : Nat} (hx : opdOf b.regs i.src1 = .acc x)
    (ht : sTypeOf i.mod ≠ .int32) :
    s.vsum b g i = (s.vectorTime b 64, (g.readAcc x).setScalar (opdOf b.regs i.dst).scalarNo
      (summary (summaryOf i.op) (sTypeOf i.mod) g.ftz32
        ((List.range accSize).map fun j => (accIn (sTypeOf i.mod) .nearest (g.acc x) j).1)).toNat) := by
  simp [State.vsum, hx, Opd.isAcc, Opd.number, ht, summaryElements]

/-- Settles O19: each operation's work, by its operation code. -/
theorem vectorInstructionsComplete : Obligations.VectorInstructionsComplete := by
  unfold Obligations.VectorInstructionsComplete
  intro s blk grp b g o rest hb hg hops hstop hpipe hfirst i d h row leaves
  have hleaves {t : State} {x : Group} (hwork : s.vectorOp b h o = (t, x)) : leaves t x :=
    execVectorOpComplete_eq hb hg hops hstop hpipe hfirst hwork
  have hword : insnOf o.pc o.word o.ext = i := rfl
  have hsum (h8 : 8 ≤ i.op) : s.vectorOp b h o = s.vsum b h i := by
    have h0 : i.op ≠ 0 := by omega
    have h1 : i.op ≠ 1 := by omega
    have h2 : i.op ≠ 2 := by omega
    have h3 : i.op ≠ 3 := by omega
    have h4 : i.op ≠ 4 := by omega
    simp only [State.vectorOp, hword]
  refine ⟨fun ho => hleaves ?_, fun c ho hcall => hleaves ?_, fun ho => hleaves ?_, fun ho hblk => hleaves ?_,
    fun ho hblk => hleaves ?_, fun ho hblk => hleaves ?_, fun h8 x hx => hleaves ?_, fun h8 ht x hx => hleaves ?_⟩
  · simp only [State.vectorOp, hword, ho]
  · simp only [State.vectorOp, hword, ho, hcall]
  · simp only [State.vectorOp, hword, ho]
    rfl
  · simp only [State.vectorOp, hword, ho, hblk]
    rfl
  · simp only [State.vectorOp, hword, ho, hblk]
    rfl
  · rcases ho with ho | ho <;> simp only [State.vectorOp, hword, ho, hblk] <;> rfl
  · rw [hsum h8, State.vsum, hx]
    rfl
  · rw [hsum h8, vsum_acc hx ht]
    rfl

end Sys2Proof.Machine
end

section
/-!
SUPPORT AND PROOF. What the end of a command leaves alone (R145): it speaks to its host and its agent, and touches nothing else.
-/

namespace Sys2Proof.Machine

set_option Elab.async false

/-- `t` differs from `s` at most in what the device shows its hosts and its agent: mailboxes, connectors and messages that have gone out. -/
def State.Reports (s t : State) : Prop :=
  t = { s with conn := t.conn, mbxs := t.mbxs, freeCtr := t.freeCtr, outbox := t.outbox }

namespace State.Reports

variable {s t u : State}

theorem refl (s : State) : s.Reports s := rfl

theorem trans (h : s.Reports t) (k : t.Reports u) : s.Reports u := by
  unfold State.Reports at h k ⊢
  rw [k, h]

theorem ids (h : s.Reports t) : t.ids = s.ids := by rw [h]
theorem time (h : s.Reports t) : t.time = s.time := by rw [h]
theorem stakes (h : s.Reports t) : t.stakes = s.stakes := by rw [h]
theorem abaom (h : s.Reports t) : t.abaom = s.abaom := by rw [h]
theorem ctxs (h : s.Reports t) : t.ctxs = s.ctxs := by rw [h]
theorem share (h : s.Reports t) : t.share = s.share := by rw [h]
theorem compute (h : s.Reports t) : t.compute = s.compute := by rw [h]
theorem xlat (h : s.Reports t) : t.xlat = s.xlat := by rw [h]
theorem fab (h : s.Reports t) : t.fab = s.fab := by rw [h]
theorem coh (h : s.Reports t) : t.coh = s.coh := by rw [h]
theorem mem (h : s.Reports t) : t.mem = s.mem := by rw [h]
theorem joined (h : s.Reports t) : t.joined = s.joined := by rw [h]
theorem monu (h : s.Reports t) : t.monu = s.monu := by rw [h]
theorem pwr (h : s.Reports t) : t.pwr = s.pwr := by rw [h]
theorem trust (h : s.Reports t) : t.trust = s.trust := by rw [h]
theorem dies (h : s.Reports t) : t.dies = s.dies := by rw [h]
theorem obs (h : s.Reports t) : t.obs = s.obs := by rw [h]
theorem pending (h : s.Reports t) : t.pending = s.pending := by rw [h]

theorem setConn (h : s.Reports t) (v : ModuleState) : s.Reports (t.setConn v) := h.trans rfl
theorem setMbxs (h : s.Reports t) (v : List Mailbox) : s.Reports (t.setMbxs v) := h.trans rfl
theorem setFreeCtr (h : s.Reports t) (v : Nat) : s.Reports (t.setFreeCtr v) := h.trans rfl
theorem setOutbox (h : s.Reports t) (v : List Out) : s.Reports (t.setOutbox v) := h.trans rfl

theorem putMbx (h : s.Reports t) (n : Nat) (m : Mailbox) : s.Reports (t.putMbx n m) := h.setMbxs _

theorem interrupt (h : s.Reports t) (n : Nat) : s.Reports (t.interrupt n) := by
  obtain ⟨c, o, hi⟩ := t.interrupt_eq n
  rw [hi]
  exact (h.setConn c).setOutbox o

theorem alertSince (h : s.Reports t) (before : State) : s.Reports (t.alertSince before) := by
  obtain ⟨o, ha⟩ := t.alertSince_eq before
  rw [ha]
  exact h.setOutbox o

theorem tellAgent (h : s.Reports t) (command : Nat) (fields : List Byte) : s.Reports (t.tellAgent command fields) := by
  obtain ⟨f, o, ha⟩ := t.tellAgent_eq command fields
  rw [ha]
  exact (h.setFreeCtr f).setOutbox o

/-- The end of a command is a report (R145). -/
theorem complete (h : s.Reports t) (n status : Nat) (res : List Nat) : s.Reports (t.complete n status res) := by
  unfold State.complete
  dsimp only
  split
  case h_1 => exact h
  case h_2 =>
    split_ifs
    · exact (((h.putMbx _ _).setConn _).alertSince _).tellAgent _ _
    · exact ((h.putMbx _ _).setConn _).alertSince _
    · exact (h.putMbx _ _).interrupt _
    · exact h.putMbx _ _

/-- A fold whose steps are reports. -/
theorem foldl {α : Type} {f : State → α → State} (hf : ∀ u x, State.Reports u (f u x)) (h : s.Reports t) (l : List α) :
    s.Reports (l.foldl f t) := by
  induction l generalizing t with
  | nil => exact h
  | cons x l ih => exact ih (h.trans (hf t x))

end State.Reports

/-- Invalidations whose accesses are over end (R461): reports, beside the translation's own lists. -/
theorem State.settleInvs_reports (s : State) : ∃ x, (s.setXlat x).Reports s.settleInvs :=
  ⟨_, .foldl (fun u _ => (State.Reports.refl u).complete _ _ _) (.refl _) _⟩

@[simp] theorem State.settleInvs_mem (s : State) : s.settleInvs.mem = s.mem := s.settleInvs_reports.elim fun _ h => h.mem
@[simp] theorem State.settleInvs_compute (s : State) : s.settleInvs.compute = s.compute := s.settleInvs_reports.elim fun _ h => h.compute

/-! ### The mailbox whose command ends -/

/-- A mailbox once its command has ended (R145). -/
def State.endedMbx (s : State) (n status : Nat) (res : List Nat) (c : TakenCmd) : Mailbox :=
  let m := s.mbx n
  let words := res.map fun v => BitVec.ofNat 64 v
  { m with
    st := .done, status, resWords := res.length, statusTag := c.tag, doneMt := s.mt, res := words ++ m.res.drop words.length,
    cmd := none }

/-- The mailboxes after a command has ended: the interrupt and the agent's message change none. -/
theorem State.complete_mbxs (s : State) {n : Nat} {c : TakenCmd} (hc : (s.mbx n).cmd = some c) (status : Nat) (res : List Nat) :
    (s.complete n status res).mbxs = s.mbxs.set n (s.endedMbx n status res c) := by
  have hinterrupt (t : State) : (t.interrupt n).mbxs = t.mbxs := by
    obtain ⟨_, _, hi⟩ := t.interrupt_eq n
    simp [hi]
  have halert (t : State) : (t.alertSince s).mbxs = t.mbxs := by
    obtain ⟨_, ha⟩ := t.alertSince_eq s
    simp [ha]
  have htell (t : State) (f : List Byte) : (t.tellAgent 0x80 f).mbxs = t.mbxs := by
    obtain ⟨_, _, ha⟩ := t.tellAgent_eq 0x80 f
    simp [ha]
  simp only [State.complete, hc]
  split_ifs
  · rw [htell, halert]
    rfl
  · rw [halert]
    rfl
  · rw [hinterrupt]
    rfl
  · rfl

/-- The interrupt of a mailbox's end goes out where the mailbox names a hart of a die in service (R152, R153). -/
theorem State.interrupt_outbox (s : State) (n : Nat) :
    (s.interrupt n).outbox =
      if (s.mbx n).eiid ≠ 0 ∧ (s.mbx n).hart ≤ 143 ∧ s.ids.procLive.getLsbD ((s.mbx n).hart / 72) = true then
        .msi (s.mbx n).hart (s.mbx n).eiid :: s.outbox
      else s.outbox := by
  by_cases hoff : (s.mbx n).eiid = 0 ∨ 143 < (s.mbx n).hart
  · rw [State.interrupt, if_pos hoff, if_neg]
    omega
  · by_cases hlive : s.ids.procLive.getLsbD ((s.mbx n).hart / 72) = true
    · have hon : (s.mbx n).eiid ≠ 0 ∧ (s.mbx n).hart ≤ 143 ∧ s.ids.procLive.getLsbD ((s.mbx n).hart / 72) = true :=
        ⟨fun h0 => hoff (.inl h0), not_lt.mp fun h => hoff (.inr h), hlive⟩
      rw [if_pos hon, State.interrupt, if_neg hoff, if_pos hlive]
      dsimp only
      split_ifs <;> rfl
    · rw [State.interrupt, if_neg hoff, if_neg hlive, if_neg fun h => hlive h.2.2]

/-- Settles O25: the ended mailbox, and the frame of a report. -/
theorem commandEnds : Obligations.CommandEnds := by
  unfold Obligations.CommandEnds
  intro s n status res c hn hc t m
  have hm : m = s.endedMbx n status res c := by
    simp [m, t, State.mbx, nth, s.complete_mbxs hc, hn]
  have hframe : s.Reports t := (State.Reports.refl s).complete n status res
  refine ⟨by rw [hm]; rfl, by rw [hm]; rfl, by rw [hm]; rfl, by rw [hm]; rfl, by rw [hm]; rfl, by rw [hm]; rfl, ?words, fun k hk => ?other,
    hframe.ctxs, hframe.mem, hframe.compute, hframe.xlat, hframe.time, hframe.fab, hframe.stakes, hframe.joined, hframe.pending,
    fun h63 => ?outbox⟩
  case words =>
    rw [hm]
    simp [State.endedMbx]
  case other => simp [t, State.mbx, nth, s.complete_mbxs hc, List.getElem?_set_ne hk.symm]
  case outbox =>
    have hsame := State.mbx_putMbx_same hn (s.endedMbx n status res c)
    simp only [t, State.complete, hc, if_neg h63]
    by_cases hirq : c.irq = true ∧ (s.mbx n).doneEn = true
    · have hask : (c.irq && (s.mbx n).doneEn) = true := by simp [hirq]
      rw [if_pos hask]
      refine (State.interrupt_outbox (s.putMbx n (s.endedMbx n status res c)) n).trans ?_
      rw [hsame]
      simp only [State.endedMbx, hirq, true_and]
      rfl
    · have hask : ¬ (c.irq && (s.mbx n).doneEn) = true := by simpa using hirq
      rw [if_neg hask, if_neg fun h => hirq ⟨h.1, h.2.1⟩]
      rfl

end Sys2Proof.Machine
end

section
/-!
SUPPORT AND PROOF. Asynchronous copies and page-table walks (R226 to R237, R293, R448 to R464).
-/

namespace Sys2Proof.Machine

set_option Elab.async false

/-! ### Requests to memory: what queueing them leaves alone -/

/-- `t` is `s` with requests to the memory controllers, the caches' books and the counters moved on: no byte, no translation, no block. -/
structure State.Queues (s t : State) : Prop where
  compute : t.compute = s.compute
  xlat : t.xlat = s.xlat
  ctxs : t.ctxs = s.ctxs
  hbm : t.mem.hbm = s.mem.hbm
  poison : t.mem.poison = s.mem.poison

namespace State.Queues

variable {s t u : State}

theorem refl (s : State) : s.Queues s := ⟨rfl, rfl, rfl, rfl, rfl⟩

theorem trans (h : s.Queues t) (k : t.Queues u) : s.Queues u :=
  ⟨k.compute.trans h.compute, k.xlat.trans h.xlat, k.ctxs.trans h.ctxs, k.hbm.trans h.hbm, k.poison.trans h.poison⟩

theorem foldl {α : Type} {f : State → α → State} (hf : ∀ u x, State.Queues u (f u x)) (h : s.Queues t) (l : List α) :
    s.Queues (l.foldl f t) := by
  induction l generalizing t with
  | nil => exact h
  | cons x l ih => exact ih (h.trans (hf t x))

theorem setMem (h : s.Queues t) (v : MemState) (hhbm : v.hbm = t.mem.hbm) (hpoison : v.poison = t.mem.poison) : s.Queues (t.setMem v) :=
  h.trans ⟨rfl, rfl, rfl, hhbm, hpoison⟩

theorem setShare (h : s.Queues t) (v : ShareState) : s.Queues (t.setShare v) := h.trans ⟨rfl, rfl, rfl, rfl, rfl⟩

theorem setCoh (h : s.Queues t) (v : CohState) : s.Queues (t.setCoh v) := h.trans ⟨rfl, rfl, rfl, rfl, rfl⟩

theorem setObs (h : s.Queues t) (v : ObsState) : s.Queues (t.setObs v) := h.trans ⟨rfl, rfl, rfl, rfl, rfl⟩

theorem markDrain (h : s.Queues t) (p : StackPlace) : s.Queues (t.markDrain p) := by
  unfold State.markDrain
  dsimp only
  split_ifs
  · exact h
  · exact h.setMem _ (by rfl) (by rfl)

theorem admitTracked (h : s.Queues t) : s.Queues t.admitTracked := by
  refine foldl (fun u r => ?_) h _
  dsimp only
  split_ifs
  · exact ((refl u).setMem _ (by rfl) (by rfl)).markDrain _
  · exact refl u

theorem memAsk (h : s.Queues t) (r : MemReq) : s.Queues (t.memAsk r) := by
  unfold State.memAsk
  dsimp only
  split
  · exact (h.setMem _ (by rfl) (by rfl)).admitTracked
  · split
    · split_ifs
      · exact (h.setMem _ (by rfl) (by rfl)).setShare _
      · exact ((h.setMem _ (by rfl) (by rfl)).setShare _).admitTracked
    · exact (h.setMem _ (by rfl) (by rfl)).setShare _

theorem memRequest (h : s.Queues t) (line : Nat) (sectors : BitVec 4) (write : Bool) (cls : MemClass)
    (agent partition ctx : Option Nat) : s.Queues (t.memRequest line sectors write cls agent partition ctx) := h.memAsk _

theorem dropCopies (h : s.Queues t) (line : Nat) : s.Queues (t.dropCopies line) :=
  foldl (fun u _ => (refl u).memRequest _ _ _ _ _ _ _) (h.setCoh _) _

theorem putDir (h : s.Queues t) (d : DirEntry) : s.Queues (t.putDir d) := by
  unfold State.putDir
  dsimp only
  split_ifs
  · exact h.setCoh _
  · exact h.setCoh _
  · split
    · exact (h.setCoh _).dropCopies _
    · exact h.setCoh _

theorem glanceLine (h : s.Queues t) (line : Nat) (sectors : BitVec 4) (cls : MemClass) (partition ctx : Option Nat) :
    s.Queues (t.glanceLine line sectors cls partition ctx) := by
  unfold State.glanceLine
  dsimp only
  split
  · split_ifs
    · exact (h.setCoh _).putDir _
    · exact ((h.setCoh _).putDir _).memRequest _ _ _ _ _ _ _
  · exact h.memRequest _ _ _ _ _ _ _

theorem walkRead (h : s.Queues t) (tile ctx pa : Nat) : s.Queues (t.walkRead tile ctx pa) := by
  unfold State.walkRead
  dsimp only
  split
  · split_ifs
    · exact h
    · exact h.glanceLine _ _ _ _ _
  · exact h.glanceLine _ _ _ _ _

end State.Queues

/-- Counting an event changes counters only (R806). -/
theorem State.progCount_eq (s : State) (cluster ctx code n : Nat) : ∃ o, s.progCount cluster ctx code n = s.setObs o := by
  unfold State.progCount
  dsimp only
  generalize List.range 16 = l
  suffices h : ∀ t : State, (∃ o, t = s.setObs o) → ∃ o, l.foldl _ t = s.setObs o from h s ⟨s.obs, rfl⟩
  induction l with
  | nil => exact fun t ht => ht
  | cons j l ih =>
    rintro t ⟨o, rfl⟩
    refine ih _ ?_
    dsimp only
    split_ifs
    · exact ⟨_, rfl⟩
    · exact ⟨_, rfl⟩

theorem State.Queues.progCount {s t : State} (h : s.Queues t) (cluster ctx code n : Nat) : s.Queues (t.progCount cluster ctx code n) := by
  obtain ⟨o, ho⟩ := t.progCount_eq cluster ctx code n
  rw [ho]
  exact h.setObs o


/-! ### xfer.cv and the landing of its ranges -/

theorem State.bmRead_length (s : State) (b : Block) (off n : Nat) : (s.bmRead b off n).length = n := cellRead_length _ _ _

/-- Bytes moved within block memory land as they are (R229, R383). -/
theorem State.landRange_block {s : State} {b : Block} {c : Copy} (hsrc : c.srcBm = true) (hdst : c.dstBm = true) (lo count : Nat)
    (left : List (Nat × Nat)) :
    s.landRange b c .none lo count left =
      (((s.bmWrite b (c.dst + lo) (s.bmRead b (c.src + lo) count)).tieTake fun w => w == .copy b.id c.id 0).countLanded b c count).putCopy
        b.id { c with left } := by
  have hdata : ((List.replicate lo 0 ++ s.bmRead b (c.src + lo) count ++ List.replicate (c.len - lo - count) 0).drop lo).take count =
      s.bmRead b (c.src + lo) count := by
    rw [List.append_assoc, List.drop_left' List.length_replicate, List.take_left' (s.bmRead_length _ _ _)]
  have hconv : (Conv.none != Conv.none) = false := rfl
  unfold State.landRange
  simp only [Conv.needs, State.copySource, hsrc, if_true, Conv.apply, State.copyScramble, hconv, hdata, Bool.and_false, Bool.false_and, hdst,
    Bool.false_eq_true, if_false]

theorem State.putCopy_frame (s : State) (blk : Nat) (c : Copy) :
    (s.putCopy blk c).compute.bmem = s.compute.bmem ∧ (s.putCopy blk c).mem = s.mem := by
  unfold State.putCopy
  split <;> exact ⟨rfl, rfl⟩

/-- Landed bytes go to the arrival counter (R229), and nothing else of a memory changes. -/
theorem State.countLanded_frame (s : State) (b : Block) (c : Copy) (n : Nat) :
    (s.countLanded b c n).compute =
        (s.bmWrite b c.counter (leBytes 8 ((leNat (s.bmRead b c.counter 8) + n) % 2 ^ 64))).compute
      ∧ (s.countLanded b c n).mem = s.mem := by
  unfold State.countLanded
  dsimp only
  obtain ⟨o, ho⟩ := (((s.bmWrite b c.counter (leBytes 8 ((s.counterAt b c.counter + n) % 2 ^ 64))).count 3 1).progCount_eq b.cluster b.ctx 5 n)
  rw [ho]
  simp only [State.putCtx, State.count, State.bmWrite, State.counterAt, State.setCtxs_compute, State.setCtxs_mem, State.setObs_compute,
    State.setObs_mem, State.setCompute_compute, State.setCompute_mem, and_self]

/-- A range that may be taken out of a list leaves the list with something to take it from. -/
theorem ne_nil_of_takeRange {l left : List (Nat × Nat)} {lo count : Nat} (h : takeRange l lo count = some left) : l ≠ [] := by
  rintro rfl
  cases h

/-- The checks of xfer.cv passed (R304), the copy is queued (R226). -/
theorem xferEffect_good {a : At} {s : State} {c : Conv} {out : Nat} (hconv : convOf (a.i.ext / 2 ^ 33 % 256) = some c)
    (hlen : a.copyLength ≤ 4194304) (hout : c.dstLen a.copyLength = some out)
    (hal : c.aligned (a.scalar a.i.src1) (a.scalar a.i.src2) = true) (hctr : a.copyCounter % 8 = 0)
    (hctrIn : a.copyCounter + 8 ≤ a.b.bmSize) (hsrc : a.i.mod % 2 = 1 → a.scalar a.i.src1 + a.copyLength ≤ a.b.bmSize)
    (hdst : a.i.mod / 2 % 2 = 1 → a.scalar a.i.src2 + out ≤ a.b.bmSize) (hst : c.stochastic = true → 64 ≤ a.b.bmSize)
    (hpos : 0 < out) :
    xferEffect a s = .done a.g (s.putBlock { a.b with
      copies := a.b.copies ++ [{
        id := a.b.nextCopy, core := nth a.b.cores a.gi 0, group := a.gi, srcBm := a.i.mod % 2 == 1, src := a.scalar a.i.src1,
        dstBm := a.i.mod / 2 % 2 == 1, dst := a.scalar a.i.src2, len := a.copyLength, conv := a.i.ext / 2 ^ 33 % 256,
        stream := if c.stochastic then s.streamSlot a.b else ⟨[], 0, 0⟩, counter := a.copyCounter, left := [(0, out)],
        sent := [], after := a.g.lastWriter a.b.regs }],
      nextCopy := a.b.nextCopy + 1 }) := by
  have hsrcOk : ((a.i.mod % 2 == 1) && !(a.b.holds (a.scalar a.i.src1) a.copyLength)) = false := by
    simpa [Block.holds] using hsrc
  have hdstOk : ((a.i.mod / 2 % 2 == 1) && !(a.b.holds (a.scalar a.i.src2) out)) = false := by
    simpa [Block.holds] using hdst
  have hstOk : (c.stochastic && decide (a.b.bmSize < 64)) = false := by
    simpa using hst
  have hctrOk : a.b.holds a.copyCounter 8 = true := decide_eq_true hctrIn
  simp only [xferEffect, hconv, if_neg (Nat.not_lt.mpr hlen), hout, hal, hctr, hctrOk, hsrcOk, hdstOk, hstOk, if_neg hpos.ne']
  rfl

/-- A range of a copy that is ready lands whole where it lies in block memory. -/
theorem State.copyLand_block {s : State} {b : Block} {c : Copy} {lo count : Nat} {left : List (Nat × Nat)}
    (hconv : convOf c.conv = some .none) (hdst : c.dstBm = true) (hsent : c.sent = []) (hpos : 0 < count)
    (htake : takeRange c.left lo count = some left) (hready : s.copyReady b c = true) :
    s.copyLand b c lo count = s.landRange b c .none lo count left := by
  obtain ⟨x, xs, hleft⟩ := List.exists_cons_of_ne_nil (ne_nil_of_takeRange htake)
  have hwhole : s.wholeWords b c lo count = true := by
    simp [State.wholeWords, State.wordBound, hdst, hleft]
  simp [State.copyLand, hconv, hsent, htake, hpos, hready, hwhole]

/-- Settles O20: xfer.cv by its checks, a landing by the bytes that it moves. -/
theorem asynchronousCopies : Obligations.AsynchronousCopies := by
  refine ⟨fun s r a n h hc ho c out hconv hlen hout hal hctr hctrIn hsrc hdst hst hpos => ?issue,
    fun s blk id lo count b c left hb hcopy hconv hsrc hdst hsent hpos htake _ hready => ?land⟩
  case issue =>
    refine (onIssue_of_issuing h hc ho xferEffect).trans ?_
    rw [xferEffect_good hconv hlen hout hal hctr hctrIn hsrc hdst hst hpos]
    rfl
  case land =>
    refine ⟨s.copyLand b c lo count, ?_, ?_⟩
    · show execCopyLand blk id lo count s = _
      simp only [execCopyLand, hb, hcopy]
    · rw [State.copyLand_block hconv hdst hsent hpos htake hready, State.landRange_block hsrc hdst]
      set u := s.bmWrite b (c.dst + lo) (s.bmRead b (c.src + lo) count) with hu
      have hmem : (u.tieTake fun w => w == .copy b.id c.id 0).mem = s.mem := State.settleInvs_mem _
      have hcompute : (u.tieTake fun w => w == .copy b.id c.id 0).compute = u.compute := State.settleInvs_compute _
      obtain ⟨hput, hputMem⟩ := State.putCopy_frame ((u.tieTake fun w => w == .copy b.id c.id 0).countLanded b c count) b.id { c with left }
      obtain ⟨hland, hlandMem⟩ := (u.tieTake fun w => w == .copy b.id c.id 0).countLanded_frame b c count
      refine ⟨?_, hputMem.trans (hlandMem.trans hmem)⟩
      rw [hput, hland]
      simp only [State.bmWrite, State.bmRead, State.setCompute_compute, hcompute]

end Sys2Proof.Machine
end

section
/-!
SUPPORT AND PROOF. Walks and the translations that they leave (R448, R456, R458, R460, R464).
-/

namespace Sys2Proof.Machine

set_option Elab.async false

/-! ### Room in a set (R458) -/

theorem mem_of_mem_dropNth {α : Type} {p : α → Bool} {k : Nat} {l : List α} {x : α} (h : x ∈ dropNth p k l) : x ∈ l := by
  induction l generalizing k with
  | nil => cases k <;> simp [dropNth] at h
  | cons y l ih =>
    cases k <;> simp only [dropNth] at h <;> split_ifs at h
    · exact List.mem_cons_of_mem _ h
    all_goals
      rcases List.mem_cons.mp h with rfl | h
      · exact List.mem_cons_self
      · exact List.mem_cons_of_mem _ (ih h)

/-- One of the elements that meet the condition goes. -/
theorem countP_dropNth {α : Type} {p : α → Bool} {k : Nat} {l : List α} (hk : k < l.countP p) :
    (dropNth p k l).countP p + 1 = l.countP p := by
  induction l generalizing k with
  | nil => simp at hk
  | cons y l ih =>
    rw [List.countP_cons] at hk
    cases k with
    | zero =>
      by_cases hy : p y = true
      · simp [dropNth, hy]
      · simp only [hy] at hk
        simp [dropNth, hy, ih hk]
    | succ k =>
      by_cases hy : p y = true
      · simp only [hy, if_true, Nat.add_lt_add_iff_right] at hk
        simp [dropNth, hy, ih hk]
      · simp only [hy] at hk
        simp [dropNth, hy, ih hk]

/-- ... and no element that meets another one is added. -/
theorem countP_dropNth_le {α : Type} (p q : α → Bool) (k : Nat) (l : List α) : (dropNth p k l).countP q ≤ l.countP q := by
  induction l generalizing k with
  | nil => cases k <;> simp [dropNth]
  | cons y l ih =>
    have htail (k : Nat) : (y :: dropNth p k l).countP q ≤ (y :: l).countP q := by
      simpa only [List.countP_cons] using Nat.add_le_add_right (ih k) _
    cases k <;> simp only [dropNth] <;> split_ifs
    · exact (List.countP_cons ▸ Nat.le_add_right _ _)
    all_goals exact htail _

section Room

variable {α : Type} (s : State) (p : α → Bool) {n : Nat} (l : List α)

/-- Making room costs at most a free value. -/
theorem State.room_state (n : Nat) : ∃ f, (s.room p n l).1 = s.setFreeCtr f := by
  unfold State.room
  split_ifs
  · exact ⟨s.freeCtr, rfl⟩
  · exact ⟨_, rfl⟩

variable {l}

theorem State.mem_of_mem_room {x : α} (h : x ∈ (s.room p n l).2) : x ∈ l := by
  unfold State.room at h
  split_ifs at h
  · exact h
  · exact mem_of_mem_dropNth h

theorem State.countP_room_le (q : α → Bool) : (s.room p n l).2.countP q ≤ l.countP q := by
  unfold State.room
  split_ifs
  · exact le_rfl
  · exact countP_dropNth_le _ _ _ _

/-- After room is made, one more fits (R458). -/
theorem State.countP_room_lt (hn : 0 < n) (hl : l.countP p ≤ n) : (s.room p n l).2.countP p < n := by
  unfold State.room
  split_ifs with hroom
  · simp only [Bool.or_eq_true, decide_eq_true_eq] at hroom
    exact hroom.elim (List.countP_le_length.trans_lt ·) id
  · have hfull : ¬ l.countP p < n := fun h => hroom (by simp [h])
    have hgone := countP_dropNth (p := p) (l := l) (Nat.mod_lt s.fresh.1.toNat (by omega : 0 < l.countP p))
    dsimp only
    omega

end Room

/-- A set that had at most `n` elements of each kind has no more of any kind once `x` has come in for another of its own kind. -/
theorem State.countP_cons_room {α : Type} (s : State) (same : α → α → Bool) (hsymm : ∀ x y, same x y = true → ∀ z, same z x = same z y)
    {n : Nat} (hn : 0 < n) (x y : α) {l : List α} (hl : l.countP (same · y) ≤ n) :
    (x :: (s.room (same · x) n l).2).countP (same · y) ≤ n := by
  rw [List.countP_cons]
  by_cases hxy : same x y = true
  · have hkind : (same · y) = (same · x) := funext fun z => (hsymm x y hxy z).symm
    rw [hkind] at hl ⊢
    have := s.countP_room_lt (same · x) hn hl
    split_ifs
    omega
  · simp only [hxy]
    exact (s.countP_room_le (same · x) (same · y)).trans hl

/-! ### The TLBs and the walker cache -/

theorem TlbEntry.sameSet_congr (x y : TlbEntry) (h : x.sameSet y = true) (z : TlbEntry) : z.sameSet x = z.sameSet y := by
  simp only [TlbEntry.sameSet, Bool.and_eq_true, beq_iff_eq] at h
  simp [TlbEntry.sameSet, h.1, h.2]

theorem L1Entry.mate_congr (x y : L1Entry) (h : x.mate y = true) (z : L1Entry) : z.mate x = z.mate y := by
  simp only [L1Entry.mate, Bool.and_eq_true, beq_iff_eq] at h
  simp [L1Entry.mate, h.1.1, h.1.2, h.2]

/-- A leaf in a cluster's TLB (R458). -/
theorem State.fillTlb_eq (s : State) (e : TlbEntry) : ∃ f l,
    s.fillTlb e = (s.setFreeCtr f).setXlat { s.xlat with tlb := e :: l }
      ∧ (∀ d ∈ l, d ∈ s.xlat.tlb)
      ∧ ∀ d, s.xlat.tlb.countP (fun x => x.sameSet d) ≤ 8 → (e :: l).countP (fun x => x.sameSet d) ≤ 8 := by
  obtain ⟨f, hf⟩ := s.room_state (fun d => d.sameSet e) (s.xlat.tlb.filter fun d => !(d.same e)) 8
  refine ⟨f, (s.room (fun d => d.sameSet e) 8 (s.xlat.tlb.filter fun d => !(d.same e))).2, ?_,
    fun d hd => List.mem_of_mem_filter (s.mem_of_mem_room _ hd), fun d hd => ?_⟩
  · unfold State.fillTlb
    dsimp only
    rw [hf]
    rfl
  · exact s.countP_cons_room TlbEntry.sameSet TlbEntry.sameSet_congr (by decide) e d
      ((List.filter_sublist.countP_le).trans hd)

/-- ... and in an engine's L1 TLB. -/
theorem State.fillL1_eq (s : State) (y : L1Entry) : ∃ f l,
    s.fillL1 y = (s.setFreeCtr f).setXlat { s.xlat with l1 := y :: l }
      ∧ (∀ x ∈ l, x ∈ s.xlat.l1)
      ∧ ∀ z, s.xlat.l1.countP (fun x => x.mate z) ≤ 64 → (y :: l).countP (fun x => x.mate z) ≤ 64 := by
  obtain ⟨f, hf⟩ := s.room_state (fun x => x.mate y) (s.xlat.l1.filter fun x => !(x.mate y && x.entry.same y.entry)) 64
  refine ⟨f, (s.room (fun x => x.mate y) 64 (s.xlat.l1.filter fun x => !(x.mate y && x.entry.same y.entry))).2, ?_,
    fun d hd => List.mem_of_mem_filter (s.mem_of_mem_room _ hd), fun d hd => ?_⟩
  · unfold State.fillL1
    dsimp only
    rw [hf]
    rfl
  · exact s.countP_cons_room L1Entry.mate L1Entry.mate_congr (by decide) y d
      ((List.filter_sublist.countP_le).trans hd)

/-- Pointers of one die's walker cache. -/
def WalkEntry.mate (x y : WalkEntry) : Bool := x.die == y.die

/-- No walker cache that held at most 4,096 pointers holds more. -/
def CacheBounded (l m : List WalkEntry) : Prop := ∀ die, l.countP (fun w => w.die == die) ≤ 4096 → m.countP (fun w => w.die == die) ≤ 4096

/-- Pointers enter the walker cache, and nothing else changes (R458). -/
theorem State.cachePointer_eq (s : State) (x : WalkEntry) : ∃ f l,
    s.cachePointer x = (s.setFreeCtr f).setXlat { s.xlat with walkCache := l } ∧ CacheBounded s.xlat.walkCache l := by
  unfold State.cachePointer
  split_ifs
  · exact ⟨s.freeCtr, s.xlat.walkCache, rfl, fun _ h => h⟩
  · obtain ⟨f, hf⟩ := s.room_state (fun w => w.die == x.die) s.xlat.walkCache 4096
    refine ⟨f, (s.room (fun w => w.die == x.die) 4096 s.xlat.walkCache).2 ++ [x], ?_, fun die hd => ?_⟩
    · dsimp only
      rw [hf]
      rfl
    · have hcons := s.countP_cons_room WalkEntry.mate (fun y z hyz w => by simp [WalkEntry.mate, beq_iff_eq.mp hyz]) (by decide : 0 < 4096)
        x ⟨die, 0, 0, 0⟩ hd
      rw [List.countP_append, Nat.add_comm, ← List.countP_append]
      exact hcons

theorem State.cachePointers_eq (s : State) (die ctx va : Nat) : ∃ f l,
    s.cachePointers die ctx va = (s.setFreeCtr f).setXlat { s.xlat with walkCache := l } ∧ CacheBounded s.xlat.walkCache l := by
  unfold State.cachePointers
  generalize s.walkPointers (some die) ctx va 4 (s.ctx ctx).root = ps
  suffices h : ∀ t : State, (∃ f l, t = (s.setFreeCtr f).setXlat { s.xlat with walkCache := l } ∧ CacheBounded s.xlat.walkCache l) →
      ∃ f l, ps.foldl (fun t p => t.cachePointer ⟨die, ctx, p.1, p.2⟩) t = (s.setFreeCtr f).setXlat { s.xlat with walkCache := l }
        ∧ CacheBounded s.xlat.walkCache l from h s ⟨s.freeCtr, s.xlat.walkCache, rfl, fun _ h => h⟩
  induction ps with
  | nil => exact fun t ht => ht
  | cons p ps ih =>
    rintro t ⟨f, l, rfl, hl⟩
    obtain ⟨f', l', heq, hl'⟩ := ((s.setFreeCtr f).setXlat { s.xlat with walkCache := l }).cachePointer_eq ⟨die, ctx, p.1, p.2⟩
    exact ih _ ⟨f', l', heq, fun d hd => hl' d (hl d hd)⟩

/-- What a walk that has run leaves: its entries read, and pointers kept (R449, R458). -/
structure State.Walked (s t : State) : Prop where
  compute : t.compute = s.compute
  hbm : t.mem.hbm = s.mem.hbm
  poison : t.mem.poison = s.mem.poison
  xlat : ∃ l, t.xlat = { s.xlat with walkCache := l } ∧ CacheBounded s.xlat.walkCache l

theorem State.Queues.walked {s t : State} (h : s.Queues t) : s.Walked t :=
  ⟨h.compute, h.hbm, h.poison, s.xlat.walkCache, h.xlat, fun _ hd => hd⟩

theorem State.walked_walked (s : State) (r : WalkReq) : s.Walked (s.walked r) := by
  have hcount : s.Queues (s.progCount r.by_.place r.ctx 9 1) := (State.Queues.refl s).progCount _ _ _ _
  unfold State.walked
  dsimp only
  split_ifs
  · have hread := State.Queues.foldl (fun u a => (State.Queues.refl u).walkRead (r.by_.place / 24) r.ctx a) hcount
      (s.walkEntries (r.by_.place / 24) r.ctx r.va)
    obtain ⟨f, l, heq, hl⟩ := ((s.walkEntries (r.by_.place / 24) r.ctx r.va).foldl
      (fun u a => u.walkRead (r.by_.place / 24) r.ctx a) (s.progCount r.by_.place r.ctx 9 1)).cachePointers_eq (r.by_.place / 24) r.ctx r.va
    rw [heq]
    refine ⟨hread.compute, hread.hbm, hread.poison, l, ?_, ?_⟩
    · rw [State.setXlat_xlat, hread.xlat]
    · rw [hread.xlat] at hl
      exact hl
  · exact hcount.walked

/-- The core of a waiting access is that of its block (R28). -/
theorem State.waiterCore_congr {s t : State} (h : t.compute = s.compute) (w : Waiter) : t.waiterCore w = s.waiterCore w := by
  cases w <;> simp [State.waiterCore, State.block, h]

/-- Settles O21: a leaf held, or a leaf found. -/
theorem walkFillsTlb : Obligations.WalkFillsTlb := by
  unfold Obligations.WalkFillsTlb
  intro s k q hq u
  have hexec : exec (.walk k) s = .next (if s.walkRuns k q then s.walkOne q else s) := by
    show execWalk k s = _
    simp only [execWalk, hq]
  refine ⟨fun hwait => by rw [hexec, hwait]; rfl, fun hrun hopen => ?_⟩
  have hctx : ((u.ctx q.ctx).st != .opened) = false := by
    show ((s.ctx q.ctx).st != .opened) = false
    rw [hopen]
    rfl
  have hone : s.walkOne q = match u.walkEnd q with
      | .denied f => u.walkFault q f
      | .poison => (u.progCount q.by_.place q.ctx 9 1).hwFault q.ctx
      | .fault f => (u.walked q).walkFault q f
      | .entry e => (u.walked q).keepLeaf q e := by
    unfold State.walkOne
    dsimp only
    rw [if_neg (by rw [hctx]; decide)] <;> rfl
  rw [hexec, hrun, if_pos rfl]
  refine ⟨fun f hf => ?_, fun e c hby hend => ⟨_, rfl, ?_⟩⟩
  · have hend : u.walkEnd q = .denied f := by simp [State.walkEnd, hf]
    rw [hone, hend]
  · obtain ⟨hcompute, hhbm, hpoison, l, hx, hl⟩ := u.walked_walked q
    obtain ⟨f1, tl, htlb, hmem, hset⟩ := (u.walked q).fillTlb_eq e
    obtain ⟨f2, l1, hl1, hmem1, hset1⟩ := ((u.walked q).fillTlb e).fillL1_eq ⟨s.waiterCore q.who, q.engine, e⟩
    have hcore : (u.walked q).waiterCore q.who = s.waiterCore q.who := State.waiterCore_congr hcompute q.who
    have hkeep : (u.walked q).keepLeaf q e = ((u.walked q).fillTlb e).fillL1 ⟨s.waiterCore q.who, q.engine, e⟩ := by
      rw [State.keepLeaf, hby, hcore]
    rw [hone, hend]
    simp only [hkeep, hl1]
    rw [htlb] at hmem1 hset1 ⊢
    simp only [State.setXlat_xlat, State.setXlat_mem, State.setXlat_compute, State.setFreeCtr_mem, State.setFreeCtr_compute, hx,
      hcompute, hhbm, hpoison] at *
    exact ⟨rfl, List.mem_cons_self, List.mem_cons_self, fun d hd => (List.mem_cons.mp hd).imp_right (hmem d),
      fun x hx => (List.mem_cons.mp hx).imp_right (hmem1 x), hset1, hset, hl, rfl, rfl, rfl⟩

end Sys2Proof.Machine
end

section
/-!
SUPPORT AND PROOF. Illegal words (R261, R303), lane registers (R200), and what the execution of an instruction leaves alone.
-/

namespace Sys2Proof.Machine

set_option Elab.async false

/-! ### Illegal instructions -/

/-- What a ready sub-group has at its program counter (R205, R212). -/
theorem State.choose_of_ready {s : State} {r : SubRef} {b : Block} {g : Group} {x : SubGroup} (h : s.subGroup r = some (b, g, x))
    (hready : s.subReady b r.grp g x = true) :
    s.choose r = match s.fetchInsn b r.grp g (mergeInto x (s.mergers b r.grp g x)) with
      | .outside w => .outside (At.merging b r.grp g x (s.mergers b r.grp g x) (insnOf x.pc w 0))
      | .wait t => .fetching t
      | .poison => .poison b.ctx
      | .insn i =>
        if s.opReady b r.grp g x i then
          .insn (At.merging b r.grp g x ((s.mergers b r.grp g x).filter fun o => s.opReady b r.grp g o i) i)
            ((s.mergers b r.grp g x).filter fun o => s.opReady b r.grp g o i).length
        else .idle := by
  have hin : s.choose r = s.chooseIn b r.grp g x := by
    unfold State.subGroup at h
    unfold State.choose
    cases hb : s.block r.blk with
    | none => simp [hb] at h
    | some b' =>
      simp only [hb] at h ⊢
      cases hg : b'.groups[r.grp]? with
      | none => simp [hg] at h
      | some g' =>
        simp only [hg, Option.map_eq_some_iff, Prod.mk.injEq] at h ⊢
        obtain ⟨y, hy, rfl, rfl, rfl⟩ := h
        simp only [hy]
  rw [hin, State.chooseIn, if_pos hready] <;> rfl

/-- A word that is not legal waits for no operand and no engine (R205). -/
theorem State.opReady_illegal (s : State) {b : Block} {i : Insn} (hi : i.legal b.regs = false) (gi : Nat) (g : Group) (x : SubGroup) :
    s.opReady b gi g x i = true := by
  simp [State.opReady, hi]

/-- Settles O22: such a word is chosen as it is, and raises. -/
theorem illegalInstructionRaises : Obligations.IllegalInstructionRaises := by
  unfold Obligations.IllegalInstructionRaises
  intro s r b g x hsub hready others m
  have hchoose := State.choose_of_ready hsub hready
  have hexec : exec (.exception r) s = .next (s.illegalAt r) := rfl
  refine ⟨fun w hw => ?_, fun i hi hill => ?_⟩
  · rw [hexec, State.illegalAt, hchoose, hw]
    rfl
  · have hall (o : SubGroup) : s.opReady b r.grp g o i = true := s.opReady_illegal hill _ _ _
    have hillegal : (At.merging b r.grp g x others i).i.legal (At.merging b r.grp g x others i).b.regs = false := hill
    rw [hexec, State.illegalAt, hchoose, hi]
    simp only [hall, if_true, List.filter_true]
    rw [if_neg (by rw [hillegal]; decide)]
    rfl

/-! ### Lane registers (R200) -/

theorem Group.length_lanes_setLane (g : Group) (l n : Nat) (v : Half) : (g.setLane l n v).lanes.length = g.lanes.length := by
  simp [Group.setLane]

theorem Group.length_lane_setLane (g : Group) (l n : Nat) (v : Half) (k : Nat) :
    (nth (g.setLane l n v).lanes k []).length = (nth g.lanes k []).length := by
  simp only [nth, Group.setLane, List.getElem?_modify]
  by_cases hk : l = k <;> cases hg : g.lanes[k]? <;> simp [hk]

theorem Group.lane_setLane_same {g : Group} {l n : Nat} (v : Half) (hl : l < g.lanes.length) (hn : n < (nth g.lanes l []).length) :
    (g.setLane l n v).lane l n = v := by
  simp only [nth, List.getElem?_eq_getElem hl, Option.getD_some] at hn
  simp [Group.lane, Group.setLane, nth, hl, hn]

theorem Group.lane_setLane_ne (g : Group) {l n k m : Nat} (v : Half) (hne : l ≠ k ∨ n ≠ m) : (g.setLane l n v).lane k m = g.lane k m := by
  simp only [Group.lane, nth, Group.setLane, List.getElem?_modify]
  by_cases hk : l = k
  · have hn : n ≠ m := hne.resolve_left (not_not.mpr hk)
    cases hg : g.lanes[k]? <;> simp [hk, List.getElem?_set_ne hn]
  · simp [hk]

/-! ### Results in consecutive registers (R269, R273) -/

theorem Group.sregs_setLanes32 (g : Group) (l n v k : Nat) : (g.setLanes32 l n v k).sregs = g.sregs := by
  induction k generalizing g n v with
  | zero => rfl
  | succ k ih => exact ih _ _ _

theorem Group.length_lanes_setLanes32 (g : Group) (l n v k : Nat) : (g.setLanes32 l n v k).lanes.length = g.lanes.length := by
  induction k generalizing g n v with
  | zero => rfl
  | succ k ih => exact (ih _ _ _).trans (g.length_lanes_setLane _ _ _)

theorem Group.length_lane_setLanes32 (g : Group) (l n v k m : Nat) :
    (nth (g.setLanes32 l n v k).lanes m []).length = (nth g.lanes m []).length := by
  induction k generalizing g n v with
  | zero => rfl
  | succ k ih => exact (ih _ _ _).trans (g.length_lane_setLane _ _ _ _)

theorem Group.lane_setLanes32_ne (g : Group) {l n v k m j : Nat} (hne : l ≠ m ∨ j < n ∨ n + k ≤ j) :
    (g.setLanes32 l n v k).lane m j = g.lane m j := by
  induction k generalizing g n v with
  | zero => rfl
  | succ k ih => exact (ih _ (by omega)).trans (g.lane_setLane_ne _ (by omega))

theorem Group.lane_setLanes32_same {g : Group} {l n k j : Nat} (v : Nat) (hl : l < g.lanes.length)
    (hn : n + k ≤ (nth g.lanes l []).length) (hj : j < k) :
    (g.setLanes32 l n v k).lane l (n + j) = BitVec.ofNat 32 (v / 2 ^ (32 * j)) := by
  induction k generalizing g n v j with
  | zero => omega
  | succ k ih =>
    cases j with
    | zero =>
      rw [Group.setLanes32, Group.lane_setLanes32_ne _ (by omega), Nat.add_zero, Group.lane_setLane_same _ hl (by omega)]
      simp
    | succ j =>
      have hrec := ih (g := g.setLane l n (BitVec.ofNat 32 v)) (n := n + 1) (j := j) (v / 2 ^ 32)
        (by rwa [Group.length_lanes_setLane]) (by rw [Group.length_lane_setLane]; omega) (by omega)
      rw [Group.setLanes32, show n + (j + 1) = n + 1 + j by omega, hrec, Nat.div_div_eq_div_mul, ← pow_add,
        show 32 + 32 * j = 32 * (j + 1) by omega]

section Lanes

variable (n k : Nat) (f : Nat → Nat)

/-- A result of each lane of a list in `k` registers from `n` on. -/
def Group.setEach (g : Group) (ls : List Nat) : Group := ls.foldl (fun g l => g.setLanes32 l n (f l) k) g

theorem Group.sregs_setEach (g : Group) (ls : List Nat) : (g.setEach n k f ls).sregs = g.sregs := by
  induction ls generalizing g with
  | nil => rfl
  | cons x ls ih => exact (ih _).trans (g.sregs_setLanes32 _ _ _ _)

theorem Group.lane_setEach_ne (g : Group) {ls : List Nat} {l j : Nat} (hne : l ∉ ls ∨ j < n ∨ n + k ≤ j) :
    (g.setEach n k f ls).lane l j = g.lane l j := by
  induction ls generalizing g with
  | nil => rfl
  | cons x ls ih =>
    have hx : x ≠ l ∨ j < n ∨ n + k ≤ j := hne.imp_left fun h hx => h (hx ▸ List.mem_cons_self)
    exact (ih _ (hne.imp_left fun h hl => h (List.mem_cons_of_mem _ hl))).trans (g.lane_setLanes32_ne hx)

theorem Group.lane_setEach_same {g : Group} {ls : List Nat} {l j : Nat} (hls : ls.Nodup) (hmem : l ∈ ls) (hl : l < g.lanes.length)
    (hn : n + k ≤ (nth g.lanes l []).length) (hj : j < k) :
    (g.setEach n k f ls).lane l (n + j) = BitVec.ofNat 32 (f l / 2 ^ (32 * j)) := by
  induction ls generalizing g with
  | nil => simp at hmem
  | cons x ls ih =>
    obtain ⟨hx, hls⟩ := List.nodup_cons.mp hls
    rcases List.mem_cons.mp hmem with rfl | hmem
    · exact (Group.lane_setEach_ne n k f _ (.inl hx)).trans (Group.lane_setLanes32_same _ hl hn hj)
    · exact ih (g := g.setLanes32 x n (f x) k) hls hmem (by rwa [Group.length_lanes_setLanes32])
        (by rwa [Group.length_lane_setLanes32])

end Lanes

theorem mem_lanesOf {m : BitVec 32} {l : Nat} : l ∈ lanesOf m ↔ l < 32 ∧ m.getLsbD l = true := by
  simp [lanesOf]

theorem nodup_lanesOf (m : BitVec 32) : (lanesOf m).Nodup := List.nodup_range.filter _

/-! ### The frame of an execution -/

/-- The counts of an issue go to the counters and to the context's account (R703, R801). -/
theorem State.countIssue_eq (s : State) (a : At) (merges : Nat) :
    ∃ o, s.countIssue a merges = s.setObs o ∨ ∃ x, s.countIssue a merges = (s.setObs o).putCtx a.b.ctx x := by
  obtain ⟨o1, ho1⟩ := s.progCount_eq a.b.cluster a.b.ctx 4 1
  obtain ⟨o2, ho2⟩ := (s.setObs o1).progCount_eq a.b.cluster a.b.ctx 0x0B merges
  unfold State.countIssue
  dsimp only
  rw [ho1, ho2]
  split_ifs
  · exact ⟨_, .inl rfl⟩
  · exact ⟨_, .inl rfl⟩
  · exact ⟨_, .inr ⟨_, rfl⟩⟩
  · exact ⟨_, .inr ⟨_, rfl⟩⟩

theorem State.ctx_putCtx_ne (s : State) {c d : Nat} (hne : d ≠ c) (x : Context) : (s.putCtx c x).ctx d = s.ctx d := by
  simp [State.ctx, State.putCtx, nth, List.getElem?_set_ne hne.symm]

theorem State.block_putGroup (s : State) (blk k : Nat) (g : Group) (id : Nat) :
    (s.putGroup blk k g).block id =
      (s.block id).map fun b => if b.id = blk then { b with groups := b.groups.set k g } else b := by
  unfold State.block State.putGroup
  simp only [State.setCompute_compute, List.find?_map]
  congr 1
  refine congrArg (List.find? · s.compute.blocks) (funext fun b => ?_)
  simp only [Function.comp]
  split_ifs <;> rfl

theorem State.block_id {s : State} {id : Nat} {b : Block} (h : s.block id = some b) : b.id = id := by
  simpa using List.find?_some h

theorem State.group_putGroup_ne (s : State) {blk k id j : Nat} (hne : id ≠ blk ∨ j ≠ k) (g : Group) :
    (s.putGroup blk k g).group id j = s.group id j := by
  unfold State.group
  rw [State.block_putGroup]
  cases hb : s.block id with
  | none => rfl
  | some b =>
    simp only [Option.map_some, Option.bind_some, State.block_id hb]
    split_ifs with h
    · exact List.getElem?_set_ne (hne.resolve_left (not_not.mpr h)).symm
    · rfl

theorem State.group_putGroup_same {s : State} {blk k : Nat} {h : Group} (hg : s.group blk k = some h) (g : Group) :
    (s.putGroup blk k g).group blk k = some g := by
  unfold State.group at hg ⊢
  rw [State.block_putGroup]
  cases hb : s.block blk with
  | none => simp [hb] at hg
  | some b =>
    simp only [hb, Option.bind_some] at hg
    simp only [Option.map_some, Option.bind_some, State.block_id hb, if_true]
    exact List.getElem?_set_self (List.getElem?_eq_some_iff.mp hg).1

/-- Settles O24: registers by the laws of their list, an execution by the fields that it sets. -/
theorem groupRegistersAndFrame : Obligations.GroupRegistersAndFrame := by
  refine ⟨fun g => ⟨fun l j v hl hj => Group.lane_setLane_same v hl hj, fun l j l' j' v hne => g.lane_setLane_ne v hne⟩,
    fun a k f => ⟨fun d hd => ?lane, fun d hd => ?scalar⟩, fun s a n g => ?frame⟩
  case lane =>
    have hwrite : a.write k f = a.g.setEach d k f a.lanes := by
      unfold At.write
      rw [hd]
      rfl
    rw [hwrite]
    refine ⟨a.g.sregs_setEach d k f _, fun l j hne => a.g.lane_setEach_ne d k f (hne.imp_left fun hoff hmem => ?_),
      fun l j hon h32 hj hn hl => Group.lane_setEach_same d k f (nodup_lanesOf _) (mem_lanesOf.mpr ⟨h32, hon⟩) hl hn hj⟩
    rw [(mem_lanesOf.mp hmem).2] at hoff
    cases hoff
  case scalar =>
    have hwrite : a.write k f = a.g.setScalar d (f 0) := by
      unfold At.write
      rw [hd]
    rw [hwrite]
    refine ⟨?_, fun j hj => a.g.scalar_setScalar_ne hj.symm _⟩
    unfold Group.setScalar
    split_ifs <;> rfl
  case frame =>
    intro t
    set u := s.putGroup a.b.id a.gi (g.replace a.sg.id [{ a.sg with pc := a.next }]) with hu
    have hcounts : ∃ o, t = u.setObs o ∨ ∃ x, t = (u.setObs o).putCtx a.b.ctx x := u.countIssue_eq a n
    have hgroup : t.compute = u.compute := by
      obtain ⟨o, ht | ⟨x, ht⟩⟩ := hcounts <;> rw [ht] <;> rfl
    have hgroupEq (blk grp : Nat) : t.group blk grp = u.group blk grp := by
      simp only [State.group, State.block, hgroup]
    have hctx (c : Nat) (hc : c ≠ a.b.ctx) : t.ctx c = s.ctx c := by
      obtain ⟨o, ht | ⟨x, ht⟩⟩ := hcounts <;> rw [ht]
      · rfl
      · exact State.ctx_putCtx_ne _ hc x
    refine ⟨?_, ?_, ?_, ?_, ?_, ?_, ?_, ?_, ?_, ?_, ?_, ?_, by rw [hgroup]; rfl, by rw [hgroup]; rfl, hctx,
      fun blk grp hne => (hgroupEq _ _).trans (s.group_putGroup_ne hne _),
      fun h hh => (hgroupEq _ _).trans (State.group_putGroup_same hh _)⟩
    all_goals obtain ⟨o, ht | ⟨x, ht⟩⟩ := hcounts <;> rw [ht] <;> rfl

end Sys2Proof.Machine
end

section
/-!
SUPPORT AND PROOF. Commands in hand, and the commands that query the device and open and close contexts (R184, R680 to R690, R700).
-/

namespace Sys2Proof.Machine

set_option Elab.async false

/-! ### Commands in hand -/

/-- A command that a mailbox has in hand does its work (R146). -/
theorem runCommand_of_has {s : State} {n op : Nat} (h : s.has n op = true) (f : State → State) : runCommand n op f s = .next (f s) := by
  rw [runCommand, if_pos h]

theorem State.lt_of_has {s : State} {n op : Nat} (h : s.has n op = true) : n < 64 := by
  simp only [State.has, Bool.and_eq_true, decide_eq_true_eq] at h
  exact h.1.1

theorem onEvent_of_true {c : Bool} (h : c = true) (f : State → State) (s : State) : onEvent c f s = .next (f s) := by
  rw [onEvent, if_pos h]

theorem onEvent_of_false {c : Bool} (h : c = false) (f : State → State) (s : State) : onEvent c f s = .next s := by
  simp [onEvent, h]

/-! ### Notices: what they leave alone -/

/-- `t` is `s` with notices posted and a trace record kept: no command in hand, and nothing else but the counters, changes. -/
structure State.Notes (s t : State) : Prop where
  frame : t = { s with conn := t.conn, mbxs := t.mbxs, freeCtr := t.freeCtr, outbox := t.outbox, obs := t.obs }
  hands : ∀ k, (t.mbx k).st = (s.mbx k).st ∧ (t.mbx k).cmd = (s.mbx k).cmd
  length : t.mbxs.length = s.mbxs.length

namespace State.Notes

variable {s t u : State}

theorem refl (s : State) : s.Notes s := ⟨rfl, fun _ => ⟨rfl, rfl⟩, rfl⟩

theorem trans (h : s.Notes t) (k : t.Notes u) : s.Notes u where
  frame := by rw [k.frame, h.frame]
  hands n := ⟨(k.hands n).1.trans (h.hands n).1, (k.hands n).2.trans (h.hands n).2⟩
  length := k.length.trans h.length

theorem ctxs (h : s.Notes t) : t.ctxs = s.ctxs := by rw [h.frame]
theorem time (h : s.Notes t) : t.time = s.time := by rw [h.frame]

theorem setObs (h : s.Notes t) (o : ObsState) : s.Notes (t.setObs o) := h.trans ⟨rfl, fun _ => ⟨rfl, rfl⟩, rfl⟩

theorem foldl {α : Type} {f : State → α → State} (hf : ∀ u x, State.Notes u (f u x)) (h : s.Notes t) (l : List α) :
    s.Notes (l.foldl f t) := by
  induction l generalizing t with
  | nil => exact h
  | cons x l ih => exact ih (h.trans (hf t x))

theorem postNotice (h : s.Notes t) (n : Nat) (words : List Word) : s.Notes (t.postNotice n words) := by
  obtain ⟨c, f, o, hpost⟩ := t.postNotice_eq n words
  have hst (m : Mailbox) : (m.noticed words).st = m.st ∧ (m.noticed words).cmd = m.cmd := by
    unfold Mailbox.noticed
    split_ifs <;> exact ⟨rfl, rfl⟩
  refine h.trans ⟨by rw [hpost]; rfl, fun k => ?_, by rw [hpost]; simp [State.putMbx]⟩
  have hmbx : (t.postNotice n words).mbx k = (t.putMbx n ((t.mbx n).noticed words)).mbx k := by
    rw [hpost]
    rfl
  rw [hmbx]
  by_cases hk : k = n
  · subst hk
    by_cases hlen : k < t.mbxs.length
    · rw [State.mbx_putMbx_same hlen]
      exact hst _
    · rw [State.putMbx, List.set_eq_of_length_le (not_lt.mp hlen)]
      exact ⟨rfl, rfl⟩
  · rw [State.mbx_putMbx_ne _ hk]
    exact ⟨rfl, rfl⟩

theorem putUnit (h : s.Notes t) (u : Nat) (x : TraceUnit) : s.Notes (t.putUnit u x) := h.setObs _

theorem traceKept (h : s.Notes t) (u mt flags : Nat) (rec : List Word) : s.Notes (t.traceKept u mt flags rec) := by
  unfold State.traceKept
  dsimp only
  split_ifs
  · exact h.putUnit _ _
  · exact (h.putUnit _ _).setObs _
  · exact h

theorem fireTrigger (h : s.Notes t) (mt : Nat) (late : Bool) : s.Notes (t.fireTrigger mt late) := by
  unfold State.fireTrigger
  dsimp only
  split_ifs
  · exact h.setObs _
  · exact h

theorem notify (h : s.Notes t) (mbxs : List Nat) (kind status ctx mt flags : Nat) (detail : List Nat) :
    s.Notes (t.notify mbxs kind status ctx mt flags detail) := by
  have hpost := foldl (fun u n => (refl u).postNotice n (noticeWords kind status flags ctx mt detail)) h mbxs
  unfold State.notify
  dsimp only
  split_ifs
  · exact (hpost.traceKept _ _ _ _).fireTrigger _ _
  · exact hpost.traceKept _ _ _ _

end State.Notes

/-! ### Contexts -/

theorem State.ctx_putCtx_same {s : State} {c : Nat} (hc : c < s.ctxs.length) (x : Context) : (s.putCtx c x).ctx c = x := by
  simp [State.ctx, State.putCtx, nth, hc]

theorem State.ctx_congr {s t : State} (h : t.ctxs = s.ctxs) (c : Nat) : t.ctx c = s.ctx c := by
  rw [State.ctx, State.ctx, h]

/-- The context that a mailbox is bound to depends on the contexts' mailboxes and states alone (R681). -/
theorem State.boundCtx_congr {s t : State} (h : ∀ c, (t.ctx c).mbx = (s.ctx c).mbx ∧ (t.ctx c).st = (s.ctx c).st) (n : Nat) :
    t.boundCtx n = s.boundCtx n := by
  simp only [State.boundCtx, fun c => (h c).1, fun c => (h c).2]

/-- The CTX_CLOSE commands that wait for a teardown are those in hand: notices change none (R689). -/
theorem State.closers_congr {s t : State} (hctx : ∀ c, (t.ctx c).mbx = (s.ctx c).mbx ∧ (t.ctx c).st = (s.ctx c).st)
    (hmbx : ∀ k, (t.mbx k).st = (s.mbx k).st ∧ (t.mbx k).cmd = (s.mbx k).cmd) (ctx : Nat) : t.closers ctx = s.closers ctx := by
  simp only [State.closers, State.namedCtx, State.arg, State.boundCtx_congr hctx, fun k => (hmbx k).1, fun k => (hmbx k).2]

/-- The free context that CTX_OPEN takes is the lowest (R681). -/
theorem State.freeContext_eq_none {s : State} (h : ∀ c < 64, (s.ctx c).st ≠ .closed) : s.freeContext = none := by
  simp only [State.freeContext, List.find?_eq_none, List.mem_range, beq_iff_eq]
  exact h

theorem find?_range_eq_some {p : Nat → Bool} {n c : Nat} (hc : c < n) (hp : p c = true) (hlow : ∀ d < c, p d = false) :
    (List.range n).find? p = some c := by
  rw [List.find?_range_eq_some]
  exact ⟨hp, List.mem_range.mpr hc, fun d hd => by simp [hlow d hd]⟩

theorem find?_range_eq_none {p : Nat → Bool} {n : Nat} (h : ∀ d < n, p d = false) : (List.range n).find? p = none := by
  rw [List.find?_eq_none]
  intro d hd
  simp [h d (List.mem_range.mp hd)]

theorem State.freeContext_eq_some {s : State} {c : Nat} (hc : c < 64) (hfree : (s.ctx c).st = .closed)
    (hlow : ∀ d < c, (s.ctx d).st ≠ .closed) : s.freeContext = some c :=
  find?_range_eq_some hc (by simp [hfree]) fun d hd => by simpa using hlow d hd

/-- CTX_OPEN where its mailbox may be bound (R681 to R683). -/
theorem State.ctxOpen_free {s : State} {n : Nat}
    (hfree : s.arg n 0 % 256 = 0 ∨ s.boundCtx (s.arg n 0 % 256) = none) :
    s.ctxOpen n = match s.freeContext with
      | none => s.complete n stNoResource []
      | some c =>
        if 4096 < s.quotas + s.arg n 0 / 2 ^ 16 % 2 ^ 13 then s.complete n stNoResource []
        else
          (s.openContext c (s.arg n 0 % 256) (s.arg n 0 / 2 ^ 8 % 16) (s.arg n 0 / 2 ^ 16 % 2 ^ 13) (s.arg n 1) (s.arg n 2 % 256)
            (s.arg n 2 / 2 ^ 16 % 2 ^ 11)).complete n stOk [c] := by
  have hno : ¬ (s.arg n 0 % 256 ≠ 0 ∧ (s.boundCtx (s.arg n 0 % 256)).isSome = true) := fun ⟨h0, hb⟩ =>
    hfree.elim h0 fun hnone => by simp [hnone] at hb
  unfold State.ctxOpen
  dsimp only
  rw [if_neg hno] <;> rfl

theorem State.openContext_frame (s : State) {c : Nat} (hc : c < s.ctxs.length) (mbx partition quota root hart eiid : Nat) :
    let t := s.openContext c mbx partition quota root hart eiid
    t.ctx c = { Context.reset with
      st := .opened, mbx, partition, quota, root, hostEpoch := s.abaom.beat.epoch, openMt := s.time.mt }
    ∧ (∀ d, d ≠ c → t.ctx d = s.ctx d) ∧ t.mem = s.mem ∧ t.compute = s.compute ∧ t.abaom = s.abaom := by
  have hctxs : (s.openContext c mbx partition quota root hart eiid).ctxs = (s.putCtx c { Context.reset with
      st := .opened, mbx, partition, quota, root, hostEpoch := s.abaom.beat.epoch, openMt := s.mt }).ctxs := by
    unfold State.openContext
    dsimp only
    split_ifs <;> rfl
  refine ⟨?_, fun d hd => ?_, ?_⟩
  · rw [State.ctx_congr hctxs, State.ctx_putCtx_same hc]
    rfl
  · rw [State.ctx_congr hctxs, State.ctx_putCtx_ne _ hd]
  · unfold State.openContext
    dsimp only
    split_ifs <;> exact ⟨rfl, rfl, rfl⟩

theorem Context.queryWord_eq (x : Context) : x.queryWord =
    (match x.st with | .closed => 0 | .opened => 1 | .tornDown => 2) + x.mbx * 2 ^ 8 + x.partition * 2 ^ 16 + x.cause * 2 ^ 32 := by
  simp only [Context.queryWord, placed_eq_mul]
  cases x.st <;> rfl

/-- Steps 4 to 6 of a teardown with one CTX_CLOSE that waits (R686, R689). -/
theorem State.endContext_closer {s : State} {n c : Nat} {cmd : TakenCmd} (hc : c < s.ctxs.length) (hn : n < s.mbxs.length)
    (hcmd : (s.mbx n).cmd = some cmd) (hclosers : s.closers c = [n]) (hend : (s.ctx c).ending = true)
    (hpass : ∀ p ∈ s.abaom.passes, p.ctx ≠ c) (hexc : s.excOut c = false) :
    let t := s.endContext c
    (t.ctx c).st = .closed ∧ (t.ctx c).mbx = 0 ∧ (t.ctx c).ending = false ∧ (t.ctx c).endMt = s.time.mt
    ∧ (t.mbx n).st = .done ∧ (t.mbx n).status = 0 ∧ ∀ d, d ≠ c → t.ctx d = s.ctx d := by
  let d := (s.dropTranslations c).putCtx c { s.ctx c with endMt := s.mt, ending := false }
  have hd : d.ctx c = { s.ctx c with endMt := s.mt, ending := false } := State.ctx_putCtx_same (s := s.dropTranslations c) hc _
  have hdne (k : Nat) (hk : k ≠ c) : d.ctx k = s.ctx k := State.ctx_putCtx_ne (s.dropTranslations c) hk _
  obtain ⟨v, hv, hnotes⟩ : ∃ v, s.endContext c = v.closeContext c ∧ d.Notes v := by
    have hgo : (!(s.ctx c).ending || (s.abaom.passes.any fun p => p.ctx == c) || s.excOut c) = false := by
      simpa [hend, hexc] using hpass
    unfold State.endContext
    dsimp only
    rw [if_neg (by rw [hgo]; decide)]
    split_ifs
    · exact ⟨_, rfl, .refl _⟩
    · exact ⟨_, rfl, (State.Notes.refl _).notify _ _ _ _ _ _ _⟩
  have hvctx (k : Nat) : v.ctx k = d.ctx k := State.ctx_congr hnotes.ctxs k
  have hhands (k : Nat) : (v.ctx k).mbx = (s.ctx k).mbx ∧ (v.ctx k).st = (s.ctx k).st := by
    rw [hvctx]
    by_cases hk : k = c
    · rw [hk, hd]
      exact ⟨rfl, rfl⟩
    · rw [hdne k hk]
      exact ⟨rfl, rfl⟩
  have hclose : v.closeContext c = (v.putCtx c { v.ctx c with st := .closed, mbx := 0 }).complete n stOk [] := by
    rw [State.closeContext, State.closers_congr hhands hnotes.hands, hclosers]
    rfl
  have hlen : c < v.ctxs.length := by
    rw [hnotes.ctxs]
    show c < (s.ctxs.set c _).length
    rwa [List.length_set]
  have hframe := (State.Reports.refl (v.putCtx c { v.ctx c with st := .closed, mbx := 0 })).complete n stOk []
  have hctx : (s.endContext c).ctx c = { s.ctx c with endMt := s.mt, ending := false, st := .closed, mbx := 0 } := by
    rw [hv, hclose, State.ctx_congr hframe.ctxs, State.ctx_putCtx_same hlen, hvctx, hd]
  have hmbx : (s.endContext c).mbx n = (v.putCtx c { v.ctx c with st := .closed, mbx := 0 }).endedMbx n stOk [] cmd := by
    have hin : ((v.putCtx c { v.ctx c with st := .closed, mbx := 0 }).mbx n).cmd = some cmd := (hnotes.hands n).2.trans hcmd
    have hvn : n < v.mbxs.length := hnotes.length ▸ hn
    rw [hv, hclose, State.mbx, State.complete_mbxs _ hin]
    exact State.mbx_putMbx_same (s := v.putCtx c { v.ctx c with st := .closed, mbx := 0 }) hvn _
  intro t
  rw [hctx, hmbx]
  refine ⟨rfl, rfl, rfl, rfl, rfl, rfl, fun k hk => ?_⟩
  rw [show t = s.endContext c from rfl, hv, hclose, State.ctx_congr hframe.ctxs, State.ctx_putCtx_ne _ hk, hvctx, hdne k hk]

/-- Settles O26: each command by the cases of its effect. -/
theorem queryAndContextCommands : Obligations.QueryAndContextCommands := by
  unfold Obligations.QueryAndContextCommands
  intro s n a named
  refine ⟨fun h => (runCommand_of_has h (·.identify n)).trans ?_, fun h => (runCommand_of_has h (·.queryCaps n)).trans ?_,
    fun h => runCommand_of_has h fun s => s.complete n stOk [s.mt, s.mtStatus, asWord s.time.offset, s.mtDatum],
    fun h => (runCommand_of_has h fun s => s.complete n stOk [(s.ctx (s.namedCtx n (s.arg n 0))).queryWord]).trans ?_,
    fun h => runCommand_of_has h fun s => s.complete n stOk (s.acctRecord (s.namedCtx n (s.arg n 0))),
    fun h => ⟨fun h0 hb => (runCommand_of_has h (·.ctxOpen n)).trans ?_,
      fun hfree hfull => (runCommand_of_has h (·.ctxOpen n)).trans ?_,
      fun hfree c hc hclosed hlow => (runCommand_of_has h (·.ctxOpen n)).trans ?_⟩,
    fun c mbx partition quota root hart eiid hc => s.openContext_frame hc mbx partition quota root hart eiid,
    fun h => (runCommand_of_has h (·.ctxClose n)).trans ?_,
    fun c cmd hc hn hcmd hclosers hend _ hpass hexc => State.endContext_closer hc hn hcmd hclosers hend hpass hexc⟩
  · rw [State.identify, placed_eq_mul, placed_eq_mul]
    cases s.trust.image with
    | none => rw [Option.map_none, Option.getD_none, Nat.zero_mul]; rfl
    | some i => rfl
  · rw [State.queryCaps, placed_eq_mul]
    rfl
  · rw [Context.queryWord_eq]
    rfl
  · unfold State.ctxOpen
    dsimp only
    rw [if_pos ⟨h0, hb⟩]
    rfl
  · rw [State.ctxOpen_free hfree, State.freeContext_eq_none hfull]
    rfl
  · rw [State.ctxOpen_free hfree, State.freeContext_eq_some hc hclosed hlow]
    exact apply_ite Host.Outcome.next _ _ _
  · rw [State.ctxClose]
    cases (s.ctx (s.namedCtx n (s.arg n 0))).st with
    | closed => rfl
    | opened => rfl
    | tornDown => exact apply_ite Host.Outcome.next _ _ _

end Sys2Proof.Machine
end

section
/-!
SUPPORT AND PROOF. Partitions, regulators, registered lines and translations (R161, R186 to R189, R461, R462, R480 to R482, R691 to R696).
-/

namespace Sys2Proof.Machine

set_option Elab.async false

/-! ### Partitions -/

theorem nth_mapIdx {α : Type} (f : Nat → α → α) {l : List α} {k : Nat} (hk : k < l.length) (d : α) :
    nth (l.mapIdx f) k d = f k (nth l k d) := by
  simp [nth, hk]

theorem nth_mapIdx_same {α : Type} (f : Nat → α → α) (l : List α) {k : Nat} (d : α) (hf : ∀ x, f k x = x) :
    nth (l.mapIdx f) k d = nth l k d := by
  rw [nth, nth, List.getElem?_mapIdx]
  cases l[k]? with
  | none => rfl
  | some x => rw [Option.map_some, hf]

/-- A new map in force (R693, R694, R807). -/
theorem State.setPartitions_frame (s : State) (map : Nat) :
    let t := s.setPartitions map
    t.share.tiles = (List.range 8).map (fun d => map / 2 ^ (4 * d) % 16)
    ∧ t.share.localNext = map / 2 ^ 32 % 256 ∧ t.ctxs = s.ctxs ∧ t.mem = s.mem
    ∧ (∀ k, k / 16 ∈ s.touchedPartitions map → k < s.obs.sels.length → (nth t.obs.sels k CounterSel.reset).valid = false)
    ∧ ∀ k, k / 16 ∉ s.touchedPartitions map → nth t.obs.sels k CounterSel.reset = nth s.obs.sels k CounterSel.reset := by
  refine ⟨rfl, rfl, rfl, rfl, fun k hk hlen => ?_, fun k hk => nth_mapIdx_same _ s.obs.sels _ fun x => ?_⟩
  · refine (congrArg CounterSel.valid (nth_mapIdx _ hlen _)).trans ?_
    rw [if_pos (List.contains_iff_mem.mpr hk)]
  · rw [if_neg (by simpa using hk)]

/-- A report leaves the counters and the partitions. -/
theorem State.Reports.partitions {s t : State} (h : s.Reports t) : t.share = s.share ∧ t.obs = s.obs ∧ t.ctxs = s.ctxs ∧ t.mem = s.mem :=
  ⟨h.share, h.obs, h.ctxs, h.mem⟩

/-! ### Registered lines -/

theorem State.freeWatch_eq_some {s : State} {id : Nat} (hid : id < 4096) (hlow : ∀ d < id, (s.watch d).isSome = true)
    (hfree : s.watch id = none) : s.freeWatch = some id :=
  find?_range_eq_some hid (by simp [hfree]) fun d hd => by simp [← Option.not_isSome, hlow d hd]

theorem State.freeWatch_eq_none {s : State} (h : ∀ d < 4096, (s.watch d).isSome = true) : s.freeWatch = none :=
  find?_range_eq_none fun d hd => Option.isNone_eq_false_iff.mpr (h d hd)

/-- A line in this device's memory is registered while watches and the quota last (R187 to R189). -/
theorem State.register_local {s : State} {ctx va pa : Nat} (hpa : s.cpTranslate ctx .read va 256 = .pieces [⟨.local_ pa, va, 256⟩]) (n : Nat)
    (kind : WatchKind) :
    s.register n ctx va kind = match s.freeWatch with
      | none => s.complete n stNoResource []
      | some id =>
        if (s.ctx ctx).quota ≤ (s.abaom.watches.filter fun w => w.ctx == ctx).length then s.complete n stNoResource []
        else (s.setAbaom { s.abaom with watches := s.abaom.watches ++ [⟨id, kind, ctx, va, pa / 256, true, false⟩] }).complete n stOk [id] := by
  cases hfree : s.freeWatch with
  | none => simp only [State.register, hpa, hfree]
  | some id => simp only [State.register, hpa, hfree]

theorem State.register_full {s : State} {ctx va pa : Nat} (hpa : s.cpTranslate ctx .read va 256 = .pieces [⟨.local_ pa, va, 256⟩]) (n : Nat)
    (kind : WatchKind) (hquota : (s.ctx ctx).quota ≤ (s.abaom.watches.filter fun w => w.ctx == ctx).length) :
    s.register n ctx va kind = s.complete n stNoResource [] := by
  rw [State.register_local hpa]
  cases s.freeWatch with
  | none => rfl
  | some id => exact if_pos hquota

/-- The two commands that register a line do so for the context that they name (R188). -/
theorem exec_register {s : State} {n ctx va : Nat} {c : Instr} {kind : WatchKind}
    (h : s.has n (match kind with | .list _ => 0x0300 | .flag => 0x0301) = true)
    (hmem : (c, ctx, va, kind) ∈ [(Instr.listRegister n, s.namedCtx n (s.arg n 2), s.arg n 0, WatchKind.list (s.arg n 1)),
      (.watchFlag n, s.namedCtx n (s.arg n 1), s.arg n 0, .flag)]) : exec c s = .next (s.register n ctx va kind) := by
  simp only [List.mem_cons, Prod.mk.injEq, List.not_mem_nil, or_false] at hmem
  rcases hmem with ⟨rfl, rfl, rfl, rfl⟩ | ⟨rfl, rfl, rfl, rfl⟩
  · exact runCommand_of_has h fun s => s.register n (s.namedCtx n (s.arg n 2)) (s.arg n 0) (.list (s.arg n 1))
  · exact runCommand_of_has h fun s => s.register n (s.namedCtx n (s.arg n 1)) (s.arg n 0) .flag

theorem State.unwatch_eq {s : State} {n : Nat} {w : Watch} (hw : s.watch (s.arg n 0 % 4096) = some w) :
    s.unwatch n =
      if ∃ c, s.boundCtx n = some c ∧ c ≠ w.ctx then s.complete n stBadArg []
      else if w.kind ≠ .flag ∧ (s.hbmWord (w.line * 256)).toNat % 4 = 2 then s.complete n stBadState []
      else (s.setAbaom { s.abaom with watches := s.abaom.watches.filter fun v => v.id != w.id }).complete n stOk [] := by
  have hbound : (match s.boundCtx n with | some c => c != w.ctx | none => false) = true ↔ ∃ c, s.boundCtx n = some c ∧ c ≠ w.ctx := by
    cases s.boundCtx n <;> simp
  have hlist : (w.isList && s.flagDevice w) = true ↔ w.kind ≠ .flag ∧ (s.hbmWord (w.line * 256)).toNat % 4 = 2 := by
    cases hk : w.kind <;> simp [Watch.isList, State.flagDevice, hk]
  simp only [State.unwatch, hw, ← hbound, ← hlist] <;> rfl

/-- Settles O27: each command by the cases of its effect. -/
theorem partitionAndRegistrationCommands : Obligations.PartitionAndRegistrationCommands := by
  refine ⟨fun s n => ?partitions, fun s n => ?lines⟩
  case partitions =>
    intro a
    refine ⟨fun h => ?_, fun h => runCommand_of_has h (·.regSet n)⟩
    intro moved touched
    have htouched : touched = s.touchedPartitions (a 0) := rfl
    have hexec : exec (.partSet n) s = .next (s.partSet n) := runCommand_of_has h (·.partSet n)
    refine ⟨fun ⟨c, hc, hopen, hp⟩ => ?_, fun hfree => ⟨s.setPartitions (a 0), ?_, ?_⟩⟩
    · have hbusy : (s.ctxs.any fun c => c.st != .closed && (s.touchedPartitions (s.arg n 0)).contains c.partition) = true :=
        List.any_eq_true.mpr ⟨c, hc, by
          simp only [Bool.and_eq_true, bne_iff_ne, List.contains_iff_mem]
          exact ⟨hopen, hp⟩⟩
      rw [hexec, State.partSet]
      rw [if_pos hbusy]
      rfl
    · have hidle : ¬ (s.ctxs.any fun c => c.st != .closed && (s.touchedPartitions (s.arg n 0)).contains c.partition) = true := by
        rintro hany
        obtain ⟨c, hc, hbad⟩ := List.any_eq_true.mp hany
        simp only [Bool.and_eq_true, bne_iff_ne, List.contains_iff_mem] at hbad
        exact (hfree c hc).elim hbad.1 fun hno => hno hbad.2
      rw [hexec, State.partSet]
      rw [if_neg hidle]
      rfl
    · exact s.setPartitions_frame (a 0)
  case lines =>
    intro a
    refine ⟨fun c ctx va kind hmem h => ?_, fun h => ?_⟩
    · have hexec := exec_register h hmem
      refine ⟨fun pa hpa => ⟨fun id hid hlow hfree hquota => ?_, fun hfull => ?_, fun hquota => ?_⟩, fun f v hf => ?_⟩
      · rw [hexec, State.register_local hpa, State.freeWatch_eq_some hid hlow hfree]
        dsimp only
        rw [if_neg (Nat.not_le.mpr hquota)]
        rfl
      · rw [hexec, State.register_local hpa, State.freeWatch_eq_none hfull]
        rfl
      · rw [hexec, State.register_full hpa n kind hquota]
        rfl
      · rw [hexec, State.register, hf]
        rfl
    · have hexec : exec (.unwatchFlag n) s = .next (s.unwatch n) := runCommand_of_has h (·.unwatch n)
      refine ⟨fun hnone => ?_, fun w hw => ?_⟩
      · rw [hexec, State.unwatch, hnone]
        rfl
      · rw [hexec, State.unwatch_eq hw, apply_ite Host.Outcome.next, apply_ite Host.Outcome.next]
        rfl

/-! ### Translations -/

/-- TLB_INVALIDATE before the wait: the drops, and the wait noted (R461). -/
def State.invalidating (s : State) (n : Nat) : State :=
  let c := s.namedCtx n (s.arg n 0)
  let r := s.invalidate c (s.arg n 1) (s.arg n 2)
  let tags := r.2 ++ (r.1.xlat.overdue.filter fun o => o.1 == c).map (·.2)
  (r.1.setXlat { r.1.xlat with invs := r.1.xlat.invs ++ [⟨n, c, tags⟩] }).begin_ n

theorem State.tlbInvalidate_eq (s : State) (n : Nat) : s.tlbInvalidate n = (s.invalidating n).settleInvs := rfl

/-- The ends of invalidations leave the translations (R461). -/
theorem State.settleInvs_translations (s : State) :
    s.settleInvs.xlat.tlb = s.xlat.tlb ∧ s.settleInvs.xlat.l1 = s.xlat.l1 ∧ s.settleInvs.xlat.walkCache = s.xlat.walkCache := by
  have h : (s.setXlat { s.xlat with
      invs := s.xlat.invs.filter (fun i => i.tags.any s.outstanding.contains),
      overdue := s.xlat.overdue.filter fun o => s.outstanding.contains o.2 }).Reports s.settleInvs :=
    .foldl (fun u _ => (State.Reports.refl u).complete _ _ _) (.refl _) _
  rw [h.xlat]
  exact ⟨rfl, rfl, rfl⟩

theorem State.mbx_begin_same {s : State} {n : Nat} (hn : n < s.mbxs.length) :
    (s.begin_ n).mbx n = { s.mbx n with cmd := (s.mbx n).cmd.map fun c => { c with begun := true } } :=
  State.mbx_putMbx_same hn _

theorem State.cmd_of_has {s : State} {n op : Nat} (h : s.has n op = true) : ∃ c, (s.mbx n).cmd = some c := by
  cases hc : (s.mbx n).cmd with
  | none => simp [State.has, hc] at h
  | some c => exact ⟨c, rfl⟩

/-- Where no access is outstanding, an invalidation ends at once with OK. -/
theorem State.settleInvs_alone {s : State} {n c : Nat} {cmd : TakenCmd} (hn : n < s.mbxs.length) (hcmd : (s.mbx n).cmd = some cmd)
    (hinvs : s.xlat.invs = [⟨n, c, []⟩]) : (s.settleInvs.mbx n).st = .done ∧ (s.settleInvs.mbx n).status = 0 := by
  let t := s.setXlat { s.xlat with
    invs := s.xlat.invs.filter (fun i => i.tags.any s.outstanding.contains),
    overdue := s.xlat.overdue.filter fun o => s.outstanding.contains o.2 }
  have hsettle : s.settleInvs = t.complete n stOk [] := by
    simp [State.settleInvs, hinvs, t]
  have hmbx : (t.complete n stOk []).mbx n = t.endedMbx n stOk [] cmd := by
    rw [State.mbx, State.complete_mbxs t hcmd]
    exact State.mbx_putMbx_same (s := t) hn _
  rw [hsettle, hmbx]
  exact ⟨rfl, rfl⟩

theorem windowOf_valid (w0 w1 w2 w3 : Nat) : (windowOf w0 w1 w2 w3).valid = (w0 / 2 ^ 63 % 2 == 1) := rfl

theorem mod_two_eq_one_beq {x : Nat} (h : x % 2 = 0) : (x % 2 == 1) = false := by simp [h]

/-- A window taken away, or put in place of the one of its index (R480, R482). -/
theorem State.tieTaken_ties (s : State) (n : Nat) :
    let k := s.arg n 0 % 2 ^ 16
    let w := windowOf (s.arg n 1) (s.arg n 2) (s.arg n 3) (s.arg n 4)
    let rest := s.xlat.ties.filter fun e => e.1 != k
    (s.tieTaken n).xlat.ties = if w.valid then (k, w) :: rest else rest := rfl

/-- A lookup by index in a list without the entries of one index. -/
theorem find?_filter_index {α : Type} (l : List (Nat × α)) (j k : Nat) :
    (l.filter fun e => e.1 != k).find? (fun e => e.1 == j) = if j = k then none else l.find? fun e => e.1 == j := by
  rw [List.find?_filter]
  split_ifs with hjk
  · simp only [List.find?_eq_none, bne_iff_ne, beq_iff_eq, decide_eq_true_eq, not_and]
    exact fun e _ hne he => hne (he.trans hjk)
  · refine congrArg (List.find? · l) (funext fun e => ?_)
    by_cases he : e.1 = j <;> simp [he, hjk]

/-- The entries of a table of windows, apart from those of one index. -/
def otherTies (l : List (Nat × TieWindow)) (k : Nat) : List (Nat × TieWindow) := l.filter fun e => e.1 != k

theorem otherTies_idem (l : List (Nat × TieWindow)) (k : Nat) : otherTies (otherTies l k) k = otherTies l k := by
  simp [otherTies, List.filter_filter]

/-- What a TIMEOUT puts back in place of a window: the one that was there, where its context is still OPEN (R147, R482). -/
theorem State.tieUndone_tieTaken_ties (s : State) (n : Nat) :
    ((s.tieTaken n).tieUndone n).xlat.ties =
      match s.xlat.ties.find? fun e => e.1 == s.arg n 0 % 2 ^ 16 with
      | some e => if (s.ctx e.2.ctx).st == .opened then (s.arg n 0 % 2 ^ 16, e.2) :: otherTies s.xlat.ties (s.arg n 0 % 2 ^ 16)
          else otherTies s.xlat.ties (s.arg n 0 % 2 ^ 16)
      | none => otherTies s.xlat.ties (s.arg n 0 % 2 ^ 16) := by
  have hundo : (s.tieTaken n).xlat.tieUndo.find? (fun u => u.1 == n) =
      some (n, s.arg n 0 % 2 ^ 16, (s.xlat.ties.find? fun e => e.1 == s.arg n 0 % 2 ^ 16).map (·.2)) :=
    List.find?_cons_of_pos (by simp)
  have hrest : otherTies (s.tieTaken n).xlat.ties (s.arg n 0 % 2 ^ 16) = otherTies s.xlat.ties (s.arg n 0 % 2 ^ 16) := by
    have hold := otherTies_idem s.xlat.ties (s.arg n 0 % 2 ^ 16)
    rw [s.tieTaken_ties n]
    split_ifs
    · exact (List.filter_cons_of_neg (by simp)).trans hold
    · exact hold
  rw [State.tieUndone, hundo, ← hrest]
  cases s.xlat.ties.find? fun e => e.1 == s.arg n 0 % 2 ^ 16 <;> rfl

/-- A window put back is found again under its index, as it was (R147). -/
theorem State.find?_tieUndone_tieTaken {s : State} (hopen : ∀ e ∈ s.xlat.ties, (s.ctx e.2.ctx).st = .opened) (n j : Nat) :
    ((s.tieTaken n).tieUndone n).xlat.ties.find? (fun e => e.1 == j) = s.xlat.ties.find? fun e => e.1 == j := by
  rw [s.tieUndone_tieTaken_ties n]
  generalize s.arg n 0 % 2 ^ 16 = k
  have hother := find?_filter_index s.xlat.ties j k
  cases hfound : s.xlat.ties.find? fun e => e.1 == k with
  | none =>
    refine hother.trans ?_
    split_ifs with hjk
    · rw [hjk, hfound]
    · rfl
  | some e =>
    have hk : e.1 = k := by simpa using List.find?_some hfound
    have hst := hopen e (List.mem_of_find?_eq_some hfound)
    simp only [hst, beq_self_eq_true, if_true]
    by_cases hjk : j = k
    · rw [hjk, hfound, List.find?_cons_of_pos (by simp), ← hk]
    · rw [List.find?_cons_of_neg (by simpa using Ne.symm hjk)]
      exact hother.trans (if_neg hjk)

/-- Settles O28: an invalidation by what it drops, a window by its index. -/
theorem translationCommands : Obligations.TranslationCommands := by
  unfold Obligations.TranslationCommands
  intro s n a
  refine ⟨fun h hn => ⟨s.tlbInvalidate n, runCommand_of_has h (·.tlbInvalidate n), ?_⟩, fun h => runCommand_of_has h (·.tieSet n),
    fun c hop => ⟨fun hvalid hctx => if_pos ⟨hop, hvalid, hctx⟩, ?_⟩⟩
  · obtain ⟨htlb, hl1, hcache⟩ := (s.invalidating n).settleInvs_translations
    refine ⟨htlb, hl1, hcache, fun hinvs hoverdue hops hsends => ?_⟩
    obtain ⟨cmd, hcmd⟩ := State.cmd_of_has h
    have hmbx : (s.invalidating n).mbx n = { s.mbx n with cmd := (s.mbx n).cmd.map fun c => { c with begun := true } } :=
      State.mbx_begin_same (s := _) hn
    have hwaits : (s.invalidating n).xlat.invs = [⟨n, s.namedCtx n (s.arg n 0), []⟩] := by
      simp [State.invalidating, State.invalidate, State.outstandingAt, State.begin_, State.putMbx, hinvs, hoverdue, hops, hsends]
    have hlen : n < (s.invalidating n).mbxs.length := by
      show n < (s.mbxs.set n _).length
      rwa [List.length_set]
    rw [s.tlbInvalidate_eq]
    exact State.settleInvs_alone (cmd := { cmd with begun := true }) hlen (by rw [hmbx, hcmd]; rfl) hwaits
  · intro k rest t
    have ht : t = s.tieTaken n := if_pos hop
    rw [ht]
    refine ⟨fun hclear => (s.tieTaken_ties n).trans (if_neg ?_), fun hset => (s.tieTaken_ties n).trans ((if_pos ?_).trans ?_),
      fun hopen j => State.find?_tieUndone_tieTaken hopen n j⟩
    · rw [windowOf_valid, mod_two_eq_one_beq hclear]
      decide
    · rw [windowOf_valid]
      exact beq_iff_eq.mpr hset
    · have hvalid : (windowOf (a 1) (a 2) (a 3) (a 4)).valid = true := beq_iff_eq.mpr hset
      simp only [windowOf] at hvalid ⊢
      rw [hvalid]

end Sys2Proof.Machine
end

section
/-!
PROOF. STAKE_ALLOC, the allocation pass and STAKE_FREE (R108 to R114, R856).
-/

namespace Sys2Proof.Machine

set_option Elab.async false

/-- The first element of an ascending list that meets a condition is the lowest. -/
theorem find?_ascending {l : List Nat} (hl : l.Pairwise (· < ·)) {p : Nat → Bool} {i : Nat} (hi : i ∈ l) (hp : p i = true)
    (hlow : ∀ j ∈ l, j < i → p j = false) : l.find? p = some i := by
  induction l with
  | nil => simp at hi
  | cons x l ih =>
    obtain ⟨hx, hl⟩ := List.pairwise_cons.mp hl
    rcases List.mem_cons.mp hi with rfl | hi
    · exact List.find?_cons_of_pos hp
    · rw [List.find?_cons_of_neg (by simp [hlow x List.mem_cons_self (hx i hi)])]
      exact ih hl hi fun j hj => hlow j (List.mem_cons_of_mem _ hj)

theorem comparatorsAt_ascending (loc : Nat) : (comparatorsAt loc).Pairwise (· < ·) := by
  unfold comparatorsAt
  split_ifs
  · exact List.pairwise_lt_range.map _ fun _ _ h => Nat.add_lt_add_right h 2
  · exact List.pairwise_lt_range

/-- A location with a free comparator serves with its lowest (R110). -/
theorem State.serveAt_free {s : State} {loc i : Nat} (hi : i ∈ comparatorsAt loc)
    (hfree : ∀ x ∈ s.stakes.allocs, x.at loc ≠ some i)
    (hlow : ∀ j ∈ comparatorsAt loc, j < i → ∃ x ∈ s.stakes.allocs, x.at loc = some j) (cls : Nat) : s.serveAt loc cls = .free i := by
  have hfind : (comparatorsAt loc).find? (fun i => !((s.stakes.allocs.filter fun a => (a.at loc).isSome).any fun a => a.at loc == some i)) =
      some i := by
    refine find?_ascending (comparatorsAt_ascending loc) hi ?_ fun j hj hji => ?_
    · simpa using fun x hx _ => hfree x hx
    · obtain ⟨x, hx, hat⟩ := hlow j hj hji
      simp only [Bool.not_eq_false', List.any_eq_true, List.mem_filter, beq_iff_eq]
      exact ⟨x, ⟨hx, by rw [hat]; rfl⟩, hat⟩
  simp only [State.serveAt, hfind]

/-- A request for one location with a free comparator (R110). -/
theorem State.grant_free {s : State} {loc i : Nat} (hloc : loc < 9) (hlive : loc < 8 → s.ids.baseLive.getLsbD loc = true) {cls : Nat}
    (hserve : s.serveAt loc cls = .free i) (stake : Nat) (owner : Owner) (event : StakeEvent) :
    s.grant loc cls stake owner event =
      (s.setStakes { s.stakes with
        allocs := s.stakes.allocs ++ [⟨s.stakes.nextId, [(loc, i)], cls, stake, owner, event, [(loc, i)], decide (stake ≤ s.mt)⟩],
        nextId := (s.stakes.nextId + 1) % 2 ^ 64 }, .granted s.stakes.nextId) := by
  have hin : ¬ (loc < 8 ∧ (!(s.ids.baseLive.getLsbD loc)) = true) := fun ⟨h8, hdead⟩ => by simp [hlive h8] at hdead
  have hone : s.locations loc = [loc] := if_neg (by omega)
  simp only [State.grant, if_neg hin, hone, List.map_cons, List.map_nil, hserve, firstRefusal, List.zip_cons_cons, List.zip_nil_left,
    List.foldl_cons, List.foldl_nil]

/-- Settles O29: the requests by their order, a grant by the lowest free comparator, a free by its allocation. -/
theorem stakeCommands : Obligations.StakeCommands := by
  unfold Obligations.StakeCommands
  intro s
  refine ⟨fun n h => runCommand_of_has h (·.requestStake n), fun hne => ?pass, fun r i hloc hlive hi hfree hlow => ?serve, fun n h => ?free⟩
  case pass =>
    have hsome : (!s.stakes.reqs.isEmpty) = true := by simpa using hne
    refine (onEvent_of_true hsome (fun s => s.servePending fun _ => true) s).trans ?_
    simp only [State.servePending, sortRequests, List.filter_true, Bool.not_true, List.filter_false]
  case serve =>
    rw [State.serveRequest, State.grant_free hloc hlive (State.serveAt_free hi hfree hlow r.cls)]
    rfl
  case free =>
    intro id found
    have hexec : exec (.stakeFree n) s = .next (s.freeStake n) := runCommand_of_has h (·.freeStake n)
    have hfound : found = s.stakes.allocs.find? fun x => x.id == id && (n == 0 || (x.event == .notice && x.owner == s.mailboxOwner n)) := rfl
    have hfree (x : Alloc) (hx : found = some x) : exec (.stakeFree n) s = endsWith (s.endAlloc x) n 0 [] := by
      rw [hexec, State.freeStake]
      rw [hfound] at hx
      simp only [id] at hx
      simp only [hx]
      rfl
    refine ⟨fun hnone => ?_, hfree, fun x hx hnotice => ?_⟩
    · rw [hexec, State.freeStake]
      rw [hfound] at hnone
      simp only [id] at hnone
      simp only [hnone]
      rfl
    · have hid : x.id = id := by
        have := List.find?_some hx
        simp only [Bool.and_eq_true, beq_iff_eq] at this
        exact this.1
      rw [hfree x hx, State.endAlloc, hnotice, State.dropAlloc, hid]

end Sys2Proof.Machine
end

section
/-!
SUPPORT. Frames: which parts of the machine a function may change. A frame names those parts, and every other one stays; the frames of
the functions that send frames, post notices, trace and report are given here, for the proofs that follow.
-/

namespace Sys2Proof.Machine

set_option Elab.async false

/-! ### What a part keeps through the usual changes -/

/-- The module's connections but for the interrupts sent and the mark of a command unread. -/
def coreConn (c : ModuleState) : ModuleState := { c with imsic := [], doneUnread := false }
/-- The identity and routes but for the bits set in the present cycle. -/
def coreIds (i : IdState) : IdState := { i with hot := [] }
/-- The mailboxes' states and commands in hand. -/
def coreMbxs (l : List Mailbox) : List (MbxState × Option TakenCmd) := l.map fun m => (m.st, m.cmd)
/-- The interface but for the marks of woken watches and the entries in hand. -/
def coreAbaom (a : AbaomState) : AbaomState :=
  { a with watches := a.watches.map fun w => { w with held := false, wake := false }, passes := a.passes.map fun p => { p with entries := [] } }
/-- The contexts but for their accounts. -/
def coreCtxs (l : List Context) : List Context := l.map fun c => { c with acct := Context.reset.acct }
/-- Translation but for the tags of the accesses that have gone out. -/
def coreXlat (x : XlatState) : XlatState := { x with tieOps := x.tieOps.map fun o => { o with tag := 0 } }
/-- The fabric but for its flows, the nodes that it has lost, and the times of the ports' last frames. -/
def coreFab (f : FabricState) : FabricState := { f with ports := f.ports.map fun p => { p with lastSent := 0 }, sends := [], recvs := [], unreachable := [] }
/-- The memory system but for the bytes and their poison. -/
def coreMem (m : MemState) : MemState := { m with hbm := [], poison := [] }
/-- The monuments but for the reads that have gone out. -/
def coreMonu (m : MonumentState) : MonumentState := { m with reads := [] }

/-- The parts of the machine's state, and for some of them the core that the usual changes keep. -/
inductive Part where
  | conn | ids | time | stakes | mbxs | abaom | ctxs | share | compute | xlat | fab | coh | mem | joined | monu | pwr | trust | dies | obs | freeCtr | outbox | pending
  | connCore | idsCore | handsCore | abaomCore | ctxsCore | xlatCore | fabCore | memCore | monuCore
deriving DecidableEq

/-- `t` differs from `s` in the parts of `l` at most. -/
structure State.Within (l : List Part) (s t : State) : Prop where
  conn : .conn ∉ l → t.conn = s.conn
  ids : .ids ∉ l → t.ids = s.ids
  time : .time ∉ l → t.time = s.time
  stakes : .stakes ∉ l → t.stakes = s.stakes
  mbxs : .mbxs ∉ l → t.mbxs = s.mbxs
  abaom : .abaom ∉ l → t.abaom = s.abaom
  ctxs : .ctxs ∉ l → t.ctxs = s.ctxs
  share : .share ∉ l → t.share = s.share
  compute : .compute ∉ l → t.compute = s.compute
  xlat : .xlat ∉ l → t.xlat = s.xlat
  fab : .fab ∉ l → t.fab = s.fab
  coh : .coh ∉ l → t.coh = s.coh
  mem : .mem ∉ l → t.mem = s.mem
  joined : .joined ∉ l → t.joined = s.joined
  monu : .monu ∉ l → t.monu = s.monu
  pwr : .pwr ∉ l → t.pwr = s.pwr
  trust : .trust ∉ l → t.trust = s.trust
  dies : .dies ∉ l → t.dies = s.dies
  obs : .obs ∉ l → t.obs = s.obs
  freeCtr : .freeCtr ∉ l → t.freeCtr = s.freeCtr
  outbox : .outbox ∉ l → t.outbox = s.outbox
  pending : .pending ∉ l → t.pending = s.pending
  connCore : .connCore ∉ l → coreConn t.conn = coreConn s.conn
  idsCore : .idsCore ∉ l → coreIds t.ids = coreIds s.ids
  handsCore : .handsCore ∉ l → coreMbxs t.mbxs = coreMbxs s.mbxs
  abaomCore : .abaomCore ∉ l → coreAbaom t.abaom = coreAbaom s.abaom
  ctxsCore : .ctxsCore ∉ l → coreCtxs t.ctxs = coreCtxs s.ctxs
  xlatCore : .xlatCore ∉ l → coreXlat t.xlat = coreXlat s.xlat
  fabCore : .fabCore ∉ l → coreFab t.fab = coreFab s.fab
  memCore : .memCore ∉ l → coreMem t.mem = coreMem s.mem
  monuCore : .monuCore ∉ l → coreMonu t.monu = coreMonu s.monu

/-- A list's image stays where the element put in it has the image of the one it replaces. -/
theorem map_set_same {α β : Type} {f : α → β} {l : List α} {i : Nat} {x d : α} (h : f x = f (nth l i d)) : (l.set i x).map f = l.map f := by
  refine List.ext_getElem? fun j => ?_
  by_cases hij : i = j
  · subst hij
    by_cases hi : i < l.length
    · simp [hi, h, nth]
    · simp [hi]
  · simp [hij]

namespace State.Within

variable {l m : List Part} {s t u : State}

theorem refl (l : List Part) (s : State) : s.Within l s := by
  constructor <;> exact fun _ => rfl

theorem trans (h : s.Within l t) (k : t.Within l u) : s.Within l u where
  conn hf := (k.conn hf).trans (h.conn hf)
  ids hf := (k.ids hf).trans (h.ids hf)
  time hf := (k.time hf).trans (h.time hf)
  stakes hf := (k.stakes hf).trans (h.stakes hf)
  mbxs hf := (k.mbxs hf).trans (h.mbxs hf)
  abaom hf := (k.abaom hf).trans (h.abaom hf)
  ctxs hf := (k.ctxs hf).trans (h.ctxs hf)
  share hf := (k.share hf).trans (h.share hf)
  compute hf := (k.compute hf).trans (h.compute hf)
  xlat hf := (k.xlat hf).trans (h.xlat hf)
  fab hf := (k.fab hf).trans (h.fab hf)
  coh hf := (k.coh hf).trans (h.coh hf)
  mem hf := (k.mem hf).trans (h.mem hf)
  joined hf := (k.joined hf).trans (h.joined hf)
  monu hf := (k.monu hf).trans (h.monu hf)
  pwr hf := (k.pwr hf).trans (h.pwr hf)
  trust hf := (k.trust hf).trans (h.trust hf)
  dies hf := (k.dies hf).trans (h.dies hf)
  obs hf := (k.obs hf).trans (h.obs hf)
  freeCtr hf := (k.freeCtr hf).trans (h.freeCtr hf)
  outbox hf := (k.outbox hf).trans (h.outbox hf)
  pending hf := (k.pending hf).trans (h.pending hf)
  connCore hf := (k.connCore hf).trans (h.connCore hf)
  idsCore hf := (k.idsCore hf).trans (h.idsCore hf)
  handsCore hf := (k.handsCore hf).trans (h.handsCore hf)
  abaomCore hf := (k.abaomCore hf).trans (h.abaomCore hf)
  ctxsCore hf := (k.ctxsCore hf).trans (h.ctxsCore hf)
  xlatCore hf := (k.xlatCore hf).trans (h.xlatCore hf)
  fabCore hf := (k.fabCore hf).trans (h.fabCore hf)
  memCore hf := (k.memCore hf).trans (h.memCore hf)
  monuCore hf := (k.monuCore hf).trans (h.monuCore hf)

theorem mono (h : s.Within l t) (hl : ∀ f ∈ l, f ∈ m) : s.Within m t where
  conn hf := h.conn fun hm => hf (hl _ hm)
  ids hf := h.ids fun hm => hf (hl _ hm)
  time hf := h.time fun hm => hf (hl _ hm)
  stakes hf := h.stakes fun hm => hf (hl _ hm)
  mbxs hf := h.mbxs fun hm => hf (hl _ hm)
  abaom hf := h.abaom fun hm => hf (hl _ hm)
  ctxs hf := h.ctxs fun hm => hf (hl _ hm)
  share hf := h.share fun hm => hf (hl _ hm)
  compute hf := h.compute fun hm => hf (hl _ hm)
  xlat hf := h.xlat fun hm => hf (hl _ hm)
  fab hf := h.fab fun hm => hf (hl _ hm)
  coh hf := h.coh fun hm => hf (hl _ hm)
  mem hf := h.mem fun hm => hf (hl _ hm)
  joined hf := h.joined fun hm => hf (hl _ hm)
  monu hf := h.monu fun hm => hf (hl _ hm)
  pwr hf := h.pwr fun hm => hf (hl _ hm)
  trust hf := h.trust fun hm => hf (hl _ hm)
  dies hf := h.dies fun hm => hf (hl _ hm)
  obs hf := h.obs fun hm => hf (hl _ hm)
  freeCtr hf := h.freeCtr fun hm => hf (hl _ hm)
  outbox hf := h.outbox fun hm => hf (hl _ hm)
  pending hf := h.pending fun hm => hf (hl _ hm)
  connCore hf := h.connCore fun hm => hf (hl _ hm)
  idsCore hf := h.idsCore fun hm => hf (hl _ hm)
  handsCore hf := h.handsCore fun hm => hf (hl _ hm)
  abaomCore hf := h.abaomCore fun hm => hf (hl _ hm)
  ctxsCore hf := h.ctxsCore fun hm => hf (hl _ hm)
  xlatCore hf := h.xlatCore fun hm => hf (hl _ hm)
  fabCore hf := h.fabCore fun hm => hf (hl _ hm)
  memCore hf := h.memCore fun hm => hf (hl _ hm)
  monuCore hf := h.monuCore fun hm => hf (hl _ hm)

/-- A step within the parts of `l` goes on. -/
theorem step (h : s.Within l t) {m : List Part} (k : t.Within m u) (hl : ∀ f ∈ m, f ∈ l := by decide) : s.Within l u := h.trans (k.mono hl)

theorem foldl {α : Type} {f : State → α → State} (hf : ∀ u x, State.Within l u (f u x)) (h : s.Within l t) (xs : List α) :
    s.Within l (xs.foldl f t) := by
  induction xs generalizing t with
  | nil => exact h
  | cons x xs ih => exact ih (h.trans (hf t x))

theorem ite {c : Prop} [Decidable c] (ht : s.Within l t) (hu : s.Within l u) : s.Within l (if c then t else u) := by
  split
  · exact ht
  · exact hu

end State.Within

/-! ### The parts that a setter sets -/

section Setters

variable (s : State)

theorem State.frame_setConn (v : ModuleState) : s.Within [.conn, .connCore] (s.setConn v) := by
  constructor <;> simp
theorem State.frame_setIds (v : IdState) : s.Within [.ids, .idsCore] (s.setIds v) := by
  constructor <;> simp
theorem State.frame_setTime (v : TimeState) : s.Within [.time] (s.setTime v) := by
  constructor <;> simp
theorem State.frame_setStakes (v : StakeState) : s.Within [.stakes] (s.setStakes v) := by
  constructor <;> simp
theorem State.frame_setMbxs (v : List Mailbox) : s.Within [.mbxs, .handsCore] (s.setMbxs v) := by
  constructor <;> simp
theorem State.frame_setAbaom (v : AbaomState) : s.Within [.abaom, .abaomCore] (s.setAbaom v) := by
  constructor <;> simp
theorem State.frame_setCtxs (v : List Context) : s.Within [.ctxs, .ctxsCore] (s.setCtxs v) := by
  constructor <;> simp
theorem State.frame_setShare (v : ShareState) : s.Within [.share] (s.setShare v) := by
  constructor <;> simp
theorem State.frame_setCompute (v : ComputeState) : s.Within [.compute] (s.setCompute v) := by
  constructor <;> simp
theorem State.frame_setXlat (v : XlatState) : s.Within [.xlat, .xlatCore] (s.setXlat v) := by
  constructor <;> simp
theorem State.frame_setFab (v : FabricState) : s.Within [.fab, .fabCore] (s.setFab v) := by
  constructor <;> simp
theorem State.frame_setCoh (v : CohState) : s.Within [.coh] (s.setCoh v) := by
  constructor <;> simp
theorem State.frame_setMem (v : MemState) : s.Within [.mem, .memCore] (s.setMem v) := by
  constructor <;> simp
theorem State.frame_setJoined (v : JoinedState) : s.Within [.joined] (s.setJoined v) := by
  constructor <;> simp
theorem State.frame_setMonu (v : MonumentState) : s.Within [.monu, .monuCore] (s.setMonu v) := by
  constructor <;> simp
theorem State.frame_setPwr (v : PowerState) : s.Within [.pwr] (s.setPwr v) := by
  constructor <;> simp
theorem State.frame_setTrust (v : TrustState) : s.Within [.trust] (s.setTrust v) := by
  constructor <;> simp
theorem State.frame_setDies (v : DiesState) : s.Within [.dies] (s.setDies v) := by
  constructor <;> simp
theorem State.frame_setObs (v : ObsState) : s.Within [.obs] (s.setObs v) := by
  constructor <;> simp
theorem State.frame_setFreeCtr (v : Nat) : s.Within [.freeCtr] (s.setFreeCtr v) := by
  constructor <;> simp
theorem State.frame_setOutbox (v : List Out) : s.Within [.outbox] (s.setOutbox v) := by
  constructor <;> simp
theorem State.frame_setPending (v : List Instr) : s.Within [.pending] (s.setPending v) := by
  constructor <;> simp

end Setters

/-! ### Counters, traces and records -/

section Functions

variable (s : State)

theorem State.frame_count (i n : Nat) : s.Within [.obs] (s.count i n) := s.frame_setObs _
theorem State.frame_putUnit (u : Nat) (x : TraceUnit) : s.Within [.obs] (s.putUnit u x) := s.frame_setObs _
theorem State.frame_putCtx (c : Nat) (x : Context) : s.Within [.ctxs, .ctxsCore] (s.putCtx c x) := s.frame_setCtxs _
/-- A context whose account alone changes. -/
theorem State.frame_putCtx_core {c : Nat} {x : Context} (h : { x with acct := Context.reset.acct } = { s.ctx c with acct := Context.reset.acct }) :
    s.Within [.ctxs] (s.putCtx c x) := by
  have hcore : coreCtxs (s.ctxs.set c x) = coreCtxs s.ctxs := map_set_same (d := Context.reset) h
  constructor <;> simp [State.putCtx, hcore]

theorem State.frame_putMbx (n : Nat) (m : Mailbox) : s.Within [.mbxs, .handsCore] (s.putMbx n m) := s.frame_setMbxs _
theorem State.frame_begin (n : Nat) : s.Within [.mbxs, .handsCore] (s.begin_ n) := s.frame_setMbxs _
theorem State.frame_emit (o : Out) : s.Within [.outbox] (s.emit o) := s.frame_setOutbox _
theorem State.frame_setHot (off bit : Nat) : s.Within [.ids] (s.setHot off bit) := by
  constructor <;> simp [State.setHot, coreIds]
theorem State.frame_enqueueTimer (due : Nat) (e : StakeEvent) : s.Within [.stakes] (s.enqueueTimer due e) := s.frame_setStakes _
theorem State.frame_fresh : s.Within [.freeCtr] s.fresh.2 := s.frame_setFreeCtr _
theorem State.frame_putBlock (b : Block) : s.Within [.compute] (s.putBlock b) := s.frame_setCompute _
theorem State.frame_putGroup (blk k : Nat) (g : Group) : s.Within [.compute] (s.putGroup blk k g) := s.frame_setCompute _
theorem State.frame_bmWrite (b : Block) (off : Nat) (bytes : List Byte) : s.Within [.compute] (s.bmWrite b off bytes) := s.frame_setCompute _

theorem State.frame_progCount (cluster ctx code n : Nat) : s.Within [.obs] (s.progCount cluster ctx code n) := by
  obtain ⟨o, ho⟩ := s.progCount_eq cluster ctx code n
  rw [ho]
  exact s.frame_setObs o

theorem State.frame_trace (u mt flags : Nat) (rec : List Word) : s.Within [.obs] (s.trace u mt flags rec).1 := by
  unfold State.trace
  dsimp only
  split_ifs
  · exact s.frame_putUnit _ _
  · exact (s.frame_putUnit _ _).trans (State.frame_count _ _ _)
  · exact .refl _ s

theorem State.frame_traceKept (u mt flags : Nat) (rec : List Word) : s.Within [.obs] (s.traceKept u mt flags rec) := by
  unfold State.traceKept
  dsimp only
  split_ifs
  · exact s.frame_putUnit _ _
  · exact (s.frame_putUnit _ _).trans (State.frame_count _ _ _)
  · exact .refl _ s

theorem State.frame_fireTrigger (mt : Nat) (late : Bool) : s.Within [.obs] (s.fireTrigger mt late) := by
  unfold State.fireTrigger
  dsimp only
  split_ifs
  · exact s.frame_setObs _
  · exact .refl _ s

theorem State.frame_syncAll : s.Within [.obs] s.syncAll := .foldl (fun u _ => u.frame_trace _ _ _ _) (.refl _ s) _

theorem State.frame_synced (old : State) : s.Within [.obs] (State.synced old s) := .ite s.frame_syncAll (.refl _ s)

theorem State.frame_syncCorrection (corr : Int) : s.Within [.obs] (s.syncCorrection corr) := .ite s.frame_syncAll (.refl _ s)

/-! ### Reports and notices -/

/-- A mailbox put back in its state and with its command. -/
theorem State.frame_putMbx_hands {n : Nat} {m : Mailbox} (h : (m.st, m.cmd) = ((s.mbx n).st, (s.mbx n).cmd)) :
    s.Within [.mbxs] (s.putMbx n m) := by
  have hcore : coreMbxs (s.mbxs.set n m) = coreMbxs s.mbxs := map_set_same (d := Mailbox.reset) h
  constructor <;> simp [State.putMbx, hcore]

theorem State.frame_alertSince (before : State) : s.Within [.outbox] (s.alertSince before) := by
  unfold State.alertSince
  split
  · exact s.frame_emit _
  · exact .refl _ s

theorem State.frame_tellAgent (command : Nat) (fields : List Byte) : s.Within [.freeCtr, .outbox] (s.tellAgent command fields) := by
  unfold State.tellAgent
  split
  · exact .refl _ s
  · exact ((s.frame_fresh).mono (by decide)).step (State.frame_emit _ _)

/-- The interrupts sent and the mark of a command unread may be set. -/
theorem State.frame_setConn_core {v : ModuleState} (h : coreConn v = coreConn s.conn) : s.Within [.conn] (s.setConn v) := by
  constructor <;> simp [h]

theorem State.frame_setImsic (l : List (Nat × Nat)) : s.Within [.conn] (s.setConn { s.conn with imsic := l }) := s.frame_setConn_core rfl

theorem State.frame_setDoneUnread : s.Within [.conn] (s.setConn { s.conn with doneUnread := true }) := s.frame_setConn_core rfl

theorem State.frame_interrupt (n : Nat) : s.Within [.conn, .mbxs, .freeCtr, .outbox] (s.interrupt n) := by
  unfold State.interrupt
  dsimp only
  split_ifs
  · exact .refl _ s
  · exact (s.frame_emit _).mono (by decide)
  · exact ((s.frame_setImsic _).mono (by decide)).step (State.frame_emit _ _)
  · exact .refl _ s

theorem State.frame_complete (n status : Nat) (res : List Nat) :
    s.Within [.conn, .mbxs, .handsCore, .freeCtr, .outbox] (s.complete n status res) := by
  have hput (m : Mailbox) : s.Within [.conn, .mbxs, .handsCore, .freeCtr, .outbox] (s.putMbx n m) := (s.frame_putMbx n m).mono (by decide)
  have hdone (m : Mailbox) : s.Within [.conn, .mbxs, .handsCore, .freeCtr, .outbox]
      (((s.putMbx n m).setConn { (s.putMbx n m).conn with doneUnread := true }).alertSince s) :=
    ((hput m).step (State.frame_setDoneUnread _)).step (State.frame_alertSince _ s)
  unfold State.complete
  dsimp only
  split
  · exact .refl _ s
  · split_ifs
    · exact (hdone _).step (State.frame_tellAgent _ _ _)
    · exact hdone _
    · exact (hput _).step (State.frame_interrupt _ n)
    · exact hput _

theorem State.frame_noteLost (n k : Nat) : s.Within [.mbxs] (s.putMbx n { s.mbx n with lost := k }) := s.frame_putMbx_hands rfl

theorem State.frame_noteSlots (n k : Nat) (l : List (List Word)) : s.Within [.mbxs] (s.putMbx n { s.mbx n with slots := l, head := k }) :=
  s.frame_putMbx_hands rfl

theorem State.frame_postNotice (n : Nat) (words : List Word) :
    s.Within [.conn, .mbxs, .freeCtr, .outbox, .obs] (s.postNotice n words) := by
  have hput (k : Nat) (l : List (List Word)) :
      s.Within [.conn, .mbxs, .freeCtr, .outbox, .obs] (s.putMbx n { s.mbx n with slots := l, head := k }) :=
    (s.frame_noteSlots n k l).mono (by decide)
  unfold State.postNotice
  dsimp only
  split_ifs
  · exact (s.frame_noteLost n _).mono (by decide)
  · exact ((hput _ _).step (State.frame_alertSince _ s)).step (State.frame_tellAgent _ _ _)
  · exact (hput _ _).step (State.frame_interrupt _ n)
  · exact hput _ _

theorem State.frame_notify (mbxs : List Nat) (kind status ctx mt flags : Nat) (detail : List Nat) :
    s.Within [.conn, .mbxs, .freeCtr, .outbox, .obs] (s.notify mbxs kind status ctx mt flags detail) := by
  have hpost : s.Within [.conn, .mbxs, .freeCtr, .outbox, .obs]
      (mbxs.foldl (fun t n => t.postNotice n (noticeWords kind status flags ctx mt detail)) s) :=
    .foldl (fun u n => u.frame_postNotice n _) (.refl _ s) _
  unfold State.notify
  dsimp only
  exact .ite ((hpost.step (State.frame_traceKept _ _ _ _ _)).step (State.frame_fireTrigger _ _ _)) (hpost.step (State.frame_traceKept _ _ _ _ _))

theorem State.frame_loseAlignment (refused : Int) :
    s.Within [.time, .conn, .mbxs, .freeCtr, .outbox, .obs] (s.loseAlignment refused) := by
  unfold State.loseAlignment
  exact ((s.frame_setTime _).mono (by decide)).step (State.frame_notify _ _ _ _ _ _ _ _)

/-! ### Frames on the fabric -/

/-- What a frame that goes out may change: its flow and port, the account that it is charged to, a bucket, the names of the accesses that
wait for its answer, the counters, and what has gone out. -/
abbrev sendParts : List Part := [.ctxs, .share, .xlat, .fab, .monu, .obs, .outbox]

theorem State.frame_putPort (p : Nat) (x : Port) : s.Within [.fab, .fabCore] (s.putPort p x) := s.frame_setFab _
/-- A port that only sent. -/
theorem State.frame_putPort_core {p : Nat} {x : Port} (h : { x with lastSent := 0 } = { s.port p with lastSent := 0 }) :
    s.Within [.fab] (s.putPort p x) := by
  have hcore : coreFab { s.fab with ports := s.fab.ports.set p x } = coreFab s.fab := by
    have hports : (s.fab.ports.set p x).map (fun q => { q with lastSent := 0 }) = s.fab.ports.map fun q => { q with lastSent := 0 } :=
      map_set_same (d := Port.reset) h
    simp [coreFab, hports]
  constructor <;> simp [State.putPort, hcore]

theorem State.frame_putSend (fl : SendFlow) : s.Within [.fab] (s.putSend fl) := by
  constructor <;> simp [State.putSend, coreFab]
theorem State.frame_putRecv (r : RecvFlow) : s.Within [.fab] (s.putRecv r) := by
  constructor <;> simp [State.putRecv, coreFab]
theorem State.frame_emitFrame (p : Nat) (f : Frame) : s.Within [.outbox] (s.emitFrame p f) := s.frame_setOutbox _
theorem State.frame_putBucket (part point : Nat) (b : Bucket) : s.Within [.share] (s.putBucket part point b) := s.frame_setShare _

theorem State.frame_sendOn (p : Nat) (f : Frame) : s.Within [.fab, .obs, .outbox] (s.sendOn p f) := by
  unfold State.sendOn
  dsimp only
  split_ifs
  · exact .refl _ s
  · exact ((((s.frame_emitFrame p f).mono (by decide)).step (State.frame_putPort_core (s.emitFrame p f)
      (x := { s.port p with lastSent := s.mt }) rfl)).step (State.frame_count _ _ _)).step
      (State.frame_count _ _ _)

theorem State.frame_chargeTx (c n : Nat) : s.Within [.ctxs] (s.chargeTx c n) := by
  unfold State.chargeTx
  dsimp only
  split_ifs
  · exact .refl _ s
  · exact s.frame_putCtx_core rfl

theorem State.frame_sendRegulated (p ctx : Nat) (f : Frame) : s.Within [.ctxs, .share, .fab, .obs, .outbox] (s.sendRegulated p ctx f) := by
  have hcharge : s.Within [.ctxs, .share, .fab, .obs, .outbox] (if f.kind = kTie ∧ !f.isResponse then s.chargeTx ctx f.bytes else s) :=
    .ite ((s.frame_chargeTx _ _).mono (by decide)) (.refl _ s)
  unfold State.sendRegulated
  dsimp only
  generalize (if f.kind = kTie ∧ !f.isResponse then s.chargeTx ctx f.bytes else s) = t at hcharge ⊢
  split_ifs
  · exact hcharge.step (State.frame_sendOn _ _ _)
  · exact hcharge.step (State.frame_setShare _ _)
  · exact (hcharge.step (State.frame_putBucket _ _ _ _)).step (State.frame_sendOn _ _ _)

theorem State.frame_tagTie (op : FlowOp) (tag : Nat) : s.Within [.xlat, .monu] (s.tagTie op tag) := by
  unfold State.tagTie
  split
  · have htags (id : Nat) : (s.xlat.tieOps.map fun o => if o.id = id then { o with tag } else o).map (fun o => { o with tag := 0 })
        = s.xlat.tieOps.map fun o => { o with tag := 0 } := by
      rw [List.map_map]
      refine List.map_congr_left fun o _ => ?_
      by_cases ho : o.id = id <;> simp [ho]
    constructor <;> simp [coreXlat, htags]
  · constructor <;> simp [coreMonu]
  · exact .refl _ s

theorem State.frame_launchFrame (fl : SendFlow) (u : Unacked) : s.Within sendParts (s.launchFrame fl u) := by
  have hsend (t : State) (h : s.Within sendParts t) (fl' : SendFlow) (tag p ctx : Nat) (f : Frame) :
      s.Within sendParts (((t.putSend fl').tagTie u.op tag).sendRegulated p ctx f) :=
    ((h.step (State.frame_putSend _ _)).step (State.frame_tagTie _ _ _)).step (State.frame_sendRegulated _ _ _ _)
  unfold State.launchFrame
  dsimp only
  cases s.recvFlow fl.dst fl.kind fl.ctx with
  | none => exact hsend s (.refl _ s) _ _ _ _ _
  | some r => exact hsend _ ((s.frame_putRecv _).mono (by decide)) _ _ _ _ _

theorem State.frame_flowPut (fl : SendFlow) (u : Unacked) : s.Within sendParts (s.flowPut fl u) := by
  unfold State.flowPut
  split_ifs
  · exact (s.frame_putSend _).mono (by decide)
  · exact s.frame_launchFrame _ _

theorem State.frame_ctrlPeer (p : Nat) (ws : List Nat) : s.Within sendParts (s.ctrlPeer p ws) := s.frame_flowPut _ _

theorem State.frame_flowSend {t : State} {h : Head} {payload : List Byte} {op : FlowOp} (ht : s.flowSend h payload op = some t) :
    s.Within sendParts t := by
  obtain ⟨p, -, rfl⟩ := Option.map_eq_some_iff.mp ht
  exact s.frame_flowPut _ _

theorem State.frame_sendBsx (p t1 t2 t3 t4 : Nat) : s.Within [.fab, .obs, .outbox] (s.sendBsx p t1 t2 t3 t4) := s.frame_sendOn _ _

end Functions

end Sys2Proof.Machine
end

section
/-!
SUPPORT AND PROOF. Corrections of the count, and what the hall's time inputs do (R60 to R64, R68, R81 to R87, R116 to R119, R855).
-/

namespace Sys2Proof.Machine

set_option Elab.async false

/-! ### Events of meridian time -/

/-- Records of what meridian time reads as change the counters and the trace alone (R814). -/
@[simp] theorem State.synced_time (old s : State) : (State.synced old s).time = s.time := (s.frame_synced old).time (by decide)
@[simp] theorem State.synced_mem (old s : State) : (State.synced old s).mem = s.mem := (s.frame_synced old).mem (by decide)
@[simp] theorem State.synced_mbxs (old s : State) : (State.synced old s).mbxs = s.mbxs := (s.frame_synced old).mbxs (by decide)
@[simp] theorem State.synced_conn (old s : State) : (State.synced old s).conn = s.conn := (s.frame_synced old).conn (by decide)
@[simp] theorem State.synced_outbox (old s : State) : (State.synced old s).outbox = s.outbox := (s.frame_synced old).outbox (by decide)
@[simp] theorem State.synced_stakes (old s : State) : (State.synced old s).stakes = s.stakes := (s.frame_synced old).stakes (by decide)

/-- No record is made where the state and the datum are as they were (R814). -/
theorem State.synced_same {old s : State} (hst : s.time.st = old.time.st) (hdatum : s.mtDatum = old.mtDatum) : State.synced old s = s := by
  simp [State.synced, hst, hdatum]

theorem onTime_of_true {c : Bool} (h : c = true) (f : State → State) (s : State) : onTime c f s = .next (State.synced s (f s)) :=
  onEvent_of_true h _ s

theorem onTime_of_false {c : Bool} (h : c = false) (f : State → State) (s : State) : onTime c f s = .next s := onEvent_of_false h _ s

/-- An event that changes nothing has no record to make. -/
theorem onTime_of_id {f : State → State} {s : State} (hf : f s = s) (c : Bool) : onTime c f s = .next s := by
  cases c with
  | false => exact onTime_of_false rfl f s
  | true => rw [onTime_of_true rfl, hf, State.synced_same rfl rfl]

/-! ### Corrections (R81 to R83) -/

/-- The count with a correction begun (R81 to R83). -/
def TimeState.corrected (t : TimeState) (armed : Bool) (corr : Int) : TimeState :=
  if 128000 < corr then
    let u := { t with slewLeft := 0, slewing := false, slewCyc := 0, stepPending := some corr }
    if armed then u else u.stepBy corr
  else { t with slewLeft := corr, slewing := decide (16 ≤ corr.natAbs), slewCyc := 0, stepPending := none }

theorem State.correct_time (s : State) (corr : Int) : (s.correct corr).time = s.time.corrected s.anyArmed corr := by
  by_cases hbig : 128000 < corr
  · have hstep : microsecond16 < corr := hbig
    rw [State.correct, if_pos hstep, TimeState.corrected, if_pos hbig]
    exact apply_ite State.time _ _ _
  · have hslew : ¬ microsecond16 < corr := hbig
    rw [State.correct, if_neg hslew, TimeState.corrected, if_neg hbig]
    rfl

@[simp] theorem TimeState.corrected_refPresent (t : TimeState) (armed : Bool) (corr : Int) :
    (t.corrected armed corr).refPresent = t.refPresent := by
  unfold TimeState.corrected
  dsimp only
  split_ifs <;> rfl

theorem State.frame_passTimers (s : State) : s.Within [.stakes, .abaom, .abaomCore] s.passTimers :=
  ((s.frame_setStakes _).mono (by decide)).step (State.frame_setAbaom _ _)

theorem State.frame_step_ (s : State) (corr : Int) : s.Within [.time, .stakes, .abaom, .abaomCore] (s.step_ corr) :=
  ((s.frame_setTime _).mono (by decide)).step (State.frame_passTimers _)

theorem State.frame_correct (s : State) (corr : Int) : s.Within [.time, .stakes, .abaom, .abaomCore] (s.correct corr) := by
  unfold State.correct
  dsimp only
  split_ifs
  · exact (s.frame_setTime _).mono (by decide)
  · exact ((s.frame_setTime _).mono (by decide)).step (State.frame_step_ _ _)
  · exact (s.frame_setTime _).mono (by decide)

/-! ### What a measurement brings (R62, R84, R855) -/

/-- The device tree that releases the processor dies (R62, R80). -/
def hostTree : Out := .deviceTree 1000000000 256 0xFD00000000000 0x10000000

theorem State.frame_releaseHost (s : State) : s.Within [.conn, .connCore, .outbox] s.releaseHost := by
  unfold State.releaseHost
  split_ifs
  · exact ((s.frame_setConn _).mono (by decide)).step (State.frame_emit _ _)
  · exact .refl _ s

theorem State.releaseHost_timeWait {s : State} (h : s.conn.phase = .timeWait) :
    s.releaseHost = (s.setConn { s.conn with phase := .hostBoot, hostReleased := true }).emit hostTree := by
  simp [State.releaseHost, h, hostTree]

theorem State.enterHall_time (s : State) : s.enterHall.time = { s.time with st := .hall } :=
  (State.frame_releaseHost _).time (by decide)

theorem State.frame_enterHall (s : State) : s.Within [.time, .conn, .connCore, .outbox] s.enterHall :=
  ((s.frame_setTime _).mono (by decide)).step (State.frame_releaseHost _)

theorem State.loseAlignment_time (s : State) (refused : Int) : (s.loseAlignment refused).time =
    { s.time with st := .unaligned, bsDone := false, meas := none, run := s.time.run.filter (·.posted) } := by
  unfold State.loseAlignment
  exact (State.frame_notify _ _ _ _ _ _ _ _).time (by decide)

/-- What the inputs of `s` bring a device to: `t` (R62, R84, R855). -/
def State.Acquires (s t : State) : Prop :=
  let m := s.time
  if m.st = .free ∧ m.refPresent = true ∧ m.ptpLock = true ∧ (m.ppsTime = false ∨ m.ppsSeen = true) then
    t.time = { m.corrected s.anyArmed m.hallDiff with st := .hall }
      ∧ (s.conn.phase = .timeWait → t.conn.phase = .hostBoot ∧ hostTree ∈ t.outbox)
  else if m.ptpLock = true ∧ (m.st = .hall ∨ (m.st = .holdover ∧ m.bsDone = false)) then t.time = m.corrected s.anyArmed m.hallDiff
  else if m.ptpLock = true ∧ m.st = .aligned ∧ (s.fab.epoch ≠ 0 ∧ m.datumNode = s.fab.node)
      ∧ (128000 < m.hallDiff ∨ m.hallDiff < -128000) then t.time.st = .unaligned ∧ t.time.mt = m.mt
  else t.time = m

theorem State.isDatum_iff (s : State) : s.isDatum = true ↔ s.fab.epoch ≠ 0 ∧ s.time.datumNode = s.fab.node := by
  simp [State.isDatum]

theorem overMicrosecond_iff (corr : Int) : overMicrosecond corr = true ↔ 128000 < corr ∨ corr < -128000 := by
  have hmicro : microsecond16 = 128000 := rfl
  rw [overMicrosecond, hmicro, Bool.or_eq_true, decide_eq_true_eq, decide_eq_true_eq]

theorem State.acquire_acquires (s : State) : s.Acquires s.acquire := by
  have hfree : (s.time.st == .free && s.time.refPresent && s.time.ptpLock && s.time.ppsOk) = true ↔
      s.time.st = .free ∧ s.time.refPresent = true ∧ s.time.ptpLock = true ∧ (s.time.ppsTime = false ∨ s.time.ppsSeen = true) := by
    simp [TimeState.ppsOk, and_assoc]
  have hsteers : s.steers = true ↔ s.time.ptpLock = true ∧ (s.time.st = .hall ∨ (s.time.st = .holdover ∧ s.time.bsDone = false)) := by
    simp [State.steers]
  have hdatum : (s.time.ptpLock && s.time.st == .aligned && s.isDatum && overMicrosecond s.time.hallDiff) = true ↔
      s.time.ptpLock = true ∧ s.time.st = .aligned ∧ (s.fab.epoch ≠ 0 ∧ s.time.datumNode = s.fab.node)
        ∧ (128000 < s.time.hallDiff ∨ s.time.hallDiff < -128000) := by
    rw [Bool.and_eq_true, Bool.and_eq_true, Bool.and_eq_true, beq_iff_eq, s.isDatum_iff, overMicrosecond_iff, and_assoc, and_assoc]
  unfold State.Acquires State.acquire
  simp only [← hfree, ← hsteers, ← hdatum]
  split_ifs
  · refine ⟨by rw [State.enterHall_time, State.correct_time], fun hwait => ?_⟩
    have hphase : ((s.correct s.time.hallDiff).setTime { (s.correct s.time.hallDiff).time with st := .hall }).conn.phase = .timeWait := by
      rw [State.setTime_conn, (s.frame_correct _).conn (by decide), hwait]
    rw [State.enterHall, State.releaseHost_timeWait hphase]
    exact ⟨rfl, List.mem_cons_self⟩
  · exact s.correct_time _
  · rw [State.loseAlignment_time]
    exact ⟨rfl, rfl⟩
  · rfl

theorem State.frame_acquire (s : State) : s.Within [.time, .stakes, .abaom, .abaomCore, .conn, .connCore, .outbox, .mbxs, .freeCtr, .obs] s.acquire := by
  unfold State.acquire
  dsimp only
  split_ifs
  · exact ((s.frame_correct _).mono (by decide)).step (State.frame_enterHall _)
  · exact (s.frame_correct _).mono (by decide)
  · exact (s.frame_loseAlignment _).mono (by decide)
  · exact .refl _ s

/-- Records of the change leave what the inputs brought. -/
theorem State.Acquires.synced {s t : State} (h : s.Acquires t) (old : State) : s.Acquires (State.synced old t) := by
  unfold State.Acquires at h ⊢
  simpa only [State.synced_time, State.synced_conn, State.synced_outbox] using h

/-! ### PTP and PPS (R60, R61, R116, R119) -/

/-- A PTP time from the epoch on, in ticks (R61). -/
theorem mtOfPtp_eq {p : PtpTime} (hp : 1577836800 ≤ p.seconds) :
    mtOfPtp p = ((p.seconds - 1577836800) * 8000000000 + 8 * p.nanos + p.ticks) % 2 ^ 64 := by
  unfold mtOfPtp
  congr 1
  omega

/-- A message of the domain that the device follows (R60, R855). -/
def State.Follows (s : State) (m : PtpMessage) : Prop :=
  m.domain ≤ 127 ∧ (s.time.ptp.domain = none ∨ s.time.ptp.domain = some m.domain)

theorem State.Follows.passes {s : State} {m : PtpMessage} (h : s.Follows m) :
    ¬ (127 < m.domain ∨ (!(s.time.ptp.domain.isNone || s.time.ptp.domain == some m.domain)) = true) := by
  obtain ⟨hd, hn | hs⟩ := h
  · simp [hn, Nat.not_lt.mpr hd]
  · simp [hs, Nat.not_lt.mpr hd]

theorem State.ptpMessage_delayResp {s : State} {m : PtpMessage} (h : s.Follows m) {seq : Nat} {r : PtpTime}
    (hbody : m.body = .delayResp seq r) {t1 t3 : Nat} (h1 : s.time.ptp.t1 = some t1) (h3 : s.time.ptp.t3 = some t3)
    (hseq : s.time.ptp.reqSeq = seq) (stamp : Nat) : s.ptpMessage m stamp = s.measureHall t1 t3 (mtOfPtp r) := by
  unfold State.ptpMessage
  dsimp only
  rw [if_neg h.passes, hbody]
  simp only [h1, h3, hseq, if_true]

theorem State.ptpMessage_sync {s : State} {m : PtpMessage} (h : s.Follows m) {seq : Nat} {o : PtpTime}
    (hbody : m.body = .sync seq (some o)) (stamp : Nat) :
    s.ptpMessage m stamp = (s.setTime { s.time with ptp := { s.time.ptp with
      domain := some m.domain, syncSeq := seq, t2 := stamp, t1 := none, t3 := none } }).askDelay m (mtOfPtp o) := by
  unfold State.ptpMessage
  dsimp only
  rw [if_neg h.passes, hbody]

theorem State.ptpMessage_syncAlone {s : State} {m : PtpMessage} (h : s.Follows m) {seq : Nat} (hbody : m.body = .sync seq none) (stamp : Nat) :
    s.ptpMessage m stamp = s.setTime { s.time with ptp := { s.time.ptp with
      domain := some m.domain, syncSeq := seq, t2 := stamp, t1 := none, t3 := none } } := by
  unfold State.ptpMessage
  dsimp only
  rw [if_neg h.passes, hbody]

theorem State.ptpMessage_followUp {s : State} {m : PtpMessage} (h : s.Follows m) {seq : Nat} {o : PtpTime}
    (hbody : m.body = .followUp seq o) (hdomain : s.time.ptp.domain = some m.domain) (hseq : s.time.ptp.syncSeq = seq)
    (h1 : s.time.ptp.t1 = none) (stamp : Nat) : s.ptpMessage m stamp = s.askDelay m (mtOfPtp o) := by
  have hgo : (s.time.ptp.domain.isSome && s.time.ptp.syncSeq == seq && s.time.ptp.t1.isNone) = true := by simp [hdomain, hseq, h1]
  unfold State.ptpMessage
  dsimp only
  rw [if_neg h.passes, hbody]
  simp only [hgo, if_true]

theorem State.ptpMessage_deaf (s : State) {m : PtpMessage} (h : 127 < m.domain) (stamp : Nat) : s.ptpMessage m stamp = s := by
  unfold State.ptpMessage
  dsimp only
  rw [if_pos (.inl h)]

/-- The three states in which the pin is driven (R838). -/
theorem ppsDriven_iff (t : TimeState) : (t.ppsOutEn && (t.st == .hall || t.st == .aligned || t.st == .holdover)) = true ↔
    t.ppsOutEn = true ∧ t.st ∈ [MtState.hall, .aligned, .holdover] := by
  simp [or_assoc]

/-! ### The return of the reference (R64) -/

/-- A backsight starts again where a datum is recorded (R64). -/
def State.backsightAgain (s : State) (t0 : TimeState) : State :=
  if t0.datumValid then s.startBacksight (t0.run.bind (·.mbx)) (t0.run.any (·.posted)) t0.datumNode else s

theorem State.refReturn_holdover {s : State} (h : s.time.st = .holdover) :
    s.refReturn = State.backsightAgain (if s.time.ptpLock && s.time.ppsOk then (s.setTime { s.time with refPresent := true }).enterHall
      else s.setTime { s.time with refPresent := true, st := .free }) s.time := by
  simp only [State.refReturn, h]
  rfl

theorem State.refReturn_unaligned {s : State} (h : s.time.st = .unaligned) :
    s.refReturn = if s.time.run.any (·.posted) then (s.setTime { s.time with refPresent := true }).backsightAgain s.time
      else s.setTime { s.time with refPresent := true } := by
  simp only [State.refReturn, h]
  rfl

theorem State.refReturn_else {s : State} (h : s.time.st ≠ .holdover) (h' : s.time.st ≠ .unaligned) :
    s.refReturn = (s.setTime { s.time with refPresent := true }).acquire := by
  unfold State.refReturn
  dsimp only
  split
  · exact absurd ‹_› h
  · exact absurd ‹_› h'
  · rfl

theorem State.acquire_refPresent (s : State) : s.acquire.time.refPresent = s.time.refPresent := by
  unfold State.acquire
  dsimp only
  split_ifs
  · rw [State.enterHall_time, State.correct_time]
    exact TimeState.corrected_refPresent _ _ _
  · rw [State.correct_time, TimeState.corrected_refPresent]
  · rw [State.loseAlignment_time]
  · rfl

theorem State.backsightAgain_refPresent (s : State) (t0 : TimeState) : (s.backsightAgain t0).time.refPresent = s.time.refPresent := by
  unfold State.backsightAgain
  split_ifs <;> rfl

theorem State.refReturn_refPresent (s : State) : s.refReturn.time.refPresent = true := by
  by_cases hold : s.time.st = .holdover
  · rw [State.refReturn_holdover hold, State.backsightAgain_refPresent]
    split_ifs
    · rw [State.enterHall_time]
      rfl
    · rfl
  · by_cases hun : s.time.st = .unaligned
    · rw [State.refReturn_unaligned hun]
      split_ifs
      · rw [State.backsightAgain_refPresent]
        rfl
      · rfl
    · rw [State.refReturn_else hold hun, State.acquire_refPresent]
      rfl

/-- PPS plays its part, or is not asked for (R64). -/
theorem TimeState.ppsOk_iff (t : TimeState) : (t.ptpLock && t.ppsOk) = true ↔ t.ptpLock = true ∧ (t.ppsTime = false ∨ t.ppsSeen = true) := by
  simp [TimeState.ppsOk]

/-- A device in HOLDOVER after the return of the reference: its state, and its run (R64). -/
theorem State.refReturn_holdover_time {s : State} (h : s.time.st = .holdover) :
    s.refReturn.time.st = (if s.time.ptpLock = true ∧ (s.time.ppsTime = false ∨ s.time.ppsSeen = true) then .hall else .free)
    ∧ (s.time.datumValid = true → ∃ r, s.refReturn.time.run = some r ∧ r.want = 64 ∧ r.sent = 0 ∧ r.mbx = s.time.run.bind (·.mbx)
        ∧ s.refReturn.time.datumNode = s.time.datumNode ∧ s.refReturn.time.datumValid = false)
    ∧ (s.time.datumValid = false → s.refReturn.time.run = s.time.run) := by
  rw [State.refReturn_holdover h]
  simp only [← TimeState.ppsOk_iff]
  generalize hu : (if (s.time.ptpLock && s.time.ppsOk) = true then (s.setTime { s.time with refPresent := true }).enterHall
    else s.setTime { s.time with refPresent := true, st := .free }) = u
  have hst : u.time.st = if (s.time.ptpLock && s.time.ppsOk) = true then .hall else .free := by
    rw [← hu]
    split_ifs
    · rw [State.enterHall_time]
    · rfl
  have hrun : u.time.run = s.time.run := by
    rw [← hu]
    split_ifs
    · rw [State.enterHall_time]
      rfl
    · rfl
  unfold State.backsightAgain
  refine ⟨?_, fun hv => ?_, fun hv => ?_⟩
  · rw [← hst]
    split_ifs <;> rfl
  · rw [if_pos hv]
    exact ⟨_, rfl, rfl, rfl, rfl, rfl, rfl⟩
  · rw [if_neg (by simp [hv]), hrun]

/-! ### MT_CTRL (R71, R118, R119) -/

theorem State.writeMtCtrl_frame (s : State) (v : Word) :
    let t := s.writeMtCtrl v
    let on := v.getLsbD 0
    let clear := v.getLsbD 4 && !s.ids.hot.contains (0x100020, 4)
    t.time = { s.time with
      ppsTime := on, ppsOutEn := v.getLsbD 1, ppsSeen := s.time.ppsSeen && on, trigHeld := s.time.trigHeld && !on,
      trigRevoked := (s.time.trigRevoked && !clear) || (on && s.time.trigHeld) }
    ∧ (on = true → s.time.trigHeld = true → t.obs.trig.armed = false ∧ t.obs.trig.lost = true)
    ∧ t.mem = s.mem ∧ t.mbxs = s.mbxs ∧ t.ctxs = s.ctxs ∧ t.fab = s.fab := by
  have hon : bitAt v 0 = v.getLsbD 0 := rfl
  have hclear : s.clears 0x100020 v 4 = (v.getLsbD 4 && !s.ids.hot.contains (0x100020, 4)) := rfl
  dsimp only
  unfold State.writeMtCtrl
  simp only [hon, hclear]
  split_ifs with hheld
  · simp only [Bool.and_eq_true] at hheld
    simp [State.setHot, hheld, bitAt]
  · cases honv : v.getLsbD 0 <;> cases hh : s.time.trigHeld <;> simp_all [bitAt]

/-- Settles O30: each input by its effect, what it brings by `State.Acquires`. -/
theorem hallTimeAndPps : Obligations.HallTimeAndPps := by
  refine ⟨fun s => ?inputs, fun s v hup => ?control⟩
  case control => exact ⟨s.writeMtCtrl v, onEvent_of_true hup (·.writeMtCtrl v) s, s.writeMtCtrl_frame v⟩
  case inputs =>
    intro t0 corrected follows tree taken ticks heard asked
    have htaken (m : TimeState) {t : State} (h : (s.setTime m).Acquires t) : taken m t := h
    have hmsg (m : PtpMessage) (stamp : Nat) (hm : heard m) :
        s.Follows m ∧ exec (.ptpMessage m stamp) s = .next (State.synced s (s.ptpMessage m stamp)) :=
      ⟨hm.2, onTime_of_true hm.1 (·.ptpMessage m stamp) s⟩
    refine ⟨fun m stamp seq r t1 t3 hm hbody hr h1 h3 hseq => ?_, fun m stamp seq o hm hbody ho => ?_, fun m stamp seq hm hbody => ?_,
      fun m stamp seq o hm hbody ho hdomain hseq h1 => ?_, fun m stamp hd => ?_, rfl, fun hrun stamp => ?_, fun hseen hlate => ?_,
      fun hrun hdue => ?_, fun href => ?_, fun href => ?_, fun hwait hlate => ?_⟩
    · obtain ⟨hfol, hexec⟩ := hmsg m stamp hm
      rw [hexec, State.ptpMessage_delayResp hfol hbody h1 h3 hseq, mtOfPtp_eq hr]
      refine ⟨_, rfl, ?_, htaken _ ((State.acquire_acquires _).synced s)⟩
      rw [State.synced_mem]
      exact (State.frame_acquire _).mem (by decide)
    · obtain ⟨hfol, hexec⟩ := hmsg m stamp hm
      rw [hexec, State.ptpMessage_sync hfol hbody, mtOfPtp_eq ho]
      exact congrArg Host.Outcome.next (State.synced_same rfl rfl)
    · obtain ⟨hfol, hexec⟩ := hmsg m stamp hm
      rw [hexec, State.ptpMessage_syncAlone hfol hbody]
      exact congrArg Host.Outcome.next (State.synced_same rfl rfl)
    · obtain ⟨hfol, hexec⟩ := hmsg m stamp hm
      rw [hexec, State.ptpMessage_followUp hfol hbody hdomain hseq h1, mtOfPtp_eq ho]
      exact congrArg Host.Outcome.next (State.synced_same rfl rfl)
    · exact onTime_of_id (f := (·.ptpMessage m stamp)) (s.ptpMessage_deaf hd stamp) s.running
    · have hexec : exec (.ppsEdge stamp) s = .next (State.synced s (s.ppsEdge stamp)) := onTime_of_true hrun (·.ppsEdge stamp) s
      refine ⟨_, hexec, fun hpps => ?_, fun hpps hheld => ?_, fun hpps hheld => ?_⟩
      · rw [State.ppsEdge, if_pos hpps]
        exact htaken _ ((State.acquire_acquires _).synced s)
      · have hedge : s.ppsEdge stamp = (s.fireTrigger stamp).setTime { t0 with trigHeld := false } := by
          rw [State.ppsEdge, if_neg (by rw [hpps]; decide), if_pos hheld]
        have hsame : State.synced s ((s.fireTrigger stamp).setTime { t0 with trigHeld := false }) =
            (s.fireTrigger stamp).setTime { t0 with trigHeld := false } := State.synced_same rfl rfl
        rw [hedge, hsame]
        exact ⟨rfl, rfl⟩
      · rw [State.ppsEdge, if_neg (by rw [hpps]; decide), if_neg (by rw [hheld]; decide), State.synced_same rfl rfl]
    · exact onEvent_of_true (c := s.time.ppsSeen && decide (s.time.ppsLast + 8800000000 ≤ s.mt))
        (Bool.and_eq_true_iff.mpr ⟨hseen, decide_eq_true hlate⟩) (fun s => s.setTime { s.time with ppsSeen := false }) s
    · have hexec : exec .ppsOut s = .next (if s.time.ppsOutEn && (s.time.st == .hall || s.time.st == .aligned || s.time.st == .holdover)
          then (s.setTime { s.time with ppsDue := false }).emit .ppsOut else s.setTime { s.time with ppsDue := false }) :=
        onEvent_of_true (c := s.running && s.time.ppsDue) (Bool.and_eq_true_iff.mpr ⟨hrun, hdue⟩) (fun s =>
          if s.time.ppsOutEn && (s.time.st == .hall || s.time.st == .aligned || s.time.st == .holdover)
          then (s.setTime { s.time with ppsDue := false }).emit .ppsOut else s.setTime { s.time with ppsDue := false }) s
      refine ⟨fun hen hst => ?_, fun hno => ?_⟩
      · rw [hexec, if_pos ((ppsDriven_iff t0).mpr ⟨hen, hst⟩)]
      · rw [hexec, if_neg fun h => hno ((ppsDriven_iff t0).mp h)]
    · refine ⟨_, onTime_of_true href (fun s => s.setTime { s.time with
        refPresent := false, st := if s.time.st = .unaligned then .unaligned else .holdover }) s, ?_, ?_, ?_⟩
      · rw [State.synced_time]
        rfl
      · rw [State.synced_mem]
        rfl
      · rw [State.synced_mbxs]
        rfl
    · have hexec : exec .refReturn s = .next (State.synced s s.refReturn) := onTime_of_true (by simpa using href) State.refReturn s
      refine ⟨_, hexec, ?_, fun hst => ?_, fun hst hposted => ?_, fun hst hst' => ?_⟩
      · rw [State.synced_time, State.refReturn_refPresent]
      · rw [State.synced_time]
        exact State.refReturn_holdover_time hst
      · have hno : s.time.run.any (·.posted) = false := by
          cases hr : s.time.run with
          | none => rfl
          | some r => exact hposted r hr
        rw [State.synced_time, State.refReturn_unaligned hst, hno]
        rfl
      · rw [State.refReturn_else hst hst']
        exact htaken _ ((State.acquire_acquires _).synced s)
    · have hexec : exec .timeWaitExpiry s = .next s.releaseHost :=
        onEvent_of_true (Bool.and_eq_true_iff.mpr ⟨beq_iff_eq.mpr hwait, decide_eq_true hlate⟩) State.releaseHost s
      rw [hexec, State.releaseHost_timeWait hwait]
      rfl

end Sys2Proof.Machine
end

section
/-!
SUPPORT AND PROOF. The ends of corrections, and the backsight commands and events (R82 to R85, R88 to R101).
-/

namespace Sys2Proof.Machine

set_option Elab.async false

/-! ### ALIGNED (R92, R93) -/

theorem State.frame_sendNotices (s : State) (alignedMt : Nat) : s.Within sendParts (s.sendNotices alignedMt) :=
  .foldl (fun u _ => u.frame_ctrlPeer _ _) (.refl _ s) _

/-- The count of a device that a backsight has brought to ALIGNED (R92 step 6). -/
def TimeState.aligned (t : TimeState) (r : BsRun) : TimeState :=
  { t with st := .aligned, bsDone := true, slewing := false, slewLeft := 0, depth := r.depth, alignedMt := t.mt, run := none,
           lastNotice := t.mt, lastRepeat := t.mt }

theorem State.enterAligned_time (s : State) (r : BsRun) :
    (s.enterAligned r).time = if s.time.refPresent then s.time.aligned r
      else { s.time with slewing := false, slewLeft := 0, depth := r.depth, run := some { r with phase := .held } } := by
  unfold State.enterAligned
  cases href : s.time.refPresent with
  | false => rfl
  | true =>
    simp only [Bool.not_true, Bool.false_eq_true, if_false, if_true]
    cases r.mbx with
    | none => exact (State.frame_sendNotices _ _).time (by decide)
    | some n => exact ((State.frame_complete _ _ _ _).time (by decide)).trans ((State.frame_sendNotices _ _).time (by decide))

theorem State.correctionEnds_none {s : State} (h : s.time.run = none) : s.correctionEnds = s := by
  rw [State.correctionEnds, h]

theorem State.correctionEnds_applying {s : State} {r : BsRun} (h : s.time.run = some r) (hphase : r.phase = .applying) :
    s.correctionEnds = s.enterAligned r := by
  simp [State.correctionEnds, h, hphase]

theorem State.time_step_ (s : State) (corr : Int) : (s.step_ corr).time = s.time.stepBy corr := (State.frame_passTimers _).time (by decide)

theorem State.allocs_step_ (s : State) (corr : Int) : (s.step_ corr).stakes.allocs = s.stakes.allocs := rfl

/-- The forward step of FORWARD_STEP (R83). -/
theorem exec_forwardStep {s : State} {corr : Int} (h : s.time.stepPending = some corr) :
    exec .forwardStep s = .next (State.synced s (if s.anyArmed then s else (s.step_ corr).correctionEnds)) := by
  have hstep := onTime_of_true (c := true) rfl (fun s => match s.time.stepPending with
    | some c => if s.anyArmed then s else (s.step_ c).correctionEnds
    | none => s) s
  simp only [h] at hstep
  exact hstep

theorem exec_forwardStep_armed {s : State} {corr : Int} (h : s.time.stepPending = some corr) (harmed : s.anyArmed = true) :
    exec .forwardStep s = .next s := by
  rw [exec_forwardStep h, if_pos harmed, State.synced_same rfl rfl]

theorem exec_forwardStep_free {s : State} {corr : Int} (h : s.time.stepPending = some corr) (harmed : s.anyArmed = false) :
    exec .forwardStep s = .next (State.synced s (s.step_ corr).correctionEnds) := by
  rw [exec_forwardStep h, if_neg (by rw [harmed]; decide)]

/-- What the end of a slew does (R82, R85). -/
def State.slewEnded (s : State) : State :=
  if s.time.run.any (·.phase == .applying) then s.correctionEnds
  else (s.setTime { s.time with slewing := false, slewLeft := 0 }).syncAll

theorem exec_slewEnd {s : State} (hslew : s.time.slewing = true) (hleft : s.time.slewLeft.natAbs < 16) :
    exec .slewEnd s = .next (State.synced s s.slewEnded) :=
  onTime_of_true (c := s.time.slewing && decide (s.time.slewLeft.natAbs < 16)) (Bool.and_eq_true_iff.mpr ⟨hslew, decide_eq_true hleft⟩)
    State.slewEnded s

theorem exec_slewEnd_early {s : State} (hleft : 16 ≤ s.time.slewLeft.natAbs) : exec .slewEnd s = .next s :=
  onTime_of_false (c := s.time.slewing && decide (s.time.slewLeft.natAbs < 16))
    (by rw [decide_eq_false (Nat.not_lt.mpr hleft), Bool.and_false]) State.slewEnded s

theorem State.slewEnded_none {s : State} (hrun : s.time.run = none) :
    s.slewEnded = (s.setTime { s.time with slewing := false, slewLeft := 0 }).syncAll := by
  simp [State.slewEnded, hrun]

theorem State.slewEnded_applying {s : State} {r : BsRun} (hrun : s.time.run = some r) (hphase : r.phase = .applying) :
    s.slewEnded = s.enterAligned r := by
  rw [State.slewEnded, if_pos (by simp [hrun, hphase]), State.correctionEnds_applying hrun hphase]

/-! ### Exchanges (R89, R92) -/

theorem length_outInsert (p rank : Nat) (o : Out) (n : Nat) (l : List Out) : (outInsert p rank o n l).length = l.length + 1 := by
  induction l generalizing n with
  | nil => cases n <;> rfl
  | cons y l ih =>
    cases n with
    | zero => rfl
    | succ n =>
      rw [outInsert]
      split
      · rw [List.length_cons, ih, List.length_cons]
      · rfl

theorem State.length_emitFrame (s : State) (p : Nat) (f : Frame) : (s.emitFrame p f).outbox.length = s.outbox.length + 1 :=
  length_outInsert _ _ _ _ _

/-- A port that carries frames has one more frame out. -/
theorem State.length_sendOn {s : State} {p : Nat} (huse : s.portUsable p = true) (hopen : s.fab.fenced = false) (f : Frame) :
    (s.sendOn p f).outbox.length = s.outbox.length + 1 := by
  obtain ⟨hup, hquar⟩ := Bool.and_eq_true_iff.mp huse
  have hcarries : ((s.port p).st != .up || ((s.port p).quar && !(f.op == opHeartbeat)) || (s.fab.fenced && !(f.op == opHeartbeat))) = false := by
    rw [Bool.not_eq_true'] at hquar
    simp [beq_iff_eq.mp hup, hquar, hopen]
  unfold State.sendOn
  dsimp only
  rw [if_neg (by rw [hcarries]; decide)]
  exact s.length_emitFrame p f

theorem State.putPort_port (s : State) (p q : Nat) (x : Port) :
    (s.putPort p x).port q = if p = q ∧ q < s.fab.ports.length then x else s.port q := by
  simp only [State.port, State.putPort, State.setFab_fab, nth, List.getElem?_set]
  grind

/-- What goes out on a port leaves whether ports carry frames as it is. -/
theorem State.portUsable_sendOn (s : State) (p : Nat) (f : Frame) (q : Nat) : (s.sendOn p f).portUsable q = s.portUsable q := by
  have hput (u : State) (x : Port) (hst : x.st = (u.port p).st) (hquar : x.quar = (u.port p).quar) :
      (u.putPort p x).portUsable q = u.portUsable q := by
    rw [State.portUsable, State.putPort_port]
    split
    · next h => rw [State.portUsable, hst, hquar, h.1]
    · rfl
  unfold State.sendOn
  dsimp only
  split_ifs
  · rfl
  · exact hput (s.emitFrame p f) _ rfl rfl

theorem State.fenced_sendOn (s : State) (p : Nat) (f : Frame) : (s.sendOn p f).fab.fenced = s.fab.fenced := by
  unfold State.sendOn
  dsimp only
  split_ifs <;> rfl

/-- An exchange puts one frame on each of its ports (R92 step 2). -/
theorem State.length_sendAll {s : State} (hopen : s.fab.fenced = false) {ports : List Nat} (huse : ∀ p ∈ ports, s.portUsable p = true) :
    (ports.foldl (fun t p => t.sendBsx p t.mt 0 0 0) s).outbox.length = s.outbox.length + ports.length := by
  induction ports generalizing s with
  | nil => rfl
  | cons p ports ih =>
    have hp := huse p List.mem_cons_self
    rw [List.foldl_cons, ih (by rw [State.sendBsx, State.fenced_sendOn, hopen])
      (fun q hq => by rw [State.sendBsx, State.portUsable_sendOn]; exact huse q (List.mem_cons_of_mem _ hq)),
      State.sendBsx, State.length_sendOn hp hopen, List.length_cons]
    omega

theorem State.frame_exchange (s : State) (r : BsRun) : s.Within [.fab, .obs, .outbox] (s.exchange r) :=
  .foldl (fun u _ => u.frame_sendBsx _ _ _ _ _) (.refl _ s) _

theorem State.length_exchange {s : State} (hopen : s.fab.fenced = false) (r : BsRun) :
    (s.exchange r).outbox.length = s.outbox.length + (r.ports.filter s.portUsable).length :=
  State.length_sendAll hopen fun _ hp => (List.mem_filter.mp hp).2

/-- The next exchange of a full backsight, where no measurement runs beside it. -/
theorem State.backsightExchange_run {s : State} {r : BsRun} (hrun : s.time.run = some r) (hphase : r.phase = .exchanging)
    (hsent : r.sent < r.want) (hdue : r.start + 8000 * r.sent ≤ s.time.mt) (hmeas : s.time.meas = none) :
    s.backsightExchange = (s.setTime { s.time with run := some { r with sent := r.sent + 1 } }).exchange r := by
  have hisdue : r.due s.mt = true := by
    rw [BsRun.due, hphase]
    exact decide_eq_true hdue
  have hnone : ((s.setTime { s.time with run := some { r with sent := r.sent + 1 } }).exchange r).time.meas = none := by
    rw [(State.frame_exchange _ _).time (by decide)]
    exact hmeas
  have hexchange : s.runExchange r = (s.setTime { s.time with run := some { r with sent := r.sent + 1 } }).exchange r := if_pos hsent
  simp only [State.backsightExchange, hrun, hisdue, if_true, hexchange, hnone]

/-! ### BACKSIGHT_RUN, and what repeats (R92, R93, R96 to R98) -/

/-- The status of a command that has ended (R145). -/
theorem State.complete_status {s : State} {n op : Nat} (h : s.has n op = true) (hn : n < s.mbxs.length) (status : Nat) (res : List Nat) :
    ((s.complete n status res).mbx n).status = status := by
  obtain ⟨c, hc⟩ := State.cmd_of_has h
  simp [State.mbx, nth, s.complete_mbxs hc, hn, State.endedMbx]

theorem exec_backsightRun {s : State} {n : Nat} (h : s.has n 0x0503 = true) :
    exec (.backsightRun n) s = .next (State.synced s (s.backsightRun n)) :=
  runCommand_of_has h (fun s => State.synced s (s.backsightRun n))

/-- A datum is reachable: this device, or a route. -/
theorem State.unreachable_iff (s : State) (datum : Nat) :
    (!(s.fab.epoch != 0 && datum == s.fab.node) && (s.routePort s.fab.node datum kCtrl 0).isNone) = true
      ↔ ¬ (s.fab.epoch ≠ 0 ∧ datum = s.fab.node) ∧ s.routePort s.fab.node datum kCtrl 0 = none := by
  simp only [Bool.and_eq_true, Bool.not_eq_true', Option.isNone_iff_eq_none, Bool.and_eq_false_iff, bne_eq_false_iff_eq, beq_eq_false_iff_ne]
  tauto

theorem State.backsightRun_reachable {s : State} {n : Nat} (hrun : s.time.run = none)
    (h : (s.fab.epoch ≠ 0 ∧ s.arg n 0 % 2 ^ 14 = s.fab.node) ∨ (s.routePort s.fab.node (s.arg n 0 % 2 ^ 14) kCtrl 0).isSome = true) :
    s.backsightRun n = (s.startBacksight (some n) true (s.arg n 0 % 2 ^ 14)).begin_ n := by
  rw [State.backsightRun, if_neg (by simp [hrun]), if_neg fun hc => ?_]
  obtain ⟨hown, hport⟩ := (s.unreachable_iff (s.arg n 0 % 2 ^ 14)).mp hc
  exact h.elim hown fun hsome => by rw [hport] at hsome; exact absurd hsome (by decide)

theorem State.backsightRun_unreachable {s : State} {n : Nat} (hrun : s.time.run = none)
    (hown : ¬ (s.fab.epoch ≠ 0 ∧ s.arg n 0 % 2 ^ 14 = s.fab.node)) (hport : s.routePort s.fab.node (s.arg n 0 % 2 ^ 14) kCtrl 0 = none) :
    s.backsightRun n = s.complete n stDestLost [] := by
  rw [State.backsightRun, if_neg (by simp [hrun]), if_pos ((s.unreachable_iff _).mpr ⟨hown, hport⟩)]

theorem State.measurePort_none {s : State} (h : s.time.meas = none) (port want : Nat) (limit : Option Nat) :
    s.measurePort port want limit = s.setTime { s.time with meas := some (s.newMeasure [port] want limit) } := by
  rw [State.measurePort, h]

theorem exec_backsightRepeat {s : State} (hst : s.time.st = .aligned) (hvalid : s.time.datumValid = true)
    (hdatum : ¬ (s.fab.epoch ≠ 0 ∧ s.time.datumNode = s.fab.node)) (hdue : s.time.lastRepeat + 800000000 ≤ s.time.mt) :
    exec .backsightRepeat s = .next ((s.setTime { s.time with lastRepeat := s.mt }).measurePort s.time.parentPort 16 none) := by
  have hno : s.isDatum = false := by rw [← Bool.not_eq_true]; exact mt s.isDatum_iff.mp hdatum
  refine onEvent_of_true (c := (s.time.st == .aligned || (s.time.st == .holdover && s.time.bsDone)) && s.time.datumValid && !s.isDatum
      && decide (s.time.lastRepeat + 800000000 ≤ s.mt)) (Bool.and_eq_true_iff.mpr ⟨?_, decide_eq_true hdue⟩)
    (fun s => (s.setTime { s.time with lastRepeat := s.mt }).measurePort s.time.parentPort 16 none) s
  simp [hst, hvalid, hno]

theorem exec_alignedNoticeRepeat {s : State} (hst : s.time.st = .aligned) (hdue : s.time.lastNotice + 8000000 ≤ s.time.mt) :
    exec .alignedNoticeRepeat s = .next ((s.setTime { s.time with lastNotice := s.mt }).sendNotices s.time.alignedMt) :=
  onEvent_of_true (c := s.time.st == .aligned && decide (s.time.lastNotice + 8000000 ≤ s.mt))
    (Bool.and_eq_true_iff.mpr ⟨beq_iff_eq.mpr hst, decide_eq_true hdue⟩)
    (fun s => (s.setTime { s.time with lastNotice := s.mt }).sendNotices s.time.alignedMt) s

/-- The words of an ALIGNED notice (R93). -/
theorem State.sendNotices_eq (s : State) (alignedMt : Nat) :
    s.sendNotices alignedMt = s.directPeers.foldl
      (fun t p => t.ctrlPeer p.1 [2 ^ 48 + s.time.datumNode, asWord s.time.totalCorr, s.time.depth * 256, alignedMt]) s := by
  simp only [State.sendNotices, placed_eq_mul, one_mul, Nat.reducePow]

theorem exec_parentRemeasureTimeout {s : State} {r : BsRun} {m : Nat} (hmeas : s.time.meas = some r) (hlimit : r.limit = some m)
    (hpast : m ≤ s.time.mt) (hst : s.time.st = .aligned) :
    exec .parentRemeasureTimeout s = .next (State.synced s (s.loseAlignment 0)) := by
  have h := onTime_of_true (c := true) rfl (fun s => match s.time.meas.bind (·.limit) with
    | some m => if m ≤ s.mt ∧ s.time.st = .aligned then s.loseAlignment 0 else s
    | none => s) s
  simp only [hmeas, Option.bind_some, hlimit, show m ≤ s.mt ∧ s.time.st = .aligned from ⟨hpast, hst⟩, and_self, if_true] at h
  exact h

theorem exec_hallCorrection {s : State} (hst : s.time.st = .aligned) (hepoch : s.fab.epoch ≠ 0) (hnode : s.time.datumNode = s.fab.node)
    (hlock : s.time.ptpLock = true) (hdue : s.time.lastHall + 8000000000 ≤ s.time.mt) (ahead : Nat) :
    exec (.hallCorrection ahead) s = .next (s.hallCorrection ahead) := by
  refine onEvent_of_true (c := (s.time.st == .aligned || (s.time.st == .holdover && s.time.bsDone)) && s.isDatum && s.time.ptpLock
      && decide (s.time.lastHall + 8000000000 ≤ s.mt)) (Bool.and_eq_true_iff.mpr ⟨?_, decide_eq_true hdue⟩)
    (fun s => s.hallCorrection ahead) s
  simp [hst, s.isDatum_iff.mpr ⟨hepoch, hnode⟩, hlock]

/-- The datum's own state once it has sent a correction (R97, R101). -/
def TimeState.hallSent (t : TimeState) (node : Nat) : TimeState :=
  { t with hallNseq := (t.hallNseq + 1) % 2 ^ 32, hallSeen := t.seen node t.hallNseq, lastHall := t.mt }

/-- The frames of a correction sent down the tree (R97, R101). -/
def State.hallDown (s : State) (ahead : Nat) : State :=
  s.directPeers.foldl (fun t p => t.ctrlPeer p.1 (hallWords s.fab.node (s.mt + 80000000 + ahead) s.time.hallCorr s.time.hallNseq))
    (s.setTime (s.time.hallSent s.fab.node))

theorem State.hallCorrection_eq (s : State) (ahead : Nat) :
    s.hallCorrection ahead = (s.hallDown ahead).enqueueTimer (s.mt + 80000000 + ahead) (.hallSlew s.time.hallCorr) := rfl

theorem State.hallDown_time (s : State) (ahead : Nat) : (s.hallDown ahead).time = s.time.hallSent s.fab.node := by
  have hsent : (s.setTime (s.time.hallSent s.fab.node)).Within sendParts (s.hallDown ahead) :=
    .foldl (fun u _ => u.frame_ctrlPeer _ _) (.refl _ _) _
  exact hsent.time (by decide)

/-- What the datum keeps of a correction that it sends (R97, R101). -/
theorem State.hallCorrection_effect (s : State) (ahead : Nat) :
    (s.hallCorrection ahead).time = s.time.hallSent s.fab.node
      ∧ ⟨s.time.mt + 80000000 + ahead, .hallSlew (max (-8) (min 8 (s.time.hallDiff.tdiv 16))), false⟩ ∈ (s.hallCorrection ahead).stakes.timers := by
  refine ⟨s.hallDown_time ahead, List.mem_append_right _ (List.mem_singleton.mpr ?_)⟩
  have hmt : (s.hallDown ahead).time.mt = s.time.mt := by rw [s.hallDown_time]; rfl
  have hlate : ¬ s.time.mt + 80000000 + ahead ≤ (s.hallDown ahead).time.mt := by omega
  exact congrArg (Timer.mk _ _) (decide_eq_false hlate).symm

/-! ### The obligation -/

/-- Settles O31: a step and a slew end by the equations of their events, which bring a backsight that was applying to ALIGNED; the
commands and events of backsight by the equations above, and what they send changes no part of the count. -/
theorem correctionsAndBacksight : Obligations.CorrectionsAndBacksight := by
  unfold Obligations.CorrectionsAndBacksight
  refine ⟨fun s => ⟨?_, ?_, ?_, ?_, ?_, fun _ => exec_slewEnd_early⟩, fun s => ⟨?_, ?_, ?_, ?_, ?_, ?_, ?_⟩⟩
  · exact fun corr hstep harmed => exec_forwardStep_armed hstep harmed
  · intro corr hstep harmed hrun
    have hends : (s.step_ corr).correctionEnds = s.step_ corr := State.correctionEnds_none (by rw [State.time_step_]; exact hrun)
    refine ⟨_, exec_forwardStep_free hstep harmed, ?_⟩
    rw [hends]
    simp only [State.synced_time, State.synced_mem, State.synced_mbxs, State.synced_stakes, State.time_step_, State.allocs_step_]
    exact ⟨trivial, rfl, rfl, (s.frame_step_ corr).mem (by decide), (s.frame_step_ corr).mbxs (by decide), trivial⟩
  · intro corr r hstep harmed hrun href hphase
    have hends : (s.step_ corr).correctionEnds = (s.step_ corr).enterAligned r :=
      State.correctionEnds_applying (by rw [State.time_step_]; exact hrun) hphase
    have href' : (s.step_ corr).time.refPresent = true := by rw [State.time_step_]; exact href
    refine ⟨_, exec_forwardStep_free hstep harmed, ?_⟩
    rw [State.synced_time, hends, State.enterAligned_time, if_pos href', State.time_step_]
    exact ⟨rfl, rfl, rfl, rfl, rfl⟩
  · intro hslew hleft hrun
    refine ⟨_, exec_slewEnd hslew hleft, ?_⟩
    rw [State.synced_time, State.synced_mem, State.synced_mbxs, State.slewEnded_none hrun]
    exact ⟨(State.frame_syncAll _).time (by decide), (State.frame_syncAll _).mem (by decide), (State.frame_syncAll _).mbxs (by decide)⟩
  · intro r hslew hleft hrun hphase
    refine ⟨_, exec_slewEnd hslew hleft, ?_⟩
    rw [State.synced_time, State.slewEnded_applying hrun hphase, State.enterAligned_time]
    cases href : s.time.refPresent
    · exact ⟨rfl, rfl, rfl, nofun, fun _ => ⟨rfl, rfl⟩⟩
    · exact ⟨rfl, rfl, rfl, fun _ => ⟨rfl, rfl⟩, nofun⟩
  · intro n h hrun datum hreach
    refine ⟨_, exec_backsightRun h, ?_⟩
    rw [State.synced_time, State.backsightRun_reachable hrun hreach, (State.frame_begin _ _).time (by decide)]
    exact ⟨rfl, rfl, rfl⟩
  · intro n h hrun datum hown hport
    refine ⟨_, exec_backsightRun h, ?_⟩
    rw [State.synced_time, State.backsightRun_unreachable hrun hown hport]
    refine ⟨(State.frame_complete _ _ _ _).time (by decide), fun hn => ?_⟩
    rw [State.mbx, State.synced_mbxs]
    exact State.complete_status h hn _ _
  · intro hst hvalid hdatum hdue hmeas
    refine ⟨_, exec_backsightRepeat hst hvalid hdatum hdue, rfl, s.newMeasure [s.time.parentPort] 16 none, ?_, rfl, rfl, rfl⟩
    rw [State.measurePort_none (by exact hmeas)]
    rfl
  · intro hst hdue
    rw [exec_alignedNoticeRepeat hst hdue, State.sendNotices_eq]
    rfl
  · intro r hrun hphase hsent hdue hopen hmeas
    refine ⟨_, onTime_of_true (c := true) rfl State.backsightExchange s, ?_⟩
    rw [State.synced_time, State.synced_outbox, State.backsightExchange_run hrun hphase hsent hdue hmeas]
    exact ⟨(State.frame_exchange _ _).time (by decide),
      State.length_exchange (s := s.setTime { s.time with run := some { r with sent := r.sent + 1 } }) hopen r⟩
  · intro r m hmeas hlimit hpast hst
    refine ⟨_, exec_parentRemeasureTimeout hmeas hlimit hpast hst, ?_⟩
    rw [State.synced_time, State.loseAlignment_time]
    exact ⟨rfl, rfl, rfl⟩
  · intro hst hepoch hnode hlock hdue ahead
    obtain ⟨htime, htimer⟩ := s.hallCorrection_effect ahead
    refine ⟨_, exec_hallCorrection hst hepoch hnode hlock hdue ahead, ?_⟩
    rw [htime]
    exact ⟨rfl, rfl, List.mem_cons_self, htimer, rfl⟩

end Sys2Proof.Machine
end

section
/-!
SUPPORT AND PROOF. Comparators and the timer queue as they fire (R102 to R106, R126, R151).
-/

namespace Sys2Proof.Machine

set_option Elab.async false

/-! ### COMPARATOR_FIRE (R103 to R105) -/

section Fire

variable {s : State} {loc k : Nat} {a : Alloc} (h : s.stakes.allocs.find? (fun a => a.armed.contains (loc, k)) = some a)
include h

/-- A comparator whose stake is not reached does not fire (R103). -/
theorem exec_comparatorFire_early (hearly : s.replicaAt loc < a.stake) : exec (.comparatorFire loc k) s = .next s := by
  show execComparatorFire loc k s = _
  simp only [execComparatorFire, h, Nat.not_le.mpr hearly, false_and, if_false]

/-- An expiry leaves the outcome to a COMMIT that came in time (R126). -/
theorem exec_comparatorFire_commit {job : Nat} (hevent : a.event = .offerExpiry job) (hcommit : s.commitArriving job = true) :
    exec (.comparatorFire loc k) s = .next s := by
  show execComparatorFire loc k s = _
  simp only [execComparatorFire, h, hevent, hcommit, Bool.not_true, Bool.false_eq_true, and_false, if_false]

theorem exec_comparatorFire (hdue : a.stake ≤ s.replicaAt loc) (hopen : ∀ job, a.event = .offerExpiry job → s.commitArriving job = false) :
    exec (.comparatorFire loc k) s = .next (s.placeFires a (loc, k)) := by
  show execComparatorFire loc k s = _
  rw [execComparatorFire]
  simp only [h]
  split
  · next job hevent => rw [if_pos ⟨hdue, by rw [hopen job hevent]; rfl⟩]
  · rw [if_pos ⟨hdue, rfl⟩]

end Fire

/-- The machine with one comparator of an allocation less armed. -/
def State.disarmed (s : State) (a : Alloc) (place : Nat × Nat) : State :=
  s.setStakes { s.stakes with allocs := s.stakes.allocs.map fun x => if x.id = a.id then a.fired place else x }

theorem State.placeFires_silent {s : State} {a : Alloc} {loc k : Nat} (hhub : loc ≠ 8) (hmany : 1 < a.places.length) :
    s.placeFires a (loc, k) = if (a.fired (loc, k)).armed.isEmpty && a.event != .notice then (s.disarmed a (loc, k)).dropAlloc a.id
      else s.disarmed a (loc, k) := by
  have hsilent : ¬ a.acts (loc, k) = true := by
    simp only [Alloc.acts, Bool.or_eq_true, beq_iff_eq, decide_eq_true_eq]
    omega
  rw [State.placeFires, if_neg hsilent]
  rfl

theorem State.placeFires_acts {s : State} {a : Alloc} {loc k : Nat} (hacts : loc = 8 ∨ a.places.length ≤ 1) :
    s.placeFires a (loc, k) = (s.disarmed a (loc, k)).allocFires (a.fired (loc, k)) :=
  if_pos (by simpa [Alloc.acts] using hacts)

theorem State.allocFires_notice {s : State} {a : Alloc} {n : Nat} (hevent : a.event = .notice) (howner : s.ownerMailbox a.owner = some n) :
    s.allocFires a = s.notify [n] 1 stOk (match a.owner with | .context c => c | _ => 0) (if a.late then s.time.mt else a.stake)
      (s.stampFlags 1 a.late false false) [a.id] := by
  simp only [State.allocFires, hevent, howner] <;> rfl

theorem State.allocFires_event {s : State} {a : Alloc} (hevent : a.event ≠ .notice) :
    s.allocFires a = (if a.armed.isEmpty then s.dropAlloc a.id else s).eventFires a.event a.stake false a.late := by
  unfold State.allocFires
  split
  · next h => exact absurd h hevent
  · rfl

/-! ### TIMER_QUEUE_EXPIRY (R106) -/

theorem firstDueTimer_mem {mt : Nat} {l : List Timer} {x : Timer} (h : firstDueTimer mt l = some x) : x ∈ l ∧ x.due ≤ mt := by
  induction l with
  | nil => cases h
  | cons y l ih =>
    rw [firstDueTimer] at h
    split at h
    · split at h
      · next hdue => cases h; exact ⟨List.mem_cons_self, hdue⟩
      · cases h
    · next u hu =>
      split at h
      · next hdue => cases h; exact ⟨List.mem_cons_self, hdue.1⟩
      · cases h
        obtain ⟨hmem, hdue⟩ := ih hu
        exact ⟨List.mem_cons_of_mem _ hmem, hdue⟩

theorem firstDueTimer_none {mt : Nat} {l : List Timer} (h : ∀ x ∈ l, mt < x.due) : firstDueTimer mt l = none := by
  cases hfirst : firstDueTimer mt l with
  | none => rfl
  | some x =>
    obtain ⟨hmem, hdue⟩ := firstDueTimer_mem hfirst
    exact absurd hdue (Nat.not_le.mpr (h x hmem))

theorem firstDueTimer_head {mt : Nat} {x : Timer} {l : List Timer} (hdue : x.due ≤ mt) (hfirst : ∀ y ∈ l, y.due ≤ mt → x.due ≤ y.due) :
    firstDueTimer mt (x :: l) = some x := by
  rw [firstDueTimer]
  split
  · rw [if_pos hdue]
  · next u hu =>
    obtain ⟨hmem, hudue⟩ := firstDueTimer_mem hu
    rw [if_pos ⟨hdue, hfirst u hmem hudue⟩]

theorem exec_timerQueueExpiry_early {s : State} (h : ∀ x ∈ s.stakes.timers, s.time.mt < x.due) : exec .timerQueueExpiry s = .next s := by
  show execTimerQueueExpiry s = _
  rw [execTimerQueueExpiry, State.mt, firstDueTimer_none h]

theorem exec_timerQueueExpiry_head {s : State} {x : Timer} {xs : List Timer} (htimers : s.stakes.timers = x :: xs)
    (hdue : x.due ≤ s.time.mt) (hfirst : ∀ y ∈ xs, y.due ≤ s.time.mt → x.due ≤ y.due) :
    exec .timerQueueExpiry s = .next ((s.setStakes { s.stakes with timers := xs }).eventFires x.event x.due true x.late) := by
  show execTimerQueueExpiry s = _
  rw [execTimerQueueExpiry, State.mt, htimers, firstDueTimer_head hdue hfirst]
  simp only [List.erase_cons_head]

/-! ### The obligation -/

/-- Settles O32, by the equations of the two events: a comparator acts or fires silently, and the queue's first due entry is the
one at its head, which no due entry precedes. -/
theorem comparatorsFire : Obligations.ComparatorsFire := by
  unfold Obligations.ComparatorsFire
  intro s
  refine ⟨?_, exec_timerQueueExpiry_early, fun x xs => exec_timerQueueExpiry_head⟩
  intro loc k a h now b u free
  refine ⟨exec_comparatorFire_early h, fun job => exec_comparatorFire_commit h, fun hdue hopen => ?_⟩
  rw [exec_comparatorFire h hdue hopen]
  refine ⟨fun hhub hmany => ?_, fun hacts hevent n howner => ?_, fun hacts hevent => ?_⟩
  · rw [State.placeFires_silent hhub hmany]
    rfl
  · rw [State.placeFires_acts hacts, State.allocFires_notice (by exact hevent) (by exact howner)]
    rfl
  · rw [State.placeFires_acts hacts, State.allocFires_event (by exact hevent)]
    rfl

end Sys2Proof.Machine
end

section
/-!
SUPPORT AND PROOF. What the entries of a command list do that the control processor performs itself (R168, R171 to R173, R383, R384,
R809).
-/

namespace Sys2Proof.Machine

set_option Elab.async false

/-! ### Entries that run -/

theorem onEntry_of_running {s : State} {watch k kind : Nat} {p : Pass} {e : Entry} (h : s.runningEntry watch k kind = some (p, e))
    (f : Pass → Entry → State → State) : onEntry watch k kind f s = .next (f p e s) := by
  rw [onEntry, h]

/-- An entry that runs is the pass's entry at its place, and its pass goes on. -/
theorem State.runningEntry_eq_some {s : State} {watch k kind : Nat} {p : Pass} {e : Entry} (h : s.runningEntry watch k kind = some (p, e)) :
    s.pass watch = some p ∧ p.entries[k]? = some e ∧ e.phase = .running ∧ e.kind = kind ∧ e.held = false ∧ s.passLive p = true := by
  unfold State.runningEntry at h
  split at h
  · cases h
  · next p' hpass =>
    split at h
    · cases h
    · next e' hentry =>
      split at h
      · next hruns =>
        cases h
        simp only [Bool.and_eq_true, beq_iff_eq, Bool.not_eq_true'] at hruns
        obtain ⟨⟨⟨hphase, hkind⟩, hheld⟩, hlive⟩ := hruns
        exact ⟨hpass, hentry, hphase, hkind, hheld, hlive⟩
      · cases h

theorem State.endEntry_eq {s : State} {watch k : Nat} {p : Pass} {e : Entry} (hpass : s.pass watch = some p) (hentry : p.entries[k]? = some e)
    (hended : e.phase ≠ .ended) (hrecorded : e.phase ≠ .recorded) (status detail : Nat) :
    s.endEntry watch k status detail = s.putPass (p.putEntry k (entryEnded s e status detail)) := by
  have hopen : (e.phase == .recorded || e.phase == .ended) = false := by simp [hended, hrecorded]
  have hends : entryEnded s e status detail = { s.begunEntry e with
      phase := .ended, status, detail, endMt := s.mt, endFlags := s.hubFlags false, latchEnd := s.obs.aon } := by
    unfold entryEnded State.begunEntry
    dsimp only
    cases hbegun : e.begun
    · by_cases hruns : e.phase = .running
      · simp only [Bool.false_eq_true, if_false, hruns, beq_self_eq_true, if_true]
        rfl
      · simp only [Bool.false_eq_true, if_false, hruns, beq_eq_false_iff_ne.mpr hruns]
        rfl
    · simp only [if_true, hbegun]
      rfl
  unfold State.endEntry
  simp only [hpass, hentry, hopen, Bool.false_eq_true, if_false, hends]

theorem exec_nopEntry {s : State} {watch k : Nat} {p : Pass} {e : Entry} (h : s.runningEntry watch k 0 = some (p, e)) :
    exec (.nopEntry watch k) s = .next (s.endEntry watch k stOk 0) :=
  onEntry_of_running h fun _ _ s => s.endEntry watch k stOk 0

theorem exec_fenceEntry {s : State} {watch k : Nat} {p : Pass} {e : Entry} (h : s.runningEntry watch k 5 = some (p, e)) :
    exec (.fenceEntry watch k) s =
      .next (if (p.entries.take k).all (fun d => d.phase == .recorded) then s.endEntry watch k stOk 0 else s) :=
  onEntry_of_running h fun p _ s => if (p.entries.take k).all (fun d => d.phase == .recorded) then s.endEntry watch k stOk 0 else s

theorem fence_all_iff (p : Pass) (k : Nat) :
    (p.entries.take k).all (fun d => d.phase == .recorded) = true ↔ ∀ d ∈ p.entries.take k, d.phase = .recorded := by
  simp only [List.all_eq_true, beq_iff_eq]

/-! ### WRITE (R171) -/

theorem exec_write {s : State} {watch k : Nat} {p : Pass} {e : Entry} (h : s.runningEntry watch k 3 = some (p, e)) :
    exec (.write watch k) s = .next (s.writeEntry watch k p e) :=
  onEntry_of_running h fun p e s => s.writeEntry watch k p e

theorem State.cpStore_local {s : State} {ctx va pa : Nat} {bytes : List Byte}
    (h : s.cpTranslate ctx .write va bytes.length = .pieces [⟨.local_ pa, va, bytes.length⟩]) (op : FlowOp) :
    s.cpStore ctx va bytes op = (s.hubWrite pa bytes, .done) := by
  rw [State.cpStore, h]
  simp only [State.storePieces, State.storePiece, List.take_length]

theorem State.writeEntry_local {s : State} {watch k pa : Nat} {p : Pass} {e : Entry} (halign : e.word 2 % 8 = 0)
    (h : s.cpTranslate p.ctx .write (e.word 2) 8 = .pieces [⟨.local_ pa, e.word 2, 8⟩]) :
    s.writeEntry watch k p e = (s.hubWrite pa (leBytes 8 (e.word 3))).endEntry watch k stOk 0 := by
  have hlen : (leBytes 8 (e.word 3)).length = 8 := rfl
  have hstore := State.cpStore_local (s := s) (ctx := p.ctx) (bytes := leBytes 8 (e.word 3)) h (.entry watch k p.ctx 0 0)
  rw [State.writeEntry, if_neg (not_not.mpr halign), hstore]

/-! ### WAIT (R172) -/

theorem exec_wait {s : State} {watch k : Nat} {p : Pass} {e : Entry} (h : s.runningEntry watch k 4 = some (p, e)) :
    exec (.wait watch k) s = .next (s.waitEntry watch k p e) :=
  onEntry_of_running h fun p e s => s.waitEntry watch k p e

/-- COMPARISON of a WAIT entry. -/
theorem Entry.comparison (e : Entry) : fieldNat (nth e.words 4 0) 1 0 = e.word 4 % 4 := by
  rw [fieldNat_eq_div_mod, Nat.pow_zero, Nat.div_one]
  rfl

theorem State.waitEntry_malformed {s : State} {watch k : Nat} {p : Pass} {e : Entry} (hfirst : e.watched = 0)
    (h : 3 ≤ e.word 4 % 4 ∨ e.word 2 % 8 ≠ 0) : s.waitEntry watch k p e = s.endEntry watch k stBadArg 0 := by
  rw [State.waitEntry, if_neg (not_not.mpr hfirst), e.comparison, if_pos h]

theorem State.waitEntry_local {s : State} {watch k pa : Nat} {p : Pass} {e : Entry} (hfirst : e.watched = 0) (hcomp : e.word 4 % 4 < 3)
    (halign : e.word 2 % 8 = 0) (h : s.cpTranslate p.ctx .read (e.word 2) 8 = .pieces [⟨.local_ pa, e.word 2, 8⟩]) :
    s.waitEntry watch k p e =
      if s.abaom.watches.any (fun w => w.line == pa / 256) then
        if s.poisoned pa 8 then s.endEntry watch k stHwFault 0
        else if e.waitMet (s.hbmWord pa).toNat then s.endEntry watch k stOk 0
        else s.putEntry watch k { e with watched := pa }
      else s.endEntry watch k stBadState 0 := by
  rw [State.waitEntry, if_neg (not_not.mpr hfirst), e.comparison, if_neg (by omega), h]

theorem Entry.waitMet_iff (e : Entry) (v : Nat) :
    e.waitMet v = true ↔ match e.word 4 % 4 with | 0 => v = e.word 3 | 1 => v ≠ e.word 3 | _ => e.word 3 ≤ v := by
  unfold Entry.waitMet
  dsimp only
  rw [e.comparison]
  obtain _ | _ | c := e.word 4 % 4 <;> simp [Entry.word]

theorem exec_waitDeadline {s : State} {watch k : Nat} {p : Pass} {e : Entry} (h : s.runningEntry watch k 4 = some (p, e)) (hset : e.word 5 ≠ 0) :
    exec (.waitDeadline watch k) s =
      .next (if e.word 5 ≤ s.time.mt then s.endWait watch k e (if e.met then stOk else stTimeout) else s) := by
  obtain ⟨hpass, hentry, hphase, hkind, -, hlive⟩ := State.runningEntry_eq_some h
  have hsome : s.entry watch k = some e := by rw [State.entry, hpass]; exact hentry
  have hmt : s.mt = s.time.mt := rfl
  show execWaitDeadline watch k s = _
  rw [execWaitDeadline, hpass, hsome]
  simp [hphase, hkind, hset, hlive, hmt]

theorem State.endWait_eq (s : State) (watch k : Nat) (e : Entry) :
    s.endWait watch k e (if e.met then stOk else stTimeout) =
      if e.met then s.endEntry watch k stOk 0 else s.endEntry watch k stTimeout (e.word 5) := by
  cases e.met <;> rfl

/-! ### MARK (R809) -/

theorem exec_mark {s : State} {watch k : Nat} {p : Pass} {e : Entry} (h : s.runningEntry watch k 6 = some (p, e)) :
    exec (.mark watch k) s = .next (s.markEntry watch k p e) :=
  onEntry_of_running h fun p e s => s.markEntry watch k p e

/-! ### COPY (R383, R384) -/

theorem exec_copy {s : State} {watch k : Nat} {p : Pass} {e : Entry} (h : s.runningEntry watch k 2 = some (p, e)) :
    exec (.copy watch k) s = .next (s.copyEntry watch k p e) :=
  onEntry_of_running h fun p e s => s.copyEntry watch k p e

theorem State.copyEntry_reserved {s : State} {watch k : Nat} {p : Pass} {e : Entry} (h : convOf (e.word 5 % 256) = none) :
    s.copyEntry watch k p e = s.endEntry watch k stBadArg 0 := by
  rw [State.copyEntry, h]

theorem State.copyEntry_refused {s : State} {watch k : Nat} {p : Pass} {e : Entry} {c : Conv} (hconv : convOf (e.word 5 % 256) = some c)
    (h : c.stochastic = true ∨ c.dstLen (e.word 4) = none ∨ c.aligned (e.word 2) (e.word 3) = false) :
    s.copyEntry watch k p e = s.endEntry watch k stBadArg 0 := by
  rw [State.copyEntry, hconv]
  exact if_pos (by simpa [or_assoc] using h)

theorem State.copyEntry_plain {s t : State} {watch k : Nat} {p : Pass} {e : Entry} {b : List Byte} (hconv : e.word 5 % 256 = 0)
    (hread : s.entryRead watch k p.ctx (e.word 2) (e.word 4) = (t, some b)) :
    s.copyEntry watch k p e = t.copyBytes watch k p.ctx (e.word 2) (e.word 4) (e.word 3) .none b := by
  have hnone : convOf (e.word 5 % 256) = some .none := by rw [hconv]; rfl
  rw [State.copyEntry, hnone]
  dsimp only
  rw [if_neg (by simp [Conv.stochastic, Conv.dstLen, Conv.aligned]), hread]

/-- Where no tie access is under way, nothing is taken back and no invalidation ends. -/
theorem State.tieTake_idle {s : State} (hops : s.xlat.tieOps = []) (hinvs : s.xlat.invs = []) (hoverdue : s.xlat.overdue = [])
    (who : Waiter → Bool) : s.tieTake who = s := by
  have hsame : ({ s.xlat with tieOps := [], invs := [], overdue := [] } : XlatState) = s.xlat := by rw [← hops, ← hinvs, ← hoverdue]
  have hset : s.setXlat s.xlat = s := rfl
  simp only [State.tieTake, State.settleInvs, hops, hinvs, hoverdue, List.filter_nil, List.foldl_nil, State.setXlat_xlat]
  exact (congrArg s.setXlat hsame).trans hset

theorem State.entryRead_local {s : State} {watch k ctx src pa len : Nat}
    (htrans : s.cpTranslate ctx .read src len = .pieces [⟨.local_ pa, src, len⟩])
    (hsplit : splitPieces [⟨.local_ pa, src, len⟩] = [⟨.local_ pa, src, len⟩]) (hclean : s.poisoned pa len = false)
    (hops : s.xlat.tieOps = []) (hinvs : s.xlat.invs = []) (hoverdue : s.xlat.overdue = []) :
    s.entryRead watch k ctx src len = (s, some (s.hbmRead pa len)) := by
  rw [State.entryRead, htrans]
  simp only [hsplit, State.fetchPieces, State.fetchPiece, hclean, Bool.false_eq_true, if_false, List.append_nil,
    State.tieTake_idle hops hinvs hoverdue]

theorem overlapAt_false {src len dst i : Nat} (hi : i < len) (h : src + len ≤ dst ∨ dst + len ≤ src) : overlapAt src len dst i = false := by
  simp only [overlapAt, Bool.and_eq_false_iff, decide_eq_false_iff_not]
  omega

theorem State.copyBytes_local {s : State} {watch k ctx src len dst pb : Nat} {data : List Byte} (hlen : data.length = len)
    (htrans : s.cpTranslate ctx .write dst len = .pieces [⟨.local_ pb, dst, len⟩]) (hapart : src + len ≤ dst ∨ dst + len ≤ src) :
    s.copyBytes watch k ctx src len dst .none data = ((s.hbmWrite pb data).copyTime ctx).endEntry watch k stOk 0 := by
  subst hlen
  have hnone : (List.range data.length).any (overlapAt src data.length dst) = false := by
    rw [List.any_eq_false]
    intro i hi
    rw [overlapAt_false (List.mem_range.mp hi) hapart]
    decide
  unfold State.copyBytes
  simp only [Conv.apply, hnone, Bool.false_and, Bool.false_eq_true, if_false, htrans, State.engineStore, State.enginePiece, List.take_length]

/-! ### The obligation -/

/-- Settles O33, by the equations of the entries: each runs its own function once, on the words that it holds. -/
theorem listEntries : Obligations.ListEntries := by
  unfold Obligations.ListEntries
  refine ⟨?_, ?_⟩
  · intro s watch k p e h src dst len
    rw [exec_copy h]
    refine ⟨fun hconv => by rw [State.copyEntry_reserved hconv], fun c hconv hbad => by rw [State.copyEntry_refused hconv hbad], ?_⟩
    intro hconv _ _ pa pb hread hwrite hsplit hclean hapart hops hinvs hoverdue
    have hlen : (s.hbmRead pa len).length = len := cellRead_length _ _ _
    rw [State.copyEntry_plain hconv (State.entryRead_local hread hsplit hclean hops hinvs hoverdue),
      State.copyBytes_local hlen hwrite hapart]
  · intro s watch k p e ends
    refine ⟨exec_nopEntry, fun h => ?_, fun h => ?_, fun h hfirst => ?_, fun h hset => ?_, fun h => ?_, fun status detail hpass hentry hended
      hrecorded => State.endEntry_eq hpass hentry hended hrecorded status detail⟩
    · rw [exec_fenceEntry h, ← fence_all_iff]
      refine ⟨fun hall => by rw [if_pos hall], fun hsome => ?_⟩
      obtain ⟨d, hd, hphase⟩ := hsome
      rw [if_neg fun hall => hphase ((fence_all_iff p k).mp hall d hd)]
    · rw [exec_write h]
      refine ⟨fun halign => by rw [State.writeEntry, if_pos halign], fun halign pa hlocal _ => ?_⟩
      rw [State.writeEntry_local halign hlocal]
    · rw [exec_wait h]
      refine ⟨fun hbad => by rw [State.waitEntry_malformed hfirst hbad], fun hcomp halign pa hlocal => ?_⟩
      rw [State.waitEntry_local hfirst hcomp halign hlocal]
      refine ⟨fun hnone => ?_, fun hsome hclean => ?_⟩
      · rw [if_neg (by simpa using hnone)]
      · rw [if_pos (by simpa using hsome), hclean, if_neg (by decide)]
        refine ⟨fun hmet => ?_, fun hmet => ?_⟩
        · rw [if_pos ((e.waitMet_iff _).mpr hmet)]
        · rw [if_neg fun h => hmet ((e.waitMet_iff _).mp h)]
    · rw [exec_waitDeadline h hset]
      refine ⟨fun hearly => by rw [if_neg (Nat.not_le.mpr hearly)], fun hdue => ?_⟩
      rw [if_pos hdue, s.endWait_eq]
      exact apply_ite Host.Outcome.next _ _ _
    · rw [exec_mark h, State.markEntry, placed_eq_mul]
      exact apply_ite Host.Outcome.next _ _ _

end Sys2Proof.Machine
end

section
/-!
SUPPORT AND PROOF. DISPATCH entries and the life of blocks (R25 to R30, R129, R130, R199 to R202, R237, R259, R260).
-/

namespace Sys2Proof.Machine

set_option Elab.async false

/-! ### Passes and their entries -/

theorem State.frame_putPass (s : State) (p : Pass) : s.Within [.abaom, .abaomCore] (s.putPass p) := s.frame_setAbaom _

theorem State.frame_putEntry (s : State) (watch k : Nat) (e : Entry) : s.Within [.abaom, .abaomCore] (s.putEntry watch k e) := by
  unfold State.putEntry
  split
  · exact s.frame_putPass _
  · exact .refl _ s

theorem State.frame_endEntry (s : State) (watch k status detail : Nat) : s.Within [.abaom, .abaomCore] (s.endEntry watch k status detail) := by
  unfold State.endEntry
  split
  · exact .refl _ s
  · split
    · exact .refl _ s
    · split
      · exact .refl _ s
      · exact s.frame_putPass _

theorem State.watch_of_pass {s : State} {watch : Nat} {p : Pass} (h : s.pass watch = some p) : p.watch = watch := by
  simpa using List.find?_some (p := fun p : Pass => p.watch == watch) h

/-- A pass put in place of the list's own is the list's pass. -/
theorem State.pass_putPass {s : State} {p q : Pass} (h : s.pass q.watch = some p) : (s.putPass q).pass q.watch = some q := by
  have hp := State.watch_of_pass h
  rw [State.pass, State.putPass, State.setAbaom_abaom, List.find?_map]
  have hsame : ((fun x : Pass => x.watch == q.watch) ∘ fun x => if x.watch = q.watch then q else x) = fun x => x.watch == q.watch := by
    funext x
    by_cases hx : x.watch = q.watch <;> simp [hx]
  rw [State.pass] at h
  rw [hsame, h, Option.map_some, if_pos hp]

theorem State.entry_eq {s : State} {watch k : Nat} {p : Pass} (h : s.pass watch = some p) : s.entry watch k = p.entries[k]? := by
  rw [State.entry, h]
  rfl

theorem State.pass_of_entry {s : State} {watch k : Nat} {e : Entry} (h : s.entry watch k = some e) :
    ∃ p, s.pass watch = some p ∧ p.entries[k]? = some e := Option.bind_eq_some_iff.mp h

theorem State.putEntry_eq {s : State} {watch k : Nat} {p : Pass} (h : s.pass watch = some p) (e : Entry) :
    s.putEntry watch k e = s.putPass (p.putEntry k e) := by
  rw [State.putEntry, h]

theorem Pass.putEntry_same {p : Pass} {k : Nat} {e : Entry} (h : p.entries[k]? = some e) (d : Entry) : (p.putEntry k d).entries[k]? = some d := by
  obtain ⟨hk, -⟩ := List.getElem?_eq_some_iff.mp h
  rw [Pass.putEntry, List.getElem?_set_self hk]

/-- An entry put in place of the list's own is the list's entry there. -/
theorem State.pass_putEntry {s : State} {watch k : Nat} {p : Pass} (h : s.pass watch = some p) (d : Entry) :
    (s.putEntry watch k d).pass watch = some (p.putEntry k d) := by
  have hwatch : (p.putEntry k d).watch = watch := (State.watch_of_pass h :)
  rw [State.putEntry_eq h]
  have hput := State.pass_putPass (s := s) (p := p) (q := p.putEntry k d) (by rw [hwatch]; exact h)
  rwa [hwatch] at hput

theorem State.entry_putEntry {s : State} {watch k : Nat} {e : Entry} (h : s.entry watch k = some e) (d : Entry) :
    (s.putEntry watch k d).entry watch k = some d := by
  obtain ⟨p, hpass, hentry⟩ := State.pass_of_entry h
  rw [State.entry_eq (State.pass_putEntry hpass d), Pass.putEntry_same hentry]

/-! ### DISPATCH (R202, R260) -/

theorem exec_dispatch {s : State} {watch k : Nat} {p : Pass} {e : Entry} (h : s.runningEntry watch k 1 = some (p, e)) :
    exec (.dispatch watch k) s = .next (s.dispatchEntry watch k p e) :=
  onEntry_of_running h fun p e s => s.dispatchEntry watch k p e

theorem State.dispatchEntry_misaligned {s : State} {watch k : Nat} {p : Pass} {e : Entry} (hfirst : e.kernel = none)
    (h : e.word 2 % 256 ≠ 0) : s.dispatchEntry watch k p e = s.endEntry watch k stBadArg 0 := by
  rw [State.dispatchEntry, if_neg (by simp [hfirst]), if_pos h]

theorem State.dispatchEntry_read {s : State} {watch k : Nat} {p : Pass} {e : Entry} {b : List Byte} (hfirst : e.kernel = none)
    (halign : e.word 2 % 256 = 0) (hread : s.entryRead watch k p.ctx (e.word 2) 64 = (s, some b)) :
    s.dispatchEntry watch k p e =
      match kernelOf e ((List.range 8).map fun i => BitVec.ofNat 64 (leNat ((b.drop (8 * i)).take 8))) with
      | none => s.endEntry watch k stBadArg 0
      | some kn => s.putEntry watch k { e with kernel := some kn } := by
  rw [State.dispatchEntry, if_neg (by simp [hfirst]), if_neg (not_not.mpr halign), hread] <;> rfl

/-! ### BLOCK_PLACE (R25 to R30, R130, R170, R199, R684) -/

theorem exec_blockPlace {s : State} {watch k : Nat} {p : Pass} {e : Entry} {kn : Kernel} (h : s.runningEntry watch k 1 = some (p, e))
    (hkernel : e.kernel = some kn) (cluster : Nat) :
    exec (.blockPlace watch k cluster) s = .next
      (if e.nextBlock < kn.blocks && decide (cluster < 192) && s.clusterUp cluster && s.partOf (cluster / 24) == (s.ctx p.ctx).partition then
        s.placeBlock watch k cluster p e kn else s) := by
  show execBlockPlace watch k cluster s = _
  rw [execBlockPlace, onEntry_of_running h, hkernel]

theorem State.placeBlock_full {s : State} {watch k cluster : Nat} {p : Pass} {e : Entry} {kn : Kernel}
    (h : chooseMemory (s.blocksOn cluster) kn.memory = none ∨ chooseCores (s.blocksOn cluster) kn.regs kn.groups = none) :
    s.placeBlock watch k cluster p e kn = s := by
  unfold State.placeBlock
  rcases h with h | h
  · simp only [h]
  · cases hmemory : chooseMemory (s.blocksOn cluster) kn.memory <;> simp only [hmemory, h]

/-- The block that a DISPATCH puts on a cluster (R25, R199). -/
def State.placedBlock (s : State) (watch k cluster base : Nat) (cores : List Nat) (p : Pass) (e : Entry) (kn : Kernel) : Block :=
  { id := s.compute.nextBlock, ctx := p.ctx, watch, entry := k, tag := e.tag, cluster, index := e.nextBlock,
    blocks := kn.blocks, regs := kn.regs, bmBase := base, bmSize := kn.memory, args := kn.args, codeLo := kn.codeLo,
    codeHi := kn.codeHi, excPtr := kn.excPtr,
    stake := if e.staked = true ∧ s.replica (cluster / 24) < e.stake then some e.stake else none,
    groups := List.replicate kn.groups (Group.start kn.regs kn.start kn.ftz), cores, copies := [], nextCopy := 0 }

theorem State.placeBlock_room {s : State} {watch k cluster base : Nat} {cores : List Nat} {p : Pass} {e : Entry} {kn : Kernel}
    (hmemory : chooseMemory (s.blocksOn cluster) kn.memory = some base)
    (hcores : chooseCores (s.blocksOn cluster) kn.regs kn.groups = some cores) :
    s.placeBlock watch k cluster p e kn =
      (s.setCompute { s.compute with blocks := s.compute.blocks ++ [s.placedBlock watch k cluster base cores p e kn],
                                     nextBlock := s.compute.nextBlock + 1 }).putEntry watch k
        (if e.begun = true ∨ (e.staked = true ∧ s.replica (cluster / 24) < e.stake) then { e with nextBlock := e.nextBlock + 1 }
         else s.beginEntry { e with nextBlock := e.nextBlock + 1 } s.mt (decide (e.stake < s.mt))) := by
  have hstake : (if e.staked && decide (s.replica (cluster / 24) < e.stake) then some e.stake else none)
      = if e.staked = true ∧ s.replica (cluster / 24) < e.stake then some e.stake else none := by simp
  unfold State.placeBlock
  simp only [hmemory, hcores, hstake]
  by_cases hheld : e.staked = true ∧ s.replica (cluster / 24) < e.stake
  · simp only [hheld, and_self, if_true, Option.isSome_some, or_true, State.placedBlock]
  · simp only [hheld, if_false, Option.isSome_none, Bool.false_eq_true, or_false, State.placedBlock]
    rfl

/-! ### BLOCK_STAKE_RELEASE (R130) -/

/-- The entry as its first block starts at its stake. -/
def State.startedAt (s : State) (e : Entry) (stake : Nat) : Entry := if e.begun then e else s.beginEntry e (if e.late then s.mt else stake) e.late

/-- A staked block released at its stake. -/
def State.releaseBlock (s : State) (b : Block) (stake : Nat) : State :=
  match s.entry b.watch b.entry with
  | some e => if e.begun then s.putBlock { b with stake := none }
    else (s.putBlock { b with stake := none }).putEntry b.watch b.entry (s.beginEntry e (if e.late then s.mt else stake) e.late)
  | none => s.putBlock { b with stake := none }

theorem exec_blockStakeRelease {s : State} {blk m : Nat} {b : Block} (h : s.block blk = some b) (hstake : b.stake = some m) :
    exec (.blockStakeRelease blk) s = .next (if s.replica (b.cluster / 24) < m then s else s.releaseBlock b m) := by
  show execBlockStakeRelease blk s = _
  rw [execBlockStakeRelease, h]
  simp only [hstake]
  rfl

theorem State.frame_releaseBlock (s : State) (b : Block) (stake : Nat) : s.Within [.compute, .abaom, .abaomCore] (s.releaseBlock b stake) := by
  have hput : s.Within [.compute, .abaom, .abaomCore] (s.putBlock { b with stake := none }) := (s.frame_putBlock _).mono (by decide)
  unfold State.releaseBlock
  split
  · split
    · exact hput
    · exact hput.step (State.frame_putEntry _ _ _ _)
  · exact hput

theorem State.releaseBlock_compute (s : State) (b : Block) (stake : Nat) :
    (s.releaseBlock b stake).compute = (s.putBlock { b with stake := none }).compute := by
  unfold State.releaseBlock
  split
  · split
    · rfl
    · exact (State.frame_putEntry _ _ _ _).compute (by decide)
  · rfl

theorem State.releaseBlock_entry {s : State} {b : Block} {e : Entry} (h : s.entry b.watch b.entry = some e) (stake : Nat) :
    (s.releaseBlock b stake).entry b.watch b.entry = some (s.startedAt e stake) := by
  have hput : (s.putBlock { b with stake := none }).entry b.watch b.entry = some e := h
  rw [State.releaseBlock, h, State.startedAt]
  dsimp only
  split
  · exact h
  · exact State.entry_putEntry hput _

/-! ### BLOCK_END (R181, R237) -/

theorem exec_blockEnd {s : State} {blk : Nat} {b : Block} (h : s.block blk = some b) :
    exec (.blockEnd blk) s = .next (if s.blockOver b then s.endBlock b else s) := by
  show execBlockEnd blk s = _
  rw [execBlockEnd, h]

theorem Group.over_iff (g : Group) : g.over = true ↔ g.exited = BitVec.allOnes 32 ∧ g.ops = [] := by
  simp [Group.over]

theorem State.blockOver_iff (s : State) (b : Block) : s.blockOver b = true ↔
    (∀ g ∈ b.groups, g.exited = BitVec.allOnes 32 ∧ g.ops = []) ∧ b.copies = [] ∧ s.tieWritesOf b.id = false := by
  simp only [State.blockOver, Bool.and_eq_true, List.all_eq_true, Group.over_iff, List.isEmpty_iff, Bool.not_eq_true', and_assoc]

/-- The machine without a block that has ended. -/
def State.dropBlock (s : State) (b : Block) : State :=
  (s.setCompute { s.compute with
    blocks := s.compute.blocks.filter (fun c => c.id != b.id), pairs := s.compute.pairs.filter fun p => p.blk != b.id }).setShare
    { s.share with resident := (b.ctx :: s.share.resident).eraseDups }

theorem State.frame_endBlock (s : State) (b : Block) : (s.dropBlock b).Within [.abaom, .abaomCore] (s.endBlock b) := by
  unfold State.endBlock
  dsimp only
  split
  · exact .refl _ _
  · split
    · exact (State.frame_putEntry _ _ _ _).step (State.frame_endEntry _ _ _ _ _)
    · exact State.frame_putEntry _ _ _ _

/-- The last block of an entry that runs ends it. -/
theorem State.endBlock_last {s : State} {b : Block} {p : Pass} {e : Entry} (hpass : s.pass b.watch = some p)
    (hentry : p.entries[b.entry]? = some e) (hlast : e.blocksDone + 1 = b.blocks) :
    s.endBlock b = ((s.dropBlock b).putEntry b.watch b.entry { e with blocksDone := e.blocksDone + 1 }).endEntry b.watch b.entry stOk 0 := by
  have hsome : (s.dropBlock b).entry b.watch b.entry = some e := (State.entry_eq hpass).trans hentry
  unfold State.endBlock
  change (match (s.dropBlock b).entry b.watch b.entry with | none => _ | some e => _) = _
  rw [hsome]
  exact if_pos hlast

theorem State.endEntry_entry {s : State} {watch k : Nat} {p : Pass} {e : Entry} (hpass : s.pass watch = some p)
    (hentry : p.entries[k]? = some e) (hruns : e.phase = .running) (status detail : Nat) :
    ∃ q, (s.endEntry watch k status detail).pass watch = some q ∧ q.entries[k]? = some (entryEnded s e status detail) := by
  rw [State.endEntry_eq hpass hentry (by rw [hruns]; decide) (by rw [hruns]; decide), ← State.putEntry_eq hpass]
  exact ⟨_, State.pass_putEntry hpass _, Pass.putEntry_same hentry _⟩

theorem entryEnded_fields (s : State) (e : Entry) (status detail : Nat) :
    (entryEnded s e status detail).phase = .ended ∧ (entryEnded s e status detail).status = status
      ∧ (entryEnded s e status detail).blocksDone = e.blocksDone := by
  unfold entryEnded
  dsimp only
  split_ifs <;> exact ⟨rfl, rfl, rfl⟩

theorem State.endBlock_entry {s : State} {b : Block} {p : Pass} {e : Entry} (hpass : s.pass b.watch = some p)
    (hentry : p.entries[b.entry]? = some e) (hruns : e.phase = .running) (hlast : e.blocksDone + 1 = b.blocks) :
    ∃ q d, (s.endBlock b).pass b.watch = some q ∧ q.entries[b.entry]? = some d ∧ d.phase = .ended ∧ d.status = stOk
      ∧ d.blocksDone = b.blocks := by
  have hput := State.pass_putEntry (s := s.dropBlock b) (k := b.entry) hpass { e with blocksDone := e.blocksDone + 1 }
  obtain ⟨q, hq, hd⟩ := State.endEntry_entry hput (Pass.putEntry_same hentry _) hruns stOk 0
  obtain ⟨hphase, hstatus, hdone⟩ := entryEnded_fields
    ((s.dropBlock b).putEntry b.watch b.entry { e with blocksDone := e.blocksDone + 1 }) { e with blocksDone := e.blocksDone + 1 } stOk 0
  rw [State.endBlock_last hpass hentry hlast]
  exact ⟨q, _, hq, hd, hphase, hstatus, hdone.trans hlast⟩

/-! ### The obligation -/

/-- Settles O34, by the equations of the entry, of the placement and of the two events of a block. -/
theorem dispatchAndBlocks : Obligations.DispatchAndBlocks := by
  unfold Obligations.DispatchAndBlocks
  intro s
  refine ⟨fun watch k p e h => ⟨fun hfirst hbad => ?_, fun hfirst halign b hread => ?_⟩, ?_, ?_, ?_, ?_⟩
  · rw [exec_dispatch h, State.dispatchEntry_misaligned hfirst hbad]
  · rw [exec_dispatch h, State.dispatchEntry_read hfirst halign hread] <;> rfl
  · intro watch k cluster p e kn base cores h hkernel hmore hcluster hup hpart hmemory hcores
    rw [exec_blockPlace h hkernel, if_pos ?fits]
    case fits => simp [hmore, hcluster, hup, State.partOf, hpart]
    rw [State.placeBlock_room hmemory hcores]
    rfl
  · intro watch k cluster p e kn h hkernel hno
    rw [exec_blockPlace h hkernel]
    split
    · next hplace =>
      simp only [Bool.and_eq_true, decide_eq_true_eq] at hplace
      obtain ⟨⟨⟨hmore, hcluster⟩, hup⟩, -⟩ := hplace
      rw [State.placeBlock_full]
      rcases hno with h | h | h | h | h
      · omega
      · rw [h] at hup; cases hup
      · exact .inl h
      · exact .inr h
      · omega
    · rfl
  · intro blk b m h hstake
    rw [exec_blockStakeRelease h hstake]
    refine ⟨fun hearly => by rw [if_pos hearly], fun hdue => ⟨_, by rw [if_neg (Nat.not_lt.mpr hdue)], s.releaseBlock_compute b m,
      (s.frame_releaseBlock b m).mem (by decide), (s.frame_releaseBlock b m).time (by decide), fun e hentry => ?_⟩⟩
    rw [State.releaseBlock_entry hentry]
    rfl
  · intro blk b h
    rw [exec_blockEnd h]
    refine ⟨fun hgroups hcopies hwrites => ⟨_, by rw [if_pos ((s.blockOver_iff b).mpr ⟨hgroups, hcopies, hwrites⟩)],
      ?_, ?_, (s.frame_endBlock b).mem (by decide), fun p e => State.endBlock_entry⟩, fun hsome => ?_⟩
    · rw [(s.frame_endBlock b).compute (by decide)]
      rfl
    · rw [(s.frame_endBlock b).compute (by decide)]
      rfl
    · rw [if_neg]
      intro hover
      obtain ⟨g, hg, hopen⟩ := hsome
      obtain ⟨hexited, hops⟩ := ((s.blockOver_iff b).mp hover).1 g hg
      exact hopen.elim (· hexited) (· hops)

end Sys2Proof.Machine
end

section
/-!
SUPPORT AND PROOF. Release of staked entries, and completion records (R103, R106, R129, R170, R174, R178, R181, R182).
-/

namespace Sys2Proof.Machine

set_option Elab.async false

section Staked

variable {s : State} {watch k : Nat} {p : Pass} {e : Entry} (hpass : s.pass watch = some p) (hentry : p.entries[k]? = some e)
include hpass hentry

theorem exec_stakedDispatch (hphase : e.phase = .staked) (hlive : s.passLive p = true) :
    exec (.stakedDispatch watch k) s = .next (if p.stopping then s.runList watch else s.releaseStaked watch k e) := by
  show execStakedDispatch watch k s = _
  simp only [execStakedDispatch, hpass, (State.entry_eq hpass).trans hentry, hphase, hlive, beq_self_eq_true, Bool.and_self, if_true]

/-- A record is written once the entry has ended, its data writes are acknowledged, and no record of the pass is held (R174, R178, R181). -/
theorem exec_entryComplete :
    exec (.entryComplete watch k) s = .next
      (if e.phase == .ended && !(s.entryWrites watch k) && !p.recordHeld && s.passLive p then s.completeEntry watch k p else s) := by
  show execEntryComplete watch k s = _
  simp only [execEntryComplete, hpass, (State.entry_eq hpass).trans hentry]

theorem exec_entryComplete_early (h : e.phase ≠ .ended ∨ s.passLive p = false ∨ s.entryWrites watch k = true) :
    exec (.entryComplete watch k) s = .next s := by
  have hno : (e.phase == .ended && !(s.entryWrites watch k) && !p.recordHeld && s.passLive p) = false := by
    rcases h with h | h | h <;> simp [h]
  rw [exec_entryComplete hpass hentry, hno]
  rfl

end Staked

theorem State.releaseStaked_dispatch {e : Entry} (h : e.kind = 1) (s : State) (watch k : Nat) :
    s.releaseStaked watch k e = if s.time.mt + 400000 < e.stake then s else s.putEntry watch k { e with phase := .running } := if_pos h

theorem State.releaseStaked_other {e : Entry} (h : e.kind ≠ 1) (hkind : e.kind ≤ 7) (s : State) (watch k : Nat) :
    s.releaseStaked watch k e = if s.time.mt < e.stake then s
      else s.putEntry watch k { s.beginEntry e (if e.late then s.mt else e.stake) e.late with phase := .running } := by
  rw [State.releaseStaked, if_neg h]
  dsimp only
  rw [if_neg (Nat.not_lt.mpr hkind)]
  rfl

theorem Pass.recordHeld_false {p : Pass} (h : ∀ d ∈ p.entries, d.held = false ∨ d.phase ≠ .ended) : p.recordHeld = false := by
  rw [Pass.recordHeld, List.any_eq_false]
  intro d hd
  rcases h d hd with h | h <;> simp [h]

theorem State.completeEntry_done {s t : State} {watch k : Nat} (h : s.writeRecord watch k = (t, .done)) (p : Pass) :
    s.completeEntry watch k p = (t.runList watch).settleList watch := by
  rw [State.completeEntry, h]

/-- Settles O35, by the equations of the two events. -/
theorem entriesReleaseAndComplete : Obligations.EntriesReleaseAndComplete := by
  unfold Obligations.EntriesReleaseAndComplete
  refine ⟨fun s watch k p e hpass hentry hphase hlive => ?_, fun s watch k p e hpass hentry => ⟨fun h => ?_, fun _ hwrites => ?_, ?_⟩⟩
  · rw [exec_stakedDispatch hpass hentry hphase hlive]
    refine ⟨fun hstop => by rw [if_pos hstop], fun hgo hkind => ?_, fun hgo hkind hknown => ?_⟩
    · rw [hgo, if_neg (by decide), State.releaseStaked_dispatch hkind]
    · rw [hgo, if_neg (by decide), State.releaseStaked_other hkind hknown]
      rfl
  · exact exec_entryComplete_early hpass hentry (h.imp_right .inl)
  · exact exec_entryComplete_early hpass hentry (.inr (.inr hwrites))
  · intro hended hlive hacked hheld t hrecord
    rw [exec_entryComplete hpass hentry, if_pos (by simp [hended, hlive, hacked, Pass.recordHeld_false hheld]),
      State.completeEntry_done hrecord]

end Sys2Proof.Machine
end

section
/-!
SUPPORT AND PROOF. FAULT_REPLAY (R474 to R476).
-/

namespace Sys2Proof.Machine

set_option Elab.async false

theorem exec_faultReplay {s : State} {n : Nat} (h : s.has n 0x0401 = true) : exec (.faultReplay n) s = .next (s.faultReplay n) :=
  runCommand_of_has h fun s => s.faultReplay n

section Replay

variable {s : State} {n i : Nat} (h : faultSlotOf (s.namedCtx n (s.arg n 0)) (s.arg n 1) = some i)
include h

theorem State.faultReplay_badState (hbad : faultPending (s.faultSlot (s.namedCtx n (s.arg n 0)) i) = false
      ∨ (nth (s.faultSlot (s.namedCtx n (s.arg n 0)) i) 0 0).getLsbD 62 = false) : s.faultReplay n = s.complete n stBadState [] := by
  rw [State.faultReplay, h]
  refine if_pos ?_
  rw [bitAt]
  rcases hbad with hbad | hbad <;> rw [hbad]
  · rfl
  · rw [Bool.and_false]
    rfl

theorem State.faultReplay_replays (hpending : faultPending (s.faultSlot (s.namedCtx n (s.arg n 0)) i) = true)
    (hreplayable : (nth (s.faultSlot (s.namedCtx n (s.arg n 0)) i) 0 0).getLsbD 62 = true) :
    let c := s.namedCtx n (s.arg n 0)
    let r := s.faultSlot c i
    let freed := s.putFault c i (r.set 0 (nth r 0 0 &&& 0x7FFFFFFFFFFFFFFF))
    let mine := fun (w : FaultWait) => w.ctx == c && w.slot == i
    let t := freed.setXlat { freed.xlat with waits := s.xlat.waits.filter fun w => !(mine w) }
    s.faultReplay n = ((s.xlat.waits.filter mine).foldl State.restartWait
      (if fieldNat (nth r 0 0) 59 56 = 2 then t.dropLeaf c (nth r 7 0).toNat else t)).complete n stOk [] := by
  dsimp only
  rw [State.faultReplay, h]
  refine if_neg ?_
  rw [bitAt, hpending, hreplayable]
  decide

end Replay

/-- Settles O36, by the equation of the command in each state of the record, and by the waiter of the access that starts over. -/
theorem faultReplayCommand : Obligations.FaultReplayCommand := by
  unfold Obligations.FaultReplayCommand
  intro s n h c
  rw [exec_faultReplay h]
  refine ⟨fun hslot => ?_, fun i hslot => ?_, fun w t => ⟨fun r k hwho => ?_, fun b k x hwho => ?_, fun b g k x hwho => ?_,
    fun ctx slot hwho => ?_, fun watch k x p e hwho hpass hentry hphase => ?_⟩⟩
  · rw [State.faultReplay, hslot]
    rfl
  · intro r freed mine t
    refine ⟨fun hbad => ?_, fun hpending hreplayable => ?_⟩
    · rw [State.faultReplay_badState hslot hbad]
      rfl
    · rw [State.faultReplay_replays hslot hpending hreplayable]
      rfl
  · rw [State.restartWait, hwho]
  · rw [State.restartWait, hwho]
  · rw [State.restartWait, hwho]
  · rw [State.restartWait, hwho]
  · simp [State.restartWait, hwho, hpass, hentry, hphase]

end Sys2Proof.Machine
end

section
/-!
SUPPORT. Frames, continued: the stores of the control processor, the end of a monument, and what the grant of comparators may change.
-/

namespace Sys2Proof.Machine

set_option Elab.async false

section Functions

variable (s : State)

/-! ### Stores -/

/-- Bytes and poison alone change. -/
theorem State.frame_setMem_core {v : MemState} (h : coreMem v = coreMem s.mem) : s.Within [.mem] (s.setMem v) := by
  constructor <;> simp [h]

theorem State.frame_setAbaom_core {v : AbaomState} (h : coreAbaom v = coreAbaom s.abaom) : s.Within [.abaom] (s.setAbaom v) := by
  constructor <;> simp [h]

theorem State.frame_sectorWrite (k pa : Nat) (bytes : List Byte) : s.Within [.mem] (s.sectorWrite k pa bytes) := by
  unfold State.sectorWrite
  dsimp only
  split_ifs
  · exact .refl _ s
  · exact s.frame_setMem_core rfl
  · exact .refl _ s
  · exact s.frame_setMem_core rfl

theorem State.frame_hubWrite (pa : Nat) (bytes : List Byte) : s.Within [.mem] (s.hubWrite pa bytes) :=
  .foldl (fun u _ => u.frame_sectorWrite _ _ _) (.refl _ s) _

theorem State.frame_wakeLines (pa n : Nat) : s.Within [.abaom] (s.wakeLines pa n) := by
  have hmarks (p : Watch → Bool) : (s.abaom.watches.map fun w => if p w then { w with held := false, wake := true } else w).map
      (fun w => { w with held := false, wake := false }) = s.abaom.watches.map fun w => { w with held := false, wake := false } := by
    rw [List.map_map]
    refine List.map_congr_left fun w _ => ?_
    by_cases hw : p w = true <;> simp [hw]
  have hpasses : (s.abaom.passes.map fun p => { p with entries := p.entries.map s.noteWait }).map (fun p => { p with entries := [] })
      = s.abaom.passes.map fun p => { p with entries := [] } := by
    rw [List.map_map]
    rfl
  unfold State.wakeLines
  refine s.frame_setAbaom_core ?_
  simp only [coreAbaom, hmarks, hpasses]

theorem State.frame_hbmWrite (pa : Nat) (bytes : List Byte) : s.Within [.mem, .abaom] (s.hbmWrite pa bytes) :=
  ((s.frame_hubWrite pa bytes).mono (by decide)).step (State.frame_wakeLines _ _ _)

/-- What a store into a context's memory may change: memory, and where the address is a tie's, what a frame sent may. -/
abbrev storeParts : List Part := [.ctxs, .share, .xlat, .fab, .mem, .monu, .obs, .outbox]

/-- Parts of a store sent one after the other, each by a step that may refuse it. -/
theorem State.Within.foldl_bind {l : List Part} {α : Type} {f : Nat → α → State → Option State} {g : α → Nat}
    (hf : ∀ n b v w, f n b v = some w → v.Within l w) (xs : List α) {a : Option State × Nat} (ha : ∀ u, a.1 = some u → s.Within l u)
    {t : State} (h : (xs.foldl (fun (a : Option State × Nat) b => (a.1.bind (f a.2 b), a.2 + g b)) a).1 = some t) : s.Within l t := by
  induction xs generalizing a with
  | nil => exact ha t h
  | cons b xs ih =>
    refine ih (fun u hu => ?_) h
    obtain ⟨v, hv, hvu⟩ := Option.bind_eq_some_iff.mp hu
    exact (ha v hv).trans (hf _ _ _ _ hvu)

theorem State.frame_tieSend {t : State} {ctx node window offset : Nat} {bytes : List Byte} {op : FlowOp}
    (h : s.tieSend ctx node window offset bytes op = some t) : s.Within sendParts t :=
  .foldl_bind s (g := List.length)
    (f := fun n b u => u.flowSend { u.headTo opWrite node kTie ctx with window, offset := n, length := b.length } b op)
    (fun _ _ u _ hu => u.frame_flowSend hu) _ (a := (some s, offset)) (fun _ hu => Option.some.inj hu ▸ .refl _ s) h

theorem State.frame_storePiece (ctx : Nat) (p : Piece) (bytes : List Byte) (op : FlowOp) : s.Within storeParts (s.storePiece ctx p bytes op).1 := by
  unfold State.storePiece
  split
  · exact (s.frame_hubWrite _ _).mono (by decide)
  · split
    · split
      · exact .refl _ s
      · exact (s.frame_hubWrite _ _).mono (by decide)
    · split
      · next h => exact (s.frame_tieSend h).mono (by decide)
      · exact .refl _ s

theorem State.frame_storePieces (ctx : Nat) (op : FlowOp) (l : List Piece) (bytes : List Byte) :
    s.Within storeParts (s.storePieces ctx op l bytes).1 := by
  induction l generalizing s bytes with
  | nil => exact .refl _ s
  | cons p l ih =>
    have hp := s.frame_storePiece ctx p (bytes.take p.size) op
    rw [State.storePieces]
    split
    · next t hstore => rw [hstore] at hp; exact hp.trans (ih t _)
    · exact hp

theorem State.frame_cpStore (ctx va : Nat) (bytes : List Byte) (op : FlowOp) : s.Within storeParts (s.cpStore ctx va bytes op).1 := by
  unfold State.cpStore
  split
  · exact .refl _ s
  · exact .refl _ s
  · exact s.frame_storePieces _ _ _ _

/-! ### The end of a monument -/

theorem State.frame_monuStore (m : Monument) (addr : Nat) (bytes : List Byte) : s.Within storeParts (s.monuStore m addr bytes).1 := by
  unfold State.monuStore
  split
  · exact s.frame_cpStore _ _ _ _
  · split
    · exact (s.frame_hubWrite _ _).mono (by decide)
    · exact .refl _ s

theorem State.frame_putMonument (m : Monument) : s.Within [.monu, .monuCore] (s.putMonument m) := s.frame_setMonu _

/-- What the end of a monument may change. -/
abbrev endedParts : List Part := .monuCore :: storeParts

theorem State.frame_publish (m : Monument) : s.Within endedParts (s.publish m) := by
  unfold State.publish
  exact (((s.frame_putMonument _).mono (by decide)).step (State.frame_monuStore _ _ _ _)).step (State.frame_monuStore _ _ _ _)

theorem State.frame_ctrl (dst : Nat) (ws : List Nat) (op : FlowOp) : s.Within sendParts (s.ctrl dst ws op) := by
  unfold State.ctrl
  cases h : s.ctrlTo dst ws op with
  | none => exact .refl _ s
  | some t => exact s.frame_flowSend h

theorem State.frame_fillMessage (dst sub id : Nat) (ws : List Nat) (op : FlowOp) : s.Within sendParts (s.fillMessage dst sub id ws op) :=
  s.frame_ctrl _ _ _

theorem State.frame_releaseClaim (m : Monument) : s.Within sendParts (s.releaseClaim m) := by
  unfold State.releaseClaim
  split
  · exact s.frame_fillMessage _ _ _ _ _
  · exact .refl _ s

theorem State.frame_finishMonument (m : Monument) (st : MonState) (status : Nat) : s.Within endedParts (s.finishMonument m st status) := by
  unfold State.finishMonument
  exact ((s.frame_publish _).step (State.frame_setMonu _ _)).step (State.frame_releaseClaim _ _)

theorem State.frame_endMonument (id status : Nat) : s.Within endedParts (s.endMonument id status) := by
  unfold State.endMonument
  split
  · split
    · exact .refl _ s
    · exact s.frame_finishMonument _ _ _
  · exact .refl _ s

/-! ### Comparators -/

/-- What the grant of comparators may change: what it displaces ends, and those who asked are told. -/
abbrev allocParts : List Part :=
  [.conn, .ids, .stakes, .mbxs, .handsCore, .ctxs, .share, .xlat, .fab, .mem, .monu, .monuCore, .obs, .freeCtr, .outbox]

theorem State.frame_dropAlloc (id : Nat) : s.Within [.stakes] (s.dropAlloc id) := s.frame_setStakes _

theorem State.frame_cancelEvent (e : StakeEvent) : s.Within [.stakes] (s.cancelEvent e) := s.frame_setStakes _

theorem State.frame_cancelBatches : s.Within [.stakes] s.cancelBatches := s.frame_setStakes _

theorem State.frame_endAlloc (a : Alloc) : s.Within allocParts (s.endAlloc a) := by
  have hdrop : s.Within allocParts (s.dropAlloc a.id) := (s.frame_dropAlloc _).mono (by decide)
  unfold State.endAlloc
  dsimp only
  split
  · exact hdrop
  · exact (hdrop.step (State.frame_setObs _ _)).step (State.frame_setHot _ _ _)
  · exact hdrop.step (State.frame_endMonument _ _ _)
  · exact hdrop.step (State.frame_endMonument _ _ _)
  · split
    · exact hdrop
    · exact hdrop.step (State.frame_enqueueTimer _ _ _)

theorem State.frame_tellDisplaced (a : Alloc) (word : Nat) :
    s.Within [.conn, .mbxs, .freeCtr, .outbox, .obs] (s.tellDisplaced a word) := by
  unfold State.tellDisplaced
  split
  · exact s.frame_notify _ _ _ _ _ _ _
  · exact .refl _ s

theorem State.frame_displace (a : Alloc) (word : Nat) : s.Within allocParts (s.displace a word) :=
  (s.frame_endAlloc a).step (State.frame_tellDisplaced _ _ _)

theorem State.frame_grant (loc cls stake : Nat) (owner : Owner) (event : StakeEvent) :
    s.Within allocParts (s.grant loc cls stake owner event).1 := by
  unfold State.grant
  dsimp only
  split
  · exact .refl _ s
  · split
    · exact .refl _ s
    · refine .step (.foldl (fun u p => ?_) (.refl _ s) _) (State.frame_setStakes _ _)
      split
      · split
        · exact u.frame_displace _ _
        · exact .refl _ u
      · exact .refl _ u

theorem State.frame_serveRequest (r : AllocReq) : s.Within allocParts (s.serveRequest r) := by
  have hgrant := s.frame_grant r.location r.cls r.stake (s.mailboxOwner r.mbx) .notice
  unfold State.serveRequest
  split <;> next t _ h => rw [h] at hgrant; exact hgrant.step (State.frame_complete _ _ _ _)

theorem State.frame_servePending (p : AllocReq → Bool) : s.Within allocParts (s.servePending p) :=
  .foldl (fun u _ => u.frame_serveRequest _) ((s.frame_setStakes _).mono (by decide)) _

theorem State.frame_allocate (loc cls stake : Nat) (owner : Owner) (event : StakeEvent) :
    s.Within allocParts (s.allocate loc cls stake owner event).1 :=
  ((s.frame_servePending _).trans (State.frame_grant _ _ _ _ _ _)).trans (State.frame_servePending _ _)

theorem State.frame_stakeOrTimer (loc cls stake : Nat) (owner : Owner) (event : StakeEvent) :
    s.Within allocParts (s.stakeOrTimer loc cls stake owner event).1 := by
  have halloc := s.frame_allocate loc cls stake owner event
  unfold State.stakeOrTimer
  split
  · next h => rw [h] at halloc; exact halloc
  · next h => rw [h] at halloc; exact halloc.step (State.frame_enqueueTimer _ _ _)

/-- Where no comparator is granted, the event waits in the timer queue (R106). -/
theorem State.stakeOrTimer_queued {loc cls stake : Nat} {owner : Owner} {event : StakeEvent}
    (h : (s.stakeOrTimer loc cls stake owner event).2 = none) :
    ⟨stake, event, decide (stake ≤ s.time.mt)⟩ ∈ (s.stakeOrTimer loc cls stake owner event).1.stakes.timers := by
  have htime := (s.frame_allocate loc cls stake owner event).time (by decide)
  unfold State.stakeOrTimer at h ⊢
  split
  · next h' => rw [h'] at h; cases h
  · next t _ _ h' =>
    rw [h'] at htime
    refine List.mem_append_right _ (List.mem_singleton.mpr ?_)
    rw [State.mt, show t.time = s.time from htime]

end Functions

end Sys2Proof.Machine
end

section
/-!
SUPPORT AND PROOF. The power commands, HINT entries and PWR_CTRL (R168, R640, R643, R724 to R726, R736, R737, R742, R743).
-/

namespace Sys2Proof.Machine

set_option Elab.async false

/-! ### Limits and modes -/

theorem exec_pwrSetLimit {s : State} {n : Nat} (h : s.has n 0x0A00 = true) :
    exec (.pwrSetLimit n) s = .next ((s.setPwr (if n = 63 then { s.pwr with sustM := s.arg n 0, peakM := s.arg n 1 }
      else { s.pwr with sustK := s.arg n 0, peakK := s.arg n 1 })).complete n stOk []) :=
  runCommand_of_has h fun s => (s.setPwr (if n = 63 then { s.pwr with sustM := s.arg n 0, peakM := s.arg n 1 }
      else { s.pwr with sustK := s.arg n 0, peakK := s.arg n 1 })).complete n stOk []

theorem State.frame_leaveGroup (s : State) : s.Within [.stakes, .conn, .mbxs, .handsCore, .freeCtr, .outbox, .joined] s.leaveGroup := by
  unfold State.leaveGroup
  dsimp only
  split
  · exact ((((s.frame_cancelEvent _).mono (by decide)).step (State.frame_complete _ _ _ _)).step (State.frame_cancelBatches _)).step
      (State.frame_setJoined _ _)
  · exact ((s.frame_cancelBatches).mono (by decide)).step (State.frame_setJoined _ _)

/-- A device that has left its group is in none, and keeps no notice (R742). -/
theorem State.leaveGroup_joined (s : State) :
    s.leaveGroup.joined.group = none ∧ s.leaveGroup.joined.joining = none ∧ s.leaveGroup.joined.notices = [] := by
  unfold State.leaveGroup
  exact ⟨rfl, rfl, rfl⟩

/-- No step of the clock is staked once those there were are cancelled. -/
theorem State.stepStaked_cancelEvent (s : State) : (s.cancelEvent .clockStep).stepStaked = false := by
  simp only [State.stepStaked, State.cancelEvent, State.setStakes_stakes, Bool.or_eq_false_iff, List.any_eq_false, List.mem_filter]
  exact ⟨fun a ha => by simpa using ha.2, fun t ht => by simpa using ht.2⟩

/-- The machine whose mode PWR_MODE sets: one that enters CRITICAL leaves its group, and takes no more steps (R643). -/
def State.modeEntered (s : State) (critical : Bool) : State :=
  if critical && !s.pwr.critMode then s.leaveGroup.cancelEvent .clockStep else s

theorem exec_pwrMode {s : State} {n : Nat} (h : s.has n 0x0A02 = true) :
    exec (.pwrMode n) s = .next (((s.modeEntered (s.arg n 0 == 1)).setPwr
      { (s.modeEntered (s.arg n 0 == 1)).pwr with critMode := s.arg n 0 == 1, critical := s.arg n 1 == 1 }).complete n stOk []) :=
  runCommand_of_has h fun s => ((s.modeEntered (s.arg n 0 == 1)).setPwr
      { (s.modeEntered (s.arg n 0 == 1)).pwr with critMode := s.arg n 0 == 1, critical := s.arg n 1 == 1 }).complete n stOk []

theorem State.modeEntered_critical {s : State} {n : Nat} (harg : s.arg n 0 = 1) (hmode : s.pwr.critMode = false) :
    s.modeEntered (s.arg n 0 == 1) = s.leaveGroup.cancelEvent .clockStep :=
  if_pos (by simp [harg, hmode])

theorem State.modeEntered_same {s : State} {n : Nat} (h : ¬ (s.arg n 0 = 1 ∧ s.pwr.critMode = false)) : s.modeEntered (s.arg n 0 == 1) = s :=
  if_neg (by simpa using h)

theorem State.frame_modeEntered (s : State) (critical : Bool) :
    s.Within [.stakes, .conn, .mbxs, .handsCore, .freeCtr, .outbox, .joined] (s.modeEntered critical) :=
  .ite (s.frame_leaveGroup.step (State.frame_cancelEvent _ _)) (.refl _ s)

/-! ### Hints (R168, R736, R737) -/

theorem exec_pwrHint {s t : State} {n : Nat} {ok : Bool} (h : s.has n 0x0A01 = true)
    (hhint : s.registerHint (s.arg n 0 % 2 == 1) (s.arg n 1) (s.mailboxOwner n) = (t, ok)) :
    exec (.pwrHint n) s = .next (t.complete n (if ok = true then stOk else stNoResource) []) := by
  have hrun := runCommand_of_has h fun s => match s.registerHint (s.arg n 0 % 2 == 1) (s.arg n 1) (s.mailboxOwner n) with
    | (t, true) => t.complete n stOk []
    | (t, false) => t.complete n stNoResource []
  simp only [hhint] at hrun
  cases ok <;> exact hrun

theorem exec_hint {s : State} {watch k : Nat} {p : Pass} {e : Entry} (h : s.runningEntry watch k 7 = some (p, e)) :
    exec (.hint watch k) s = .next (if 1000 < e.word 3 then s.endEntry watch k stBadArg 0
      else match s.registerHint (e.word 2 % 2 == 1) (e.startMt + 8000 * e.word 3) (.context p.ctx) with
        | (t, true) => t.endEntry watch k stOk 0
        | (t, false) => t.endEntry watch k stNoResource 0) :=
  onEntry_of_running h fun p e s => if 1000 < e.word 3 then s.endEntry watch k stBadArg 0
      else match s.registerHint (e.word 2 % 2 == 1) (e.startMt + 8000 * e.word 3) (.context p.ctx) with
        | (t, true) => t.endEntry watch k stOk 0
        | (t, false) => t.endEntry watch k stNoResource 0

/-- A hint for a phase still to come is registered with its comparator, or with an entry of the timer queue (R736). -/
theorem State.registerHint_ahead {s : State} {heavy : Bool} {phase : Nat} {owner : Owner} (hroom : s.pwr.hints.length < 16)
    (hahead : s.time.mt < phase) :
    ∃ t alloc, s.registerHint heavy phase owner = (t, true)
      ∧ (∃ l, t.pwr.hints = l ++ [⟨s.pwr.nextHint, heavy, phase, s.time.mt, alloc⟩])
      ∧ (alloc = none → ⟨phase, .hintPhase s.pwr.nextHint, false⟩ ∈ t.stakes.timers) := by
  have hreg : s.registerHint heavy phase owner =
      (let r := s.stakeOrTimer 8 2 phase owner (.hintPhase s.pwr.nextHint)
       (r.1.setPwr { r.1.pwr with
          hints := r.1.pwr.hints ++ [⟨s.pwr.nextHint, heavy, phase, s.mt, r.2⟩], nextHint := s.pwr.nextHint + 1 }, true)) := by
    rw [State.registerHint]
    dsimp only
    rw [if_neg (by omega)]
    exact if_neg (Nat.not_le.mpr hahead)
  refine ⟨_, (s.stakeOrTimer 8 2 phase owner (.hintPhase s.pwr.nextHint)).2, hreg, ⟨_, rfl⟩, fun hnone => ?_⟩
  have hqueued := s.stakeOrTimer_queued hnone
  rwa [decide_eq_false (Nat.not_le.mpr hahead)] at hqueued

theorem State.registerHint_full {s : State} (h : 16 ≤ s.pwr.hints.length) (heavy : Bool) (phase : Nat) (owner : Owner) :
    s.registerHint heavy phase owner = (s.setPwr { s.pwr with hintsDropped := (s.pwr.hintsDropped + 1) % 2 ^ 16 }, false) := if_pos h

theorem State.registerHint_late {s : State} {heavy : Bool} {phase : Nat} {owner : Owner} (hroom : s.pwr.hints.length < 16)
    (hlate : phase ≤ s.time.mt) : s.registerHint heavy phase owner =
      (s.setPwr { s.pwr with
        hintsLate := (s.pwr.hintsLate + 1) % 2 ^ 16,
        heldHints := if heavy = true then (phase, false) :: s.pwr.heldHints else s.pwr.heldHints.filter fun h => decide (phase < h.1) }, true) := by
  rw [State.registerHint]
  dsimp only
  rw [if_neg (by omega)]
  refine (if_pos hlate).trans ?_
  cases heavy <;> rfl

/-! ### PWR_CTRL -/

theorem exec_noncritWrite {s : State} (h : s.hostUp = true) (v : Word) : exec (.noncritWrite v) s = .next
    (if 1500 ≤ v.toNat % 2 ^ 16 ∧ v.toNat % 2 ^ 16 ≤ 4200 then s.setPwr { s.pwr with noncrit := v.toNat % 2 ^ 16 } else s) := by
  have hfield : fieldNat v 15 0 = v.toNat % 2 ^ 16 := by rw [fieldNat_eq_div_mod, Nat.pow_zero, Nat.div_one]
  have hrun := onEvent_of_true h (fun s => s.writeNoncrit v) s
  rw [State.writeNoncrit, hfield] at hrun
  exact hrun

/-! ### Groups (R640, R724 to R726) -/

theorem exec_plumbJoin {s : State} {n : Nat} (h : s.has n 0x0703 = true) : exec (.plumbJoin n) s = .next (s.plumbJoin n) :=
  runCommand_of_has h fun s => s.plumbJoin n

theorem State.plumbJoin_refused {s : State} (h : s.joined.group ≠ none ∨ s.joined.joining ≠ none ∨ s.pwr.critMode = true) (n : Nat) :
    s.plumbJoin n = s.complete n stBadState [] :=
  if_pos (by simpa [Option.isSome_iff_ne_none, or_assoc] using h)

theorem State.plumbJoin_free {s : State} (hgroup : s.joined.group = none) (hjoining : s.joined.joining = none) (hmode : s.pwr.critMode = false)
    (n : Nat) : s.plumbJoin n =
      (((s.setJoined { s.joined with joining := some (n, s.arg n 0 % 2 ^ 16, s.arg n 1), notices := [] }).stakeOrTimer 0xE 2 (s.arg n 1)
        (s.mailboxOwner n) (.plumbJoin (s.arg n 0 % 2 ^ 16))).1.begin_ n) :=
  if_neg (by simp [hgroup, hjoining, hmode])

theorem exec_plumbLeave {s : State} {n : Nat} (h : s.has n 0x0704 = true) :
    exec (.plumbLeave n) s = .next (if s.records (s.arg n 0 % 2 ^ 16) then s.leaveGroup.complete n stOk [] else s.complete n stBadState []) :=
  runCommand_of_has h fun s => if s.records (s.arg n 0 % 2 ^ 16) then s.leaveGroup.complete n stOk [] else s.complete n stBadState []

theorem State.records_group {s : State} {g : Nat} (h : s.joined.group = some g) : s.records g = true := by
  simp [State.records, h]

theorem State.records_none {s : State} (hgroup : s.joined.group = none) (hjoining : s.joined.joining = none) (g : Nat) :
    s.records g = false := by
  simp [State.records, hgroup, hjoining]

/-! ### The obligation -/

/-- Settles O37, by the equations of the commands, of the entry and of the write. -/
theorem powerCommands : Obligations.PowerCommands := by
  unfold Obligations.PowerCommands
  intro s n a
  refine ⟨exec_pwrSetLimit, fun h => ⟨_, exec_pwrMode h, ?_, rfl, ?_, ?_, ?_, ?_, ?_⟩, fun heavy phase owner => ⟨fun hfull =>
    State.registerHint_full hfull heavy phase owner, State.registerHint_late, State.registerHint_ahead⟩, fun h t ok hhint => ?_,
    fun watch k p e h => ?_, fun v h => exec_noncritWrite h v, fun h => ?_, fun h => ?_⟩
  · rfl
  · intro harg hmode
    rw [State.modeEntered_critical harg hmode]
    exact ⟨s.leaveGroup_joined.1, s.leaveGroup_joined.2.2, s.leaveGroup.stepStaked_cancelEvent⟩
  · intro hno
    rw [State.modeEntered_same hno]
    exact ⟨rfl, rfl⟩
  · exact (s.frame_modeEntered _).mem (by decide)
  · exact (s.frame_modeEntered _).ctxs (by decide)
  · exact (s.frame_modeEntered _).time (by decide)
  · refine (exec_pwrHint h hhint).trans ?_
    rfl
  · rw [exec_hint h]
    refine ⟨fun hbad => by rw [if_pos hbad], fun hgood t ok hhint => ?_⟩
    rw [if_neg (Nat.not_lt.mpr hgood), show s.registerHint (e.word 2 % 2 == 1) _ _ = (t, ok) from hhint]
    cases ok <;> rfl
  · rw [exec_plumbJoin h]
    refine ⟨fun hbad => by rw [State.plumbJoin_refused hbad]; rfl, fun hgroup hjoining hmode => ?_⟩
    rw [State.plumbJoin_free hgroup hjoining hmode]
  · rw [exec_plumbLeave h]
    refine ⟨fun hgroup => ⟨s.leaveGroup, by rw [State.records_group hgroup]; rfl, s.leaveGroup_joined.1, s.leaveGroup_joined.2.2, ?_,
      s.frame_leaveGroup.mem (by decide)⟩, fun hgroup hjoining => by rw [State.records_none hgroup hjoining]; rfl⟩
    rw [s.frame_leaveGroup.pwr (by decide)]

end Sys2Proof.Machine
end

section
/-!
SUPPORT AND PROOF. The power events: samples and polls, gating, the clock's steps, THROTTLE notices, and the energy of a millisecond (R641
to R646, R718 to R746).
-/

namespace Sys2Proof.Machine

set_option Elab.async false

/-! ### The clock's steps (R645) -/

theorem PowerState.stepped_of_eq {p : PowerState} (h : p.clock = p.target) : p.stepped = p.clock := by
  rw [PowerState.stepped, if_neg (by omega)]
  omega

/-- A step moves the clock, and nothing else of the power manager. -/
theorem State.clockStep_pwr (s : State) (m : Nat) : (s.clockStep m).pwr = { s.pwr with clock := s.pwr.stepped } := by
  unfold State.clockStep
  dsimp only
  split
  · next h => rw [show s.pwr.stepped = s.pwr.clock from PowerState.stepped_of_eq h]; rfl
  · split
    · rfl
    · exact (State.frame_stakeOrTimer _ _ _ _ _ _).pwr (by decide)

/-- What a step may change beside the clock: the comparators. -/
theorem State.frame_clockStep (s : State) (m : Nat) : s.Within (.pwr :: allocParts) (s.clockStep m) := by
  have hcancel : s.Within (.pwr :: allocParts) (s.cancelEvent .clockStep) := (s.frame_cancelEvent _).mono (by decide)
  unfold State.clockStep
  dsimp only
  split
  · exact hcancel
  · split
    · exact hcancel.step (State.frame_setPwr _ _)
    · exact (hcancel.step (State.frame_setPwr _ _)).step (State.frame_stakeOrTimer _ _ _ _ _ _)

/-- The clock as a target begins. -/
def State.clockToward (s : State) (mhz : Nat) : Nat := if s.stepStaked then s.pwr.clock else { s.pwr with target := mhz }.stepped

theorem State.setTarget_pwr (s : State) (mhz stake : Nat) :
    (s.setTarget mhz stake).pwr = { s.pwr with target := mhz, clock := s.clockToward mhz } := by
  have hstaked : (s.setPwr { s.pwr with target := mhz }).stepStaked = s.stepStaked := rfl
  unfold State.setTarget State.clockToward
  dsimp only
  rw [hstaked]
  split
  · rfl
  · rw [State.clockStep_pwr]
    rfl

theorem State.frame_setTarget (s : State) (mhz stake : Nat) : s.Within (.pwr :: allocParts) (s.setTarget mhz stake) := by
  have hset : s.Within (.pwr :: allocParts) (s.setPwr { s.pwr with target := mhz }) := (s.frame_setPwr _).mono (by decide)
  exact .ite hset (hset.trans (State.frame_clockStep _ _))

theorem State.groupTarget_pwr (s : State) (mhz stake : Nat) :
    ∃ clock, (s.groupTarget mhz stake).pwr = { s.pwr with target := mhz, clock := clock } := by
  unfold State.groupTarget
  split
  · exact ⟨_, s.setTarget_pwr _ _⟩
  · exact ⟨_, State.setTarget_pwr _ _ _⟩

theorem State.frame_groupTarget (s : State) (mhz stake : Nat) : s.Within (.pwr :: allocParts) (s.groupTarget mhz stake) :=
  .ite (s.frame_setTarget _ _) (((s.frame_cancelEvent _).mono (by decide)).trans (State.frame_setTarget _ _ _))

theorem exec_clockStep {s : State} {m : Nat} (h : s.stepDue = some m) (hdue : m ≤ s.time.mt) : exec .clockStep s = .next (s.clockStep m) := by
  show execClockStep s = _
  rw [execClockStep, h]
  exact congrArg Host.Outcome.next (if_pos hdue)

/-- The device sets its own target outside a group, and in CRITICAL (R731, R742). -/
theorem State.ownTarget_iff (s : State) : s.ownTarget = true ↔ s.joined.group = none ∨ s.pwr.critMode = true := by
  simp [State.ownTarget]

theorem exec_targetRestore {s : State} (hrun : s.running = true) (hown : s.joined.group = none ∨ s.pwr.critMode = true)
    (hlow : s.pwr.target < s.pwr.required) (hdue : s.pwr.lastLower + 80000000 ≤ s.time.mt) :
    exec .targetRestore s = .next (s.setTarget s.pwr.required s.mt) := by
  refine onEvent_of_true (c := s.running && s.ownTarget && decide (s.pwr.target < s.pwr.required)
      && decide (s.pwr.lastLower + 80000000 ≤ s.mt)) (Bool.and_eq_true_iff.mpr ⟨?_, decide_eq_true hdue⟩)
    (fun s => s.setTarget s.pwr.required s.mt) s
  simp [hrun, s.ownTarget_iff.mpr hown, hlow]

/-! ### Measurement, gating and the required clock (R718 to R733) -/

/-- What the samples give (R722, R723). -/
def PowerState.measures (p : PowerState) : Nat × Nat × List Nat × Nat × Nat × Nat := (p.vin, p.energy, p.samples, p.p10us, p.p1ms, p.p100ms)

theorem PowerState.measures_learn (p : PowerState) (watts : Nat) (busy : Bool) : (p.learn watts busy).measures = p.measures := by
  unfold PowerState.learn
  split <;> rfl

theorem PowerState.measures_levelled (p : PowerState) (mt last load cycles : Nat) : (p.levelled mt last load cycles).measures = p.measures := rfl

/-- The power manager with a decision of gating taken, before its target follows (R728 to R730). -/
def State.decided (s : State) (input slope : Bool) : PowerState :=
  let reason := s.pwr.causes input slope
  { s.pwr with
    reason, required := s.pwr.newRequired reason,
    lastLower := if s.pwr.required < s.pwr.newRequired reason then s.mt else s.pwr.lastLower,
    gatedMs := s.pwr.gatedMs || reason != 0,
    gates := if reason != 0 then (List.range 8).map (fun i => (Config.freeWord (s.freeCtr + i)).toNat % 64) else List.replicate 8 64 }

/-- The machine with a decision of gating taken, before its target follows. -/
def State.gated (s : State) (input slope : Bool) : State :=
  let reason := s.pwr.causes input slope
  let required := s.pwr.newRequired reason
  let t := (s.setPwr { s.pwr with
    reason, required, lastLower := if s.pwr.required < required then s.mt else s.pwr.lastLower,
    gatedMs := s.pwr.gatedMs || reason != 0 }).gateShares (reason != 0)
  if required = 1400 then t.setJoined { t.joined with lastThrottle := none } else t

theorem State.gatingDecision_eq (s : State) (input slope : Bool) :
    s.gatingDecision input slope =
      if (s.gated input slope).ownTarget && decide (s.pwr.newRequired (s.pwr.causes input slope) < (s.gated input slope).pwr.target) then
        (s.gated input slope).setTarget (s.pwr.newRequired (s.pwr.causes input slope)) (s.gated input slope).mt
      else s.gated input slope := rfl

theorem State.frame_gateShares (s : State) (gating : Bool) : s.Within [.freeCtr, .pwr] (s.gateShares gating) :=
  .ite (((s.frame_setFreeCtr _).mono (by decide)).step (State.frame_setPwr _ _)) ((s.frame_setPwr _).mono (by decide))

theorem State.frame_gated (s : State) (input slope : Bool) : s.Within [.freeCtr, .pwr, .joined] (s.gated input slope) := by
  have hshares : s.Within [.freeCtr, .pwr, .joined] ((s.setPwr { s.pwr with
      reason := s.pwr.causes input slope, required := s.pwr.newRequired (s.pwr.causes input slope),
      lastLower := if s.pwr.required < s.pwr.newRequired (s.pwr.causes input slope) then s.mt else s.pwr.lastLower,
      gatedMs := s.pwr.gatedMs || s.pwr.causes input slope != 0 }).gateShares (s.pwr.causes input slope != 0)) :=
    ((s.frame_setPwr _).mono (by decide)).step (State.frame_gateShares _ _)
  exact .ite (hshares.step (State.frame_setJoined _ _)) hshares

theorem State.gated_pwr (s : State) (input slope : Bool) : (s.gated input slope).pwr = s.decided input slope := by
  unfold State.gated State.decided State.gateShares
  dsimp only
  split_ifs <;> rfl

theorem State.gated_group (s : State) (input slope : Bool) : (s.gated input slope).joined.group = s.joined.group := by
  unfold State.gated State.gateShares
  dsimp only
  split_ifs <;> rfl

theorem State.gated_ownTarget (s : State) (input slope : Bool) : (s.gated input slope).ownTarget = s.ownTarget := by
  rw [State.ownTarget, State.gated_group, State.gated_pwr]
  rfl

/-- A decision moves the target and the clock, and nothing else of what it decided. -/
theorem State.gatingDecision_pwr (s : State) (input slope : Bool) :
    ∃ clock target, (s.gatingDecision input slope).pwr = { s.decided input slope with clock := clock, target := target } := by
  rw [State.gatingDecision_eq]
  split
  · rw [State.setTarget_pwr, State.gated_pwr]
    exact ⟨_, _, rfl⟩
  · rw [State.gated_pwr]
    exact ⟨_, _, rfl⟩

/-- In a group a decision leaves the target, and what a step would change. -/
theorem State.gatingDecision_group {s : State} (hgroup : s.joined.group ≠ none) (hmode : s.pwr.critMode = false) (input slope : Bool) :
    s.Within [.freeCtr, .pwr, .joined] (s.gatingDecision input slope) := by
  have hown : (s.gated input slope).ownTarget = false := by
    rw [State.gated_ownTarget, ← Bool.not_eq_true, State.ownTarget_iff]
    simp [hgroup, hmode]
  rw [State.gatingDecision_eq, hown, Bool.false_and]
  exact s.frame_gated _ _

theorem State.inputCheck_pwr (s : State) (vin : Nat) : ∃ low, (s.inputCheck vin).1 = s.setPwr { s.pwr with inputLow := low } := by
  unfold State.inputCheck
  split
  · next h => exact ⟨none, by rw [← h]; rfl⟩
  · split_ifs
    · exact ⟨_, rfl⟩
    · exact ⟨_, rfl⟩
    · next h => exact ⟨_, rfl⟩

/-- The power manager once a sample is taken, before the decision (R722, R723, R733, R738). -/
def State.sampledPwr (s : State) (vin watts load : Nat) (busy : Bool) (cycles : Nat) : PowerState :=
  ((s.pwr.sampled vin watts).learn watts busy).levelled s.mt ((s.pwr.samples.head?).getD watts) load cycles

theorem State.powerSample_still {s : State} (h : s.running = false) (vin watts load : Nat) (busy : Bool) (cycles : Nat) :
    s.powerSample vin watts load busy cycles = s.setPwr (s.pwr.sampled vin watts) := by
  unfold State.powerSample
  exact if_pos (by rw [show (s.setPwr (s.pwr.sampled vin watts)).running = s.running from rfl, h]; rfl)

theorem State.powerSample_running {s : State} (h : s.running = true) (vin watts load : Nat) (busy : Bool) (cycles : Nat) :
    ∃ low input slope, s.powerSample vin watts load busy cycles =
      (s.setPwr { s.sampledPwr vin watts load busy cycles with inputLow := low }).gatingDecision input slope := by
  obtain ⟨low, hlow⟩ := (s.setPwr (s.sampledPwr vin watts load busy cycles)).inputCheck_pwr vin
  refine ⟨low, ((s.setPwr (s.sampledPwr vin watts load busy cycles)).inputCheck vin).2,
    decide (10 * (s.pwr.samples.head?).getD watts + slopeTenths < 10 * load), ?_⟩
  have hgo : ¬ (!(s.setPwr (s.pwr.sampled vin watts)).running) = true := by
    rw [show (s.setPwr (s.pwr.sampled vin watts)).running = s.running from rfl, h]
    decide
  unfold State.powerSample
  refine (if_neg hgo).trans ?_
  exact congrArg (fun u : State => u.gatingDecision _ _) hlow

/-- What a sample gives is what the power manager then holds, whatever it decides. -/
theorem State.powerSample_measures (s : State) (vin watts load : Nat) (busy : Bool) (cycles : Nat) :
    (s.powerSample vin watts load busy cycles).pwr.measures = (s.pwr.sampled vin watts).measures := by
  cases hrun : s.running with
  | false => rw [State.powerSample_still hrun]; rfl
  | true =>
    obtain ⟨low, input, slope, heq⟩ := State.powerSample_running hrun vin watts load busy cycles
    obtain ⟨clock, target, hpwr⟩ := State.gatingDecision_pwr (s.setPwr { s.sampledPwr vin watts load busy cycles with inputLow := low }) input slope
    rw [heq, hpwr]
    exact PowerState.measures_learn _ _ _

/-- A sample that brings no step changes the power manager and its notices alone. -/
theorem State.frame_powerSample {s : State} (h : s.running = false ∨ (s.joined.group ≠ none ∧ s.pwr.critMode = false)) (vin watts load : Nat)
    (busy : Bool) (cycles : Nat) : s.Within [.freeCtr, .pwr, .joined] (s.powerSample vin watts load busy cycles) := by
  cases hrun : s.running with
  | false => rw [State.powerSample_still hrun]; exact (s.frame_setPwr _).mono (by decide)
  | true =>
    obtain ⟨hgroup, hmode⟩ := h.resolve_left (by rw [hrun]; decide)
    obtain ⟨low, input, slope, heq⟩ := State.powerSample_running hrun vin watts load busy cycles
    have hcrit : (s.sampledPwr vin watts load busy cycles).critMode = false := by
      rw [← hmode, State.sampledPwr, PowerState.levelled, PowerState.learn]
      dsimp only
      split <;> rfl
    rw [heq]
    exact ((s.frame_setPwr _).mono (by decide)).trans (State.gatingDecision_group
      (s := s.setPwr { s.sampledPwr vin watts load busy cycles with inputLow := low }) hgroup hcrit input slope)

theorem exec_powerSample {s : State} (h : s.conn.phase ≠ .off) (vin watts load : Nat) (busy : Bool) (cycles : Nat) :
    exec (.powerSample vin watts load busy cycles) s = .next (s.powerSample vin watts load busy cycles) :=
  onEvent_of_true (c := s.conn.phase != .off) (by simpa using h) (fun s => s.powerSample vin watts load busy cycles) s

theorem exec_inputUndervoltage {s : State} (h : s.running = true) :
    exec .inputUndervoltage s = .next ((s.setPwr { s.pwr with inputLow := some s.mt }).gatingDecision true (s.pwr.reason.getLsbD 4)) :=
  onEvent_of_true h (fun s => (s.setPwr { s.pwr with inputLow := some s.mt }).gatingDecision true (s.pwr.reason.getLsbD 4)) s

/-- A fallen input is a cause of gating (R719). -/
theorem PowerState.causes_input (p : PowerState) (slope : Bool) : (p.causes true slope).getLsbD 3 = true := by
  have hinput : (reasonBit true 3).getLsbD 3 = true := by decide
  simp only [PowerState.causes, BitVec.getLsbD_or, hinput, Bool.or_true, Bool.true_or]

/-- While something gates, the share of every die is below 64 (R728). -/
theorem State.decided_gates {s : State} {input slope : Bool} (h : s.pwr.causes input slope ≠ 0) :
    (s.decided input slope).gates.length = 8 ∧ ∀ g ∈ (s.decided input slope).gates, g < 64 := by
  have hgates : (s.decided input slope).gates = (List.range 8).map fun i => (Config.freeWord (s.freeCtr + i)).toNat % 64 :=
    if_pos (by simpa using h)
  rw [hgates]
  refine ⟨rfl, fun g hg => ?_⟩
  obtain ⟨i, -, rfl⟩ := List.mem_map.mp hg
  exact Nat.mod_lt _ (by decide)

/-! ### Notices (R641 to R646) -/

/-- Notices are settled from `s` to `t`: each is there still, applied or not, and the power manager has moved its target and clock alone. -/
structure State.Settles (s t : State) : Prop where
  pwr : ∃ clock target, t.pwr = { s.pwr with clock := clock, target := target }
  joined : ∃ notices, t.joined = { s.joined with notices := notices }
  kept : ∀ x ∈ s.joined.notices, ∃ applied, { x with applied := applied } ∈ t.joined.notices

namespace State.Settles

variable {s t u : State}

theorem of_same (hpwr : t.pwr = s.pwr) (hjoined : t.joined = s.joined) : s.Settles t :=
  ⟨⟨_, _, hpwr⟩, ⟨_, hjoined⟩, fun x hx => ⟨x.applied, by rw [hjoined]; exact hx⟩⟩

theorem refl (s : State) : s.Settles s := of_same rfl rfl

theorem trans (h : s.Settles t) (k : t.Settles u) : s.Settles u := by
  obtain ⟨clock, target, hpwr⟩ := k.pwr
  obtain ⟨notices, hjoined⟩ := k.joined
  obtain ⟨clock', target', hpwr'⟩ := h.pwr
  obtain ⟨notices', hjoined'⟩ := h.joined
  refine ⟨⟨clock, target, by rw [hpwr, hpwr']⟩, ⟨notices, by rw [hjoined, hjoined']⟩, fun x hx => ?_⟩
  obtain ⟨a, ha⟩ := h.kept x hx
  obtain ⟨b, hb⟩ := k.kept _ ha
  exact ⟨b, hb⟩

theorem within {l : List Part} (h : s.Within l t) (hpwr : .pwr ∉ l := by decide) (hjoined : .joined ∉ l := by decide) : s.Settles t :=
  of_same (h.pwr hpwr) (h.joined hjoined)

theorem foldl {α : Type} {f : State → α → State} (hf : ∀ u x, State.Settles u (f u x)) (h : s.Settles t) (xs : List α) :
    s.Settles (xs.foldl f t) := by
  induction xs generalizing t with
  | nil => exact h
  | cons x xs ih => exact ih (h.trans (hf t x))

end State.Settles

theorem State.settles_groupTarget (s : State) (mhz stake : Nat) : s.Settles (s.groupTarget mhz stake) := by
  obtain ⟨clock, hpwr⟩ := s.groupTarget_pwr mhz stake
  have hjoined := (s.frame_groupTarget mhz stake).joined (by decide)
  exact ⟨⟨clock, mhz, hpwr⟩, ⟨_, hjoined⟩, fun x hx => ⟨x.applied, by rw [hjoined]; exact hx⟩⟩

/-- Notices marked as applied. -/
def markApplied (b : List Throttle) (n : Throttle) : Throttle :=
  if b.any (fun m => m.origin == n.origin && m.nseq == n.nseq) then { n with applied := true } else n

theorem State.settles_mark (s : State) (b : List Throttle) :
    s.Settles (s.setJoined { s.joined with notices := s.joined.notices.map (markApplied b) }) := by
  refine ⟨⟨_, _, rfl⟩, ⟨_, rfl⟩, fun x hx => ?_⟩
  have hmem := List.mem_map_of_mem (f := markApplied b) hx
  by_cases hin : b.any (fun m => m.origin == x.origin && m.nseq == x.nseq) = true
  · exact ⟨true, by rwa [markApplied, if_pos hin] at hmem⟩
  · exact ⟨x.applied, by rwa [markApplied, if_neg hin] at hmem⟩

theorem State.settles_applyBatch (s : State) (b : List Throttle) (viaTimer late : Bool) : s.Settles (s.applyBatch b viaTimer late) := by
  unfold State.applyBatch
  exact (((s.settles_mark b).trans (State.settles_groupTarget _ _ _)).trans (.within (State.frame_count _ _ _))).trans
    (.within (State.frame_notify _ _ _ _ _ _ _ _))

theorem State.settles_settleBatches (s : State) : s.Settles s.settleBatches := by
  have hcancel : s.Settles s.cancelBatches := .within s.frame_cancelBatches
  unfold State.settleBatches
  dsimp only
  split
  · exact hcancel
  · refine .foldl (fun u b => ?_) hcancel _
    split
    · exact u.settles_applyBatch _ _ _
    · exact .within (u.frame_stakeOrTimer _ _ _ _ _)

/-- A notice of this device's (R641, R643). -/
def State.ownNotice (s : State) (group : Nat) : Throttle :=
  { group, origin := s.fab.node, originMt := s.mt, stake := s.mt + 160000, nseq := s.joined.nseq, clock := s.pwr.required, applied := false }

/-- The machine as it originates a notice, before the notice goes out. -/
def State.originating (s : State) : State :=
  let t := (s.setJoined { s.joined with nseq := (s.joined.nseq + 1) % 2 ^ 32, lastThrottle := some s.mt }).count 18 1
  t.setPwr { t.pwr with throttles := (t.pwr.throttles + 1) % 2 ^ 16 }

/-- The machine once a first copy is noted and flooded (R642). -/
def State.flooded (s : State) (n : Throttle) (but : Option Nat) : State :=
  let t := s.setJoined { s.joined with seen := s.joined.sees n.origin n.nseq }
  (t.directPeers.filter fun q => some q.1 != but).foldl (fun t q => t.ctrlPeer q.1 n.words) t

theorem State.frame_flooded (s : State) (n : Throttle) (but : Option Nat) :
    (s.setJoined { s.joined with seen := s.joined.sees n.origin n.nseq }).Within sendParts (s.flooded n but) :=
  .foldl (fun u _ => u.frame_ctrlPeer _ _) (.refl _ _) _

/-- A first copy that the device records takes its place among the notices, and they are settled (R642, R644). -/
theorem State.settles_firstCopy {s : State} {n : Throttle} (h : s.joined.group = some n.group) (but : Option Nat) :
    (s.setJoined { s.joined with seen := s.joined.sees n.origin n.nseq, notices := s.joined.notices ++ [n] }).Settles (s.firstCopy n but) := by
  have hjoined := (s.frame_flooded n but).joined (by decide)
  have hpwr := (s.frame_flooded n but).pwr (by decide)
  have hrecords : (s.flooded n but).records n.group = true := State.records_group (by rw [hjoined]; exact h)
  have hcopy : s.firstCopy n but = ((s.flooded n but).setJoined
      { (s.flooded n but).joined with notices := (s.flooded n but).joined.notices ++ [n] }).settleBatches := if_pos hrecords
  have hsame : (s.setJoined { s.joined with seen := s.joined.sees n.origin n.nseq, notices := s.joined.notices ++ [n] }).Settles
      ((s.flooded n but).setJoined { (s.flooded n but).joined with notices := (s.flooded n but).joined.notices ++ [n] }) :=
    .of_same hpwr (by rw [State.setJoined_joined, hjoined]; rfl)
  rw [hcopy]
  exact hsame.trans (State.settles_settleBatches _)

theorem exec_throttleOriginate {s : State} {g : Nat} (hgroup : s.joined.group = some g) (hlow : s.pwr.required < 1400)
    (hmode : s.pwr.critMode = false) (hdue : ∀ m, s.joined.lastThrottle = some m → m + 32000000 ≤ s.time.mt) :
    exec .throttleOriginate s = .next (s.originating.firstCopy (s.ownNotice g) none) := by
  have hlast : (match s.joined.lastThrottle with | some m => decide (m + 32000000 ≤ s.mt) | none => true) = true := by
    cases hm : s.joined.lastThrottle with
    | none => rfl
    | some m => exact decide_eq_true (hdue m hm)
  show execThrottleOriginate s = _
  rw [execThrottleOriginate, hgroup]
  refine congrArg Host.Outcome.next ((if_pos ?_).trans rfl)
  rw [hmode, decide_eq_true hlow]
  exact hlast

theorem State.expireThrottle_effect (s : State) (x : Throttle) :
    let notices := s.joined.notices.filter fun y => !(y.origin == x.origin && y.nseq == x.nseq)
    let clock := lowestClock (notices.filter fun y => y.applied && y.active s.time.mt)
    (s.expireThrottle x).joined.notices = notices
      ∧ (s.joined.group = none ∨ x.applied = false → (s.expireThrottle x).pwr = s.pwr)
      ∧ (s.joined.group ≠ none → x.applied = true →
          (s.expireThrottle x).pwr.target = clock ∨ (s.expireThrottle x).pwr = s.pwr ∧ s.pwr.target = clock) := by
  intro notices clock
  have heq : s.expireThrottle x = if s.joined.group.isSome ∧ x.applied ∧ clock ≠ s.pwr.target then
      (s.setJoined { s.joined with notices := notices }).groupTarget clock (x.stake + 80000000)
    else s.setJoined { s.joined with notices := notices } := rfl
  rw [heq]
  split
  · next h =>
    obtain ⟨hgroup, happlied, -⟩ := h
    obtain ⟨c, hpwr⟩ := (s.setJoined { s.joined with notices := notices }).groupTarget_pwr clock (x.stake + 80000000)
    refine ⟨?_, fun hno => ?_, fun _ _ => .inl (by rw [hpwr])⟩
    · rw [(State.frame_groupTarget _ _ _).joined (by decide)]
      rfl
    · rcases hno with hno | hno
      · rw [hno] at hgroup
        cases hgroup
      · rw [hno] at happlied
        cases happlied
  · next h =>
    refine ⟨rfl, fun _ => rfl, fun hgroup happlied => .inr ⟨rfl, ?_⟩⟩
    by_contra hne
    exact h ⟨Option.isSome_iff_ne_none.mpr hgroup, happlied, fun heq => hne heq.symm⟩

theorem exec_throttleExpiry {s : State} {x : Throttle} (hx : x ∈ s.joined.notices)
    (hone : ∀ y ∈ s.joined.notices, y.origin = x.origin → y.nseq = x.nseq → y = x) :
    exec (.throttleExpiry x.origin x.nseq) s = .next (if x.stake + 80000000 ≤ s.time.mt then s.expireThrottle x else s) := by
  have hfind : s.joined.notices.find? (fun n => n.origin == x.origin && n.nseq == x.nseq) = some x := by
    cases hf : s.joined.notices.find? (fun n => n.origin == x.origin && n.nseq == x.nseq) with
    | none => exact absurd (List.find?_eq_none.mp hf x hx) (by simp)
    | some y =>
      have hy := List.find?_some hf
      rw [Bool.and_eq_true, beq_iff_eq, beq_iff_eq] at hy
      rw [hone y (List.mem_of_find?_eq_some hf) hy.1 hy.2]
  show execThrottleExpiry x.origin x.nseq s = _
  rw [execThrottleExpiry, hfind]
  rfl

/-! ### Apportioned energy (R745, R746) -/

/-- The share of each context in an interval's energy. -/
def State.energyShare (s : State) (c : Nat) : Nat :=
  if ((List.range 64).map s.intervalWeight).sum = 0 then 0
  else s.pwr.msEnergy * nth ((List.range 64).map s.intervalWeight) c 0 / ((List.range 64).map s.intervalWeight).sum

/-- A context with its share added. -/
def Context.withShare (x : Context) (share : Nat) : Context := { x with acct := { x.acct with energyUj := (x.acct.energyUj + share) % 2 ^ 64 } }

/-- One context's share given. -/
def State.giveShare (s t : State) (c : Nat) : State :=
  if s.energyShare c = 0 then t else t.putCtx c ((t.ctx c).withShare (s.energyShare c))

theorem State.frame_giveShare (s t : State) (c : Nat) : t.Within [.ctxs, .ctxsCore] (s.giveShare t c) :=
  .ite (.refl _ t) (t.frame_putCtx _ _)

theorem State.length_giveShare (s t : State) (c : Nat) : (s.giveShare t c).ctxs.length = t.ctxs.length := by
  unfold State.giveShare
  split
  · rfl
  · exact List.length_set

theorem State.ctx_giveShare (s t : State) {c : Nat} (hc : c < t.ctxs.length) (d : Nat) :
    (s.giveShare t c).ctx d = if d = c ∧ s.energyShare c ≠ 0 then (t.ctx c).withShare (s.energyShare c) else t.ctx d := by
  unfold State.giveShare
  by_cases hshare : s.energyShare c = 0
  · simp [hshare]
  · by_cases hd : d = c
    · rw [if_neg hshare, if_pos ⟨hd, hshare⟩, hd, State.ctx_putCtx_same hc]
    · rw [if_neg hshare, if_neg (by simp [hd]), State.ctx_putCtx_ne _ hd]

/-- Each context is given its own share once. -/
theorem State.ctx_giveShares (s : State) {l : List Nat} (hl : l.Nodup) {t : State} (hlen : ∀ c ∈ l, c < t.ctxs.length) (d : Nat) :
    (l.foldl s.giveShare t).ctx d = if d ∈ l ∧ s.energyShare d ≠ 0 then (t.ctx d).withShare (s.energyShare d) else t.ctx d := by
  induction l generalizing t with
  | nil => simp
  | cons c l ih =>
    obtain ⟨hc, hl⟩ := List.nodup_cons.mp hl
    have hc' := hlen c List.mem_cons_self
    rw [List.foldl_cons, ih hl (fun e he => by rw [State.length_giveShare]; exact hlen e (List.mem_cons_of_mem _ he)), State.ctx_giveShare s t hc']
    by_cases hd : d = c
    · subst hd
      simp [hc]
    · simp [hd]

theorem exec_energyApportion {s : State} (hrun : s.running = true) (hnew : s.pwr.msIndex ≠ s.time.mt / 8000000) :
    exec .energyApportion s = .next s.apportion := by
  have hmt : s.mt = s.time.mt := rfl
  exact onEvent_of_true (c := s.running && s.pwr.msIndex != s.mt / 8000000) (by simp [hrun, hmt, hnew]) State.apportion s

theorem State.apportion_eq (s : State) : s.apportion = ((List.range 64).foldl s.giveShare s).setPwr { s.pwr with
    msEnergy := 0, msWeights := s.ctxs.map fun x => x.acct.weight,
    unapp := (s.pwr.unapp + (s.pwr.msEnergy - ((List.range 64).map s.energyShare).sum)) % 2 ^ 64,
    msIndex := s.mt / 8000000, gateMs := if s.pwr.gatedMs then (s.pwr.gateMs + 1) % 2 ^ 16 else s.pwr.gateMs, gatedMs := s.pwr.gating } := rfl

theorem State.frame_giveShares (s : State) : s.Within [.ctxs, .ctxsCore] ((List.range 64).foldl s.giveShare s) :=
  .foldl (fun t c => s.frame_giveShare t c) (.refl _ s) _

theorem State.apportion_energy {s : State} (hlen : s.ctxs.length = 64) {c : Nat} (hc : c < 64) :
    (s.apportion.ctx c).acct.energyUj =
      if s.energyShare c = 0 then (s.ctx c).acct.energyUj else ((s.ctx c).acct.energyUj + s.energyShare c) % 2 ^ 64 := by
  have hctx : s.apportion.ctx c = ((List.range 64).foldl s.giveShare s).ctx c := by
    rw [s.apportion_eq, State.ctx_congr (State.setPwr_ctxs ..)]
  rw [hctx, s.ctx_giveShares List.nodup_range (fun d hd => by rw [hlen]; exact List.mem_range.mp hd)]
  by_cases hshare : s.energyShare c = 0
  · simp [hshare]
  · rw [if_pos ⟨List.mem_range.mpr hc, hshare⟩, if_neg hshare]
    rfl

/-! ### The obligation -/

/-- Settles O38: the power manager's fields follow each event's own function, whose steps of the clock change nothing but the clock and the
comparators, and whose notices are settled without a change of any but their applied marks. -/
theorem powerEvents : Obligations.PowerEvents := by
  unfold Obligations.PowerEvents
  intro s
  refine ⟨fun vin watts load busy cycles hon => ⟨_, exec_powerSample hon vin watts load busy cycles, ?_⟩, fun readings hrun =>
    onEvent_of_true hrun (fun s => s.setPwr { s.pwr with readings }) s, fun hrun => ⟨_, exec_inputUndervoltage hrun, ?_⟩,
    fun hrun hown hlow hdue => ⟨_, exec_targetRestore hrun hown hlow hdue, ?_⟩, fun m h hdue => ⟨exec_clockStep h hdue, ?_⟩,
    fun g hgroup hlow hmode hdue => ⟨_, exec_throttleOriginate hgroup hlow hmode hdue, ?_⟩, fun x hx hone => ?_, rfl,
    fun hrun hnew hlen => ⟨_, exec_energyApportion hrun hnew, ?_⟩⟩
  · have hmeasures := s.powerSample_measures vin watts load busy cycles
    simp only [PowerState.measures, Prod.mk.injEq] at hmeasures
    obtain ⟨hvin, henergy, hsamples, h10, h1, h100⟩ := hmeasures
    rw [hsamples]
    refine ⟨hvin, henergy, rfl, h10, h1, h100, fun h => ?_⟩
    have hframe := State.frame_powerSample h vin watts load busy cycles
    exact ⟨hframe.mem (by decide), hframe.compute (by decide), hframe.mbxs (by decide), hframe.stakes (by decide)⟩
  · obtain ⟨clock, target, hpwr⟩ := State.gatingDecision_pwr (s.setPwr { s.pwr with inputLow := some s.mt }) true (s.pwr.reason.getLsbD 4)
    have hreason := PowerState.causes_input { s.pwr with inputLow := some s.mt } (s.pwr.reason.getLsbD 4)
    have hgates := State.decided_gates (s := s.setPwr { s.pwr with inputLow := some s.mt }) (input := true) (slope := s.pwr.reason.getLsbD 4)
      fun hzero => by
        have hbit := congrArg (fun r : BitVec 5 => r.getLsbD 3) hzero
        exact absurd (hreason.symm.trans hbit) (by decide)
    rw [hpwr]
    refine ⟨rfl, hreason, hgates.1, hgates.2, rfl, fun hgroup hmode => ?_⟩
    have hframe := ((s.frame_setPwr { s.pwr with inputLow := some s.mt }).mono (by decide)).trans
      (State.gatingDecision_group (s := s.setPwr { s.pwr with inputLow := some s.mt }) hgroup hmode true (s.pwr.reason.getLsbD 4))
    exact ⟨hframe.mem (by decide), hframe.mbxs (by decide), hframe.stakes (by decide)⟩
  · rw [State.setTarget_pwr]
    refine ⟨rfl, fun hstaked => if_pos hstaked, fun hfree hclock => ?_⟩
    have hno : ¬ s.stepStaked = true := by rw [hfree]; decide
    refine (if_neg hno).trans ?_
    rw [PowerState.stepped]
    dsimp only
    split <;> omega
  · rw [State.clockStep_pwr]
    exact ⟨rfl, rfl⟩
  · have hsettles := State.settles_firstCopy (s := s.originating) (n := s.ownNotice g) hgroup none
    obtain ⟨clock, target, hpwr⟩ := hsettles.pwr
    obtain ⟨notices, hjoined⟩ := hsettles.joined
    obtain ⟨applied, hnotice⟩ := hsettles.kept (s.ownNotice g) (List.mem_append_right _ List.mem_cons_self)
    refine ⟨by rw [hpwr]; rfl, by rw [hjoined]; rfl, by rw [hjoined]; rfl, ?_, _, hnotice, rfl, rfl, rfl, rfl, rfl, rfl⟩
    rw [hjoined]
    exact List.mem_cons_self
  · rw [exec_throttleExpiry hx hone]
    refine ⟨fun hearly => by rw [if_neg (by omega)], fun hdue => ⟨_, by rw [if_pos hdue], ?_⟩⟩
    obtain ⟨hnotices, hsame, hmoved⟩ := s.expireThrottle_effect x
    refine ⟨hnotices, hsame, ?_⟩
    rw [hnotices]
    exact hmoved
  · refine ⟨rfl, rfl, ⟨fun c hc => State.apportion_energy hlen hc, rfl⟩, ?_⟩
    rw [s.apportion_eq, State.setPwr_mem, State.setPwr_mbxs]
    exact ⟨s.frame_giveShares.mem (by decide), s.frame_giveShares.mbxs (by decide)⟩

end Sys2Proof.Machine
end

section
/-!
SUPPORT AND PROOF. Power, reset and start-up, and what the registers read as after a reset (R17, R33, R749, R753, R759, R769, R823, R831,
R832, R837, R840, R841).
-/

namespace Sys2Proof.Machine

set_option Elab.async false

/-! ### The module reset -/

/-- The machine after a module reset, with the trip as it then stands (R17, R837). -/
def State.resetWith (s : State) (tripped : Bool) : State := s.moduleReset.setConn { s.moduleReset.conn with tripped := tripped }

theorem exec_resetAssert {s : State} (h : s.conn.phase ≠ .off) : exec .resetAssert s = .next
    ((s.setConn { s.conn with resetN := false }).resetWith (s.conn.tripped && !s.cool)) := by
  have hon : ¬ (s.conn.phase == .off) = true := by simpa using h
  show Host.Outcome.next s.resetAssert = _
  rw [State.resetAssert]
  dsimp only
  rw [if_neg (by exact hon)]
  rfl

theorem exec_inputFaultReset {s : State} (h : s.conn.phase ≠ .off) : exec .inputFaultReset s = .next (s.resetWith s.conn.tripped) :=
  onEvent_of_true (c := s.conn.phase != .off) (by simpa using h) State.moduleReset s

theorem exec_thermalTrip {s : State} (h : s.conn.phase ≠ .off) :
    exec .thermalTrip s = .next (s.resetWith true) :=
  onEvent_of_true (c := s.conn.phase != .off) (by simpa using h) (fun s => s.resetWith true) s

theorem exec_powerLoss {s : State} (h : s.conn.phase ≠ .off) : exec .powerLoss s = .next s.standbyFalls :=
  onEvent_of_true (c := s.conn.phase != .off) (by simpa using h) State.standbyFalls s

/-- What a module reset leaves (R17), whatever becomes of the pin that tells of a trip. -/
theorem State.afterReset_resetWith (s : State) (tripped : Bool) :
    afterReset s (s.resetWith tripped) := by
  refine ⟨rfl, rfl, rfl, rfl, rfl, rfl, rfl, rfl, rfl, rfl, rfl, rfl, rfl, rfl, rfl, rfl, rfl, rfl, rfl, rfl, rfl, rfl, rfl, rfl, rfl, rfl,
    rfl, rfl, fun k u hu => ⟨u.gasp, ?_, rfl, rfl, rfl⟩⟩
  show (s.obs.units.map TraceUnit.gasp)[k]? = some u.gasp
  rw [List.getElem?_map, hu, Option.map_some]

/-! ### Reset values (R46, R66, R166, R469, R562, R601, R723, R793, R824) -/

/-- The parts of the machine that the registers of the ID, MT, FLAGW, PWR and SVC areas are read from. -/
structure State.SameRegisters (s t : State) : Prop where
  ids : t.ids = s.ids
  time : t.time = s.time
  stakes : t.stakes = s.stakes
  mbxs : t.mbxs = s.mbxs
  abaom : t.abaom = s.abaom
  pwr : t.pwr = s.pwr
  joined : t.joined = s.joined
  xlat : t.xlat = s.xlat

theorem State.SameRegisters.mbxPage {s t : State} (h : s.SameRegisters t) (n : Nat) {off : Nat} (hoff : off ≠ 0x18) :
    t.mbxPage n off = s.mbxPage n off := by
  simp only [State.mbxPage, State.mbx, h.mbxs, hoff, if_false]

section Areas

variable {s t : State} (h : s.SameRegisters t)
include h

theorem State.SameRegisters.idRead (off : Nat) : t.idRead off = s.idRead off := by
  simp only [State.idRead, State.idTopo, State.idStack, State.idBadacc, State.clusterLive, h.ids]

theorem State.SameRegisters.mtRead (off : Nat) : t.mtRead off = s.mtRead off := by
  simp only [State.mtRead, State.mt, State.mtStatus, State.mtDatum, State.mtCtrl, State.usedAt, State.linkDelay, h.time, h.stakes]

theorem State.SameRegisters.flagwRead (off : Nat) : t.flagwRead off = s.flagwRead off := by
  simp only [State.flagwRead, State.flagwStatus, h.abaom]

theorem State.SameRegisters.pwrRead (off : Nat) : t.pwrRead off = s.pwrRead off := by
  simp only [State.pwrRead, h.pwr, h.joined]

theorem State.SameRegisters.svcRead (off : Nat) : t.svcRead off = s.svcRead off := by
  simp only [State.svcRead, State.faultSlot, h.xlat]

theorem State.SameRegisters.ctrlRead {off : Nat} (hoff : off < 0x10000 ∨ (0x100000 ≤ off ∧ off < 0x400000) ∨ 0x600000 ≤ off) :
    t.ctrlRead off = s.ctrlRead off := by
  unfold State.ctrlRead
  rcases hoff with hid | ⟨hlo, hhi⟩ | hsvc
  · rw [if_pos hid, if_pos hid, h.idRead]
  · simp only [show ¬ off < 0x10000 by omega, show ¬ off < 0x50000 by omega, show ¬ off < 0x100000 by omega, if_false, h.mtRead,
      h.flagwRead, h.pwrRead, if_pos hhi]
  · simp only [show ¬ off < 0x10000 by omega, show ¬ off < 0x50000 by omega, show ¬ off < 0x100000 by omega,
      show ¬ off < 0x200000 by omega, show ¬ off < 0x300000 by omega, show ¬ off < 0x400000 by omega, show ¬ off < 0x500000 by omega,
      show ¬ off < 0x600000 by omega, if_false, h.svcRead]

end Areas

/-- The fabric's registers (R601). -/
theorem State.ctrlRead_fab (s : State) {off : Nat} (halign : off % 8 = 0) (hlo : 0x490000 ≤ off) (hhi : off < 0x4A0000) :
    s.ctrlRead off = s.fabRead (off - 0x490000) := by
  have hcnt : s.ctrlRead off = s.cntRead (off - 0x400000) := by
    simp only [State.ctrlRead, halign, show ¬ off < 0x10000 by omega, show ¬ off < 0x50000 by omega, show ¬ off < 0x100000 by omega,
      show ¬ off < 0x200000 by omega, show ¬ off < 0x300000 by omega, show ¬ off < 0x400000 by omega, show off < 0x500000 by omega,
      ne_eq, not_true, if_false, if_true]
  have hfab : s.cntRead (off - 0x400000) = s.fabRead (off - 0x400000 - 0x90000) := by
    simp only [State.cntRead, show ¬ off - 0x400000 < 0x200 by omega,
      show ¬ (0x10000 ≤ off - 0x400000 ∧ off - 0x400000 < 0x1C000 ∧ (off - 0x400000) % 0x100 < 0x80) by omega,
      show ¬ (0x20000 ≤ off - 0x400000 ∧ off - 0x400000 < 0x20400) by omega,
      show ¬ (0x80000 ≤ off - 0x400000 ∧ off - 0x400000 < 0x81000) by omega,
      show 0x90000 ≤ off - 0x400000 ∧ off - 0x400000 < 0xA0000 by omega, if_false, if_true, and_self]
  rw [hcnt, hfab, Nat.sub_sub]

theorem State.ctrlRead_errlog (s : State) : s.ctrlRead 0x480080 = some s.mem.errWord := by
  simp [State.ctrlRead, State.cntRead, State.memRead]

theorem State.ctrlRead_traverse (s : State) : s.ctrlRead 0x4A0800 = some s.dies.traverseWord := by
  simp [State.ctrlRead, State.cntRead, State.linkRead]

theorem State.ctrlRead_trig (s : State) : s.ctrlRead 0x500180 = some s.obs.trig.word ∧ s.ctrlRead 0x500188 = some s.obs.trig.mt := by
  constructor <;> simp [State.ctrlRead, State.trcRead]

theorem State.ctrlRead_trcStatus (s : State) {u : Nat} (hu : u < 9) : s.ctrlRead (0x500000 + 8 * u) = some (s.unit u).statusWord := by
  have htrc : s.ctrlRead (0x500000 + 8 * u) = s.trcRead (8 * u) := by
    simp only [State.ctrlRead, show (0x500000 + 8 * u) % 8 = 0 by omega, show ¬ 0x500000 + 8 * u < 0x10000 by omega,
      show ¬ 0x500000 + 8 * u < 0x50000 by omega, show ¬ 0x500000 + 8 * u < 0x100000 by omega,
      show ¬ 0x500000 + 8 * u < 0x200000 by omega, show ¬ 0x500000 + 8 * u < 0x300000 by omega,
      show ¬ 0x500000 + 8 * u < 0x400000 by omega, show ¬ 0x500000 + 8 * u < 0x500000 by omega,
      show 0x500000 + 8 * u < 0x600000 by omega, ne_eq, not_true, if_false, if_true, Nat.add_sub_cancel_left]
  rw [htrc, State.trcRead, if_pos (by omega), Nat.mul_div_cancel_left u (by decide)]

/-- The registers of R601 do not show the slot that the device stands in. -/
theorem State.fabRead_slot {t : State} {slot : Nat} (h : t.fab = { FabricState.reset with slot := slot }) (off : Nat) :
    t.fabRead off = State.reset.fabRead off := by
  simp only [State.fabRead, State.port, h]
  rfl

/-- The registers whose reset value the field maps give, with it. -/
def resetRegisters : List (Nat × Nat) :=
  [(0x0, 0x545A010820000000), (0x8, 0), (0x10, 0), (0x18, 0), (0x100008, 0xFFFF), (0x100010, 0), (0x100018, 0xFF0000),
    (0x100020, 3), (0x100028, 0), (0x200000, 0), (0x200008, 0), (0x300000, 0x0578057800000000), (0x300008, 0),
    (0x300010, 0), (0x300018, 0), (0x300020, 0x106812C0106812C0), (0x300028, 0xBB8), (0x300030, 0), (0x300038, 0),
    (0x480080, 0), (0x490000, 0x88B5B2E500400000), (0x490008, 0), (0x490018, 0), (0x490020, 0), (0x4A0800, 0),
    (0x500180, 0), (0x500188, 0), (0x600000, 0), (0x600008, 3), (0x600010, 0)]

/-- Where each of them lies. -/
theorem resetRegisters_areas : ∀ p ∈ resetRegisters,
    (p.1 < 0x10000 ∨ (0x100000 ≤ p.1 ∧ p.1 < 0x400000) ∨ 0x600000 ≤ p.1) ∨ (p.1 % 8 = 0 ∧ 0x490000 ≤ p.1 ∧ p.1 < 0x4A0000)
      ∨ p.1 ∈ [0x480080, 0x4A0800, 0x500180, 0x500188] := by
  decide

theorem reset_ctrlRead : ∀ p ∈ resetRegisters, State.reset.ctrlRead p.1 = some p.2 := by
  decide +kernel

theorem reset_portRegisters : ∀ p < 32, State.reset.ctrlRead (0x100080 + 8 * p) = some 0 ∧ State.reset.ctrlRead (0x490100 + 8 * p) = some 0
    ∧ State.reset.ctrlRead (0x490200 + 8 * p) = some 0 := by
  decide +kernel

theorem reset_dieRegisters : ∀ d < 8, State.reset.ctrlRead (0x40 + 8 * d) = some 0 := by
  decide +kernel

theorem reset_mailboxes : ∀ n < 64, State.reset.mbxPage n 0 = some 0 ∧ State.reset.mbxPage n 0x10 = some 0
    ∧ (n ≠ 63 → State.reset.mbxPage n 0x20 = some 0) := by
  decide +kernel

section ResetReads

variable (s : State) (tripped : Bool)

theorem State.resetWith_registers :
    State.reset.SameRegisters (s.resetWith tripped) :=
  ⟨rfl, rfl, rfl, rfl, rfl, rfl, rfl, rfl⟩

theorem State.resetWith_fabRead (off : Nat) :
    (s.resetWith tripped).fabRead off = State.reset.fabRead off :=
  State.fabRead_slot (slot := s.fab.slot) rfl off

theorem State.resetWith_fabric {off : Nat} (halign : off % 8 = 0) (hlo : 0x490000 ≤ off) (hhi : off < 0x4A0000) :
    (s.resetWith tripped).ctrlRead off = State.reset.ctrlRead off := by
  rw [State.ctrlRead_fab _ halign hlo hhi, State.ctrlRead_fab _ halign hlo hhi, State.resetWith_fabRead]

/-- Every register of the list reads as the reset state's own. -/
theorem State.resetWith_ctrlRead {p : Nat × Nat} (hp : p ∈ resetRegisters) :
    (s.resetWith tripped).ctrlRead p.1 = some p.2 := by
  rw [← reset_ctrlRead p hp]
  rcases resetRegisters_areas p hp with harea | ⟨halign, hlo, hhi⟩ | hone
  · exact (s.resetWith_registers tripped).ctrlRead harea
  · exact s.resetWith_fabric tripped halign hlo hhi
  · simp only [List.mem_cons, List.not_mem_nil, or_false] at hone
    rcases hone with h | h | h | h <;> rw [h]
    · rw [State.ctrlRead_errlog, State.ctrlRead_errlog]
      rfl
    · rw [State.ctrlRead_traverse, State.ctrlRead_traverse]
      rfl
    · rw [(State.ctrlRead_trig _).1, (State.ctrlRead_trig _).1]
      rfl
    · rw [(State.ctrlRead_trig _).2, (State.ctrlRead_trig _).2]
      rfl

theorem State.resetWith_unit {u : Nat} (hu : u < s.obs.units.length) :
    (s.resetWith tripped).unit u = (s.unit u).gasp := by
  show nth (s.obs.units.map TraceUnit.gasp) u TraceUnit.reset = (nth s.obs.units u TraceUnit.reset).gasp
  simp [nth, hu]

end ResetReads

theorem TraceUnit.statusWord_gasp (u : TraceUnit) : u.gasp.statusWord = 0x0800000000000000 := by
  have hreset : TraceUnit.reset.statusWord = 0x0800000000000000 := by decide +kernel
  exact hreset

/-- Settles O39: the registers are read from parts that the reset gives their reset value, and the units keep their records alone. -/
theorem resetValues : Obligations.ResetValues := by
  unfold Obligations.ResetValues
  intro s hon
  have hregs := State.resetWith_registers (s.setConn { s.conn with resetN := false }) (s.conn.tripped && !s.cool)
  refine ⟨_, exec_resetAssert hon, fun p hp => State.resetWith_ctrlRead _ _ hp, fun d hd => ?_, fun p hp => ?_, fun n hn => ?_, fun u hu hlen => ?_⟩
  · rw [hregs.ctrlRead (.inl (by omega))]
    exact reset_dieRegisters d hd
  · obtain ⟨hdelay, hstate, hcount⟩ := reset_portRegisters p hp
    refine ⟨?_, ?_, ?_⟩
    · rw [hregs.ctrlRead (.inr (.inl (by omega)))]
      exact hdelay
    · rw [State.resetWith_fabric _ _ (by omega) (by omega) (by omega)]
      exact hstate
    · rw [State.resetWith_fabric _ _ (by omega) (by omega) (by omega)]
      exact hcount
  · rw [hregs.mbxPage n (by decide), hregs.mbxPage n (by decide), hregs.mbxPage n (by decide)]
    exact reset_mailboxes n hn
  · rw [State.ctrlRead_trcStatus _ hu, State.resetWith_unit (s.setConn { s.conn with resetN := false }) _ hlen, TraceUnit.statusWord_gasp]

end Sys2Proof.Machine
end

section
/-!
SUPPORT AND PROOF. Power, the reset pin, the boot and the end of port training (R33, R62, R753, R759, R769, R782, R831, R832, R837, R840).
-/

namespace Sys2Proof.Machine

set_option Elab.async false

/-! ### Frames of start-up -/

section Frames

variable (s : State)

theorem State.frame_logEvent (kind svn reason : Nat) (digest : List Byte) : s.Within [.trust] (s.logEvent kind svn reason digest) := by
  unfold State.logEvent
  split
  · exact .refl _ s
  · exact s.frame_setTrust _

theorem State.frame_trainLinks (found : StartInputs) (used : Nat → Nat → Bool) : s.Within [.dies] (s.trainLinks found used) := s.frame_setDies _

theorem State.frame_fenceLinks (code : Nat) : s.Within [.dies] (s.fenceLinks code) := s.frame_setDies _

theorem State.frame_setLive (found : StartInputs) (live : List Nat) : s.Within [.ids, .idsCore, .mem, .memCore] (s.setLive found live) := by
  unfold State.setLive
  exact ((s.frame_setIds _).mono (by decide)).step (State.frame_setMem _ _)

end Frames

/-! ### What start-up finds in service (R33, R62, R782, R783) -/

/-- A set of codes none of which is a base die's leaves no base die in service. -/
theorem codeMask_filter_empty {l : List Nat} {p : Nat → Bool} (h : l.any p = false) : codeMask (l.filter p) = 0 := by
  have hnone : l.filter p = [] := List.filter_eq_nil_iff.mpr fun x hx => by simpa using List.any_eq_false.mp h x hx
  rw [hnone]
  rfl

theorem codeMask_procs_empty {l : List Nat} (h : (l.any fun c => c == 8 || c == 9) = false) :
    codeMask ((l.filter fun c => c == 8 || c == 9).map (· - 8)) = 0 := by
  have hnone : (l.filter fun c => c == 8 || c == 9) = [] := List.filter_eq_nil_iff.mpr fun x hx => by simpa using List.any_eq_false.mp h x hx
  rw [hnone]
  rfl

/-- The machine with dies set in service, in the phase that follows (R62, R783). -/
def State.started (s : State) (found : StartInputs) (live : List Nat) : State :=
  let bad := !(live.any (· < 8)) || !(live.any fun c => c == 8 || c == 9)
  (s.setLive found live).setConn { (s.setLive found live).conn with phase := if bad then .failed else .timeWait, waitFrom := (s.setLive found live).mt }

theorem State.started_routes (s : State) (found : StartInputs) (live : List Nat) :
    (s.started found live).ids.routes = routeTables (s.started found live).linkInUse (s.started found live).ids.baseLive := rfl

theorem State.started_phase (s : State) (found : StartInputs) (live : List Nat) :
    ((s.started found live).conn.phase = .timeWait ∨ (s.started found live).conn.phase = .failed)
      ∧ ((s.started found live).conn.phase = .failed → (s.started found live).ids.baseLive = 0 ∨ (s.started found live).ids.procLive = 0) := by
  have hphase : (s.started found live).conn.phase =
      if !(live.any (· < 8)) || !(live.any fun c => c == 8 || c == 9) then .failed else .timeWait := rfl
  have hbase : (s.started found live).ids.baseLive = BitVec.ofNat 8 (codeMask (live.filter (· < 8))) := rfl
  have hproc : (s.started found live).ids.procLive = BitVec.ofNat 2 (codeMask ((live.filter fun c => c == 8 || c == 9).map (· - 8))) := rfl
  rw [hphase, hbase, hproc]
  split
  · next hbad =>
    refine ⟨.inr rfl, fun _ => ?_⟩
    rcases Bool.or_eq_true_iff.mp hbad with h | h
    · exact .inl (by rw [codeMask_filter_empty (by simpa using h)]; rfl)
    · exact .inr (by rw [codeMask_procs_empty (by simpa using h)]; rfl)
  · exact ⟨.inl rfl, nofun⟩

/-- Start-up of the package is the traverse and the training of the links, and then what they leave in service. -/
theorem State.startPackage_started (s : State) (found : StartInputs) :
    ∃ u live, s.startPackage found = State.started u found live ∧ s.Within [.dies] u := by
  refine ⟨_, _, rfl, ?_⟩
  exact .foldl (fun u _ => u.frame_fenceLinks _) ((s.frame_trainLinks _ _).trans (State.frame_setDies _ _)) _

theorem State.frame_started (s : State) (found : StartInputs) (live : List Nat) :
    s.Within [.ids, .idsCore, .mem, .memCore, .conn, .connCore] (s.started found live) :=
  ((s.frame_setLive found live).mono (by decide)).step (State.frame_setConn _ _)

/-! ### Notices and the module's own state -/

/-- An interrupt, an alert or an unread end leaves all else of the module's own state. -/
def State.Alerts (s t : State) : Prop := t.conn = { s.conn with imsic := t.conn.imsic, doneUnread := t.conn.doneUnread }

namespace State.Alerts

variable {s t u : State}

theorem refl (s : State) : s.Alerts s := rfl

theorem trans (h : s.Alerts t) (k : t.Alerts u) : s.Alerts u := by
  unfold State.Alerts at h k ⊢
  rw [k, h]

theorem of_same (h : t.conn = s.conn) : s.Alerts t := by
  unfold State.Alerts
  rw [h]

theorem of_core (h : coreConn t.conn = coreConn s.conn) : s.Alerts t := by
  have hfull := congrArg (fun c : ModuleState => { c with imsic := t.conn.imsic, doneUnread := t.conn.doneUnread }) h
  exact hfull

theorem within {l : List Part} (h : s.Within l t) (hconn : .conn ∉ l := by decide) : s.Alerts t := of_same (h.conn hconn)

theorem foldl {α : Type} {f : State → α → State} (hf : ∀ u x, State.Alerts u (f u x)) (h : s.Alerts t) (xs : List α) :
    s.Alerts (xs.foldl f t) := by
  induction xs generalizing t with
  | nil => exact h
  | cons x xs ih => exact ih (h.trans (hf t x))

end State.Alerts

section Alerts

variable (s : State)

theorem State.alerts_notify (mbxs : List Nat) (kind status ctx mt flags : Nat) (detail : List Nat) :
    s.Alerts (s.notify mbxs kind status ctx mt flags detail) := .of_core ((s.frame_notify mbxs kind status ctx mt flags detail).connCore (by decide))

end Alerts

/-! ### The boot (R753, R759) -/

/-- The machine whose image has passed its checks and runs, before the traverse (R753, R765). -/
def State.imageRuns (s : State) (found : StartInputs) (kind reason : Nat) : State :=
  let read := fun off n => cellRead s.trust.slot off n
  let i := imageHead (read 0 256)
  let im := runImage read
  let s := (s.logEvent 1 0 0 (shake256 (s.configRecord i.keySlot))).logEvent kind i.svn reason im.measurement
  let revoke := s.trust.revoke ||| (BitVec.ofNat 4 i.revoke &&& ~~~(BitVec.twoPow 4 i.keySlot))
  let s := s.setTrust { s.trust with
    revoke, image := some im, booted := true, recovery := none, session := none, optVersions := found.optics }
  let s := s.setConn { s.conn with railsUp := true }
  s.setStakes { s.stakes with fwRuns := true }

theorem State.revoke_logEvent (s : State) (kind svn reason : Nat) (digest : List Byte) :
    (s.logEvent kind svn reason digest).trust.revoke = s.trust.revoke := by
  unfold State.logEvent
  split <;> rfl

/-- An image takes no vote on its own key (R753 step 5). -/
theorem getLsbD_revoke (old : BitVec 4) (bits : Nat) (k : Nat) :
    (old ||| (BitVec.ofNat 4 bits &&& ~~~(BitVec.twoPow 4 k))).getLsbD k = old.getLsbD k := by
  simp only [BitVec.getLsbD_or, BitVec.getLsbD_and, BitVec.getLsbD_not, BitVec.getLsbD_twoPow]
  by_cases hk : k < 4 <;> simp [hk]

theorem State.imageRuns_revoke (s : State) (found : StartInputs) (kind reason : Nat) :
    (s.imageRuns found kind reason).trust.revoke.getLsbD (imageHead (cellRead s.trust.slot 0 256)).keySlot
      = s.trust.revoke.getLsbD (imageHead (cellRead s.trust.slot 0 256)).keySlot := by
  unfold State.imageRuns
  simp only [State.setStakes_trust, State.setConn_trust, State.setTrust_trust, State.revoke_logEvent, getLsbD_revoke]

theorem State.runBoot_eq (s : State) (found : StartInputs) (kind reason : Nat) :
    s.runBoot found kind reason =
      (let t := (s.imageRuns found kind reason).startPackage found
       if t.trust.activeOwed then
         (t.setTrust { t.trust with activeOwed := false }).notify [0, 63] 0xA stOk 0 t.mt (t.hubFlags false)
           (digestWords (runImage fun off n => cellRead s.trust.slot off n).measurement)
       else t) := by
  unfold State.runBoot State.imageRuns
  dsimp only

theorem State.frame_imageRuns (s : State) (found : StartInputs) (kind reason : Nat) :
    s.Within [.trust, .conn, .connCore, .stakes] (s.imageRuns found kind reason) := by
  unfold State.imageRuns
  exact (((((s.frame_logEvent _ _ _ _).mono (by decide)).step (State.frame_logEvent _ _ _ _ _)).step (State.frame_setTrust _ _)).step
    (State.frame_setConn _ _)).step (State.frame_setStakes _ _)

/-- What a boot that the image passes leaves (R33, R753). -/
structure State.Boots (s t : State) (image : RunImage) : Prop where
  image : t.trust.image = some image
  booted : t.trust.booted = true
  recovery : t.trust.recovery = none
  rails : t.conn.railsUp = true
  runs : t.stakes.fwRuns = true
  phase : t.conn.phase = .timeWait ∨ t.conn.phase = .failed
  failed : t.conn.phase = .failed → t.ids.baseLive = 0 ∨ t.ids.procLive = 0
  routes : t.ids.routes = routeTables t.linkInUse t.ids.baseLive
  revoke : t.trust.revoke = s.trust.revoke

/-- The trust state with no notice of a new image owed. -/
theorem State.Boots.notified {s t u : State} {image : RunImage} (h : s.Boots t image) (htrust : u.trust = { t.trust with activeOwed := false })
    (hconn : t.Alerts u) (hstakes : u.stakes = t.stakes) (hids : u.ids = t.ids) (hdies : u.dies = t.dies) : s.Boots u image := by
  have hphase : u.conn.phase = t.conn.phase := by rw [hconn]
  have hlinks : u.linkInUse = t.linkInUse := by
    funext d p
    rw [State.linkInUse, State.linkInUse, hdies]
  obtain ⟨himage, hbooted, hrecovery, hrails, hruns, hph, hfailed, hroutes, hrevoke⟩ := h
  refine ⟨by rw [htrust]; exact himage, by rw [htrust]; exact hbooted, by rw [htrust]; exact hrecovery, by rw [hconn]; exact hrails,
    by rw [hstakes]; exact hruns, by rw [hphase]; exact hph, by rw [hphase, hids]; exact hfailed, by rw [hids, hlinks]; exact hroutes,
    by rw [htrust]; exact hrevoke⟩

/-- The notice of an image that is newly active leaves what the boot left. -/
theorem State.Boots.owedTold {s t : State} {image : RunImage} (h : s.Boots t image) (words : List Nat) :
    s.Boots ((t.setTrust { t.trust with activeOwed := false }).notify [0, 63] 0xA stOk 0 t.mt (t.hubFlags false) words) image := by
  have hnotify := (t.setTrust { t.trust with activeOwed := false }).frame_notify [0, 63] 0xA stOk 0 t.mt (t.hubFlags false) words
  exact h.notified (hnotify.trust (by decide)) (Alerts.trans (.within (t.frame_setTrust _)) (State.alerts_notify _ _ _ _ _ _ _ _))
    (hnotify.stakes (by decide)) (hnotify.ids (by decide)) (hnotify.dies (by decide))

theorem State.startPackage_boots (s : State) (found : StartInputs) (kind reason : Nat) :
    (s.imageRuns found kind reason).Boots ((s.imageRuns found kind reason).startPackage found)
      (runImage fun off n => cellRead s.trust.slot off n) := by
  obtain ⟨u, live, hstart, hu⟩ := (s.imageRuns found kind reason).startPackage_started found
  have htrust := ((hu.mono (by decide)).trans ((u.frame_started found live).mono (by decide)) : (s.imageRuns found kind reason).Within
    [.dies, .ids, .idsCore, .mem, .memCore, .conn, .connCore] (u.started found live)).trust (by decide)
  have hstakes := ((hu.mono (by decide)).trans ((u.frame_started found live).mono (by decide)) : (s.imageRuns found kind reason).Within
    [.dies, .ids, .idsCore, .mem, .memCore, .conn, .connCore] (u.started found live)).stakes (by decide)
  have hrails : (u.started found live).conn.railsUp = u.conn.railsUp := by
    show (u.setLive found live).conn.railsUp = _
    rw [(u.frame_setLive found live).conn (by decide)]
  rw [hstart]
  refine ⟨by rw [htrust]; rfl, by rw [htrust]; rfl, by rw [htrust]; rfl, by rw [hrails, hu.conn (by decide)]; rfl, by rw [hstakes]; rfl,
    (u.started_phase found live).1, (u.started_phase found live).2, u.started_routes found live, by rw [htrust]⟩

theorem State.runBoot_boots (s : State) (found : StartInputs) (kind reason : Nat) :
    (s.imageRuns found kind reason).Boots (s.runBoot found kind reason) (runImage fun off n => cellRead s.trust.slot off n) := by
  have hboots := s.startPackage_boots found kind reason
  rw [State.runBoot_eq]
  dsimp only
  split
  · exact hboots.owedTold _
  · exact hboots

section Boot

variable {s : State} (hslot : s.trust.slotBad = false)
include hslot

/-- An image that fails a check sends the boot into recovery (R759). -/
theorem State.boot_fails {found : StartInputs} {k : Nat} (hcheck : s.imageCheck (fun off n => cellRead s.trust.slot off n) found.flashError = some k) :
    ∃ t : State, s.boot found = t.alertSince (s.setConn { s.conn with found := some found }) ∧ t.conn.phase = .recovering
      ∧ (∃ r, t.trust.recovery = some r ∧ r.reason = k ∧ r.since = s.time.mt) ∧ t.trust.image = s.trust.image := by
  have hreason : (if (s.setConn { s.conn with found := some found }).trust.slotBad then
      some ((s.setConn { s.conn with found := some found }).fresh.1.toNat % 6 + 1)
      else (s.setConn { s.conn with found := some found }).imageCheck
        (fun off n => cellRead (s.setConn { s.conn with found := some found }).trust.slot off n) found.flashError) = some k := by
    rw [State.setConn_trust, hslot]
    exact hcheck
  unfold State.boot
  dsimp only
  rw [hreason]
  dsimp only
  rw [State.setConn_trust, hslot]
  exact ⟨_, rfl, rfl, ⟨_, rfl, rfl, rfl⟩, rfl⟩

theorem State.boot_passes {found : StartInputs} (hcheck : s.imageCheck (fun off n => cellRead s.trust.slot off n) found.flashError = none) :
    s.boot found = (s.setConn { s.conn with found := some found }).runBoot found 2 0 := by
  have hreason : (if (s.setConn { s.conn with found := some found }).trust.slotBad then
      some ((s.setConn { s.conn with found := some found }).fresh.1.toNat % 6 + 1)
      else (s.setConn { s.conn with found := some found }).imageCheck
        (fun off n => cellRead (s.setConn { s.conn with found := some found }).trust.slot off n) found.flashError) = none := by
    rw [State.setConn_trust, hslot]
    exact hcheck
  unfold State.boot
  dsimp only
  rw [hreason]
  dsimp only
  rw [State.setConn_trust, hslot]
  rfl

end Boot

/-! ### The end of port training (R840, R841) -/

theorem exec_portTrainingDeadline {s : State} (hphase : s.conn.phase = .training)
    (hdue : s.conn.trainFrom + 24000000000 ≤ s.time.mt ∨ ∀ p ∈ s.fab.ports, p.st ≠ .training) :
    exec .portTrainingDeadline s = .next s.trainingEnds := by
  refine onEvent_of_true (c := s.conn.phase == .training
    && (decide (s.conn.trainFrom + 24000000000 ≤ s.mt) || !(s.fab.ports.any fun p => p.st == .training))) ?_ State.trainingEnds s
  rw [hphase]
  rcases hdue with hdue | hdue
  · rw [Bool.and_eq_true, Bool.or_eq_true]
    exact ⟨rfl, .inl (decide_eq_true hdue)⟩
  · have hnone : (s.fab.ports.any fun p => p.st == .training) = false := by simpa using hdue
    rw [hnone, Bool.not_false, Bool.or_true]
    rfl

/-- A port as the end of training leaves it (R841). -/
def Port.trainingOver (p : Port) : Port := if p.st = .training then { p with st := .down } else p

/-- The machine with the ports that did not train DOWN. -/
def State.portsOver (s : State) : State := s.setFab { s.fab with ports := s.fab.ports.map Port.trainingOver }

theorem State.trainingEnds_eq (s : State) : s.trainingEnds =
    if s.portsOver.livePorts.isEmpty then s.portsOver.setConn { s.portsOver.conn with phase := .ready }
    else (s.portsOver.setConn { s.portsOver.conn with phase := .exchanging }).setTime
      { s.time with meas := some (s.portsOver.newMeasure s.portsOver.livePorts 64 none) } := by
  have hports : (s.fab.ports.map fun p => if p.st == .training then { p with st := .down } else p) = s.fab.ports.map Port.trainingOver :=
    List.map_congr_left fun p _ => by simp [Port.trainingOver]
  unfold State.trainingEnds State.portsOver
  rw [hports]
  rfl

theorem State.trainingEnds_ports (s : State) : s.trainingEnds.fab.ports = s.fab.ports.map Port.trainingOver ∧ s.trainingEnds.livePorts = s.portsOver.livePorts := by
  rw [State.trainingEnds_eq]
  split <;> exact ⟨rfl, rfl⟩

/-- A port that is not UP is not live when training ends. -/
theorem State.portsOver_live {s : State} (h : ∀ p < 32, ∀ x, s.fab.ports[p]? = some x → x.st ≠ .up) : s.portsOver.livePorts = [] := by
  refine List.filter_eq_nil_iff.mpr fun p hp huse => ?_
  have hup := (Bool.and_eq_true_iff.mp huse).1
  have hport : s.portsOver.port p = ((s.fab.ports[p]?).map Port.trainingOver).getD Port.reset := by
    rw [State.port, nth]
    exact congrArg (Option.getD · Port.reset) (List.getElem?_map ..)
  rw [hport] at hup
  cases hx : s.fab.ports[p]? with
  | none => rw [hx] at hup; exact absurd hup (by decide)
  | some x =>
    rw [hx, Option.map_some, Option.getD_some, Port.trainingOver] at hup
    split at hup
    · exact absurd (show (PortSt.down == PortSt.up) = true from hup) (by decide)
    · exact h p (List.mem_range.mp hp) x hx (beq_iff_eq.mp hup)

/-! ### The obligation -/

/-- Settles O40: each way into reset is the module reset, the boot follows the checks of the image, and the package starts with what its links
leave in service. -/
theorem startAndReset : Obligations.StartAndReset := by
  unfold Obligations.StartAndReset
  intro s found
  refine ⟨fun slot hoff => ?_, fun hon => ⟨_, exec_powerLoss hon, rfl, rfl, rfl, rfl, rfl, rfl, rfl, rfl, rfl, rfl, rfl, rfl, rfl, rfl, ?_⟩,
    fun hon => ⟨_, exec_resetAssert hon, ?_, ?_⟩, fun hreset htrip => ?_, fun hno => ?_,
    fun hon => ⟨_, exec_inputFaultReset hon, s.afterReset_resetWith _, rfl⟩,
    fun hon => ⟨_, exec_thermalTrip hon, s.afterReset_resetWith _, rfl⟩, fun hslot => ?_,
    fun hphase hdue => ⟨_, exec_portTrainingDeadline hphase hdue, s.trainingEnds_ports.1, fun hnone => ?_, fun hlive => ?_⟩⟩
  · exact onEvent_of_true (c := s.conn.phase == .off) (by simpa using hoff) (fun s => s.powerOn slot found) s
  · intro u hu
    rw [List.eq_of_mem_replicate hu]
  · exact State.afterReset_resetWith _ _
  · show (s.conn.tripped && !s.cool) = true ↔ _
    simp
  · show Host.Outcome.next (s.resetRelease found) = _
    exact congrArg Host.Outcome.next (if_pos (by simp [hreset, htrip]))
  · show Host.Outcome.next (s.resetRelease found) = _
    exact congrArg Host.Outcome.next (if_neg (by simpa [Decidable.imp_iff_not_or] using hno))
  · intro read t
    refine ⟨fun k hcheck => ?_, fun hcheck => ?_⟩
    · obtain ⟨u, hboot, hphase, hrecovery, himage⟩ := State.boot_fails hslot hcheck
      have halert := u.frame_alertSince (s.setConn { s.conn with found := some found })
      have ht : t = u.alertSince (s.setConn { s.conn with found := some found }) := hboot
      rw [ht, halert.conn (by decide), halert.trust (by decide)]
      exact ⟨hphase, hrecovery, himage⟩
    · have ht : t = (s.setConn { s.conn with found := some found }).runBoot found 2 0 := State.boot_passes hslot hcheck
      have hboots := State.runBoot_boots (s.setConn { s.conn with found := some found }) found 2 0
      have hrevoke := State.imageRuns_revoke (s.setConn { s.conn with found := some found }) found 2 0
      rw [← ht] at hboots
      clear_value t
      obtain ⟨himage, hbooted, hrecovery, hrails, hruns, hph, hfailed, hroutes, hkeeps⟩ := hboots
      exact ⟨himage, hbooted, hrecovery, hrails, hruns, hph, hfailed, hroutes, by rw [hkeeps]; exact hrevoke⟩
  · rw [State.trainingEnds_eq, State.portsOver_live hnone]
    exact ⟨rfl, rfl⟩
  · rw [s.trainingEnds_ports.2] at hlive ⊢
    rw [State.trainingEnds_eq, if_neg (by simpa using hlive)]
    exact ⟨rfl, _, rfl, rfl, rfl, rfl, rfl⟩

end Sys2Proof.Machine
end

section
/-!
PROOF. The management endpoint's own answers: MCTP control, PLDM, the sensors and address resolution (R567, R569, R836, R843 to R850).
-/

namespace Sys2Proof.Machine

theorem State.standby_of_phase {s : State} (h : s.conn.phase ≠ .off) : s.standby = true := by
  rw [State.standby, bne_iff_ne]
  exact h

/-! ### Sensors (R850) -/

theorem State.frame_noteHeat (s : State) (id : Nat) (v : Int) : s.Within [.mem, .memCore] (s.noteHeat id v) := by
  unfold State.noteHeat
  exact .ite (s.frame_setMem _) (.refl _ s)

theorem State.noteHeat_hbm (s : State) (id : Nat) (v : Int) : (s.noteHeat id v).mem.hbm = s.mem.hbm := by
  unfold State.noteHeat
  split <;> rfl

/-- What an event raised leaves: the events with one more, and nothing of the sensors. -/
theorem State.raiseEvent_conn (s : State) (sensor band : Nat) : (s.raiseEvent sensor band).conn
    = { s.conn with events := s.conn.events ++ [⟨sensor, band, s.conn.nextEvent⟩], nextEvent := s.conn.nextEvent + 1 } := by
  have halert := State.frame_alertSince
    (s.setConn { s.conn with events := s.conn.events ++ [⟨sensor, band, s.conn.nextEvent⟩], nextEvent := s.conn.nextEvent + 1 }) s
  unfold State.raiseEvent
  dsimp only
  split
  · exact ((halert.step (State.frame_emit _ _)).conn (by decide)).trans rfl
  · exact (halert.conn (by decide)).trans rfl

theorem State.frame_raiseEvent (s : State) (sensor band : Nat) : s.Within [.conn, .connCore, .outbox] (s.raiseEvent sensor band) := by
  have halert : s.Within [.conn, .connCore, .outbox] ((s.setConn { s.conn with
      events := s.conn.events ++ [⟨sensor, band, s.conn.nextEvent⟩], nextEvent := s.conn.nextEvent + 1 }).alertSince s) :=
    ((s.frame_setConn _).mono (by decide)).step (State.frame_alertSince _ _)
  unfold State.raiseEvent
  dsimp only
  split
  · exact halert.step (State.frame_emit _ _)
  · exact halert

/-- The sensors after an update: the one updated last, at the end (R850). -/
theorem State.sensorUpdate_sensors (s : State) (id : Nat) (value : Int) : (s.sensorUpdate id value).conn.sensors
    = (s.conn.sensors.filter fun x => x.id != id) ++ [⟨id, s.measured id value, s.bandOf id (s.measured id value)⟩] := by
  have hheat := (s.frame_noteHeat id (s.measured id value)).conn (by decide)
  unfold State.sensorUpdate
  dsimp only
  rw [← hheat]
  split_ifs
  · rfl
  · rw [State.raiseEvent_conn]
    rfl

theorem State.sensorUpdate_sensor (s : State) (id : Nat) (value : Int) :
    (s.sensorUpdate id value).sensor id = some ⟨id, s.measured id value, s.bandOf id (s.measured id value)⟩ := by
  have hnone : (s.conn.sensors.filter fun x => x.id != id).find? (fun x => x.id == id) = none :=
    List.find?_eq_none.mpr fun x hx => by simpa using (List.mem_filter.mp hx).2
  rw [State.sensor, State.sensorUpdate_sensors, List.find?_append, hnone]
  simp

theorem State.sensorUpdate_sensor_other (s : State) (id : Nat) (value : Int) {k : Nat} (hk : k ≠ id) :
    (s.sensorUpdate id value).sensor k = s.sensor k := by
  have hpred : (fun x : Sensor => decide ((x.id != id) = true ∧ (x.id == k) = true)) = fun x => x.id == k := by
    funext x
    by_cases hx : x.id = k <;> simp [hx, hk]
  rw [State.sensor, State.sensorUpdate_sensors, List.find?_append, List.find?_filter, hpred]
  simp [State.sensor, Ne.symm hk]

theorem State.sensorUpdate_events_same {s : State} {id : Nat} {value : Int}
    (h : s.bandOf id (s.measured id value) = ((s.sensor id).map (·.band)).getD 0) :
    (s.sensorUpdate id value).conn.events = s.conn.events := by
  have hheat := (s.frame_noteHeat id (s.measured id value)).conn (by decide)
  unfold State.sensorUpdate
  dsimp only
  rw [if_pos h, ← hheat]
  rfl

theorem State.sensorUpdate_events_other {s : State} {id : Nat} {value : Int}
    (h : s.bandOf id (s.measured id value) ≠ ((s.sensor id).map (·.band)).getD 0) :
    (s.sensorUpdate id value).conn.events = s.conn.events ++ [⟨id, s.bandOf id (s.measured id value), s.conn.nextEvent⟩] := by
  have hheat := (s.frame_noteHeat id (s.measured id value)).conn (by decide)
  unfold State.sensorUpdate
  dsimp only
  rw [if_neg h, State.raiseEvent_conn, ← hheat]
  rfl

theorem State.sensorUpdate_mem_mbxs (s : State) (id : Nat) (value : Int) :
    (s.sensorUpdate id value).mem.hbm = s.mem.hbm ∧ (s.sensorUpdate id value).mbxs = s.mbxs := by
  have hheat := s.frame_noteHeat id (s.measured id value)
  unfold State.sensorUpdate
  dsimp only
  split_ifs
  · exact ⟨s.noteHeat_hbm _ _, hheat.mbxs (by decide)⟩
  · rw [(State.frame_raiseEvent _ _ _).mem (by decide), (State.frame_raiseEvent _ _ _).mbxs (by decide)]
    exact ⟨s.noteHeat_hbm _ _, hheat.mbxs (by decide)⟩

/-! ### The answers -/

/-- GET_PDR (R850) of a record that there is. -/
theorem State.getPdr_eq {s : State} {record id : Nat} (a : Agent) (h : sensorIds[(if record = 0 then 1 else record) - 1]? = some id) :
    ∃ next, s.getPdr a record = s.emit (.pldm a 2 0x51 ([0, next] ++ s.descriptor id)) := by
  unfold State.getPdr
  dsimp only
  rw [h]
  exact ⟨_, rfl⟩

theorem State.solicits_management {s : State} {target : Nat} (h : s.standby = true) (ht : target = linkLocal6 ∨ target ∈ s.conn.slaac) :
    s.solicits 32 target = true := by
  rw [State.solicits, if_pos rfl, h]
  simpa using ht

theorem State.routedPort_of_up {s : State} {p : Nat} (hp : p < 32) (hup : (s.port p).st = .up) (hmode : (s.port p).modeNow = true)
    (hquar : (s.port p).quar = false) (hfenced : s.fab.fenced = false) : s.routedPort p = true := by
  simp [State.routedPort, hp, hup, hmode, hquar, hfenced]

theorem State.solicits_routed {s : State} {p : Nat} (hp : p < 32) (hr : s.routedPort p = true) (he : s.fab.epoch ≠ 0) :
    s.solicits p (fabricAddress s.fab.v6pfx s.fab.node) = true := by
  rw [State.solicits, if_neg (by omega), hr]
  simpa using he

/-- Settles O50: each answer is the command's meaning in a state whose VSTBY is up; a sensor's update by what it leaves of the sensors and
the events. -/
theorem endpointAnswers : Obligations.EndpointAnswers := by
  unfold Obligations.EndpointAnswers
  intro s a hphase
  have h := State.standby_of_phase hphase
  refine ⟨fun eid => ?_, congrArg Host.Outcome.next (if_pos h), fun kind => ?_, congrArg Host.Outcome.next (if_pos h), fun k => congrArg Host.Outcome.next (if_pos h),
    fun addr ibi => congrArg Host.Outcome.next (if_pos h), congrArg Host.Outcome.next (if_pos h), fun kind => ?_, congrArg Host.Outcome.next (if_pos h), fun kind => congrArg Host.Outcome.next (if_pos h),
    fun record id hid => ?_, fun id => ?_, congrArg Host.Outcome.next (if_pos h), ?_, fun receiver => congrArg Host.Outcome.next (if_pos h), fun event hreceiver => ?_,
    fun id value hnumeric => ?_, fun target htarget => ?_, fun p hp hup hmode hquar hfenced => ?_, ?_⟩
  · exact (onEvent_of_true h (fun s => s.setEndpoint a eid) s).trans (apply_ite Host.Outcome.next _ _ _)
  · refine (congrArg Host.Outcome.next (if_pos h)).trans ?_
    simp [messageTypes]
  · refine (congrArg Host.Outcome.next (if_pos h)).trans ?_
    simp
  · obtain ⟨next, hpdr⟩ := s.getPdr_eq a hid
    exact ⟨next, (onEvent_of_true h (fun s => s.getPdr a record) s).trans (congrArg Host.Outcome.next hpdr)⟩
  · exact congrArg Host.Outcome.next (if_pos h)
  · refine (congrArg Host.Outcome.next (if_pos h)).trans ?_
    cases hf : s.fab.fenced <;> simp [State.stateReadings, flagNat, hf]
  · exact onEvent_of_true (c := s.standby && s.conn.receiver == some a)
      (Bool.and_eq_true_iff.mpr ⟨h, beq_iff_eq.mpr hreceiver⟩) (fun s =>
        s.setConn { s.conn with events := s.conn.events.filter fun e => e.id != event }) s
  · obtain ⟨hhbm, hmbxs⟩ := s.sensorUpdate_mem_mbxs id value
    exact ⟨_, onEvent_of_true (c := s.standby && numericSensor id) (Bool.and_eq_true_iff.mpr ⟨h, hnumeric⟩)
      (fun s => s.sensorUpdate id value) s, s.sensorUpdate_sensor id value, fun k hk => s.sensorUpdate_sensor_other id value hk,
      State.sensorUpdate_events_same, State.sensorUpdate_events_other, hhbm, hmbxs⟩
  · exact onEvent_of_true (State.solicits_management h htarget) (fun s => s.emit (.neighborAdvertisement 32 target)) s
  · have hrouted := State.routedPort_of_up hp hup hmode hquar hfenced
    refine ⟨fun hepoch => onEvent_of_true (State.solicits_routed hp hrouted hepoch) (fun s => s.emit (.neighborAdvertisement p _)) s,
      fun mac router pfx => ?_⟩
    have hne : p ≠ 32 := by omega
    exact (onEvent_of_true (c := if p = 32 then s.standby else s.routedPort p) (by rw [if_neg hne]; exact hrouted)
      (fun s => s.advertised p mac router pfx) s).trans (congrArg Host.Outcome.next (if_neg hne))
  · exact onEvent_of_true (c := s.standby && Config.linkLocal4 == Config.linkLocal4) (by simp [h])
      (fun s => s.emit (.arpReply Config.linkLocal4)) s

end Sys2Proof.Machine
end

section
/-!
PROOF. The messages of the management agents (R490).
-/

namespace Sys2Proof.Machine

set_option Elab.async false

/-- A machine whose service window is open for writes, and whose stacked memory is a list that holds two cells of address 0: a list that
no step leaves (O4), but a state of the model. -/
def State.twoCells : State :=
  { State.reset with
    conn := { State.reset.conn with phase := .ready }
    ids := { State.reset.ids with hbmGib := 1, stackLive := BitVec.allOnes 16 }
    xlat := { State.reset.xlat with svcEnable := true, svcWrite := true }
    mem := { State.reset.mem with hbm := [(0, 1), (0, 2)], poison := [], repairs := [] } }

/-- A zero written over the first of two cells uncovers the second. -/
theorem State.svcStore_twoCells : (State.twoCells.svcStore (.i3c 0) 0 0 8 (List.replicate 8 0)).hbmRead 0 8 ≠ List.replicate 8 0 := by
  decide +kernel

/-- Refutes O49: eight zero bytes that SVC_WRITE stores at address 0 do not read back where the memory's list is not canonical, which the
statement does not ask. -/
theorem not_agentMessages : ¬ Obligations.AgentMessages := by
  unfold Obligations.AgentMessages
  intro h
  obtain ⟨_, _, _, hwindow, _⟩ := h State.twoCells (.i3c 0) 0
  obtain ⟨_, _, _, _, hwrite⟩ := hwindow 0 8 (by decide +kernel)
  obtain ⟨_, _, _, hstore⟩ := hwrite (List.replicate 8 0)
  obtain ⟨t, hexec, hread, _⟩ := hstore rfl (by decide) (by decide +kernel) rfl rfl rfl rfl rfl (by decide +kernel)
  have hrun : exec (.svcWrite (.i3c 0) 0 0 8 (List.replicate 8 0)) State.twoCells
      = .next (State.twoCells.svcStore (.i3c 0) 0 0 8 (List.replicate 8 0)) :=
    onEvent_of_true (c := State.twoCells.windowUp) (by decide +kernel) (fun s => s.svcStore (.i3c 0) 0 0 8 (List.replicate 8 0)) _
  have hmem : (State.twoCells.svcStore (.i3c 0) 0 0 8 (List.replicate 8 0)).mem = t.mem := by
    rw [Host.Outcome.next.inj (hrun.symm.trans hexec)]
    rfl
  refine State.svcStore_twoCells ?_
  rw [State.hbmRead, hmem]
  exact hread

end Sys2Proof.Machine
end

section
/-!
PROOF. DIE_SERVICE, STACK_REPAIR, the die links and the saturation windows (R555 to R562, R707, R708, R789 to R797).
-/

namespace Sys2Proof.Machine

set_option Elab.async false

/-! ### A command in hand -/

theorem State.mbx_begin (s : State) (n : Nat) :
    (s.begin_ n).mbx n = s.mbx n ∨ (s.begin_ n).mbx n = { s.mbx n with cmd := (s.mbx n).cmd.map fun c => { c with begun := true } } := by
  by_cases hn : n < s.mbxs.length
  · exact .inr (State.mbx_begin_same hn)
  · left
    have hsame : (s.begin_ n).mbxs = s.mbxs := List.set_eq_of_length_le (by omega)
    rw [State.mbx, State.mbx, hsame]

/-- A command's arguments stay as it begins. -/
theorem State.arg_begin (s : State) (n i : Nat) : (s.begin_ n).arg n i = s.arg n i := by
  rcases s.mbx_begin n with h | h <;> rw [State.arg, State.arg, h]
  cases (s.mbx n).cmd <;> rfl

/-- So does the MT of its take. -/
theorem State.takenAt_begin (s : State) (n : Nat) : (s.begin_ n).takenAt n = s.takenAt n := by
  have hmt : (s.begin_ n).mt = s.mt := rfl
  rcases s.mbx_begin n with h | h <;> rw [State.takenAt, State.takenAt, h, hmt]
  cases (s.mbx n).cmd <;> rfl

/-! ### Die service (R794 to R797) -/

section DieService

variable (s : State)

/-- With no service to start, none starts. -/
theorem State.nextService_idle (k : Nat) (h : s.dies.serviceQueue = []) : State.nextService k s = s := by
  cases k with
  | zero => rfl
  | succ k =>
    rw [State.nextService, h]
    cases s.dies.service <;> rfl

/-- The machine in which a service of mailbox `n` stands first in line. -/
theorem State.nextService_one {n : Nat} (hservice : s.dies.service = none) (hqueue : s.dies.serviceQueue = [n]) :
    State.nextService 1 s = (s.setDies { s.dies with serviceQueue := [] }).startService n := by
  rw [State.nextService, hservice, hqueue]
  rfl

theorem State.startService_dead {n : Nat} (h : s.ids.baseLive.getLsbD (s.arg n 0 % 8) = false) :
    s.startService n = s.complete n stHwFault [] := by
  unfold State.startService
  dsimp only
  rw [if_pos (by rw [h]; rfl)]

theorem State.startService_live {n : Nat} (h : s.ids.baseLive.getLsbD (s.arg n 0 % 8) = true) : s.startService n =
    (s.setIds { s.ids with computeLive := s.ids.computeLive &&& ~~~(BitVec.twoPow 8 (s.arg n 0 % 8)) }).setDies
      { s.dies with service := some ⟨n, s.arg n 0 % 8, s.ids.computeLive.getLsbD (s.arg n 0 % 8), s.takenAt n⟩ } := by
  unfold State.startService
  dsimp only
  rw [if_neg (by rw [h]; decide)]

theorem State.exec_dieService {n : Nat} (h : s.has n 0x0D00 = true) (hservice : s.dies.service = none) (hqueue : s.dies.serviceQueue = []) :
    exec (.dieService n) s = .next (((s.begin_ n).setDies { s.dies with serviceQueue := [] }).startService n) := by
  let t := (s.begin_ n).setDies { s.dies with serviceQueue := s.dies.serviceQueue ++ [n] }
  have hline : t.dies.serviceQueue = [n] := congrArg (· ++ [n]) hqueue
  refine (runCommand_of_has h (fun s =>
    let t := (s.begin_ n).setDies { s.dies with serviceQueue := s.dies.serviceQueue ++ [n] }
    State.nextService t.dies.serviceQueue.length t)).trans (congrArg Host.Outcome.next ?_)
  change State.nextService t.dies.serviceQueue.length t = _
  rw [show t.dies.serviceQueue.length = 1 by rw [hline]; rfl, State.nextService_one t hservice hline]
  rfl

/-- DIE_SERVICE where none runs (R795, R796). -/
theorem State.dieService_eq {n : Nat} (h : s.has n 0x0D00 = true) (hservice : s.dies.service = none) (hqueue : s.dies.serviceQueue = []) :
    let d := s.arg n 0 % 8
    (s.ids.baseLive.getLsbD d = false → exec (.dieService n) s =
      endsWith ((s.begin_ n).setDies { s.dies with serviceQueue := [] }) n stHwFault [])
    ∧ (s.ids.baseLive.getLsbD d = true → exec (.dieService n) s = .next
      ((((s.begin_ n).setDies { s.dies with serviceQueue := [] }).setIds { s.ids with
        computeLive := s.ids.computeLive &&& ~~~(BitVec.twoPow 8 d) }).setDies { s.dies with
          serviceQueue := [], service := some ⟨n, d, s.ids.computeLive.getLsbD d, s.takenAt n⟩ })) := by
  intro d
  let t := (s.begin_ n).setDies { s.dies with serviceQueue := [] }
  have harg : t.arg n 0 = s.arg n 0 := s.arg_begin n 0
  have htaken : t.takenAt n = s.takenAt n := s.takenAt_begin n
  have hids : t.ids = s.ids := rfl
  rw [State.exec_dieService s h hservice hqueue]
  refine ⟨fun hdead => congrArg Host.Outcome.next (State.startService_dead t ?_),
    fun hlive => congrArg Host.Outcome.next ((State.startService_live t ?_).trans ?_)⟩
  · rw [harg, hids]
    exact hdead
  · rw [harg, hids]
    exact hlive
  · rw [harg, htaken, hids]
    rfl

theorem State.frame_powerCycle (d stop : Nat) : s.Within [.coh, .xlat, .xlatCore, .compute, .obs] (s.powerCycle d stop) := by
  unfold State.powerCycle
  dsimp only
  exact ((((s.frame_setCoh _).mono (by decide)).step (State.frame_setXlat _ _)).step (State.frame_setCompute _ _)).step
    (State.frame_traceKept _ _ _ _ _)

/-- What the switching off and on leaves of a die's translations and block memory: nothing (R796). -/
theorem State.powerCycle_cleared (d stop : Nat) :
    (∀ e ∈ (s.powerCycle d stop).xlat.tlb, e.place / 24 ≠ d) ∧ (∀ x ∈ (s.powerCycle d stop).xlat.l1, x.entry.place / 24 ≠ d)
      ∧ (∀ c ∈ (s.powerCycle d stop).compute.bmem, c.1 / 2 ^ 21 / 24 ≠ d) := by
  unfold State.powerCycle
  dsimp only
  rw [(State.frame_traceKept _ _ _ _ _).xlat (by decide), (State.frame_traceKept _ _ _ _ _).compute (by decide)]
  refine ⟨fun e he => ?_, fun x hx => ?_, fun c hc => ?_⟩
  · simpa using (List.mem_filter.mp he).2
  · simpa using (List.mem_filter.mp hx).2
  · simpa using (List.mem_filter.mp hc).2

/-- The machine whose die has been off and on, before the command ends. -/
def State.serviced (r : DieServiceRun) (passed : BitVec 24) (linkOk : Bool) (stop : Nat) : State :=
  let t := (s.powerCycle r.tile stop).setDies { s.dies with service := none }
  if linkOk && passed != 0 then
    t.setIds { t.ids with clusterLive := t.ids.clusterLive.set r.tile passed, computeLive := t.ids.computeLive ||| BitVec.twoPow 8 r.tile }
  else t.setIds { t.ids with clusterLive := t.ids.clusterLive.set r.tile 0 }

theorem State.serviceEnds_eq (r : DieServiceRun) (passed : BitVec 24) (linkOk : Bool) (stop : Nat) (hqueue : s.dies.serviceQueue = []) :
    ∃ status res, s.serviceEnds r passed linkOk stop = (s.serviced r passed linkOk stop).complete r.mbx status res := by
  unfold State.serviceEnds State.serviced
  dsimp only
  split_ifs
  · refine ⟨_, _, State.nextService_idle _ _ ?_⟩
    rw [(State.frame_complete _ _ _ _).dies (by decide)]
    exact hqueue
  · refine ⟨_, _, State.nextService_idle _ _ ?_⟩
    rw [(State.frame_complete _ _ _ _).dies (by decide)]
    exact hqueue

theorem State.frame_serviced (r : DieServiceRun) (passed : BitVec 24) (linkOk : Bool) (stop : Nat) :
    (s.powerCycle r.tile stop).Within [.ids, .idsCore, .dies] (s.serviced r passed linkOk stop) := by
  have ht : (s.powerCycle r.tile stop).Within [.ids, .idsCore, .dies] ((s.powerCycle r.tile stop).setDies { s.dies with service := none }) :=
    (State.frame_setDies _ _).mono (by decide)
  exact .ite (ht.step (State.frame_setIds _ _)) (ht.step (State.frame_setIds _ _))

theorem State.serviced_service (r : DieServiceRun) (passed : BitVec 24) (linkOk : Bool) (stop : Nat) :
    (s.serviced r passed linkOk stop).dies.service = none := by
  unfold State.serviced
  dsimp only
  split_ifs <;> rfl

theorem State.serviced_ids (r : DieServiceRun) (passed : BitVec 24) (linkOk : Bool) (stop : Nat) (htile : r.tile < 8)
    (hlive : s.ids.clusterLive.length = 8) :
    (linkOk = true → passed ≠ 0 → (s.serviced r passed linkOk stop).ids.computeLive.getLsbD r.tile = true
      ∧ nth (s.serviced r passed linkOk stop).ids.clusterLive r.tile 0 = passed)
    ∧ (linkOk = false → nth (s.serviced r passed linkOk stop).ids.clusterLive r.tile 0 = 0) := by
  have hids : ((s.powerCycle r.tile stop).setDies { s.dies with service := none }).ids = s.ids := (s.frame_powerCycle _ _).ids (by decide)
  have hset (v : BitVec 24) : nth (s.ids.clusterLive.set r.tile v) r.tile 0 = v := by simp [nth, hlive, htile]
  unfold State.serviced
  dsimp only
  refine ⟨fun hok hpassed => ?_, fun hfail => ?_⟩
  · rw [if_pos (by simpa [hok] using hpassed), hids]
    refine ⟨?_, hset passed⟩
    change (s.ids.computeLive ||| BitVec.twoPow 8 r.tile).getLsbD r.tile = true
    rw [BitVec.getLsbD_or, BitVec.getLsbD_twoPow]
    simp [htile]
  · rw [if_neg (by simp [hfail]), hids]
    exact hset 0

/-- The run of a die service, once its die is drained (R796). -/
theorem State.exec_dieServiceDrained {r : DieServiceRun} (passed : Nat) (back : DieReturn) (hrun : s.dies.service = some r)
    (hempty : ∀ b ∈ s.compute.blocks, b.cluster / 24 ≠ r.tile) : exec (.dieServiceDrained passed back) s =
      .next (s.serviceEnds r (BitVec.ofNat 24 passed) (back.linkOk && s.ids.baseLive.getLsbD r.tile) back.stop) := by
  change execDieServiceDrained passed back s = _
  unfold execDieServiceDrained
  rw [hrun]
  have hnone : (s.compute.blocks.any fun b => b.cluster / 24 == r.tile) = false :=
    List.any_eq_false.mpr fun b hb => by simpa using hempty b hb
  dsimp only
  rw [hnone]
  rfl

theorem State.exec_dieServiceDrained_busy {r : DieServiceRun} (passed : Nat) (back : DieReturn) (hrun : s.dies.service = some r)
    (hblock : ∃ b ∈ s.compute.blocks, b.cluster / 24 = r.tile) : exec (.dieServiceDrained passed back) s = .next s := by
  change execDieServiceDrained passed back s = _
  unfold execDieServiceDrained
  rw [hrun]
  have hany : (s.compute.blocks.any fun b => b.cluster / 24 == r.tile) = true := by simpa using hblock
  dsimp only
  rw [hany]
  rfl

theorem State.frame_dropService (r : DieServiceRun) : s.Within [.ids, .idsCore, .dies] (s.dropService r) := by
  unfold State.dropService
  exact ((s.frame_setIds _).mono (by decide)).step (State.frame_setDies _ _)

theorem State.exec_dieServiceTimeout {r : DieServiceRun} (hrun : s.dies.service = some r)
    (hblock : ∃ b ∈ s.compute.blocks, b.cluster / 24 = r.tile) (hlate : r.take + 96000000000 ≤ s.time.mt) (hqueue : s.dies.serviceQueue = []) :
    exec .dieServiceTimeout s = .next ((s.dropService r).complete r.mbx stTimeout []) := by
  have hany : (s.compute.blocks.any fun b => b.cluster / 24 == r.tile) = true := by simpa using hblock
  have hidle : State.nextService ((s.dropService r).complete r.mbx stTimeout []).dies.serviceQueue.length
      ((s.dropService r).complete r.mbx stTimeout []) = (s.dropService r).complete r.mbx stTimeout [] := by
    refine State.nextService_idle _ _ ?_
    rw [(State.frame_complete _ _ _ _).dies (by decide)]
    exact hqueue
  change execDieServiceTimeout s = _
  unfold execDieServiceTimeout
  rw [hrun]
  dsimp only
  have hmt : r.take + 96000000000 ≤ s.mt := hlate
  rw [hany, if_pos (Bool.and_eq_true_iff.mpr ⟨rfl, decide_eq_true hmt⟩)]
  exact congrArg Host.Outcome.next hidle

/-- The mailbox of a command in hand, once the command has ended. -/
theorem State.complete_ended {s : State} {n : Nat} {c : TakenCmd} (hn : n < s.mbxs.length) (hc : (s.mbx n).cmd = some c) (status : Nat)
    (res : List Nat) : ((s.complete n status res).mbx n).st = .done ∧ ((s.complete n status res).mbx n).status = status := by
  rw [State.mbx, State.complete_mbxs _ hc]
  simp [nth, hn, State.endedMbx]

end DieService

end Sys2Proof.Machine
end

section
/-!
PROOF. Row repairs, the bundles of the die links and the saturation windows (R555 to R562, R707, R708, R789 to R793), and with
`58_service` the statement about them.
-/

namespace Sys2Proof.Machine

set_option Elab.async false

/-! ### Reads of a row (R549, R556) -/

/-- `t` keeps the spares in use, the repairs that wait, the requests and the mailboxes of `s`, and, where `clean` holds, the bytes. -/
structure State.SparesKept (clean : Prop) (s t : State) : Prop where
  repairs : t.mem.repairs = s.mem.repairs
  repairQueue : t.mem.repairQueue = s.mem.repairQueue
  reqs : t.mem.reqs = s.mem.reqs
  mbxs : t.mbxs = s.mbxs
  hbm : clean → t.mem.hbm = s.mem.hbm

namespace State.SparesKept

variable {c d : Prop} {s t u : State}

theorem refl (c : Prop) (s : State) : SparesKept c s s := ⟨rfl, rfl, rfl, rfl, fun _ => rfl⟩

theorem trans (h : SparesKept c s t) (k : SparesKept c t u) : SparesKept c s u :=
  ⟨k.repairs.trans h.repairs, k.repairQueue.trans h.repairQueue, k.reqs.trans h.reqs, k.mbxs.trans h.mbxs,
    fun hc => (k.hbm hc).trans (h.hbm hc)⟩

theorem mono (h : SparesKept c s t) (hd : d → c) : SparesKept d s t :=
  ⟨h.repairs, h.repairQueue, h.reqs, h.mbxs, fun k => h.hbm (hd k)⟩

theorem foldl {α : Type} {f : State → α → State} {xs : List α} (hf : ∀ x ∈ xs, ∀ u, SparesKept c u (f u x)) (h : SparesKept c s t) :
    SparesKept c s (xs.foldl f t) := by
  induction xs generalizing t with
  | nil => exact h
  | cons x xs ih =>
    exact ih (fun y hy => hf y (List.mem_cons_of_mem x hy)) (h.trans (hf x List.mem_cons_self t))

end State.SparesKept

section RowReads

variable (s : State)

theorem State.count_spares (c : Prop) (i n : Nat) : SparesKept c s (s.count i n) := ⟨rfl, rfl, rfl, rfl, fun _ => rfl⟩

theorem State.countMoved_spares (c : Prop) (stack bytes : Nat) (write scrub : Bool) : SparesKept c s (s.countMoved stack bytes write scrub) := by
  unfold State.countMoved
  dsimp only
  split_ifs <;> exact ⟨rfl, rfl, rfl, rfl, fun _ => rfl⟩

theorem State.visitRow_spares (c : Prop) (p : StackPlace) (read : Bool) : SparesKept c s (s.visitRow p read) := by
  unfold State.visitRow
  dsimp only
  split_ifs <;> exact ⟨rfl, rfl, rfl, rfl, fun _ => rfl⟩

theorem State.memError_spares (c : Prop) (kind : Nat) (place : StackPlace) : SparesKept c s (s.memError kind place) := by
  unfold State.memError
  dsimp only
  split_ifs <;> exact ⟨rfl, rfl, rfl, rfl, fun _ => rfl⟩

theorem State.codeword_spares (c : Prop) (symbols : List Nat) : SparesKept c s (s.codeword symbols).1 := by
  unfold State.codeword
  split <;> exact ⟨rfl, rfl, rfl, rfl, fun _ => rfl⟩

/-- A codeword of three bad symbols at most never passes as good (R549). -/
theorem State.codeword_noticed {symbols : List Nat} (h : (symbols.filter (· < 36)).eraseDups.length ≤ 3) :
    (s.codeword symbols).2 ≠ .unnoticed := by
  unfold State.codeword
  split
  case h_5 h0 h1 h2 h3 =>
    obtain hlen | hlen | hlen | hlen : (symbols.filter (· < 36)).eraseDups.length = 0 ∨ (symbols.filter (· < 36)).eraseDups.length = 1
        ∨ (symbols.filter (· < 36)).eraseDups.length = 2 ∨ (symbols.filter (· < 36)).eraseDups.length = 3 := by omega
    · exact absurd hlen h0
    · exact absurd hlen h1
    · exact absurd hlen h2
    · exact absurd hlen h3
  all_goals exact Verdict.noConfusion

theorem Verdict.worse_noticed {a b : Verdict} (ha : a ≠ .unnoticed) (hb : b ≠ .unnoticed) : a.worse b ≠ .unnoticed := by
  cases a <;> cases b <;> simp_all [Verdict.worse]

/-- Neither codeword of the sector has more than three bad symbols. -/
def FewBad (e : SectorErrors) : Prop :=
  (e.first.filter (· < 36)).eraseDups.length ≤ 3 ∧ (e.second.filter (· < 36)).eraseDups.length ≤ 3

theorem State.corrupt_spares (sector : Nat) : SparesKept False s (s.corrupt sector) := by
  obtain ⟨m, hm⟩ : ∃ m, s.corrupt sector = (s.setFreeCtr (s.freeCtr + 64)).setMem { s.mem with hbm := m } := ⟨_, rfl⟩
  rw [hm]
  exact ⟨rfl, rfl, rfl, rfl, False.elim⟩

theorem State.sectorError_spares (sector : Nat) (v : Verdict) : SparesKept (v ≠ .unnoticed) s (s.sectorError sector v) := by
  cases v with
  | clean => exact .refl _ s
  | corrected => exact (s.count_spares _ 9 1).trans (State.memError_spares _ _ _ _)
  | uncorrectable =>
    unfold State.sectorError
    dsimp only
    split_ifs
    · exact .refl _ s
    · have hpoison (l : List Nat) : SparesKept (Verdict.uncorrectable ≠ .unnoticed) s (s.setMem { s.mem with poison := l }) :=
        ⟨rfl, rfl, rfl, rfl, fun _ => rfl⟩
      exact ((hpoison _).trans (State.count_spares _ _ 10 1)).trans (State.memError_spares _ _ _ _)
  | unnoticed =>
    unfold State.sectorError
    dsimp only
    split_ifs
    · exact .refl _ s
    · exact (s.corrupt_spares sector).mono fun h => h rfl

/-- A sector that a repair reads. -/
theorem State.checkSector_spares (e : SectorErrors) : SparesKept (FewBad e) s (s.checkSector true e) := by
  have hread : SparesKept (FewBad e) s (s.readSector e).1 := (s.codeword_spares _ _).trans (State.codeword_spares _ _ _)
  exact hread.trans ((State.sectorError_spares _ _ _).mono fun h =>
    Verdict.worse_noticed (s.codeword_noticed h.1) (State.codeword_noticed _ h.2))

theorem State.copyRow_spares (r : RepairRun) (errors : List SectorErrors) :
    SparesKept (∀ e ∈ errors, FewBad e) s (s.copyRow r errors) := by
  unfold State.copyRow
  dsimp only
  refine .foldl (fun e he u => (u.checkSector_spares e).mono fun h => h e (List.mem_filter.mp he).1) ?_
  exact ((s.countMoved_spares _ _ _ _ _).trans (State.countMoved_spares _ _ _ _ _ _)).trans (State.visitRow_spares _ _ _ _)

end RowReads

/-! ### Row repairs (R555 to R558) -/

section Repairs

variable (s : State)

/-- With none to start, no repair starts. -/
theorem State.startRepairs_idle (k : Nat) (h : s.mem.repairQueue = []) : State.startRepairs k s = s := by
  cases k with
  | zero => rfl
  | succ k =>
    rw [State.startRepairs, h]
    cases s.mem.repairing <;> rfl

/-- With no request, none is admitted. -/
theorem State.admitTracked_idle (h : s.mem.reqs = []) : s.admitTracked = s := by
  rw [State.admitTracked, h]
  rfl

/-- The place of the row that the arguments name (R184). -/
def State.repairAsked (s : State) (n : Nat) : RepairRun :=
  ⟨n, s.arg n 0 % 16, s.arg n 0 / 256 % 32, s.arg n 0 / 65536 % 2, s.arg n 1 / 65536 % 32, s.arg n 1 % 2 ^ 14⟩

/-- STACK_REPAIR of well-formed arguments joins those that wait (R555). -/
theorem State.stackRepairStart_eq {n : Nat} (h4 : s.arg n 0 / 16 % 16 = 0) (h13 : s.arg n 0 / 2 ^ 13 % 8 = 0) (h17 : s.arg n 0 / 2 ^ 17 = 0)
    (h14 : s.arg n 1 / 2 ^ 14 % 4 = 0) (h21 : s.arg n 1 / 2 ^ 21 = 0) (hlive : s.ids.stackLive.getLsbD (s.arg n 0 % 16) = true)
    (hqueue : s.mem.repairQueue = []) :
    s.stackRepairStart n = State.startRepairs 2 ((s.begin_ n).setMem { s.mem with repairQueue := [s.repairAsked n] }) := by
  unfold State.stackRepairStart
  dsimp only
  rw [if_neg (by
    rw [h4, h13, h17, h14, h21, hlive]
    decide), hqueue]
  rfl

/-- A repair alone in line that finds a spare row (R556). -/
theorem State.startRepairs_spare {r : RepairRun} (hidle : s.mem.repairing = none) (hqueue : s.mem.repairQueue = [r])
    (hspare : s.sparesUsed r < 2) (k : Nat) :
    State.startRepairs (k + 1) s = s.setMem { s.mem with repairQueue := [], repairing := some r } := by
  have hused : (s.setMem { s.mem with repairQueue := [] }).sparesUsed r = s.sparesUsed r := rfl
  rw [State.startRepairs, hidle, hqueue]
  dsimp only
  rw [if_neg (by rw [hused]; omega)]
  rfl

theorem State.frame_memError (kind : Nat) (place : StackPlace) : s.Within [.mem, .memCore] (s.memError kind place) := by
  unfold State.memError
  exact s.frame_setMem _

/-- The machine in which the failure of a repair is captured, before its command ends (R558). -/
def State.repairFailed (s : State) (r : RepairRun) : State :=
  (s.setMem { s.mem with repairs := s.mem.repairs ++ [⟨r.stack, r.channel, r.pseudo, r.bank, r.row, true⟩] }).memError 3
    ⟨r.stack, r.channel, r.pseudo, r.bank, r.row, 0⟩

theorem State.fenceRow_eq (r : RepairRun) : s.fenceRow r = (s.repairFailed r).complete r.mbx stHwFault [] := rfl

theorem State.repairFailed_spares (r : RepairRun) :
    SparesKept True (s.setMem { s.mem with repairs := s.mem.repairs ++ [⟨r.stack, r.channel, r.pseudo, r.bank, r.row, true⟩] })
      (s.repairFailed r) := State.memError_spares _ _ _ _

/-- A repair alone in line that finds no spare row ends at once (R558). -/
theorem State.startRepairs_full {r : RepairRun} (hidle : s.mem.repairing = none) (hqueue : s.mem.repairQueue = [r])
    (hfull : 2 ≤ s.sparesUsed r) (k : Nat) :
    State.startRepairs (k + 1) s = (s.setMem { s.mem with repairQueue := [] }).fenceRow r := by
  have hused : (s.setMem { s.mem with repairQueue := [] }).sparesUsed r = s.sparesUsed r := rfl
  rw [State.startRepairs, hidle, hqueue]
  dsimp only
  rw [if_pos (by rw [hused]; omega)]
  refine State.startRepairs_idle _ _ ?_
  rw [State.fenceRow_eq, (State.frame_complete _ _ _ _).mem (by decide), (State.repairFailed_spares _ r).repairQueue]
  rfl

/-- STACK_REPAIR where none runs or waits (R555, R556, R558). -/
theorem State.stackRepair_outcome {n : Nat} (h : s.has n 0x0D01 = true) (h4 : s.arg n 0 / 16 % 16 = 0) (h13 : s.arg n 0 / 2 ^ 13 % 8 = 0)
    (h17 : s.arg n 0 / 2 ^ 17 = 0) (h14 : s.arg n 1 / 2 ^ 14 % 4 = 0) (h21 : s.arg n 1 / 2 ^ 21 = 0)
    (hlive : s.ids.stackLive.getLsbD (s.arg n 0 % 16) = true) (hidle : s.mem.repairing = none) (hqueue : s.mem.repairQueue = []) :
    (s.sparesUsed (s.repairAsked n) < 2 → ∃ t, exec (.stackRepair n) s = .next t
      ∧ t.mem = { s.mem with repairing := some (s.repairAsked n) })
    ∧ (2 ≤ s.sparesUsed (s.repairAsked n) → ∃ t, exec (.stackRepair n) s = endsWith t n stHwFault []
      ∧ t.mem.repairs = s.mem.repairs ++ [⟨(s.repairAsked n).stack, (s.repairAsked n).channel, (s.repairAsked n).pseudo,
          (s.repairAsked n).bank, (s.repairAsked n).row, true⟩] ∧ t.mem.hbm = s.mem.hbm) := by
  let t := (s.begin_ n).setMem { s.mem with repairQueue := [s.repairAsked n] }
  have hrun : exec (.stackRepair n) s = .next (State.startRepairs 2 t) :=
    (runCommand_of_has h (fun s => s.stackRepairStart n)).trans
      (congrArg Host.Outcome.next (s.stackRepairStart_eq h4 h13 h17 h14 h21 hlive hqueue))
  have hused : t.sparesUsed (s.repairAsked n) = s.sparesUsed (s.repairAsked n) := rfl
  refine ⟨fun hspare => ⟨_, hrun.trans (congrArg Host.Outcome.next (t.startRepairs_spare hidle rfl (by rw [hused]; exact hspare) 1)), ?_⟩,
    fun hfull => ⟨_, hrun.trans (congrArg Host.Outcome.next ((t.startRepairs_full hidle rfl (by rw [hused]; exact hfull) 1).trans
      (State.fenceRow_eq _ _))), ?_, ?_⟩⟩
  · change { s.mem with repairQueue := [], repairing := some (s.repairAsked n) } = _
    rw [← hqueue]
  · exact (State.repairFailed_spares _ _).repairs
  · exact (State.repairFailed_spares _ _).hbm trivial

/-- The machine whose row is copied, before its repair's command ends (R557, R558). -/
def State.rowCopied (s : State) (r : RepairRun) (compareOk : Bool) (errors : List SectorErrors) : State :=
  let t := (s.copyRow r errors).setMem { (s.copyRow r errors).mem with repairing := none }
  if compareOk = true then t.setMem { t.mem with repairs := t.mem.repairs ++ [⟨r.stack, r.channel, r.pseudo, r.bank, r.row, false⟩] }
  else t.repairFailed r

theorem State.rowCopied_mem (r : RepairRun) (compareOk : Bool) (errors : List SectorErrors) :
    let t := s.rowCopied r compareOk errors
    t.mem.repairing = none ∧ t.mem.repairs = s.mem.repairs ++ [⟨r.stack, r.channel, r.pseudo, r.bank, r.row, !compareOk⟩]
      ∧ t.mem.repairQueue = s.mem.repairQueue ∧ t.mem.reqs = s.mem.reqs ∧ t.mbxs = s.mbxs
      ∧ ((∀ e ∈ errors, FewBad e) → t.mem.hbm = s.mem.hbm) := by
  have hcopy := s.copyRow_spares r errors
  intro t
  cases compareOk with
  | true => exact ⟨rfl, by rw [← hcopy.repairs]; rfl, hcopy.repairQueue, hcopy.reqs, hcopy.mbxs, hcopy.hbm⟩
  | false =>
    have hfailed := State.repairFailed_spares ((s.copyRow r errors).setMem { (s.copyRow r errors).mem with repairing := none }) r
    refine ⟨?_, hfailed.repairs.trans (by rw [← hcopy.repairs]; rfl), hfailed.repairQueue.trans hcopy.repairQueue,
      hfailed.reqs.trans hcopy.reqs, hfailed.mbxs.trans hcopy.mbxs, fun h => (hfailed.hbm trivial).trans (hcopy.hbm h)⟩
    change (State.repairFailed _ r).mem.repairing = none
    unfold State.repairFailed State.memError
    dsimp only
    split_ifs <;> rfl

theorem State.exec_stackRepairDrained {r : RepairRun} (compareOk : Bool) (errors : List SectorErrors) (hrun : s.mem.repairing = some r)
    (hreqs : s.mem.reqs = []) (hqueue : s.mem.repairQueue = []) : exec (.stackRepairDrained ⟨compareOk, errors⟩) s =
      .next ((s.rowCopied r compareOk errors).complete r.mbx (if compareOk = true then stOk else stHwFault) []) := by
  obtain ⟨-, -, hq, hr, -⟩ := s.rowCopied_mem r compareOk errors
  let t := (s.rowCopied r compareOk errors).complete r.mbx (if compareOk = true then stOk else stHwFault) []
  have hmem : t.mem = (s.rowCopied r compareOk errors).mem := (State.frame_complete _ _ _ _).mem (by decide)
  have hidle : (State.startRepairs (t.mem.repairQueue.length + 1) t).admitTracked = t := by
    rw [t.startRepairs_idle _ (by rw [hmem, hq, hqueue]), t.admitTracked_idle (by rw [hmem, hr, hreqs])]
  change execStackRepairDrained ⟨compareOk, errors⟩ s = _
  unfold execStackRepairDrained
  rw [hrun]
  dsimp only
  rw [hreqs, List.any_nil, if_neg Bool.false_ne_true]
  refine congrArg Host.Outcome.next (Eq.trans ?_ hidle)
  cases compareOk <;> rfl

theorem State.exec_stackRepairDrained_busy {r : RepairRun} (copy : RowCopy) (hrun : s.mem.repairing = some r)
    (hbusy : ∃ q ∈ s.mem.reqs, q.tracked = true ∧ (s.linePlace q.line).stack = r.stack ∧ (s.linePlace q.line).channel = r.channel) :
    exec (.stackRepairDrained copy) s = .next s := by
  change execStackRepairDrained copy s = _
  unfold execStackRepairDrained
  rw [hrun]
  dsimp only
  rw [if_pos (by simpa using hbusy)]

end Repairs

end Sys2Proof.Machine
end

section
/-!
PROOF. The bundles of the die links and the saturation windows (R561, R562, R707, R708, R789 to R793), and with the two parts before
the statement about them.
-/

namespace Sys2Proof.Machine

set_option Elab.async false

/-! ### Die links -/

section DieLinks

variable (s : State)

theorem State.dieLink_putLink (d p e q : Nat) (l : DieLink) : (s.putLink d p l).dieLink e q =
    if 5 * d + p = 5 * e + q ∧ 5 * d + p < s.dies.links.length then l else s.dieLink e q := by
  change nth (s.dies.links.set (5 * d + p) l) (5 * e + q) _ = _
  rw [nth, List.getElem?_set]
  by_cases heq : 5 * d + p = 5 * e + q
  · by_cases hlt : 5 * d + p < s.dies.links.length
    · simp [heq, heq ▸ hlt]
    · simp [heq, heq ▸ hlt, State.dieLink, nth]
  · simp [heq, State.dieLink, nth]

theorem State.dieLink_congr {d p e q : Nat} (h : 5 * d + p = 5 * e + q) : s.dieLink d p = s.dieLink e q := by
  rw [State.dieLink, State.dieLink, h]

theorem State.dieLink_onBundle_same {d p : Nat} (b : Nat) (f : Bundle → Bundle) (h : 5 * d + p < s.dies.links.length) :
    (s.onBundle d p b f).dieLink d p = { s.dieLink d p with bundles := (s.dieLink d p).bundles.modify b f } :=
  (s.dieLink_putLink d p d p _).trans (if_pos ⟨rfl, h⟩)

theorem State.retrains_onBundle (d p b : Nat) (f : Bundle → Bundle) (e q : Nat) :
    ((s.onBundle d p b f).dieLink e q).retrains = (s.dieLink e q).retrains := by
  unfold State.onBundle
  rw [State.dieLink_putLink]
  split_ifs with h
  · rw [← s.dieLink_congr h.1]
  · rfl

theorem State.bundle_onBundle_ne (d p : Nat) {b c : Nat} (f : Bundle → Bundle) (e q : Nat) (h : c ≠ b) :
    ((s.onBundle d p b f).dieLink e q).bundles[c]? = (s.dieLink e q).bundles[c]? := by
  unfold State.onBundle
  rw [State.dieLink_putLink]
  split_ifs with hl
  · rw [← s.dieLink_congr hl.1, List.getElem?_modify]
    simp [Ne.symm h]
  · rfl

/-- The far end of a port between tiles, and its own far end. -/
theorem portFar_tile {d p e q : Nat} (hd : d < 8) (hp : p < 5) (h : portFar d p = some (e, q)) (he : e < 8) :
    q < 5 ∧ 5 * e + q ≠ 5 * d + p := by
  have hall : ∀ d < 8, ∀ p < 5, ∀ x, portFar d p = some x → x.1 < 8 → x.2 < 5 ∧ 5 * x.1 + x.2 ≠ 5 * d + p := by decide
  exact hall d hd p hp (e, q) h he

theorem State.frame_onBundle (d p b : Nat) (f : Bundle → Bundle) : s.Within [.dies] (s.onBundle d p b f) := s.frame_setDies _

theorem State.frame_beginRetrain (d p b : Nat) : s.Within [.dies] (s.beginRetrain d p b) := by
  unfold State.beginRetrain
  dsimp only
  split
  · exact .ite ((s.frame_onBundle _ _ _ _).step (State.frame_onBundle _ _ _ _ _)) (s.frame_onBundle _ _ _ _)
  · exact s.frame_onBundle _ _ _ _

theorem State.bundle_beginRetrain_ne (d p : Nat) {b c : Nat} (e q : Nat) (h : c ≠ b) :
    ((s.beginRetrain d p b).dieLink e q).bundles[c]? = (s.dieLink e q).bundles[c]? := by
  unfold State.beginRetrain
  dsimp only
  split
  · split_ifs
    · rw [State.bundle_onBundle_ne _ _ _ _ _ _ h, State.bundle_onBundle_ne _ _ _ _ _ _ h]
    · exact State.bundle_onBundle_ne _ _ _ _ _ _ h
  · exact State.bundle_onBundle_ne _ _ _ _ _ _ h

theorem State.retrains_beginRetrain (d p b e q : Nat) : ((s.beginRetrain d p b).dieLink e q).retrains = (s.dieLink e q).retrains := by
  unfold State.beginRetrain
  dsimp only
  split
  · split_ifs
    · rw [State.retrains_onBundle, State.retrains_onBundle]
    · exact State.retrains_onBundle _ _ _ _ _ _ _
  · exact State.retrains_onBundle _ _ _ _ _ _ _

/-- What `nextRetrain` does of a link's bundles: nothing, or it begins the retraining of one with more than 64 replays. -/
theorem State.nextRetrain_cases (d p : Nat) : s.nextRetrain d p = s
    ∨ ∃ b x, (s.dieLink d p).bundles[b]? = some x ∧ 64 < x.msReplays ∧ s.nextRetrain d p = s.beginRetrain d p b := by
  unfold State.nextRetrain
  dsimp only
  split_ifs
  · exact .inl rfl
  · cases hfind : (s.dieLink d p).bundles.findIdx? (fun b => decide (64 < b.msReplays) && b.mode != .failed) with
    | none => exact .inl rfl
    | some b =>
      obtain ⟨hb, hx, -⟩ := List.findIdx?_eq_some_iff_getElem.mp hfind
      exact .inr ⟨b, (s.dieLink d p).bundles[b], List.getElem?_eq_getElem hb, of_decide_eq_true (Bool.and_eq_true_iff.mp hx).1, rfl⟩

theorem State.frame_nextRetrain (d p : Nat) : s.Within [.dies] (s.nextRetrain d p) := by
  obtain h | ⟨b, -, -, -, h⟩ := s.nextRetrain_cases d p <;> rw [h]
  · exact .refl _ s
  · exact s.frame_beginRetrain _ _ _

theorem State.retrains_nextRetrain (d p e q : Nat) : ((s.nextRetrain d p).dieLink e q).retrains = (s.dieLink e q).retrains := by
  obtain h | ⟨b, -, -, -, h⟩ := s.nextRetrain_cases d p <;> rw [h]
  exact s.retrains_beginRetrain _ _ _ _ _

/-- A place whose bundle at that link has not more than 64 replays stays, at every link. -/
theorem State.bundle_nextRetrain {d p b : Nat} (h : ∀ z, (s.dieLink d p).bundles[b]? = some z → z.msReplays ≤ 64) (e q : Nat) :
    ((s.nextRetrain d p).dieLink e q).bundles[b]? = (s.dieLink e q).bundles[b]? := by
  obtain heq | ⟨c, z, hc, hz, heq⟩ := s.nextRetrain_cases d p <;> rw [heq]
  have hne : b ≠ c := by
    rintro rfl
    have := h z hc
    omega
  exact s.bundle_beginRetrain_ne _ _ _ _ hne

/-- A bundle that begins to retrain is marked and nothing else. -/
theorem State.bundle_beginRetrain {d p b : Nat} {x : Bundle} (hd : d < 8) (hp : p < 5) (hlinks : s.dies.links.length = 40)
    (hx : (s.dieLink d p).bundles[b]? = some x) :
    ((s.beginRetrain d p b).dieLink d p).bundles[b]? = some { x with retraining := true } := by
  have hmark : ((s.onBundle d p b fun x => { x with retraining := true }).dieLink d p).bundles[b]? = some { x with retraining := true } := by
    rw [s.dieLink_onBundle_same b _ (by omega)]
    simp [hx]
  unfold State.beginRetrain
  dsimp only
  split
  case h_1 e q hfar =>
    split_ifs with he
    · obtain ⟨hq, hne⟩ := portFar_tile hd hp hfar he
      unfold State.onBundle at hmark ⊢
      rw [State.dieLink_putLink, if_neg fun h => hne h.1]
      exact hmark
    · exact hmark
  case h_2 => exact hmark

theorem State.bundle_nextRetrain_own {d p b : Nat} {x : Bundle} (hd : d < 8) (hp : p < 5) (hlinks : s.dies.links.length = 40)
    (hx : (s.dieLink d p).bundles[b]? = some x) :
    ∃ r, ((s.nextRetrain d p).dieLink d p).bundles[b]? = some { x with retraining := r } ∧ (x.msReplays ≤ 64 → r = x.retraining) := by
  obtain heq | ⟨c, z, hc, hz, heq⟩ := s.nextRetrain_cases d p
  · exact ⟨x.retraining, by rw [heq]; exact hx, fun _ => rfl⟩
  · rw [heq]
    by_cases hbc : b = c
    · subst hbc
      obtain rfl := Option.some.inj (hx.symm.trans hc)
      exact ⟨true, s.bundle_beginRetrain hd hp hlinks hx, fun h => absurd hz (by omega)⟩
    · exact ⟨x.retraining, (s.bundle_beginRetrain_ne _ _ _ _ hbc).trans hx, fun _ => rfl⟩

/-! ### A replay (R789) -/

theorem State.frame_flitReplay (d p b : Nat) : s.Within [.dies, .obs] (s.flitReplay d p b) := by
  unfold State.flitReplay
  dsimp only
  exact (((s.frame_onBundle _ _ _ _).mono (by decide)).step (State.frame_count _ _ _)).step (State.frame_nextRetrain _ _ _)

/-- The bundle that replays a flit. -/
theorem State.flitReplay_bundle {d p b : Nat} {x : Bundle} (hd : d < 8) (hp : p < 5) (hlinks : s.dies.links.length = 40)
    (hx : (s.dieLink d p).bundles[b]? = some x) :
    ∃ y, ((s.flitReplay d p b).dieLink d p).bundles[b]? = some y ∧ y.replays = (x.replays + 1) % 2 ^ 32 ∧ y.badOut = x.badOut
      ∧ y.ms = s.time.mt / 8000000 ∧ y.msReplays = (if x.ms = s.time.mt / 8000000 then x.msReplays + 1 else 1)
      ∧ (y.msReplays ≤ 64 → y.retraining = x.retraining) := by
  let up := fun (x : Bundle) => { x with
    replays := (x.replays + 1) % 2 ^ 32, msReplays := if x.ms = s.time.mt / 8000000 then x.msReplays + 1 else 1, ms := s.time.mt / 8000000 }
  let t := (s.onBundle d p b up).count 12 1
  have hbundle : (t.dieLink d p).bundles[b]? = some (up x) := by
    change ((s.onBundle d p b up).dieLink d p).bundles[b]? = _
    rw [s.dieLink_onBundle_same b up (by omega)]
    simp [hx]
  have hlen : t.dies.links.length = 40 := (List.length_set ..).trans hlinks
  obtain ⟨r, hr, hsame⟩ := t.bundle_nextRetrain_own hd hp hlen hbundle
  exact ⟨_, hr, rfl, rfl, rfl, rfl, hsame⟩

/-! ### A retrain (R790, R793) -/

theorem State.frame_retrained (d p b : Nat) (out inn : BitVec 68) : s.Within [.dies, .obs] (s.retrained d p b out inn) := by
  unfold State.retrained
  dsimp only
  exact ((s.frame_setDies _).mono (by decide)).step (State.frame_count _ _ _)

/-- A bundle's record once an end has retrained. -/
def Bundle.retrainedAs (x : Bundle) (out inn : BitVec 68) : Bundle :=
  { x.withBad (x.badOut ||| out) (x.badIn ||| inn) with retraining := false, msReplays := 0 }

theorem State.dieLink_retrained (d p b : Nat) (out inn : BitVec 68) (e q : Nat) : (s.retrained d p b out inn).dieLink e q =
    if 5 * d + p = 5 * e + q ∧ 5 * d + p < s.dies.links.length then
      { s.dieLink d p with
        bundles := (s.dieLink d p).bundles.modify b (·.retrainedAs out inn), retrains := ((s.dieLink d p).retrains + 1) % 2 ^ 32 }
    else s.dieLink e q := s.dieLink_putLink d p e q _

/-- The far end's part of a retrain leaves this end's bundle and count (R793). -/
theorem State.retrained_far {d p e q b : Nat} {x : Bundle} (out inn : BitVec 68) (hne : 5 * e + q ≠ 5 * d + p)
    (hlen : 5 * e + q < s.dies.links.length) (hx : (s.dieLink d p).bundles[b]? = some x) :
    (((s.retrained e q b out inn).nextRetrain e q).dieLink d p).bundles[b]? = some x
      ∧ (((s.retrained e q b out inn).nextRetrain e q).dieLink d p).retrains = (s.dieLink d p).retrains := by
  have hsame : (s.retrained e q b out inn).dieLink d p = s.dieLink d p := by rw [State.dieLink_retrained, if_neg fun h => hne h.1]
  have hzero : ∀ z, ((s.retrained e q b out inn).dieLink e q).bundles[b]? = some z → z.msReplays ≤ 64 := by
    intro z hz
    rw [State.dieLink_retrained, if_pos ⟨rfl, hlen⟩] at hz
    have hmap : (s.dieLink e q).bundles[b]?.map (·.retrainedAs out inn) = some z := by simpa [List.getElem?_modify] using hz
    obtain ⟨w, -, rfl⟩ := Option.map_eq_some_iff.mp hmap
    exact Nat.zero_le _
  rw [State.bundle_nextRetrain _ hzero, State.retrains_nextRetrain, hsame]
  exact ⟨hx, rfl⟩

/-- The machine in which both ends of the bundle's link have retrained. -/
def State.endsRetrained (s : State) (f : LaneFaults) : State :=
  let u := s.retrained f.tile f.port f.bundle f.out f.inn
  match portFar f.tile f.port with
  | some (e, q) => if e < 8 then (u.retrained e q f.bundle f.inn f.out).nextRetrain e q else u
  | none => u

theorem State.bundleRetrain_eq (f : LaneFaults) (ownFails farFails : Bool) {x : Bundle}
    (hx : (((s.endsRetrained f).nextRetrain f.tile f.port).dieLink f.tile f.port).bundles[f.bundle]? = some x)
    (hmode : x.mode ≠ .failed) : s.bundleRetrain f ownFails farFails = (s.endsRetrained f).nextRetrain f.tile f.port := by
  let t := (s.endsRetrained f).nextRetrain f.tile f.port
  have heq : s.bundleRetrain f ownFails farFails =
      match (t.dieLink f.tile f.port).bundles[f.bundle]? with
      | some b => if b.mode == .failed then t.fenceDie (failedFences f.tile f.port ownFails farFails) else t
      | none => t := rfl
  rw [heq, hx]
  exact if_neg fun h => hmode (beq_iff_eq.mp h)

theorem State.endsRetrained_bundle {f : LaneFaults} {x : Bundle} (htile : f.tile < 8) (hport : f.port < 5)
    (hlinks : s.dies.links.length = 40) (hx : (s.dieLink f.tile f.port).bundles[f.bundle]? = some x) :
    ((s.endsRetrained f).dieLink f.tile f.port).bundles[f.bundle]? = some (x.retrainedAs f.out f.inn)
      ∧ ((s.endsRetrained f).dieLink f.tile f.port).retrains = ((s.dieLink f.tile f.port).retrains + 1) % 2 ^ 32
      ∧ (s.endsRetrained f).ids = s.ids := by
  let u := s.retrained f.tile f.port f.bundle f.out f.inn
  have hu : (u.dieLink f.tile f.port).bundles[f.bundle]? = some (x.retrainedAs f.out f.inn)
      ∧ (u.dieLink f.tile f.port).retrains = ((s.dieLink f.tile f.port).retrains + 1) % 2 ^ 32 ∧ u.ids = s.ids := by
    rw [State.dieLink_retrained, if_pos ⟨rfl, by omega⟩]
    exact ⟨by simp [hx], rfl, (s.frame_retrained _ _ _ _ _).ids (by decide)⟩
  have hlen : u.dies.links.length = 40 := (List.length_set ..).trans hlinks
  obtain ⟨hbundle, hretrains, hids⟩ := hu
  unfold State.endsRetrained
  dsimp only
  split
  case h_1 e q hfar =>
    split_ifs with he
    · obtain ⟨hq, hne⟩ := portFar_tile htile hport hfar he
      obtain ⟨hb, hr⟩ := u.retrained_far f.inn f.out hne (by omega) hbundle
      exact ⟨hb, hr.trans hretrains, (((u.frame_retrained _ _ _ _ _).step (State.frame_nextRetrain _ _ _)).ids (by decide)).trans hids⟩
    · exact ⟨hbundle, hretrains, hids⟩
  case h_2 => exact ⟨hbundle, hretrains, hids⟩

/-- A retrain of a bundle whose lanes then do not fail (R790). -/
theorem State.bundleRetrain_good {f : LaneFaults} {x : Bundle} (ownFails farFails : Bool) (htile : f.tile < 8) (hport : f.port < 5)
    (hlinks : s.dies.links.length = 40) (hx : (s.dieLink f.tile f.port).bundles[f.bundle]? = some x)
    (hmode : (x.withBad (x.badOut ||| f.out) (x.badIn ||| f.inn)).mode ≠ .failed) :
    let t := s.bundleRetrain f ownFails farFails
    (t.dieLink f.tile f.port).bundles[f.bundle]? = some (x.retrainedAs f.out f.inn)
      ∧ (t.dieLink f.tile f.port).retrains = ((s.dieLink f.tile f.port).retrains + 1) % 2 ^ 32 ∧ t.ids = s.ids := by
  obtain ⟨hbundle, hretrains, hids⟩ := s.endsRetrained_bundle htile hport hlinks hx
  have hnext : (((s.endsRetrained f).nextRetrain f.tile f.port).dieLink f.tile f.port).bundles[f.bundle]?
      = some (x.retrainedAs f.out f.inn) := by
    refine (State.bundle_nextRetrain _ (fun z hz => ?_) _ _).trans hbundle
    obtain rfl := Option.some.inj (hbundle.symm.trans hz)
    exact Nat.zero_le _
  intro t
  rw [show t = _ from s.bundleRetrain_eq f ownFails farFails hnext hmode, State.retrains_nextRetrain,
    (State.frame_nextRetrain _ _ _).ids (by decide)]
  exact ⟨hnext, hretrains, hids⟩

end DieLinks

/-! ### Saturation windows (R561, R562, R707, R708) -/

theorem State.saturation_contexts (s : State) (full empty : List Nat) (clashes : List Clash) {c : Nat} {x : Context} (hx : s.ctxs[c]? = some x) :
    ((s.judgeMemory full empty).judgeContexts clashes).ctxs[c]? = some
      (if x.st = .opened ∧ (c ∈ s.share.resident ∨ ∃ b ∈ s.compute.blocks, b.ctx = c) then
        { x with acct := x.acct.judged (clashes.find? fun k => k.ctx == c) } else x) := by
  have hctxs : ((s.judgeMemory full empty).judgeContexts clashes).ctxs[c]? = some
      (if (x.st == .opened && (s.share.resident.contains c || s.compute.blocks.any fun b => b.ctx == c)) = true then
        { x with acct := x.acct.judged (clashes.find? fun k => k.ctx == c) } else x) := by
    change (s.ctxs.mapIdx _)[c]? = _
    rw [List.getElem?_mapIdx, hx]
    rfl
  rw [hctxs]
  refine congrArg some (if_congr ?_ rfl rfl)
  simp

theorem State.saturation_counters (s : State) (full empty : List Nat) (clashes : List Clash) :
    let t := (s.judgeMemory full empty).judgeContexts clashes
    (∀ i v, s.mem.full[i]? = some v → t.mem.full[i]? = some ((v + nth full i 0) % 2 ^ 64))
      ∧ (∀ i v, s.mem.swi[i]? = some v → t.mem.swi[i]? = some
          (if 512 ≤ nth full i 0 ∧ 2 * s.mem.moved i * s.pwr.clock < 2048000 * 1024 then (v + 1) % 2 ^ 64 else v))
      ∧ (∀ i v, s.mem.linkSat[i]? = some v → t.mem.linkSat[i]? = some (if 512 ≤ nth empty i 0 then (v + 1) % 2 ^ 32 else v)) := by
  refine ⟨fun i v h => ?_, fun i v h => ?_, fun i v h => ?_⟩
  · change (s.mem.full.mapIdx _)[i]? = _
    rw [List.getElem?_mapIdx, h]
    rfl
  · change (s.mem.swi.mapIdx _)[i]? = _
    rw [List.getElem?_mapIdx, h]
    refine congrArg some (if_congr ?_ rfl rfl)
    simp [halfIdle]
  · change (s.mem.linkSat.mapIdx _)[i]? = _
    rw [List.getElem?_mapIdx, h]
    refine congrArg some (if_congr ?_ rfl rfl)
    simp

/-! ### The statement -/

/-- Settles O42: the services and repairs by the machine that each leaves before its command ends, the links by what becomes of one bundle
while another may begin to retrain, the windows counter by counter. -/
theorem serviceAndRepair : Obligations.ServiceAndRepair := by
  unfold Obligations.ServiceAndRepair
  intro s
  refine ⟨fun n h hservice hqueue => s.dieService_eq h hservice hqueue, fun r passed linkOk stop hrun => ⟨fun hblock => ?_, fun hempty hqueue htile hlen => ?_⟩,
    fun r hrun hblock hlate hqueue htile => ?_,
    fun n h h4 h13 h17 h14 h21 hlive hidle hqueue => s.stackRepair_outcome h h4 h13 h17 h14 h21 hlive hidle hqueue,
    fun r compareOk errors hrun => ⟨fun hbusy => s.exec_stackRepairDrained_busy _ hrun hbusy, fun hreqs hqueue => ?_⟩,
    fun d p b x hd hp hx hused hfenced hlinks => ?_, fun f ownFails farFails x htile hport hx hretraining hlinks hmode => ?_,
    fun full empty clashes => ?_⟩
  · exact s.exec_dieServiceDrained_busy passed ⟨linkOk, stop⟩ hrun hblock
  · let back : Bool := linkOk && s.ids.baseLive.getLsbD r.tile
    obtain ⟨status, res, hends⟩ := s.serviceEnds_eq r (BitVec.ofNat 24 passed) back stop hqueue
    have hserviced := s.frame_serviced r (BitVec.ofNat 24 passed) back stop
    have hcycle := s.frame_powerCycle r.tile stop
    have hcomplete := (s.serviced r (BitVec.ofNat 24 passed) back stop).frame_complete r.mbx status res
    obtain ⟨htlb, hl1, hbmem⟩ := s.powerCycle_cleared r.tile stop
    obtain ⟨hgood, hbad⟩ := s.serviced_ids r (BitVec.ofNat 24 passed) back stop htile hlen
    refine ⟨_, (s.exec_dieServiceDrained passed ⟨linkOk, stop⟩ hrun hempty).trans (congrArg Host.Outcome.next hends), ?_⟩
    rw [hcomplete.dies (by decide), hcomplete.mem (by decide), hcomplete.ctxs (by decide), hcomplete.xlat (by decide),
      hcomplete.compute (by decide), hcomplete.ids (by decide), hserviced.mem (by decide), hserviced.ctxs (by decide),
      hserviced.xlat (by decide), hserviced.compute (by decide), hcycle.mem (by decide), hcycle.ctxs (by decide)]
    refine ⟨s.serviced_service _ _ _ _, rfl, rfl, htlb, hl1, hbmem, fun hok hbase hpassed => hgood (Bool.and_eq_true_iff.mpr ⟨hok, hbase⟩) ?_,
      fun hfail => hbad (by rw [show back = (linkOk && s.ids.baseLive.getLsbD r.tile) from rfl, hfail]; rfl)⟩
    intro hzero
    exact hpassed (by simpa using congrArg BitVec.toNat hzero)
  · have hcomplete := (s.dropService r).frame_complete r.mbx stTimeout []
    have hdrop := s.frame_dropService r
    refine ⟨_, s.exec_dieServiceTimeout hrun hblock hlate hqueue, ?_, ?_, ?_, fun hwas hbase => ?_, fun c hmbx hc => ?_⟩
    · rw [hcomplete.dies (by decide)]
      rfl
    · rw [hcomplete.compute (by decide), hdrop.compute (by decide)]
    · rw [hcomplete.ids (by decide)]
      rfl
    · rw [hcomplete.ids (by decide)]
      change (if (r.wasLive && s.ids.baseLive.getLsbD r.tile) = true then s.ids.computeLive ||| BitVec.twoPow 8 r.tile
        else s.ids.computeLive).getLsbD r.tile = true
      rw [if_pos (Bool.and_eq_true_iff.mpr ⟨hwas, hbase⟩), BitVec.getLsbD_or, BitVec.getLsbD_twoPow]
      simp [htile]
    · exact State.complete_ended (s := s.dropService r) hmbx hc _ _
  · obtain ⟨hrepairing, hrepairs, -, -, hmbxs, hhbm⟩ := s.rowCopied_mem r compareOk errors
    have hmem := ((s.rowCopied r compareOk errors).frame_complete r.mbx (if compareOk = true then stOk else stHwFault) []).mem (by decide)
    refine ⟨_, s.exec_stackRepairDrained compareOk errors hrun hreqs hqueue, ?_, fun hfew => ?_, ?_, fun c hmbx hc => ?_⟩
    · rw [hmem, hrepairing]
    · rw [hmem, hhbm hfew]
    · rw [hmem, hrepairs]
    · exact State.complete_ended (by rw [hmbxs]; exact hmbx) (by rw [State.mbx, hmbxs]; exact hc) _ _
  · have hlt : b < (s.dieLink d p).bundles.length := (List.getElem?_eq_some_iff.mp hx).1
    have hframe := s.frame_flitReplay d p b
    exact ⟨_, onEvent_of_true (c := decide (d < 8) && decide (p < 5) && decide (b < (s.dieLink d p).bundles.length)
      && (s.dieLink d p).used && !(s.dieLink d p).fenced) (by simp [hd, hp, hlt, hused, hfenced]) (fun s => s.flitReplay d p b) s,
      s.flitReplay_bundle hd hp hlinks hx, hframe.mem (by decide), hframe.ids (by decide)⟩
  · obtain ⟨hbundle, hretrains, hids⟩ := s.bundleRetrain_good ownFails farFails htile hport hlinks hx hmode
    have hrun : exec (.bundleRetrain f ownFails farFails) s = .next (s.bundleRetrain f ownFails farFails) := by
      change execBundleRetrain f ownFails farFails s = _
      unfold execBundleRetrain
      rw [hx]
      exact congrArg Host.Outcome.next (if_pos ⟨htile, hport, hretraining⟩)
    exact ⟨_, hrun, ⟨_, hbundle, rfl, rfl, rfl, rfl, rfl, rfl⟩, hretrains, hids⟩
  · obtain ⟨hfull, hswi, hsat⟩ := s.saturation_counters full empty clashes
    exact ⟨_, rfl, rfl, rfl, rfl, hfull, hswi, hsat, fun c x hx => s.saturation_contexts full empty clashes hx⟩

end Sys2Proof.Machine
end

section
/-!
PROOF. Mailboxes: posts, withdrawals, takes and limits (R136, R138, R141 to R148, R152).
-/

namespace Sys2Proof.Machine

set_option Elab.async false

/-! ### Writes of MBX_HDR and MBX_IRQ (R138, R144, R152) -/

/-- The mailbox with the fields of a header word. -/
def Mailbox.headed (m : Mailbox) (v : Word) : Mailbox :=
  { m with
    irq := v.getLsbD 61, argWords := v.toNat / 2 ^ 48 % 2 ^ 8, opcode := v.toNat / 2 ^ 32 % 2 ^ 16, tag := v.toNat % 2 ^ 16 }

theorem State.writeHdr_post {s : State} {n : Nat} {v : Word} (hv : v.toNat / 2 ^ 62 = 1) (hst : (s.mbx n).st ≠ .busy) :
    s.writeHdr n v = s.putMbx n { (s.mbx n).headed v with st := .posted, postOrder := s.abaom.posts } := by
  cases hm : (s.mbx n).st with
  | busy => exact absurd hm hst
  | idle | posted | done =>
    simp only [State.writeHdr, hm, fieldNat_hdrState, hv]
    simp [Mailbox.headed, fieldNat_eq_div_mod, bitAt]

theorem State.writeHdr_withdraw {s : State} {n : Nat} {v : Word} (hv : v.toNat / 2 ^ 62 = 0) (hst : (s.mbx n).st = .posted) :
    s.writeHdr n v = s.putMbx n ((s.mbx n).idled v) := by
  simp only [State.writeHdr, hst, fieldNat_hdrState, hv]
  simp [Mailbox.idled, fieldNat_eq_div_mod, bitAt]

theorem State.writeIrq_eq (s : State) (n : Nat) (v : Word) : s.writeIrq n v = s.putMbx n
    (if n = 0 then { s.mbx n with
        doneEn := v.getLsbD 63, noteEn := v.getLsbD 62, eiid := v.toNat / 2 ^ 32 % 2 ^ 11,
        hart := if v.toNat % 2 ^ 8 ≤ 143 then v.toNat % 2 ^ 8 else (s.mbx n).hart }
      else { s.mbx n with doneEn := v.getLsbD 63, noteEn := v.getLsbD 62 }) := by
  have hhart : fieldNat v 7 0 = v.toNat % 2 ^ 8 := by rw [fieldNat_eq_div_mod, Nat.pow_zero, Nat.div_one]
  have heiid : fieldNat v 42 32 = v.toNat / 2 ^ 32 % 2 ^ 11 := fieldNat_eq_div_mod v 42 32
  unfold State.writeIrq
  dsimp only
  rw [hhart, heiid]
  exact (apply_ite (s.putMbx n) _ _ _).symm

/-! ### The command taken next (R143, R146) -/

theorem firstPosted_mem {s : State} {l : List Nat} {n : Nat} (h : firstPosted s l = some n) : n ∈ l ∧ (s.mbx n).st = .posted := by
  induction l generalizing n with
  | nil => simp [firstPosted] at h
  | cons k l ih =>
    rw [firstPosted] at h
    cases hrest : firstPosted s l with
    | none =>
      simp only [hrest, Option.ite_none_right_eq_some, beq_iff_eq, Option.some.injEq] at h
      obtain ⟨hposted, rfl⟩ := h
      exact ⟨List.mem_cons_self, hposted⟩
    | some j =>
      obtain ⟨hj, hjposted⟩ := ih hrest
      simp only [hrest] at h
      split_ifs at h with hk
      · obtain rfl := Option.some.inj h
        exact ⟨List.mem_cons_self, beq_iff_eq.mp (Bool.and_eq_true_iff.mp hk).1⟩
      · obtain rfl := Option.some.inj h
        exact ⟨List.mem_cons_of_mem k hj, hjposted⟩

theorem firstPosted_none {s : State} {l : List Nat} (h : ∀ k ∈ l, (s.mbx k).st ≠ .posted) : firstPosted s l = none := by
  cases hfirst : firstPosted s l with
  | none => rfl
  | some n => exact absurd (firstPosted_mem hfirst).2 (h n (firstPosted_mem hfirst).1)

/-- The mailbox posted first, and of one cycle's the first of the list, is taken. -/
theorem firstPosted_eq {s : State} {l : List Nat} {n : Nat} (hsorted : l.Pairwise (· < ·)) (hn : n ∈ l) (hposted : (s.mbx n).st = .posted)
    (hbefore : ∀ k ∈ l, (s.mbx k).st = .posted → k < n → (s.mbx n).postOrder < (s.mbx k).postOrder)
    (hafter : ∀ k ∈ l, (s.mbx k).st = .posted → n < k → (s.mbx n).postOrder ≤ (s.mbx k).postOrder) : firstPosted s l = some n := by
  induction l with
  | nil => cases hn
  | cons k l ih =>
    obtain ⟨hlt, hsorted⟩ := List.pairwise_cons.mp hsorted
    rw [firstPosted]
    rcases List.mem_cons.mp hn with rfl | hmem
    · cases hrest : firstPosted s l with
      | none => exact if_pos (beq_iff_eq.mpr hposted)
      | some j =>
        obtain ⟨hj, hjposted⟩ := firstPosted_mem hrest
        exact if_pos (Bool.and_eq_true_iff.mpr ⟨beq_iff_eq.mpr hposted,
          decide_eq_true (hafter j (List.mem_cons_of_mem n hj) hjposted (hlt j hj))⟩)
    · rw [ih hsorted hmem (fun j hj => hbefore j (List.mem_cons_of_mem k hj)) (fun j hj => hafter j (List.mem_cons_of_mem k hj))]
      refine if_neg fun hk => ?_
      obtain ⟨hkposted, hle⟩ := Bool.and_eq_true_iff.mp hk
      have hlater := hbefore k List.mem_cons_self (beq_iff_eq.mp hkposted) (hlt n hmem)
      have hle := of_decide_eq_true hle
      omega

theorem State.served_lt (s : State) {k : Nat} (h : k ∈ s.served) : k < 64 := by
  unfold State.served at h
  split_ifs at h
  · exact List.mem_range.mp h
  · obtain rfl := List.mem_singleton.mp h
    decide
  · cases h

theorem State.nextTake_eq {s : State} {n : Nat} (hn : n < 63) (hrun : s.running = true) (hpause : s.trust.pause = .off)
    (hposted : (s.mbx n).st = .posted) (hroom : ((List.range 64).filter fun k => (s.mbx k).st == .busy).length < 4)
    (hbefore : ∀ k < 64, (s.mbx k).st = .posted → k < n → (s.mbx n).postOrder < (s.mbx k).postOrder)
    (hafter : ∀ k < 64, (s.mbx k).st = .posted → n < k → (s.mbx n).postOrder ≤ (s.mbx k).postOrder) : s.nextTake = some n := by
  unfold State.nextTake
  rw [if_neg (by rw [hpause]; decide), if_neg (by omega), State.served, if_pos hrun]
  exact firstPosted_eq List.pairwise_lt_range (List.mem_range.mpr (by omega)) hposted (fun k hk => hbefore k (List.mem_range.mp hk))
    fun k hk => hafter k (List.mem_range.mp hk)

theorem State.nextTake_none {s : State} (h : (∀ k < 64, (s.mbx k).st ≠ .posted) ∨ s.trust.pause ≠ .off
    ∨ 4 ≤ ((List.range 64).filter fun k => (s.mbx k).st == .busy).length) : s.nextTake = none := by
  unfold State.nextTake
  obtain hnone | hpause | hfull := h
  · rw [firstPosted_none fun k hk => hnone k (s.served_lt hk)]
    split_ifs <;> rfl
  · exact if_pos (bne_iff_ne.mpr hpause)
  · rw [if_pos hfull]
    split_ifs <;> rfl

/-! ### The limit of a command (R147, R184) -/

section Limits

variable {s : State} {n : Nat} {c : TakenCmd}

theorem State.timeOut_early (hcmd : (s.mbx n).cmd = some c) (h : s.time.mt < s.limitOf n c) : s.timeOut n = s := by
  have hmt : ¬ s.limitOf n c ≤ s.mt := Nat.not_le.mpr h
  rw [State.timeOut, hcmd]
  exact if_neg hmt

theorem State.timeOut_late (hcmd : (s.mbx n).cmd = some c) (h : s.limitOf n c ≤ s.time.mt) :
    s.timeOut n = (s.undo n c).complete n stTimeout [] := by
  have hmt : s.limitOf n c ≤ s.mt := h
  rw [State.timeOut, hcmd]
  exact if_pos hmt

theorem exec_commandTimeout (hn : n < 63) (hbusy : (s.mbx n).st = .busy) :
    exec (.commandTimeout n) s = .next (State.synced s (s.timeOut n)) :=
  onTime_of_true (c := decide (n < 64) && (s.mbx n).st == .busy)
    (Bool.and_eq_true_iff.mpr ⟨decide_eq_true (by omega), beq_iff_eq.mpr hbusy⟩) (fun s => s.timeOut n) s

/-- The parts that the end of a command at its limit may put back. -/
abbrev undoParts : List Part := [.xlat, .xlatCore, .stakes, .joined, .trust, .obs, .ids, .idsCore, .dies, .outbox]

theorem State.frame_commitCut (s : State) (n : Nat) : s.Within [.trust, .outbox] (s.commitCut n) := by
  unfold State.commitCut
  split
  · exact .ite (((s.frame_setTrust _).mono (by decide)).step (State.frame_alertSince _ _)) (.refl _ s)
  · exact .refl _ s

theorem State.frame_tieUndone (s : State) (n : Nat) : s.Within [.xlat, .xlatCore] (s.tieUndone n) := by
  unfold State.tieUndone
  split
  · exact .refl _ s
  · exact s.frame_setXlat _

theorem State.frame_invalidate (s : State) (ctx lo len : Nat) : s.Within [.xlat, .xlatCore] (s.invalidate ctx lo len).1 := s.frame_setXlat _

/-- What a command that ends with TIMEOUT leaves behind, but BACKSIGHT_RUN and STACK_REPAIR. -/
theorem State.frame_undo (hop : c.opcode ≠ 0x0503) (hrepair : c.opcode ≠ 0x0D01) : s.Within undoParts (s.undo n c) := by
  unfold State.undo
  split
  case h_1 =>
    dsimp only
    split_ifs
    · exact (s.frame_setXlat _).mono (by decide)
    · exact ((s.frame_invalidate _ _ _).mono (by decide)).step (State.frame_setXlat _ _)
  case h_2 => exact (s.frame_setStakes _).mono (by decide)
  case h_3 h => exact absurd h hop
  case h_4 => exact (s.frame_tieUndone n).mono (by decide)
  case h_5 => exact (s.frame_setJoined _).mono (by decide)
  case h_6 =>
    split
    · exact ((s.frame_cancelEvent _).mono (by decide)).step (State.frame_setJoined _ _)
    · exact .refl _ s
  case h_7 => exact (s.frame_setTrust _).mono (by decide)
  case h_8 => exact (s.frame_commitCut n).mono (by decide)
  case h_9 => exact (s.frame_setObs _).mono (by decide)
  case h_10 =>
    have hqueue : s.Within undoParts (s.setDies { s.dies with serviceQueue := s.dies.serviceQueue.filter (· != n) }) :=
      (s.frame_setDies _).mono (by decide)
    dsimp only
    split
    · exact .ite (hqueue.step (State.frame_dropService _ _)) hqueue
    · exact hqueue
  case h_11 h => exact absurd h hrepair
  case h_12 => exact .refl _ s

/-- No command but BACKSIGHT_RUN leaves a trace in time, the mailboxes, the bytes of memory, the contexts or the fabric. -/
theorem State.undo_leaves (hop : c.opcode ≠ 0x0503) : (s.undo n c).time = s.time ∧ (s.undo n c).mbxs = s.mbxs
    ∧ (s.undo n c).mem.hbm = s.mem.hbm ∧ (s.undo n c).ctxs = s.ctxs ∧ (s.undo n c).fab = s.fab := by
  by_cases hrepair : c.opcode = 0x0D01
  · rw [State.undo, hrepair]
    exact ⟨rfl, rfl, rfl, rfl, rfl⟩
  · have h := State.frame_undo (s := s) (n := n) hop hrepair
    exact ⟨h.time (by decide), h.mbxs (by decide), congrArg MemState.hbm (h.mem (by decide)), h.ctxs (by decide), h.fab (by decide)⟩

/-- COMMAND_TIMEOUT of a command that is not BACKSIGHT_RUN. -/
theorem exec_commandTimeout_late (hn : n < 63) (hbusy : (s.mbx n).st = .busy) (hcmd : (s.mbx n).cmd = some c)
    (hlate : s.limitOf n c ≤ s.time.mt) (hop : c.opcode ≠ 0x0503) :
    exec (.commandTimeout n) s = endsWith (s.undo n c) n stTimeout [] := by
  have htime : ((s.undo n c).complete n stTimeout []).time = s.time :=
    ((s.undo n c).frame_complete _ _ _).time (by decide) |>.trans (State.undo_leaves hop).1
  rw [exec_commandTimeout hn hbusy, State.timeOut_late hcmd hlate,
    State.synced_same (by rw [htime]) (by rw [State.mtDatum, State.mtDatum, htime])]
  rfl

theorem State.undo_tie {k : Nat} {old : Option TieWindow} (hop : c.opcode = 0x0601)
    (hundo : s.xlat.tieUndo.find? (fun u => u.1 == n) = some (n, k, old)) :
    ((s.undo n c).xlat.ties.find? fun e => e.1 == k) = (old.filter fun w => (s.ctx w.ctx).st == .opened).map fun w => (k, w) := by
  have hrest : (s.xlat.ties.filter fun e => e.1 != k).find? (fun e => e.1 == k) = none :=
    List.find?_eq_none.mpr fun x hx => by simpa using (List.mem_filter.mp hx).2
  rw [State.undo, hop]
  change ((s.tieUndone n).xlat.ties.find? fun e => e.1 == k) = _
  rw [State.tieUndone, hundo]
  cases old with
  | none => exact hrest
  | some w =>
    dsimp only
    split_ifs with hopen
    · simpa using hopen
    · rw [Option.filter_some, if_neg hopen]
      exact hrest

theorem State.undo_commit {x : FwSession} (hop : c.opcode = 0x0B03) (hsession : s.trust.session = some x) (hmbx : x.mbx = n) :
    (s.undo n c).trust.session = none ∧ (s.undo n c).trust.slotBad = (s.trust.slotBad || s.slotWriting)
      ∧ (s.undo n c).trust.slot = s.trust.slot := by
  have heq : s.undo n c = (s.setTrust { s.trust with session := none, slotBad := s.trust.slotBad || s.slotWriting }).alertSince s := by
    rw [State.undo, hop]
    change s.commitCut n = _
    rw [State.commitCut, hsession]
    exact if_pos hmbx
  rw [heq, (State.frame_alertSince _ s).trust (by decide)]
  exact ⟨rfl, rfl, rfl⟩

theorem State.undo_service {r : DieServiceRun} (hop : c.opcode = 0x0D00) (hrun : s.dies.service = some r) (hmbx : r.mbx = n) :
    (s.undo n c).dies.service = none := by
  rw [State.undo, hop]
  dsimp only
  rw [State.setDies_dies, hrun]
  dsimp only
  rw [if_pos hmbx]
  rfl

theorem State.undo_other (hop : c.opcode ∉ [0x0400, 0x0501, 0x0503, 0x0601, 0x0700, 0x0703, 0x0B00, 0x0B03, 0x0C00, 0x0D00, 0x0D01]) :
    s.undo n c = s := by
  unfold State.undo
  split
  case h_12 => rfl
  all_goals
    rename_i h
    rw [h] at hop
    exact absurd (by decide) hop

/-- The alignment lost is told in notices, and else only time changes (R85). -/
theorem State.loseAlignment_notes (s : State) (refused : Int) : ∃ u : State,
    u = s.setTime { s.time with st := .unaligned, bsDone := false, meas := none, run := s.time.run.filter (·.posted) }
      ∧ u.Notes (s.loseAlignment refused) := by
  unfold State.loseAlignment
  dsimp only
  exact ⟨_, rfl, (State.Notes.refl _).notify _ _ _ _ _ _ _⟩

/-- MT_DATUM and the link delays as they stood before a backsight (R65). -/
def State.datumBack (s : State) (r : BsRun) : State :=
  match r.saved with
  | some d => s.setTime { s.time with datumValid := d.valid, parentPort := d.port, datumNode := d.node, linkDly := d.delays }
  | none => s

theorem State.datumBack_eq (s : State) (r : BsRun) : ∃ v, s.datumBack r = s.setTime v := by
  unfold State.datumBack
  cases r.saved with
  | none => exact ⟨s.time, rfl⟩
  | some d => exact ⟨_, rfl⟩

/-- What BACKSIGHT_RUN at its limit leaves (R65, R147). -/
def State.backsightUndone (s : State) (n : Nat) : State :=
  match s.time.run with
  | some r =>
    if r.mbx ≠ some n then s
    else if r.phase = .applying ∨ r.phase = .held then s.setTime { s.time with run := some { r with mbx := none } }
    else (s.datumBack r).failBacksight 0
  | none => s

theorem State.undo_backsightUndone (hop : c.opcode = 0x0503) : s.undo n c = s.backsightUndone n := by
  rw [State.undo, hop]
  rfl

/-- BACKSIGHT_RUN at its limit leaves every command in hand and the contexts (R65, R147). -/
theorem State.undo_backsight (hop : c.opcode = 0x0503) :
    (∀ k, ((s.undo n c).mbx k).cmd = (s.mbx k).cmd) ∧ (s.undo n c).mbxs.length = s.mbxs.length ∧ (s.undo n c).ctxs = s.ctxs
      ∧ (∀ r, s.time.run = some r → r.mbx = some n → r.phase ≠ .applying → r.phase ≠ .held →
          (s.undo n c).time.st = .unaligned ∧ (s.undo n c).time.run = none) := by
  have hfail (t : State) (htime : ∃ v, t = s.setTime v) :
      (∀ k, ((t.failBacksight 0).mbx k).cmd = (s.mbx k).cmd) ∧ (t.failBacksight 0).mbxs.length = s.mbxs.length
        ∧ (t.failBacksight 0).ctxs = s.ctxs ∧ (t.failBacksight 0).time.st = .unaligned ∧ (t.failBacksight 0).time.run = none := by
    obtain ⟨v, rfl⟩ := htime
    obtain ⟨u, hu, hnotes⟩ := State.loseAlignment_notes ((s.setTime v).setTime { (s.setTime v).time with run := none }) 0
    have hnotes : u.Notes ((s.setTime v).failBacksight 0) := hnotes
    rw [hnotes.time, hnotes.ctxs, hnotes.length, hu]
    exact ⟨fun k => ((hnotes.hands k).2).trans (by rw [hu]; rfl), rfl, rfl, rfl, rfl⟩
  rw [State.undo_backsightUndone hop, State.backsightUndone]
  cases hrun : s.time.run with
  | none => exact ⟨fun _ => rfl, rfl, rfl, fun r h => absurd h (by simp)⟩
  | some q =>
    dsimp only
    split_ifs with hmbx hphase
    · exact ⟨fun _ => rfl, rfl, rfl, fun r hr hn => absurd (by obtain rfl := Option.some.inj hr; exact hn) hmbx⟩
    · refine ⟨fun _ => rfl, rfl, rfl, fun r hr hn h1 h2 => ?_⟩
      obtain rfl := Option.some.inj hr
      exact absurd hphase (not_or.mpr ⟨h1, h2⟩)
    · obtain ⟨hcmd, hlen, hctxs, hst, hnone⟩ := hfail _ (s.datumBack_eq q)
      exact ⟨hcmd, hlen, hctxs, fun _ _ _ _ _ => ⟨hst, hnone⟩⟩

end Limits

/-- Settles O44: writes by the header's STATE field, the take by the mailbox that stands first, a limit by what its command undoes. -/
theorem mailboxes : Obligations.Mailboxes := by
  unfold Obligations.Mailboxes
  intro s n v hn hlen m w got
  have hv : v.toNat < 2 ^ 64 := v.isLt
  have hfield : fieldNat v 63 62 = w / 2 ^ 62 := fieldNat_hdrState v
  refine ⟨fun hup hpost hst => ?_, fun hup hpost hst => ?_, fun hup hidle hst => ?_, fun hup hidle hst => ?_, fun hup => ?_,
    fun hrun hpause hposted hroom hbefore hafter => ?_, fun hnone => ?_, fun c hbusy hcmd => ⟨fun hearly => ?_, fun hlate hop => ?_,
    fun hlate hop => ?_⟩⟩
  · have hone : w / 2 ^ 62 = 1 := by omega
    exact (onEvent_of_true (c := s.hostUp && decide (n < 63) && fieldNat v 63 62 == 1)
      (by rw [hup, hfield, hone, decide_eq_true hn]; rfl)
      (fun s => s.writeHdr n v) s).trans (congrArg Host.Outcome.next (State.writeHdr_post hone hst))
  · have hone : w / 2 ^ 62 = 1 := by omega
    exact (onEvent_of_true (c := s.hostUp && decide (n < 63) && fieldNat v 63 62 == 1)
      (by rw [hup, hfield, hone, decide_eq_true hn]; rfl)
      (fun s => s.writeHdr n v) s).trans (congrArg Host.Outcome.next (State.writeHdr_of_busy hst v))
  · have hzero : w / 2 ^ 62 = 0 := by omega
    exact (onEvent_of_true (c := s.hostUp && decide (n < 63) && fieldNat v 63 62 == 0 && (s.mbx n).st == .posted)
      (by rw [hup, hfield, hzero, decide_eq_true hn, beq_iff_eq.mpr hst]; rfl) (fun s => s.writeHdr n v) s).trans
      (congrArg Host.Outcome.next (State.writeHdr_withdraw hzero hst))
  · have hzero : w / 2 ^ 62 = 0 := by omega
    exact (onEvent_of_true (c := s.hostUp && decide (n < 63) && fieldNat v 63 62 == 0 && (s.mbx n).st == .done)
      (by rw [hup, hfield, hzero, decide_eq_true hn, beq_iff_eq.mpr hst]; rfl) (fun s => s.writeHdr n v) s).trans
      (congrArg Host.Outcome.next (State.writeHdr_of_done_of_idle hst hzero))
  · exact (onEvent_of_true (c := s.hostUp && decide (n < 63)) (by simp [hup, hn]) (fun s => s.writeIrq n v) s).trans
      (congrArg Host.Outcome.next (s.writeIrq_eq n v))
  · intro c t u
    have htake : exec .commandTake s = .next (s.take n) := by
      change Host.Outcome.next (match s.nextTake with | some n => s.take n | none => s) = _
      rw [State.nextTake_eq hn hrun hpause hposted hroom hbefore hafter]
    have hcases (o : Option Nat) : (match o with | some st => u.complete n st [] | none => u.takenEffect n c)
        = match o with | none => u.takenEffect n c | some st => u.complete n st [] := by
      cases o <;> rfl
    exact htake.trans (congrArg Host.Outcome.next (hcases (u.takeCheck n c m.argWords)))
  · change Host.Outcome.next (match s.nextTake with | some n => s.take n | none => s) = _
    rw [State.nextTake_none hnone]
  · rw [exec_commandTimeout hn hbusy, State.timeOut_early hcmd hearly, State.synced_same rfl rfl]
  · obtain ⟨-, hmbxs, hhbm, hctxs, hfab⟩ := State.undo_leaves (s := s) (n := n) hop
    refine ⟨_, exec_commandTimeout_late hn hbusy hcmd hlate hop, hmbxs, hhbm, hctxs, hfab, fun h => ?_, fun h k old hundo =>
      State.undo_tie h hundo, fun h x hx hxn => State.undo_commit h hx hxn, fun h r hr hrn => State.undo_service h hr hrn, fun h => ?_⟩
    · rw [State.undo, h]
      rfl
    · exact State.undo_other (by simp_all)
  · obtain ⟨hcmds, hlength, hctxs, hrun⟩ := State.undo_backsight (s := s) (n := n) hop
    have hcomplete := (s.undo n c).frame_complete n stTimeout []
    have hexec : exec (.commandTimeout n) s = .next (State.synced s ((s.undo n c).complete n stTimeout [])) := by
      rw [exec_commandTimeout hn hbusy, State.timeOut_late hcmd hlate]
    have hended := State.complete_ended (s := s.undo n c) (n := n) (by omega) ((hcmds n).trans hcmd) stTimeout []
    refine ⟨_, hexec, ?_, ?_, ?_, fun r hr hrn h1 h2 => ?_⟩
    · rw [State.mbx, State.synced_mbxs]
      exact hended.1
    · rw [State.mbx, State.synced_mbxs]
      exact hended.2
    · rw [(State.frame_synced _ s).ctxs (by decide), hcomplete.ctxs (by decide), hctxs]
    · rw [State.synced_time, hcomplete.time (by decide)]
      exact hrun r hr hrn h1 h2

end Sys2Proof.Machine
end

section
/-!
PROOF. Host claims and beats, and the teardown of contexts (R193, R195 to R198, R685 to R688, R710).
-/

namespace Sys2Proof.Machine

set_option Elab.async false

/-! ### What the cores keep -/

theorem nth_map {α β : Type} (f : α → β) (l : List α) (i : Nat) (d : α) : nth (l.map f) i (f d) = f (nth l i d) := by
  rw [nth, nth, List.getElem?_map]
  cases l[i]? <;> rfl

/-- Contexts with the same core differ in their accounts alone. -/
theorem State.ctx_of_core {s t : State} (h : coreCtxs t.ctxs = coreCtxs s.ctxs) (c : Nat) :
    t.ctx c = { s.ctx c with acct := (t.ctx c).acct } := by
  have hcore : { t.ctx c with acct := Context.reset.acct } = { s.ctx c with acct := Context.reset.acct } := by
    have hnth := congrArg (fun l => nth l c Context.reset) h
    exact (nth_map _ t.ctxs c Context.reset).symm.trans (hnth.trans (nth_map _ s.ctxs c Context.reset))
  have hfull := congrArg (fun x : Context => { x with acct := (t.ctx c).acct }) hcore
  exact hfull

theorem length_of_coreCtxs {l m : List Context} (h : coreCtxs l = coreCtxs m) : l.length = m.length := by
  simpa [coreCtxs] using congrArg List.length h

/-- The tie accesses of translation with the same core differ in their tags alone. -/
theorem tieOps_ctx_of_core {x y : XlatState} (h : coreXlat y = coreXlat x) {c : Nat} (hx : ∀ o ∈ x.tieOps, o.ctx ≠ c) :
    ∀ o ∈ y.tieOps, o.ctx ≠ c := by
  intro o ho
  have hops : y.tieOps.map (fun o => { o with tag := 0 }) = x.tieOps.map fun o => { o with tag := 0 } := congrArg XlatState.tieOps h
  have hmem : { o with tag := 0 } ∈ x.tieOps.map fun o => { o with tag := 0 } := hops ▸ List.mem_map_of_mem ho
  obtain ⟨q, hq, heq⟩ := List.mem_map.mp hmem
  have hctx : q.ctx = o.ctx := by
    injection heq
  exact hctx ▸ hx q hq

/-! ### What a teardown may change (R685, R686) -/

section Parts

variable (s : State)

theorem State.frame_collTo {t : State} {dst phase job attempt w1 : Nat} {data : List Byte} {op : FlowOp}
    (h : s.collTo dst phase job attempt w1 data op = some t) : s.Within sendParts t := State.frame_flowSend s h

theorem State.frame_collFail (c : Collective) (status : Nat) (but : Option Nat) : s.Within sendParts (s.collFail c status but) := by
  unfold State.collFail
  split
  · exact .refl _ s
  · refine .foldl (fun u n => ?_) (.refl _ s) _
    cases h : u.collTo n 3 c.job c.attempt (placed c.seq 32 + placed status 16) [] .none with
    | none => exact .refl _ u
    | some t => exact u.frame_collTo h

theorem State.frame_collDone (c : Collective) (status eflags : Nat) : s.Within [.mem, .joined] (s.collDone c status eflags) := by
  unfold State.collDone
  dsimp only
  exact (((s.frame_hubWrite _ _).mono (by decide)).step (State.frame_hubWrite _ _ _)).step (State.frame_setJoined _ _)

/-- What the end of a collective may change. -/
abbrev collParts : List Part := [.ctxs, .share, .xlat, .fab, .mem, .monu, .monuCore, .obs, .outbox, .joined]

theorem State.frame_collEnd (c : Collective) (status : Nat) : s.Within collParts (s.collEnd c status) :=
  ((s.frame_collFail _ _ _).mono (by decide)).step (State.frame_collDone _ _ _ _)

theorem State.frame_endMonuments (p : Monument → Bool) (status : Nat) : s.Within (.stakes :: endedParts) (s.endMonuments p status) :=
  .foldl (fun u m => (((u.frame_endMonument _ _).mono (by decide)).step (State.frame_cancelEvent _ _)).step (State.frame_cancelEvent _ _))
    (.refl _ s) _

theorem State.frame_endOffers (ctx : Nat) : s.Within [.stakes, .joined] (s.endOffers ctx) := by
  unfold State.endOffers
  dsimp only
  refine State.Within.step (.foldl (fun u o => ?_) (.refl _ s) _) (State.frame_setJoined _ _)
  exact ((u.frame_cancelEvent _).mono (by decide)).step (State.frame_cancelEvent _ _)

theorem State.frame_freeCounters (ctx : Nat) : s.Within [.obs] (s.freeCounters ctx) := s.frame_setObs _

theorem State.frame_closeTies (ctx : Nat) : s.Within [.xlat, .xlatCore] (s.closeTies ctx) := s.frame_setXlat _

theorem State.frame_endBlocks (ctx : Nat) : s.Within [.compute, .xlat, .xlatCore] (s.endBlocks ctx) := by
  unfold State.endBlocks
  dsimp only
  exact ((s.frame_setCompute _).mono (by decide)).step (State.frame_setXlat _ _)

end Parts

/-! ### The releases of step 3 (R686) -/

section Releases

variable (s : State)

/-- The machine whose context's collectives have ended. -/
def State.collsEnded (s : State) (ctx : Nat) : State :=
  (s.joined.colls.filter fun c => c.ctx == ctx).foldl (fun t c => t.collEnd c stCtxTornDown) s

/-- The machine whose context's comparators are free and windows shut besides. -/
def State.tiesClosed (s : State) (ctx : Nat) : State :=
  ((s.collsEnded ctx).setStakes { (s.collsEnded ctx).stakes with
    allocs := (s.collsEnded ctx).stakes.allocs.filter fun a => a.owner != .context ctx }).closeTies ctx

/-- The machine whose context's monuments have ended besides. -/
def State.monumentsEnded (s : State) (ctx cause : Nat) : State :=
  (s.tiesClosed ctx).endMonuments (fun m => m.ctx == some ctx) (if cause = stEpochFenced then stEpochFenced else stCtxTornDown)

theorem State.releaseOf_eq (ctx cause : Nat) : s.releaseOf ctx cause = ((s.monumentsEnded ctx cause).endOffers ctx).freeCounters ctx := rfl

theorem State.frame_collsEnded (ctx : Nat) : s.Within collParts (s.collsEnded ctx) := .foldl (fun u _ => u.frame_collEnd _ _) (.refl _ s) _

theorem State.frame_tiesClosed (ctx : Nat) : s.Within (.stakes :: .xlatCore :: collParts) (s.tiesClosed ctx) :=
  (((s.frame_collsEnded ctx).mono (by decide)).step (State.frame_setStakes _ _)).step (State.frame_closeTies _ _)

theorem State.frame_monumentsEnded (ctx cause : Nat) : s.Within (.stakes :: .xlatCore :: collParts) (s.monumentsEnded ctx cause) :=
  (s.frame_tiesClosed ctx).step (State.frame_endMonuments _ _ _)

/-- What the releases may change: of the contexts the accounts alone. -/
theorem State.frame_releaseOf (ctx cause : Nat) : s.Within (.stakes :: .xlatCore :: collParts) (s.releaseOf ctx cause) := by
  rw [State.releaseOf_eq]
  exact ((s.frame_monumentsEnded ctx cause).step (State.frame_endOffers _ _)).step (State.frame_freeCounters _ _)

theorem State.cancelEvent_allocs (e : StakeEvent) {a : Alloc} (h : a ∈ (s.cancelEvent e).stakes.allocs) : a ∈ s.stakes.allocs :=
  (List.mem_filter.mp h).1

theorem State.endMonuments_allocs (p : Monument → Bool) (status : Nat) {a : Alloc} (h : a ∈ (s.endMonuments p status).stakes.allocs) :
    a ∈ s.stakes.allocs := by
  unfold State.endMonuments at h
  generalize s.monu.items.filter _ = l at h
  induction l generalizing s with
  | nil => exact h
  | cons m l ih =>
    have hdropped := State.cancelEvent_allocs _ _ (State.cancelEvent_allocs _ _ (ih _ h))
    rwa [(s.frame_endMonument m.id status).stakes (by decide)] at hdropped

theorem State.endOffers_allocs (ctx : Nat) {a : Alloc} (h : a ∈ (s.endOffers ctx).stakes.allocs) : a ∈ s.stakes.allocs := by
  have hfold (l : List Offer) (t : State)
      (ha : a ∈ (l.foldl (fun t o => (t.cancelEvent (.offerExpiry o.job)).cancelEvent (.abortStake o.job)) t).stakes.allocs) :
      a ∈ t.stakes.allocs := by
    induction l generalizing t with
    | nil => exact ha
    | cons o l ih => exact State.cancelEvent_allocs _ _ (State.cancelEvent_allocs _ _ (ih _ ha))
  exact hfold _ s h

/-- No comparator is held for the context any more. -/
theorem State.releaseOf_allocs (ctx cause : Nat) : ∀ a ∈ (s.releaseOf ctx cause).stakes.allocs, a.owner ≠ .context ctx := by
  intro a ha
  rw [State.releaseOf_eq, (State.frame_freeCounters _ ctx).stakes (by decide)] at ha
  have hclosed := State.endMonuments_allocs _ _ _ (State.endOffers_allocs _ ctx ha)
  rw [State.tiesClosed, (State.frame_closeTies _ ctx).stakes (by decide)] at hclosed
  simpa using (List.mem_filter.mp hclosed).2

/-- Nor a launch. -/
theorem State.releaseOf_launches (ctx cause : Nat) : ∀ l ∈ (s.releaseOf ctx cause).joined.launches, l.ctx ≠ ctx := by
  intro l hl
  rw [State.releaseOf_eq, (State.frame_freeCounters _ ctx).joined (by decide)] at hl
  simpa using (List.mem_filter.mp hl).2

/-- The tie accesses that are there stay those of other contexts. -/
theorem State.releaseOf_tieOps (ctx cause : Nat) (h : ∀ o ∈ s.xlat.tieOps, o.ctx ≠ ctx) :
    ∀ o ∈ (s.releaseOf ctx cause).xlat.tieOps, o.ctx ≠ ctx := by
  have hcolls := tieOps_ctx_of_core ((s.frame_collsEnded ctx).xlatCore (by decide)) h
  have hties : ∀ o ∈ (s.tiesClosed ctx).xlat.tieOps, o.ctx ≠ ctx := hcolls
  have hmonu := tieOps_ctx_of_core ((State.frame_endMonuments (s.tiesClosed ctx) (fun m => m.ctx == some ctx)
    (if cause = stEpochFenced then stEpochFenced else stCtxTornDown)).xlatCore (by decide)) hties
  have hxlat : (s.releaseOf ctx cause).xlat = (s.monumentsEnded ctx cause).xlat := by
    rw [State.releaseOf_eq, (State.frame_freeCounters _ ctx).xlat (by decide), (State.frame_endOffers _ ctx).xlat (by decide)]
  rw [hxlat]
  exact hmonu

end Releases

/-! ### The teardown of one context (R685, R686) -/

section Teardown

variable (s : State)

/-- The context as a teardown leaves it, but for its account. -/
def State.tornContext (s : State) (c cause : Nat) : Context :=
  { s.ctx c with st := .tornDown, cause := s.firstCause (s.ctx c) cause, tearCycle := s.abaom.posts, ending := true }

theorem State.teardown_closed {c : Nat} (cause : Nat) (h : (s.ctx c).st = .closed) : s.teardown c cause = s := by
  rw [State.teardown, h]

theorem State.teardown_tornDown {c : Nat} (cause : Nat) (h : (s.ctx c).st = .tornDown) : s.teardown c cause =
    if (s.ctx c).ending = true ∧ (s.ctx c).tearCycle = s.abaom.posts ∧ cause < (s.ctx c).cause then s.putCtx c { s.ctx c with cause }
    else s := by
  unfold State.teardown
  dsimp only
  split
  case h_1 hclosed => exact absurd (h.symm.trans hclosed) (by decide)
  case h_2 => exact if_congr (by simp [and_assoc]) rfl rfl
  case h_3 hopened => exact absurd (h.symm.trans hopened) (by decide)

/-- The machine whose context is marked torn down, before its releases. -/
def State.tornMarked (s : State) (c cause : Nat) : State := ((s.putCtx c (s.tornContext c cause)).count 21 1).endBlocks c

theorem State.teardown_opened {c : Nat} (cause : Nat) (h : (s.ctx c).st = .opened) :
    let t := (s.tornMarked c cause).releaseOf c (s.firstCause (s.ctx c) cause)
    s.teardown c cause = t.setAbaom { t.abaom with watches := t.abaom.watches.filter fun w => w.ctx != c } := by
  rw [State.teardown, h]
  rfl

/-- What a teardown may change. -/
abbrev tearParts : List Part := .abaom :: .abaomCore :: .compute :: .ctxsCore :: .stakes :: .xlatCore :: collParts

theorem State.frame_tornMarked (c cause : Nat) : s.Within [.ctxs, .ctxsCore, .obs, .compute, .xlat, .xlatCore] (s.tornMarked c cause) :=
  (((s.frame_putCtx _ _).mono (by decide)).step (State.frame_count _ _ _)).step (State.frame_endBlocks _ _)

theorem State.frame_teardown (c cause : Nat) : s.Within tearParts (s.teardown c cause) := by
  cases h : (s.ctx c).st with
  | closed =>
    rw [State.teardown_closed s cause h]
    exact .refl _ s
  | tornDown =>
    rw [State.teardown_tornDown s cause h]
    exact .ite ((s.frame_putCtx _ _).mono (by decide)) (.refl _ s)
  | opened =>
    rw [State.teardown_opened s cause h]
    exact (((s.frame_tornMarked c cause).mono (by decide)).step (State.frame_releaseOf _ _ _)).step (State.frame_setAbaom _ _)

/-- Every context after the teardown of an open one (R685). -/
theorem State.teardown_ctx {c : Nat} (cause : Nat) (h : (s.ctx c).st = .opened) (hc : c < s.ctxs.length) (d : Nat) :
    ∃ acct, (s.teardown c cause).ctx d = { (if d = c then s.tornContext c cause else s.ctx d) with acct } := by
  let u := (s.tornMarked c cause).releaseOf c (s.firstCause (s.ctx c) cause)
  have hu : (s.teardown c cause).ctx d = u.ctx d := by
    rw [State.teardown_opened s cause h]
    rfl
  have hmarked : (s.tornMarked c cause).ctx d = if d = c then s.tornContext c cause else s.ctx d := by
    by_cases hd : d = c
    · rw [if_pos hd, hd]
      exact State.ctx_putCtx_same hc _
    · rw [if_neg hd]
      exact State.ctx_putCtx_ne s hd _
  rw [hu, State.ctx_of_core ((State.frame_releaseOf (s.tornMarked c cause) c _).ctxsCore (by decide)) d, hmarked]
  exact ⟨_, rfl⟩

theorem State.opened_lt {c : Nat} (h : (s.ctx c).st = .opened) : c < s.ctxs.length := by
  by_contra hlen
  have hreset : s.ctx c = Context.reset := by simp [State.ctx, nth, List.getElem?_eq_none (by omega : s.ctxs.length ≤ c)]
  rw [hreset] at h
  exact absurd h (by decide)

/-- Whatever is torn down, each context keeps its host, and a context that is not torn down its state. -/
theorem State.teardown_keeps (c cause d : Nat) : ((s.teardown c cause).ctx d).hostEpoch = (s.ctx d).hostEpoch
    ∧ (d ≠ c → ((s.teardown c cause).ctx d).st = (s.ctx d).st) ∧ ((s.teardown c cause).ctx c).st ≠ .opened := by
  cases h : (s.ctx c).st with
  | closed =>
    rw [State.teardown_closed s cause h]
    exact ⟨rfl, fun _ => rfl, by rw [h]; decide⟩
  | tornDown =>
    rw [State.teardown_tornDown s cause h]
    split_ifs
    · by_cases hlen : c < s.ctxs.length
      · by_cases hd : d = c
        · rw [hd, State.ctx_putCtx_same hlen]
          exact ⟨rfl, fun hne => absurd rfl hne, by rw [h]; decide⟩
        · rw [State.ctx_putCtx_ne s hd, State.ctx_putCtx_same hlen]
          exact ⟨rfl, fun _ => rfl, by rw [h]; decide⟩
      · have hsame : (s.putCtx c { s.ctx c with cause }).ctxs = s.ctxs := List.set_eq_of_length_le (by omega)
        rw [State.ctx_congr hsame, State.ctx_congr hsame]
        exact ⟨rfl, fun _ => rfl, by rw [h]; decide⟩
    · exact ⟨rfl, fun _ => rfl, by rw [h]; decide⟩
  | opened =>
    have hlen := s.opened_lt h
    obtain ⟨a, ha⟩ := s.teardown_ctx cause h hlen d
    obtain ⟨b, hb⟩ := s.teardown_ctx cause h hlen c
    rw [ha, hb, if_pos rfl]
    refine ⟨?_, fun hd => by rw [if_neg hd], fun hopen : CtxState.tornDown = .opened => absurd hopen (by decide)⟩
    by_cases hd : d = c
    · rw [if_pos hd, hd]
      rfl
    · rw [if_neg hd]

theorem State.teardown_cause {c : Nat} (cause : Nat) (h : (s.ctx c).st = .opened) (hc : c < s.ctxs.length) :
    ((s.teardown c cause).ctx c).st = .tornDown ∧ ((s.teardown c cause).ctx c).ending = true
    ∧ ((s.ctx c).exc = none → ((s.teardown c cause).ctx c).cause = cause)
    ∧ ∀ x, (s.ctx c).exc = some x → ((s.teardown c cause).ctx c).cause = if x.cycle = s.abaom.posts then min x.cause cause else x.cause := by
  obtain ⟨acct, hctx⟩ := s.teardown_ctx cause h hc c
  have hcause : ((s.teardown c cause).ctx c).cause = s.firstCause (s.ctx c) cause := by
    rw [hctx, if_pos rfl]
    rfl
  rw [hcause]
  refine ⟨by rw [hctx, if_pos rfl]; rfl, by rw [hctx, if_pos rfl]; rfl, fun hexc => ?_, fun x hexc => ?_⟩
  · rw [State.firstCause, hexc]
  · rw [State.firstCause, hexc]

/-- What a teardown releases (R686). -/
theorem State.teardown_released {c : Nat} (cause : Nat) (h : (s.ctx c).st = .opened) :
    (∀ b ∈ (s.teardown c cause).compute.blocks, b.ctx ≠ c) ∧ (∀ w ∈ (s.teardown c cause).abaom.watches, w.ctx ≠ c)
      ∧ (∀ a ∈ (s.teardown c cause).stakes.allocs, a.owner ≠ .context c) ∧ (∀ l ∈ (s.teardown c cause).joined.launches, l.ctx ≠ c)
      ∧ ∀ o ∈ (s.teardown c cause).xlat.tieOps, o.ctx ≠ c := by
  rw [s.teardown_opened cause h]
  dsimp only
  rw [State.setAbaom_compute, State.setAbaom_abaom, State.setAbaom_stakes, State.setAbaom_joined, State.setAbaom_xlat,
    (State.frame_releaseOf _ _ _).compute (by decide)]
  refine ⟨fun b hb => ?_, fun w hw => ?_, State.releaseOf_allocs _ _ _, State.releaseOf_launches _ _ _,
    State.releaseOf_tieOps _ _ _ fun o ho => ?_⟩
  · simpa using (List.mem_filter.mp hb).2
  · simpa using (List.mem_filter.mp hw).2
  · simpa using (List.mem_filter.mp ho).2

theorem State.teardown_beat (c cause : Nat) : (s.teardown c cause).abaom = { s.abaom with watches := (s.teardown c cause).abaom.watches } := by
  cases h : (s.ctx c).st with
  | closed =>
    rw [State.teardown_closed s cause h]
  | tornDown =>
    rw [State.teardown_tornDown s cause h]
    split_ifs <;> rfl
  | opened =>
    have habaom : ((s.tornMarked c cause).releaseOf c (s.firstCause (s.ctx c) cause)).abaom = s.abaom := by
      rw [(State.frame_releaseOf _ _ _).abaom (by decide), (s.frame_tornMarked c cause).abaom (by decide)]
    rw [State.teardown_opened s cause h]
    dsimp only
    rw [State.setAbaom_abaom, habaom]

end Teardown

/-! ### The loss of a host (R198, R710) -/

section HostLoss

variable (s : State)

/-- One context's part of the loss of a host. -/
def State.tornOf (epoch cause : Nat) (t : State) (c : Nat) : State := if (t.ctx c).hostEpoch = epoch then t.teardown c cause else t

/-- The machine in which every context of a host is torn down. -/
def State.tornAll (epoch cause : Nat) : State := (List.range 64).foldl (State.tornOf epoch cause) s

theorem State.hostLoss_eq (epoch cause : Nat) : ∃ losses, s.hostLoss epoch cause =
    (s.tornAll epoch cause).setAbaom { (s.tornAll epoch cause).abaom with losses } := by
  have hfun : State.tornOf epoch cause = fun t c => if (t.ctx c).hostEpoch = epoch then t.teardown c cause else t := rfl
  refine ⟨(s.tornAll epoch cause).abaom.losses ++ [⟨epoch, (s.tornAll epoch cause).mt, (s.tornAll epoch cause).hubFlags false⟩], ?_⟩
  unfold State.hostLoss State.tornAll
  rw [hfun]

theorem State.tornOf_keeps (epoch cause : Nat) (t : State) (c d : Nat) :
    ((State.tornOf epoch cause t c).ctx d).hostEpoch = (t.ctx d).hostEpoch
      ∧ ((t.ctx d).hostEpoch ≠ epoch → ((State.tornOf epoch cause t c).ctx d).st = (t.ctx d).st)
      ∧ ((t.ctx d).st ≠ .opened → ((State.tornOf epoch cause t c).ctx d).st ≠ .opened)
      ∧ ((t.ctx c).hostEpoch = epoch → ((State.tornOf epoch cause t c).ctx c).st ≠ .opened) := by
  unfold State.tornOf
  split_ifs with he
  · obtain ⟨hepoch, hst, htorn⟩ := t.teardown_keeps c cause d
    refine ⟨hepoch, fun hd => hst ?_, fun hopen => ?_, fun _ => htorn⟩
    · rintro rfl
      exact hd he
    · by_cases hd : d = c
      · rw [hd]
        exact htorn
      · rw [hst hd]
        exact hopen
  · exact ⟨rfl, fun _ => rfl, id, fun h => absurd h he⟩

/-- A loss tears down the contexts of its host and no other. -/
theorem State.torn_foldl (epoch cause : Nat) (l : List Nat) (t : State) (d : Nat) :
    ((l.foldl (State.tornOf epoch cause) t).ctx d).hostEpoch = (t.ctx d).hostEpoch
      ∧ ((t.ctx d).hostEpoch ≠ epoch → ((l.foldl (State.tornOf epoch cause) t).ctx d).st = (t.ctx d).st)
      ∧ ((t.ctx d).hostEpoch = epoch → (d ∈ l ∨ (t.ctx d).st ≠ .opened) → ((l.foldl (State.tornOf epoch cause) t).ctx d).st ≠ .opened) := by
  induction l generalizing t with
  | nil => exact ⟨rfl, fun _ => rfl, fun _ h => h.elim (fun hm => absurd hm (by simp)) id⟩
  | cons c l ih =>
    obtain ⟨hepoch, hst, hopen, htorn⟩ := State.tornOf_keeps epoch cause t c d
    obtain ⟨iepoch, ist, itorn⟩ := ih (State.tornOf epoch cause t c)
    rw [List.foldl_cons]
    refine ⟨iepoch.trans hepoch, fun hne => (ist (by rw [hepoch]; exact hne)).trans (hst hne), fun heq hd => itorn (hepoch.trans heq) ?_⟩
    rcases hd with hmem | hclosed
    · rcases List.mem_cons.mp hmem with rfl | hl
      · exact .inr (htorn heq)
      · exact .inl hl
    · exact .inr (hopen hclosed)

theorem State.tornOf_beat (epoch cause : Nat) (t : State) (c : Nat) :
    (State.tornOf epoch cause t c).abaom.beat = t.abaom.beat ∧ t.Within tearParts (State.tornOf epoch cause t c) := by
  unfold State.tornOf
  split_ifs
  · rw [t.teardown_beat]
    exact ⟨rfl, t.frame_teardown _ _⟩
  · exact ⟨rfl, .refl _ t⟩

theorem State.frame_hostLoss (epoch cause : Nat) : s.Within tearParts (s.hostLoss epoch cause) := by
  obtain ⟨losses, h⟩ := s.hostLoss_eq epoch cause
  rw [h]
  exact State.Within.step (.foldl (fun u c => (State.tornOf_beat epoch cause u c).2) (.refl _ s) _) (State.frame_setAbaom _ _)

theorem State.hostLoss_beat (epoch cause : Nat) : (s.hostLoss epoch cause).abaom.beat = s.abaom.beat := by
  have hfold (l : List Nat) (t : State) : (l.foldl (State.tornOf epoch cause) t).abaom.beat = t.abaom.beat := by
    induction l generalizing t with
    | nil => rfl
    | cons c l ih => exact (ih _).trans (State.tornOf_beat epoch cause t c).1
  have htorn : (s.tornAll epoch cause).abaom.beat = s.abaom.beat := by rw [State.tornAll, hfold]
  obtain ⟨losses, h⟩ := s.hostLoss_eq epoch cause
  rw [h, State.setAbaom_abaom]
  dsimp only
  rw [htorn]

/-- The contexts after the loss of a host. -/
theorem State.hostLoss_ctx (epoch cause : Nat) {d : Nat} (hd : d < 64) :
    ((s.ctx d).hostEpoch = epoch → ((s.hostLoss epoch cause).ctx d).st ≠ .opened)
      ∧ ((s.ctx d).hostEpoch ≠ epoch → ((s.hostLoss epoch cause).ctx d).st = (s.ctx d).st) := by
  obtain ⟨-, hst, htorn⟩ := State.torn_foldl epoch cause (List.range 64) s d
  obtain ⟨losses, h⟩ := s.hostLoss_eq epoch cause
  have hctx : (s.hostLoss epoch cause).ctx d = (s.tornAll epoch cause).ctx d := by
    rw [h, State.ctx_congr (State.setAbaom_ctxs ..)]
  rw [hctx]
  exact ⟨fun h => htorn h (.inl (List.mem_range.mpr hd)), hst⟩

end HostLoss

/-! ### Claims and beats (R193, R195 to R197) -/

section Beats

variable (s : State)

/-- The machine with the new claim, before the host boots. -/
def State.claimed (s : State) (stamp : Nat) : State :=
  let t := s.setAbaom { s.abaom with
    beat := { s.abaom.beat with epoch := if s.abaom.beat.epoch = 0xFFFF then 1 else s.abaom.beat.epoch + 1, live := true }.renew stamp }
  if s.abaom.beat.live then t.hostLoss s.abaom.beat.epoch stBadState else t

theorem State.claim_eq (stamp : Nat) : s.claim stamp =
    if (s.claimed stamp).conn.phase == .hostBoot then
      ((s.claimed stamp).setConn { (s.claimed stamp).conn with phase := .training, trainFrom := (s.claimed stamp).mt, lasers := true }).setFab
        { (s.claimed stamp).fab with ports := (s.claimed stamp).fab.ports.mapIdx fun p x =>
            if (s.claimed stamp).ids.optLive.getLsbD (p / 8) then { x with st := .training, modeNow := x.mode } else x }
    else s.claimed stamp := rfl

theorem State.claimed_beat (stamp : Nat) : (s.claimed stamp).abaom.beat.live = true
    ∧ (s.claimed stamp).abaom.beat.epoch = (if s.abaom.beat.epoch = 0xFFFF then 1 else s.abaom.beat.epoch + 1)
    ∧ (s.claimed stamp).abaom.beat.deadline = stamp + 800000000 := by
  have hbeat : (s.claimed stamp).abaom.beat = { s.abaom.beat with
      epoch := if s.abaom.beat.epoch = 0xFFFF then 1 else s.abaom.beat.epoch + 1, live := true }.renew stamp := by
    unfold State.claimed
    dsimp only
    rw [apply_ite State.abaom, apply_ite AbaomState.beat, State.hostLoss_beat, ite_self]
    rfl
  rw [hbeat]
  exact ⟨rfl, rfl, rfl⟩

theorem State.frame_claimed (stamp : Nat) : s.Within tearParts (s.claimed stamp) :=
  .ite (((s.frame_setAbaom _).mono (by decide)).trans (State.frame_hostLoss _ _ _)) ((s.frame_setAbaom _).mono (by decide))

theorem State.claimed_ctx (stamp : Nat) {c : Nat} (hc : c < 64) (hlive : s.abaom.beat.live = true)
    (hepoch : (s.ctx c).hostEpoch = s.abaom.beat.epoch) : ((s.claimed stamp).ctx c).st ≠ .opened := by
  unfold State.claimed
  dsimp only
  rw [if_pos hlive]
  exact (State.hostLoss_ctx _ _ _ hc).1 hepoch

theorem State.claimed_ctxs (stamp : Nat) (hlive : s.abaom.beat.live = false) : (s.claimed stamp).ctxs = s.ctxs := by
  unfold State.claimed
  dsimp only
  rw [if_neg (by rw [hlive]; decide)]
  rfl

/-- A claim changes, beside its own record, the phase and the ports at most. -/
theorem State.claim_frame (stamp : Nat) : (s.claim stamp).abaom = (s.claimed stamp).abaom ∧ (s.claim stamp).ctxs = (s.claimed stamp).ctxs
    ∧ (s.conn.phase = .hostBoot → (s.claim stamp).conn.phase = .training ∧ (s.claim stamp).conn.trainFrom = s.time.mt)
    ∧ (s.conn.phase ≠ .hostBoot → (s.claim stamp).conn.phase = s.conn.phase) := by
  have hconn : (s.claimed stamp).conn = s.conn := (s.frame_claimed stamp).conn (by decide)
  have htime : (s.claimed stamp).mt = s.time.mt := congrArg TimeState.mt ((s.frame_claimed stamp).time (by decide))
  rw [State.claim_eq]
  split_ifs with hphase
  · rw [hconn] at hphase
    refine ⟨rfl, rfl, fun _ => ⟨rfl, htime⟩, fun h => absurd (beq_iff_eq.mp hphase) h⟩
  · rw [hconn] at hphase ⊢
    exact ⟨rfl, rfl, fun h => absurd (beq_iff_eq.mpr h) hphase, fun _ => rfl⟩

theorem State.beat_good {epochW stamp : Nat} (hlive : s.abaom.beat.live = true) (hepoch : epochW = s.abaom.beat.epoch)
    (hstamp : stamp < s.abaom.beat.deadline) :
    (s.beat epochW stamp).abaom = { s.abaom with beat := { s.abaom.beat with deadline := stamp + 800000000, last := stamp } }
      ∧ (s.beat epochW stamp).time.nearMiss = (if s.abaom.beat.deadline ≤ s.time.mt ∧ s.abaom.beat.deadline < stamp + 52 then
          (s.time.nearMiss + 1) % 2 ^ 64 else s.time.nearMiss) := by
  have hbeat : s.beat epochW stamp = (s.setAbaom { s.abaom with beat := s.abaom.beat.renew stamp }).nearMissed s.abaom.beat.deadline stamp :=
    if_pos ⟨hlive, hepoch, hstamp⟩
  have hmeets : (s.setAbaom { s.abaom with beat := s.abaom.beat.renew stamp }).meets s.abaom.beat.deadline stamp = true
      ↔ s.abaom.beat.deadline ≤ s.time.mt ∧ s.abaom.beat.deadline < stamp + 52 := by
    rw [State.meets, Bool.and_eq_true, decide_eq_true_eq, decide_eq_true_eq]
    rfl
  rw [hbeat]
  unfold State.nearMissed
  by_cases hm : s.abaom.beat.deadline ≤ s.time.mt ∧ s.abaom.beat.deadline < stamp + 52
  · rw [if_pos (hmeets.mpr hm), if_pos hm]
    exact ⟨rfl, rfl⟩
  · rw [if_neg fun h => hm (hmeets.mp h), if_neg hm]
    exact ⟨rfl, rfl⟩

theorem State.beat_stale {epochW stamp : Nat}
    (h : s.abaom.beat.live = false ∨ epochW ≠ s.abaom.beat.epoch ∨ s.abaom.beat.deadline ≤ stamp) :
    s.beat epochW stamp = s.setAbaom { s.abaom with beat := { s.abaom.beat with stale := min (s.abaom.beat.stale + 1) 0xFF } } := by
  refine if_neg ?_
  rintro ⟨hlive, hepoch, hstamp⟩
  obtain hdead | hother | hlate := h
  · rw [hdead] at hlive
    cases hlive
  · exact hother hepoch
  · omega

end Beats

/-! ### The end of a teardown (R686, R710) -/

section Ends

variable (s : State)

theorem State.frame_closeContext (c : Nat) : s.Within [.ctxs, .ctxsCore, .conn, .mbxs, .handsCore, .freeCtr, .outbox] (s.closeContext c) := by
  unfold State.closeContext
  split
  · exact .refl _ s
  · refine .foldl (fun u m => (u.frame_complete _ _ _).mono (by decide)) ?_ _
    exact ((s.frame_putCtx _ _).mono (by decide)).step (State.frame_complete _ _ _ _)

theorem State.closeContext_ctx (c : Nat) : ((s.closeContext c).ctx c).ending = (s.ctx c).ending
    ∧ ((s.closeContext c).ctx c).endMt = (s.ctx c).endMt := by
  unfold State.closeContext
  split
  · exact ⟨rfl, rfl⟩
  · have hends (l : List Nat) (u : State) : (l.foldl (fun t m => t.complete m stBadState []) u).ctxs = u.ctxs :=
      (State.Within.foldl (l := [.conn, .mbxs, .handsCore, .freeCtr, .outbox]) (fun u m => u.frame_complete m _ _) (.refl _ u) l).ctxs (by decide)
    rw [State.ctx_congr (hends _ _), State.ctx_congr ((State.frame_complete _ _ _ _).ctxs (by decide))]
    by_cases hlen : c < s.ctxs.length
    · rw [State.ctx_putCtx_same hlen]
      exact ⟨rfl, rfl⟩
    · have hsame : (s.putCtx c { s.ctx c with st := .closed, mbx := 0 }).ctxs = s.ctxs := List.set_eq_of_length_le (by omega)
      rw [State.ctx_congr hsame]
      exact ⟨rfl, rfl⟩

/-- The machine whose context's teardown has ended, before its notice. -/
def State.teardownEnded (s : State) (c : Nat) : State := (s.dropTranslations c).putCtx c { s.ctx c with endMt := s.mt, ending := false }

theorem State.endContext_eq {c : Nat} (hend : (s.ctx c).ending = true) (hpass : ∀ p ∈ s.abaom.passes, p.ctx ≠ c) (hexc : s.excOut c = false) :
    ∃ v, s.endContext c = v.closeContext c ∧ (s.teardownEnded c).Within [.conn, .mbxs, .freeCtr, .outbox, .obs] v := by
  have hgo : (!(s.ctx c).ending || (s.abaom.passes.any fun p => p.ctx == c) || s.excOut c) = false := by
    simpa [hend, hexc] using hpass
  unfold State.endContext
  dsimp only
  rw [if_neg (by rw [hgo]; decide)]
  split_ifs
  · exact ⟨_, rfl, .refl _ _⟩
  · exact ⟨_, rfl, State.frame_notify _ _ _ _ _ _ _ _⟩

/-- Steps 4 to 6 of a teardown (R686). -/
theorem State.endContext_leaves {c : Nat} (hc : c < s.ctxs.length) (hend : (s.ctx c).ending = true)
    (hpass : ∀ p ∈ s.abaom.passes, p.ctx ≠ c) (hexc : s.excOut c = false) :
    let t := s.endContext c
    (t.ctx c).ending = false ∧ (t.ctx c).endMt = s.time.mt ∧ (∀ e ∈ t.xlat.tlb, e.ctx ≠ c) ∧ (∀ x ∈ t.xlat.l1, x.entry.ctx ≠ c)
      ∧ t.abaom.passes = s.abaom.passes := by
  obtain ⟨v, heq, hv⟩ := s.endContext_eq hend hpass hexc
  have hctx : v.ctx c = { s.ctx c with endMt := s.mt, ending := false } :=
    (State.ctx_congr (hv.ctxs (by decide)) c).trans (State.ctx_putCtx_same (s := s.dropTranslations c) hc _)
  have hxlat : (v.closeContext c).xlat = (s.dropTranslations c).xlat :=
    ((v.frame_closeContext c).xlat (by decide)).trans (hv.xlat (by decide))
  have habaom : (v.closeContext c).abaom = s.abaom := ((v.frame_closeContext c).abaom (by decide)).trans (hv.abaom (by decide))
  obtain ⟨hending, hmt⟩ := v.closeContext_ctx c
  intro t
  rw [show t = v.closeContext c from heq, hending, hmt, hctx, hxlat, habaom]
  refine ⟨rfl, rfl, fun e he => ?_, fun x hx => ?_, rfl⟩
  · simpa using (List.mem_filter.mp he).2
  · simpa using (List.mem_filter.mp hx).2

theorem State.setAbaom_losses {l : List HostLoss} (h : s.abaom.losses = l) : s.setAbaom { s.abaom with losses := l } = s := by
  rw [← h]
  rfl

/-- HOST_LOST of the one host that was lost (R710 step 5). -/
theorem State.tellLosses_one {l : HostLoss} (h : s.abaom.losses = [l]) :
    (s.stillLosing l.epoch = true → s.tellLosses = s)
      ∧ (s.stillLosing l.epoch = false → s.tellLosses =
          (s.setAbaom { s.abaom with losses := [] }).notify [63] 9 stOk 0 l.mt l.flags [l.epoch]) := by
  refine ⟨fun hlosing => ?_, fun hdone => ?_⟩
  · unfold State.tellLosses
    simp only [h, List.filter_cons, hlosing, List.filter_nil, if_true, Bool.not_true, Bool.false_eq_true, if_false, List.foldl_nil]
    exact s.setAbaom_losses h
  · unfold State.tellLosses
    simp only [h, List.filter_cons, hdone, List.filter_nil, if_true, Bool.not_false, Bool.false_eq_true, if_false, List.foldl_cons,
      List.foldl_nil]

end Ends

/-- Settles O45: claims and losses by the teardowns that they begin, a teardown by what each of its releases leaves. -/
theorem hostAndTeardown : Obligations.HostAndTeardown := by
  unfold Obligations.HostAndTeardown
  intro s
  refine ⟨fun v stamp hup hclaim => ?_, fun v stamp hup hclaim hbeat => ⟨fun hlive hepoch hstamp => ?_, fun hstale => ?_⟩,
    fun harriving => ?_, fun hlive hdue harriving => ?_, fun c cause hc hlen => ⟨fun hst => ?_, fun hst => ?_, fun hst => ?_⟩,
    fun c hc hlen hend hpass hexc => s.endContext_leaves hlen hend hpass hexc, fun l hl => s.tellLosses_one hl⟩
  · obtain ⟨habaom, hctxs, hboot, hphase⟩ := s.claim_frame stamp
    obtain ⟨hlive, hepoch, hdeadline⟩ := s.claimed_beat stamp
    refine ⟨_, onEvent_of_true (c := s.hostUp && bitAt v 31) (Bool.and_eq_true_iff.mpr ⟨hup, hclaim⟩) (fun s => s.claim stamp) s, ?_⟩
    rw [habaom, hctxs]
    refine ⟨hlive, hepoch, hdeadline, fun hold c hc hown => ?_, fun hdead => s.claimed_ctxs stamp hdead, hboot, hphase⟩
    rw [State.ctx_congr hctxs]
    exact s.claimed_ctx stamp hc hold hown
  · obtain ⟨habaom, hnear⟩ := s.beat_good hlive hepoch hstamp
    have hfield : fieldNat v 15 0 = v.toNat % 2 ^ 16 := by rw [fieldNat_eq_div_mod, Nat.pow_zero, Nat.div_one]
    refine ⟨s.beat (v.toNat % 2 ^ 16) stamp, ?_, habaom, hnear⟩
    refine (onEvent_of_true (c := s.hostUp && bitAt v 30 && !(bitAt v 31)) ?_ (fun s => s.beat (fieldNat v 15 0) stamp) s).trans ?_
    · rw [hup, bitAt, bitAt, hbeat, hclaim]
      rfl
    · rw [hfield]
  · have hfield : fieldNat v 15 0 = v.toNat % 2 ^ 16 := by rw [fieldNat_eq_div_mod, Nat.pow_zero, Nat.div_one]
    refine (onEvent_of_true (c := s.hostUp && bitAt v 30 && !(bitAt v 31)) ?_ (fun s => s.beat (fieldNat v 15 0) stamp) s).trans ?_
    · rw [hup, bitAt, bitAt, hbeat, hclaim]
      rfl
    · rw [hfield, s.beat_stale hstale]
  · exact onEvent_of_false (c := s.abaom.beat.live && decide (s.abaom.beat.deadline ≤ s.mt) && !s.beatArriving) (by rw [harriving]; simp)
      (fun s => (s.setAbaom { s.abaom with beat := { s.abaom.beat with live := false } }).hostLoss s.abaom.beat.epoch stTimeout) s
  · have hmt : s.abaom.beat.deadline ≤ s.mt := hdue
    let u := s.setAbaom { s.abaom with beat := { s.abaom.beat with live := false } }
    refine ⟨u.hostLoss s.abaom.beat.epoch stTimeout,
      onEvent_of_true (c := s.abaom.beat.live && decide (s.abaom.beat.deadline ≤ s.mt) && !s.beatArriving)
        (by rw [hlive, harriving, decide_eq_true hmt]; rfl)
        (fun s => (s.setAbaom { s.abaom with beat := { s.abaom.beat with live := false } }).hostLoss s.abaom.beat.epoch stTimeout) s,
      u.hostLoss_beat _ _, fun c hc hown => (u.hostLoss_ctx _ _ hc).1 hown, fun c hc hother => (u.hostLoss_ctx _ _ hc).2 hother⟩
  · exact (onEvent_of_true (c := decide (c < 64)) (decide_eq_true hc) (fun s => s.teardown c cause) s).trans
      (congrArg Host.Outcome.next (s.teardown_closed cause hst))
  · exact (onEvent_of_true (c := decide (c < 64)) (decide_eq_true hc) (fun s => s.teardown c cause) s).trans
      (congrArg Host.Outcome.next (s.teardown_tornDown cause hst))
  · obtain ⟨htorn, hending, hcause, hfirst⟩ := s.teardown_cause cause hst hlen
    obtain ⟨hblocks, hwatches, hallocs, hlaunches, hties⟩ := s.teardown_released cause hst
    exact ⟨_, onEvent_of_true (c := decide (c < 64)) (decide_eq_true hc) (fun s => s.teardown c cause) s, htorn, hending, hcause, hfirst,
      hblocks, hwatches, hallocs, hlaunches, hties, fun d hd => (s.teardown_keeps c cause d).2.1 hd,
      congrArg TimeState.mt ((s.frame_teardown c cause).time (by decide)), (s.frame_teardown c cause).pending (by decide)⟩

end Sys2Proof.Machine
end

section
/-!
SUPPORT. Frames, continued: what the loss of a node, a flow or a port may change (R575, R590, R604).
-/

namespace Sys2Proof.Machine

set_option Elab.async false

section Losses

variable (s : State)

/-! ### Exceptions and faults -/

theorem State.frame_putFault (ctx slot : Nat) (r : List Word) : s.Within [.xlat, .xlatCore] (s.putFault ctx slot r) := s.frame_setXlat _

theorem State.frame_setRecord (ctx slot : Nat) (r : List Word) (rank : List Nat) : s.Within [.xlat, .xlatCore] (s.setRecord ctx slot r rank) :=
  (s.frame_putFault _ _ _).trans (State.frame_setXlat _ _)

theorem State.frame_joinFault (ctx slot va : Nat) (k : AccKind) (by_ : AccessBy) (engine : Engine) (n : Nat) :
    s.Within [.xlat, .xlatCore] (s.joinFault ctx slot va k by_ engine n) := by
  unfold State.joinFault
  exact .ite (s.frame_setRecord _ _ _ _) (s.frame_putFault _ _ _)

/-- What the record of a fault may change. -/
abbrev faultParts : List Part := [.xlat, .xlatCore, .obs, .conn, .mbxs, .freeCtr, .outbox]

theorem State.frame_recordFault (ctx va : Nat) (k : AccKind) (by_ : AccessBy) (engine : Engine) (f : FaultInfo) (n : Nat) :
    s.Within faultParts (s.recordFault ctx va k by_ engine f n).1 := by
  have hcounted (i : Nat) (r : List Word) (rank : List Nat) : s.Within faultParts ((s.setRecord ctx i r rank).count 20 1) :=
    ((s.frame_setRecord _ _ _ _).mono (by decide)).step (State.frame_count _ _ _)
  unfold State.recordFault
  dsimp only
  split
  · exact (s.frame_joinFault _ _ _ _ _ _ _).mono (by decide)
  · exact (hcounted _ _ _).step (State.frame_notify _ _ _ _ _ _ _ _)
  · split_ifs
    · exact hcounted _ _ _
    · exact (s.frame_joinFault _ _ _ _ _ _ _).mono (by decide)
    · exact .refl _ s

/-- What an exception may change. -/
abbrev excParts : List Part := .ctxsCore :: .compute :: storeParts

theorem State.frame_moreExceptions (ctx : Nat) : s.Within excParts (s.moreExceptions ctx) := by
  have hmore : s.Within excParts (s.putCtx ctx { s.ctx ctx with more := min ((s.ctx ctx).more + 1) 0xFFFF }) := (s.frame_putCtx _ _).mono (by decide)
  unfold State.moreExceptions
  dsimp only
  split_ifs
  · exact .refl _ s
  · split
    · exact hmore.step (State.frame_hubWrite _ _ _)
    · split
      · exact .ite (hmore.step (State.frame_cpStore _ _ _ _ _)) hmore
      · exact hmore

theorem State.frame_capture (ctx : Nat) (x : PendingExc) : s.Within excParts (s.capture_ ctx x) := by
  have hput (c : Context) : s.Within excParts (s.putCtx ctx c) := (s.frame_putCtx _ _).mono (by decide)
  unfold State.capture_
  dsimp only
  split
  · exact hput _
  · exact .ite ((hput _).step (State.frame_moreExceptions _ _)) (s.frame_moreExceptions _)
  · exact s.frame_moreExceptions _

theorem State.frame_takeException (b : Block) (x : Exc) (e : ExcSite) : s.Within excParts (s.takeException b x e) := by
  unfold State.takeException
  exact ((s.frame_setCompute _).mono (by decide)).step (State.frame_capture _ _ _)

/-! ### The end of an operation (R465, R590, R606) -/

/-- What the end of an operation that failed may change. -/
abbrev endParts : List Part := [.ctxs, .ctxsCore, .share, .xlat, .xlatCore, .fab, .mem, .monu, .monuCore, .obs, .outbox, .joined, .stakes, .compute,
  .abaom, .abaomCore, .conn, .mbxs, .handsCore, .freeCtr]

theorem State.frame_tieFault (ctx va node window : Nat) (k : AccKind) (blk grp cluster : Nat) (engine : Engine) (e : FlowEnd)
    (site : Option ExcSite) : s.Within endParts (s.tieFault ctx va node window k blk grp cluster engine e site) := by
  unfold State.tieFault
  split_ifs
  · exact (s.frame_moreExceptions _).mono (by decide)
  · dsimp only
    split
    · exact ((s.frame_recordFault _ _ _ _ _ _ _).mono (by decide)).step (State.frame_takeException _ _ _ _)
    · exact ((s.frame_recordFault _ _ _ _ _ _ _).mono (by decide)).step (State.frame_teardown _ _ _)

theorem State.frame_loseRecord (watch k status : Nat) : s.Within [.abaom, .abaomCore] (s.loseRecord watch k status) := by
  unfold State.loseRecord
  split
  · exact .ite (.refl _ s) (s.frame_putPass _)
  · exact .refl _ s

theorem State.frame_unrecord (watch k : Nat) : s.Within [.abaom, .abaomCore] (s.unrecord watch k) := by
  unfold State.unrecord
  split
  · split
    · exact .ite (s.frame_putPass _) (.refl _ s)
    · exact .refl _ s
  · exact .refl _ s

theorem State.frame_entryFault (watch k ctx va : Nat) : s.Within endParts (s.entryFault watch k ctx va) := by
  have hcapture (x : PendingExc) : s.Within endParts (s.capture_ ctx x) := (s.frame_capture _ _).mono (by decide)
  unfold State.entryFault
  dsimp only
  split
  · exact hcapture _
  · split
    · exact hcapture _
    · exact .ite (hcapture _) (((hcapture _).step (State.frame_putPass _ _)).step (State.frame_endEntry _ _ _ _ _))

theorem State.frame_tieReadFault (o : TieOp) (e : FlowEnd) : s.Within endParts (s.tieReadFault o e) := by
  have hrecord (va : Nat) (k : AccKind) (by_ : AccessBy) (engine : Engine) (f : FaultInfo) :
      s.Within endParts (s.recordFault o.ctx va k by_ engine f 1).1 := (s.frame_recordFault _ _ _ _ _ _ _).mono (by decide)
  have hfail (u : State) (hu : s.Within endParts u) (b : Option Block) (site : Block → ExcSite) : s.Within endParts
      (match b with | some b => u.takeException b .translation (site b) | none => u.teardown o.ctx stTranslationFault) := by
    cases b with
    | some b => exact hu.step (State.frame_takeException _ _ _ _)
    | none => exact hu.step (State.frame_teardown _ _ _)
  unfold State.tieReadFault
  split_ifs
  · exact (s.frame_moreExceptions _).mono (by decide)
  · split
    · exact (s.frame_endMonument _ _).mono (by decide)
    · dsimp only
      split
      · exact hfail _ (hrecord _ _ _ _ _) _ _
      · exact hfail _ (hrecord _ _ _ _ _) _ _
      · exact hfail _ (hrecord _ _ _ _ _) _ _
      · exact (hrecord _ _ _ _ _).step (State.frame_entryFault _ _ _ _ _)
      · exact (hrecord _ _ _ _ _).step (State.frame_teardown _ _ _)
      · exact (hrecord _ _ _ _ _).step (State.frame_endMonument _ _ _)

theorem State.frame_cpTieFault (ctx va node window : Nat) (e : FlowEnd) : s.Within faultParts (s.cpTieFault ctx va node window e) :=
  s.frame_recordFault _ _ _ _ _ _ _

theorem State.frame_breakMonument (id : Nat) (layer : Option Nat) (status : Nat) : s.Within endedParts (s.breakMonument id layer status) := by
  unfold State.breakMonument
  split
  · exact .refl _ s
  · exact .ite (.refl _ s) (.ite (s.frame_endMonument _ _) ((s.frame_putMonument _).mono (by decide)))

theorem State.frame_negativeAck (job status node : Nat) : s.Within endParts (s.negativeAck job status node) := by
  have hput (v : JoinedState) : s.Within endParts (s.setJoined v) := (s.frame_setJoined v).mono (by decide)
  unfold State.negativeAck
  split
  · exact .refl _ s
  · split_ifs
    · exact .refl _ s
    · dsimp only
      split
      · exact (hput _).step (State.frame_ctrl _ _ _ _)
      · exact ((hput _).step (State.frame_setJoined _ _)).step (State.frame_complete _ _ _ _)
      · exact hput _

theorem State.frame_settleInvs : s.Within [.xlat, .xlatCore, .conn, .mbxs, .handsCore, .freeCtr, .outbox] s.settleInvs := by
  unfold State.settleInvs
  exact .foldl (fun u i => (u.frame_complete _ _ _).mono (by decide)) ((s.frame_setXlat _).mono (by decide)) _

theorem State.frame_endOp (node : Nat) (op : FlowOp) (e : FlowEnd) : s.Within endParts (s.endOp node op e) := by
  have htold (l : List Nat) (ws : Nat → List Nat) (op' : Nat → FlowOp) :
      s.Within endParts (l.foldl (fun t c => t.ctrl c (ws c) (op' c)) s) :=
    .foldl (fun u c => (u.frame_ctrl _ _ _).mono (by decide)) (.refl _ s) _
  have hfault (ctx va window : Nat) : s.Within endParts (s.cpTieFault ctx va node window e) := (s.frame_cpTieFault _ _ _ _ _).mono (by decide)
  unfold State.endOp
  split
  · exact .refl _ s
  · exact s.frame_tieFault _ _ _ _ _ _ _ _ _ _ _
  · split
    · exact .refl _ s
    · exact ((s.frame_setXlat _).mono (by decide)).step (State.frame_tieReadFault _ _ _)
  · exact .ite ((s.frame_moreExceptions _).mono (by decide)) ((hfault _ _ _).step (State.frame_entryFault _ _ _ _ _))
  · split_ifs
    · exact ((s.frame_unrecord _ _).mono (by decide)).step (State.frame_loseRecord _ _ _ _)
    · exact (((hfault _ _ _).step (State.frame_unrecord _ _ _)).step (State.frame_loseRecord _ _ _ _)).step (State.frame_teardown _ _ _)
  · exact .refl _ s
  · exact .ite ((s.frame_complete _ _ _).mono (by decide)) (.refl _ s)
  · exact s.frame_negativeAck _ _ _
  · split
    · exact htold _ (fun _ => _) (fun _ => _)
    · split
      · exact htold _ (fun _ => _) (fun _ => _)
      · exact .refl _ s
  · split
    · exact (s.frame_collEnd _ _).mono (by decide)
    · exact .refl _ s
  · exact (s.frame_breakMonument _ _ _).mono (by decide)
  · split
    · exact ((s.frame_setMonu _).mono (by decide)).step (State.frame_breakMonument _ _ _ _)
    · exact .refl _ s
  · exact .refl _ s

theorem State.frame_endOps (ops : List (Nat × FlowOp)) (e : FlowEnd) : s.Within endParts (s.endOps ops e) :=
  State.Within.step (.foldl (fun u p => u.frame_endOp _ _ _) (.refl _ s) _) (State.frame_settleInvs _)

theorem State.frame_endTies (node : Nat) (e : FlowEnd) : s.Within endParts (s.endTies node e) :=
  .foldl (fun u _ => u.frame_endOp _ _ _) (.refl _ s) _

theorem State.frame_endColls (node status : Nat) : s.Within endParts (s.endColls node status) :=
  .foldl (fun u c => (u.frame_collEnd _ _).mono (by decide)) (.refl _ s) _

/-! ### The loss of a node, a flow or a port (R575, R590, R604) -/

/-- The fabric's flows and lost nodes alone change. -/
theorem State.frame_setFab_core {v : FabricState} (h : coreFab v = coreFab s.fab) : s.Within [.fab] (s.setFab v) := by
  constructor <;> simp [h]

theorem State.frame_setUnreachable (l : List Nat) : s.Within [.fab] (s.setFab { s.fab with unreachable := l }) := s.frame_setFab_core rfl

theorem State.frame_setSends (l : List SendFlow) : s.Within [.fab] (s.setFab { s.fab with sends := l }) := s.frame_setFab_core rfl

theorem State.frame_dropFlows (sel : Nat → Bool) : s.Within [.fab] (s.dropFlows sel).1 := s.frame_setFab_core rfl

theorem State.frame_nextClaim (f : Fill) : s.Within (.monuCore :: sendParts) (s.nextClaim f) := by
  unfold State.nextClaim
  split
  · exact (s.frame_setMonu _).mono (by decide)
  · exact ((s.frame_setMonu _).mono (by decide)).step (State.frame_fillMessage _ _ _ _ _ _)

theorem State.frame_dropClaims (sel : Nat → Bool) : s.Within (.monuCore :: sendParts) (s.dropClaims sel) := by
  unfold State.dropClaims
  refine .foldl (fun u f => ?_) (.refl _ s) _
  dsimp only
  split
  · exact .ite (u.frame_nextClaim _) ((u.frame_setMonu _).mono (by decide))
  · exact .refl _ u

theorem State.frame_markLost (node : Nat) : s.Within endParts (s.markLost node) := by
  unfold State.markLost
  split_ifs
  · exact .refl _ s
  · have hmark : s.Within endParts (s.setFab { s.fab with unreachable := node :: s.fab.unreachable }) :=
      (s.frame_setUnreachable _).mono (by decide)
    exact (((((hmark.step (State.frame_dropFlows _ _)).step (State.frame_dropClaims _ _)).step (State.frame_endOps _ _ _)).step
      (State.frame_endTies _ _ _)).step (State.frame_endColls _ _ _)).step (State.frame_settleInvs _)

theorem State.frame_loseNode (node : Nat) : s.Within endParts (s.loseNode node) := by
  unfold State.loseNode
  exact .ite (.refl _ s) ((s.frame_markLost _).step (State.frame_notify _ _ _ _ _ _ _ _))

theorem State.frame_flowLost (fl : SendFlow) : s.Within endParts (s.flowLost fl) := by
  unfold State.flowLost
  exact ((s.frame_setSends _).mono (by decide)).step (State.frame_endOps _ _ _)

theorem State.frame_resend (fl : SendFlow) (expect : Nat) : s.Within endParts (s.resend fl expect) := by
  unfold State.resend
  dsimp only
  refine .ite (s.frame_flowLost _) ?_
  exact .foldl (fun u x => ((u.frame_sendRegulated _ _ _).mono (by decide)).step (State.frame_count _ _ _))
    ((s.frame_putSend _).mono (by decide)) _

theorem State.frame_measurePort (port want : Nat) (limit : Option Nat) : s.Within [.time] (s.measurePort port want limit) := s.frame_setTime _

theorem State.frame_reparent : s.Within [.time] s.reparent := by
  unfold State.reparent
  split
  · exact (s.frame_setTime _).trans (State.frame_measurePort _ _ _ _)
  · exact .refl _ s

/-- A port that is lost: it is LOST, and no other port changes its state. -/
theorem State.frame_portLost (p : Nat) : (s.putPort p { s.port p with st := .lost }).Within (.time :: endParts) (s.portLost p) := by
  let u := s.putPort p { s.port p with st := .lost }
  have hnodes (l : List Nat) (t : State) (h : u.Within (.time :: endParts) t) : u.Within (.time :: endParts) (l.foldl State.loseNode t) :=
    .foldl (fun v n => (v.frame_loseNode n).mono (by decide)) h _
  have hflows (l : List SendFlow) (t : State) (h : u.Within (.time :: endParts) t) :
      u.Within (.time :: endParts) (l.foldl (fun t fl => t.resend fl fl.oldest) t) :=
    .foldl (fun v fl => (v.frame_resend fl _).mono (by decide)) h _
  unfold State.portLost
  dsimp only
  have hlost := hflows
    ((((u.nodesOver p).eraseDups.foldl State.loseNode
      (u.setShare { u.share with waits := u.share.waits.filter fun w => !(w.frame.isSome && w.point == 16 + p) })).fab.sends.filter fun fl =>
        fl.port == p && !fl.silent && !fl.unacked.isEmpty)) _
    (hnodes (u.nodesOver p).eraseDups _ ((u.frame_setShare { u.share with waits := u.share.waits.filter fun w => !(w.frame.isSome && w.point == 16 + p) }).mono (by decide)))
  exact .ite (hlost.step (State.frame_reparent _)) hlost

end Losses

end Sys2Proof.Machine
end

section
/-!
PROOF. O41: failing rails and clusters (R24, R50 to R55, R719, R800), and the paths through the package (R32, R33).
-/

namespace Sys2Proof.Machine

set_option Elab.async false

/-! ### Bits that are cleared -/

theorem getLsbD_clear {w : Nat} (x : BitVec w) {i : Nat} : (x &&& ~~~(BitVec.twoPow w i)).getLsbD i = false := by
  by_cases hi : i < w
  · simp [hi]
  · simp [BitVec.getLsbD_of_ge, Nat.le_of_not_lt hi]

theorem getLsbD_clear_other {w : Nat} (x : BitVec w) {i k : Nat} (h : k ≠ i) :
    (x &&& ~~~(BitVec.twoPow w i)).getLsbD k = x.getLsbD k := by
  by_cases hk : k < w
  · simp [hk, h]
  · simp [BitVec.getLsbD_of_ge, Nat.le_of_not_lt hk]

theorem getLsbD_clear_pair {w : Nat} (x : BitVec w) (i j : Nat) :
    (x &&& ~~~(BitVec.twoPow w i ||| BitVec.twoPow w j)).getLsbD i = false
      ∧ (x &&& ~~~(BitVec.twoPow w i ||| BitVec.twoPow w j)).getLsbD j = false := by
  constructor
  · by_cases hi : i < w
    · simp [hi]
    · simp [BitVec.getLsbD_of_ge, Nat.le_of_not_lt hi]
  · by_cases hj : j < w
    · simp [hj]
    · simp [BitVec.getLsbD_of_ge, Nat.le_of_not_lt hj]

/-! ### Paths through the package (R32, R33) -/

theorem mem_dropLast_cons {α : Type} {a x : α} {l : List α} (h : x ∈ (a :: l).dropLast) : x = a ∨ x ∈ l.dropLast := by
  cases l with
  | nil => simp at h
  | cons b l => exact List.mem_cons.mp h

/-- Within a path on from a die, every die but the last is a base die. -/
theorem State.pathFrom_inner (s : State) (dst : Nat) : ∀ (fuel d : Nat) (l : List Nat), s.pathFrom dst fuel d = some l → ∀ x ∈ l.dropLast, x < 8
  | 0, _, _, h => nomatch h
  | fuel + 1, d, l, h => by
    rw [State.pathFrom] at h
    split_ifs at h with hd hbase
    · injection h with h
      simp [← h]
    · split at h
      · obtain ⟨m, hm, rfl⟩ := Option.map_eq_some_iff.mp h
        intro x hx
        rcases mem_dropLast_cons hx with rfl | hmem
        · exact Nat.lt_of_not_le hbase
        · exact State.pathFrom_inner s dst fuel _ m hm x hmem
      · exact nomatch h

/-- The shortest of some paths is one of them. -/
theorem shorter_foldl : ∀ (l : List (Option (List Nat))) (p : Option (List Nat)), l.foldl shorter p = p ∨ l.foldl shorter p ∈ l
  | [], _ => .inl rfl
  | q :: l, p => by
    have hone : shorter p q = p ∨ shorter p q = q := by
      unfold shorter
      split <;> try split_ifs
      all_goals simp
    rcases shorter_foldl l (shorter p q) with h | h
    · rcases hone with hp | hq
      · exact .inl (h.trans hp)
      · exact .inr (List.mem_cons.mpr (.inl (h.trans hq)))
    · exact .inr (List.mem_cons_of_mem _ h)

theorem mem_tail_dropLast {α : Type} {l : List α} {x : α} (h : x ∈ l.tail.dropLast) : x ∈ l.dropLast := by
  cases l with
  | nil => simp at h
  | cons a l =>
    cases l with
    | nil => simp at h
    | cons b l => exact List.mem_cons_of_mem _ h

/-- A path from one die to another passes over base dies alone. -/
theorem State.diePath_inner (s : State) {a b : Nat} {l : List Nat} (h : s.diePath a b = some l) : ∀ x ∈ l.tail.dropLast, x < 8 := by
  unfold State.diePath at h
  split_ifs at h with hab ha
  · injection h with h
    simp [← h]
  · exact fun x hx => s.pathFrom_inner b 10 a l h x (mem_tail_dropLast hx)
  · rcases shorter_foldl ((routeEnds s.linkInUse s.ids.baseLive a).map fun d => (s.pathFrom b 10 d).map (a :: ·)) none with hnone | hone
    · exact nomatch h.symm.trans hnone
    · rw [h] at hone
      obtain ⟨d, -, hd⟩ := List.mem_map.mp hone
      obtain ⟨m, hm, rfl⟩ := Option.map_eq_some_iff.mp hd
      exact s.pathFrom_inner b 10 d m hm

section Parts

variable (s : State)

/-! ### Contexts torn down with a part -/

theorem State.frame_tearResident (on : Nat → Bool) : s.Within tearParts (s.tearResident on) :=
  .foldl (fun u c => u.frame_teardown c stHwFault) (.refl _ s) _

/-- Where no block lies on the clusters, nothing is torn down. -/
theorem State.tearResident_none {on : Nat → Bool} (h : ∀ b ∈ s.compute.blocks, on b.cluster = false) : s.tearResident on = s := by
  have hnone : (s.compute.blocks.filter fun b => on b.cluster) = [] :=
    List.filter_eq_nil_iff.mpr fun b hb => by rw [h b hb]; decide
  unfold State.tearResident
  rw [hnone]
  rfl

/-- The teardown of contexts one after another opens none, and leaves none of them open. -/
theorem State.teardown_foldl (cause : Nat) (l : List Nat) (t : State) (d : Nat) (h : d ∈ l ∨ (t.ctx d).st ≠ .opened) :
    ((l.foldl (fun t c => t.teardown c cause) t).ctx d).st ≠ .opened := by
  induction l generalizing t with
  | nil => exact h.elim (fun hm => absurd hm (by simp)) id
  | cons c l ih =>
    obtain ⟨-, hst, hclosed⟩ := t.teardown_keeps c cause d
    refine ih _ ?_
    by_cases hd : d = c
    · exact .inr (hd ▸ hclosed)
    · rcases h with hmem | hopen
      · exact .inl ((List.mem_cons.mp hmem).resolve_left hd)
      · exact .inr ((hst hd).symm ▸ hopen)

/-! ### Dies that leave service (R51, R53, R719) -/

theorem State.dropCompute_ids (d : Nat) : (s.dropCompute d).ids = { s.ids with
    computeLive := s.ids.computeLive &&& ~~~(BitVec.twoPow 8 d), clusterLive := s.ids.clusterLive.set d 0 } :=
  ((State.frame_tearResident _ _).ids (by decide)).trans rfl

theorem State.dropCompute_conn (d : Nat) : s.Alerts (s.dropCompute d) :=
  .of_core (((State.frame_tearResident _ _).connCore (by decide)).trans rfl)

/-- The identity and routes without a base die and what it carries. -/
def State.idsWithoutBase (d : Nat) : IdState := { s.ids with
  baseLive := s.ids.baseLive &&& ~~~(BitVec.twoPow 8 d), computeLive := s.ids.computeLive &&& ~~~(BitVec.twoPow 8 d),
  clusterLive := s.ids.clusterLive.set d 0,
  stackLive := s.ids.stackLive &&& ~~~(BitVec.twoPow 16 (2 * d) ||| BitVec.twoPow 16 (2 * d + 1)),
  routes := routeTables s.linkInUse (s.ids.baseLive &&& ~~~(BitVec.twoPow 8 d)) }

/-- Every context torn down with HW_FAULT, one after another. -/
def State.tornEach (l : List Nat) : State := l.foldl (fun t c => t.teardown c stHwFault) s

theorem State.dropBase_eq (d : Nat) : s.dropBase d = ((s.setIds (s.idsWithoutBase d)).fenceLinks d).tornEach (List.range 64) := rfl

theorem State.frame_dropBase (d : Nat) : (s.setIds (s.idsWithoutBase d)).Within (.dies :: tearParts) (s.dropBase d) := by
  have hfold (l : List Nat) (t : State) : t.Within tearParts (l.foldl (fun t c => t.teardown c stHwFault) t) :=
    .foldl (fun u c => u.frame_teardown c stHwFault) (.refl _ t) _
  exact ((State.frame_fenceLinks _ d).mono (by decide)).trans ((hfold (List.range 64) _).mono (by decide))

theorem State.dropBase_ids (d : Nat) : (s.dropBase d).ids = s.idsWithoutBase d := (s.frame_dropBase d).ids (by decide)

theorem State.dropBase_conn (d : Nat) : s.Alerts (s.dropBase d) :=
  .of_core (((s.frame_dropBase d).connCore (by decide)).trans rfl)

theorem State.dropBase_ctx (d : Nat) {c : Nat} (hc : c < 64) : ((s.dropBase d).ctx c).st ≠ .opened := by
  rw [State.dropBase_eq]
  exact State.teardown_foldl stHwFault (List.range 64) _ c (.inl (List.mem_range.mpr hc))

/-! ### An optical engine that leaves service (R604, R719) -/

/-- One port of an engine that leaves service. -/
def State.dropPort (p : Nat) : State :=
  let t := if (s.port p).st == .up then s.portLost p else s
  t.putPort p { t.port p with st := .down }

theorem State.dropOptical_eq (k : Nat) : s.dropOptical k =
    (List.range 8).foldl (fun t i => t.dropPort (8 * k + i))
      (s.setIds { s.ids with optLive := s.ids.optLive &&& ~~~(BitVec.twoPow 4 k) }) := rfl

/-- The states of the ports. -/
def portStates (l : List Port) : List PortSt := l.map Port.st

theorem portStates_of_core {f g : FabricState} (h : coreFab f = coreFab g) : portStates f.ports = portStates g.ports := by
  have hports := congrArg (List.map Port.st) (congrArg FabricState.ports h)
  simp only [coreFab, List.map_map] at hports
  exact hports

theorem State.port_st (p : Nat) : (s.port p).st = nth (portStates s.fab.ports) p Port.reset.st := (nth_map Port.st _ _ _).symm

theorem portStates_set (l : List Port) (p : Nat) (x : Port) : portStates (l.set p x) = (portStates l).set p x.st := List.map_set

theorem State.dropPort_states (p : Nat) : portStates (s.dropPort p).fab.ports = (portStates s.fab.ports).set p .down := by
  have hput (t : State) : portStates (t.putPort p { t.port p with st := .down }).fab.ports = (portStates t.fab.ports).set p .down :=
    portStates_set _ _ _
  unfold State.dropPort
  dsimp only
  rw [hput]
  split_ifs
  · rw [portStates_of_core ((s.frame_portLost p).fabCore (by decide))]
    exact (congrArg (List.set · p .down) (portStates_set _ _ _)).trans (List.set_set ..)
  · rfl

/-- What the loss of an engine's ports may change. -/
abbrev opticalParts : List Part := .time :: .fabCore :: endParts

theorem State.frame_dropPort (p : Nat) : s.Within opticalParts (s.dropPort p) := by
  have hlost : s.Within opticalParts (s.portLost p) := ((s.frame_putPort _ _).mono (by decide)).trans ((s.frame_portLost p).mono (by decide))
  exact State.Within.step (State.Within.ite hlost (.refl _ s)) (State.frame_putPort _ _ _)

theorem State.frame_dropOptical (k : Nat) :
    (s.setIds { s.ids with optLive := s.ids.optLive &&& ~~~(BitVec.twoPow 4 k) }).Within opticalParts (s.dropOptical k) :=
  .foldl (fun u i => u.frame_dropPort (8 * k + i)) (.refl _ _) _

theorem State.dropOptical_conn (k : Nat) : s.Alerts (s.dropOptical k) :=
  .of_core (((s.frame_dropOptical k).connCore (by decide)).trans rfl)

theorem State.dropPort_foldl (k : Nat) (l : List Nat) (t : State) :
    portStates (l.foldl (fun t i => t.dropPort (8 * k + i)) t).fab.ports
      = l.foldl (fun x i => x.set (8 * k + i) .down) (portStates t.fab.ports) := by
  induction l generalizing t with
  | nil => rfl
  | cons i l ih =>
    rw [List.foldl_cons, List.foldl_cons, ih, State.dropPort_states]

/-- Elements set one after another hold what they were set to. -/
theorem nth_foldl_set {α : Type} (g : Nat → Nat) (v d : α) (l : List Nat) (x : List α) {i : Nat} (hi : i < x.length)
    (h : (∃ j ∈ l, g j = i) ∨ nth x i d = v) : nth (l.foldl (fun x j => x.set (g j) v) x) i d = v := by
  induction l generalizing x with
  | nil => exact h.elim (fun ⟨j, hj, _⟩ => absurd hj (by simp)) id
  | cons j l ih =>
    refine ih (x.set (g j) v) (by rwa [List.length_set]) ?_
    by_cases hji : g j = i
    · exact .inr (by simp [nth, hji, hi])
    · rcases h with ⟨m, hm, hmi⟩ | hv
      · rcases List.mem_cons.mp hm with rfl | hml
        · exact absurd hmi hji
        · exact .inl ⟨m, hml, hmi⟩
      · exact .inr (by simpa [nth, hji] using hv)

theorem State.dropOptical_port {k i : Nat} (hlen : s.fab.ports.length = 32) (hk : k < 4) (hi : i < 8) :
    ((s.dropOptical k).port (8 * k + i)).st = .down := by
  rw [State.port_st, State.dropOptical_eq, State.dropPort_foldl]
  refine nth_foldl_set (fun i => 8 * k + i) _ _ _ _ ?_ (.inl ⟨i, List.mem_range.mpr hi, rfl⟩)
  rw [portStates, List.length_map, State.setIds_fab, hlen]
  omega

/-! ### Rails and clusters that fail (R24, R719, R800) -/

/-- The machine that a rail's fault finds: the event raised, and the rail among those at fault. -/
def State.railNoted (r : Rail) : State :=
  (s.raiseEvent 0x60 1).setConn { (s.raiseEvent 0x60 1).conn with faulted := r :: (s.raiseEvent 0x60 1).conn.faulted }

theorem State.frame_railNoted (r : Rail) : s.Within [.conn, .connCore, .outbox] (s.railNoted r) :=
  State.Within.step (s.frame_raiseEvent 0x60 1) (State.frame_setConn _ _)

/-- Past its alerts, a machine's event and rails at fault are those that the rail's fault left. -/
theorem State.railNoted_conn {r : Rail} {t : State} (h : (s.railNoted r).Alerts t) :
    (∃ l, t.conn.events = l ++ [⟨0x60, 1, s.conn.nextEvent⟩]) ∧ t.conn.nextEvent = s.conn.nextEvent + 1 ∧ r ∈ t.conn.faulted := by
  have hconn : t.conn = { s.conn with
      events := s.conn.events ++ [⟨0x60, 1, s.conn.nextEvent⟩], nextEvent := s.conn.nextEvent + 1,
      faulted := r :: s.conn.faulted, imsic := t.conn.imsic, doneUnread := t.conn.doneUnread } := by
    unfold State.Alerts at h
    rw [h, State.railNoted, State.setConn_conn, s.raiseEvent_conn]
  rw [hconn]
  exact ⟨⟨_, rfl⟩, rfl, List.mem_cons_self⟩

theorem State.railFault_compute (d : Nat) : s.railFault (.compute d) = (s.railNoted (.compute d)).dropCompute d := rfl
theorem State.railFault_base (d : Nat) : s.railFault (.base d) = (s.railNoted (.base d)).dropBase d := rfl
theorem State.railFault_memory (d : Nat) : s.railFault (.memory d) = (s.railNoted (.memory d)).dropBase d := rfl
theorem State.railFault_proc (p : Nat) : s.railFault (.proc p) = (s.railNoted (.proc p)).dropProc p := rfl
theorem State.railFault_optical (k : Nat) : s.railFault (.optical k) = (s.railNoted (.optical k)).dropOptical k := rfl

/-- A rail's fault raises its event (R836), and is kept but for one that resets the module. -/
theorem State.railFault_conn {r : Rail} (hr : r ≠ .standby) (hex : railExists r = true) :
    (∃ l, (s.railFault r).conn.events = l ++ [⟨0x60, 1, s.conn.nextEvent⟩]) ∧ (s.railFault r).conn.nextEvent = s.conn.nextEvent + 1
      ∧ (r ≠ .hub → r ≠ .flash → r ∈ (s.railFault r).conn.faulted) := by
  have hreset : (∃ l, (s.raiseEvent 0x60 1).moduleReset.conn.events = l ++ [⟨0x60, 1, s.conn.nextEvent⟩])
      ∧ (s.raiseEvent 0x60 1).moduleReset.conn.nextEvent = s.conn.nextEvent + 1 :=
    ⟨⟨_, congrArg ModuleState.events (s.raiseEvent_conn 0x60 1)⟩, congrArg ModuleState.nextEvent (s.raiseEvent_conn 0x60 1)⟩
  have hnoted {t : State} (h : (s.railNoted r).Alerts t) : (∃ l, t.conn.events = l ++ [⟨0x60, 1, s.conn.nextEvent⟩])
      ∧ t.conn.nextEvent = s.conn.nextEvent + 1 ∧ (r ≠ .hub → r ≠ .flash → r ∈ t.conn.faulted) := by
    obtain ⟨hevents, hnext, hin⟩ := s.railNoted_conn h
    exact ⟨hevents, hnext, fun _ _ => hin⟩
  cases r with
  | standby => exact absurd rfl hr
  | hub => exact ⟨hreset.1, hreset.2, fun h => absurd rfl h⟩
  | flash => exact ⟨hreset.1, hreset.2, fun _ h => absurd rfl h⟩
  | compute d => rw [s.railFault_compute]; exact hnoted ((s.railNoted (.compute d)).dropCompute_conn d)
  | base d => rw [s.railFault_base]; exact hnoted ((s.railNoted (.base d)).dropBase_conn d)
  | memory d => rw [s.railFault_memory]; exact hnoted ((s.railNoted (.memory d)).dropBase_conn d)
  | proc p => exact hnoted (.of_same rfl)
  | optical k => rw [s.railFault_optical]; exact hnoted ((s.railNoted (.optical k)).dropOptical_conn k)

/-- What a machine without a base die is left with (R51, R800). -/
theorem State.dropBase_leaves (d : Nat) : (s.dropBase d).ids.baseLive.getLsbD d = false
    ∧ (s.dropBase d).ids.routes = routeTables s.linkInUse (s.dropBase d).ids.baseLive ∧ (s.dropBase d).ids.computeLive.getLsbD d = false
    ∧ (s.dropBase d).ids.stackLive.getLsbD (2 * d) = false ∧ (s.dropBase d).ids.stackLive.getLsbD (2 * d + 1) = false
    ∧ ∀ c < 64, ((s.dropBase d).ctx c).st ≠ .opened := by
  have hstacks := getLsbD_clear_pair s.ids.stackLive (2 * d) (2 * d + 1)
  rw [s.dropBase_ids d]
  exact ⟨getLsbD_clear _, rfl, getLsbD_clear _, hstacks.1, hstacks.2, fun c hc => s.dropBase_ctx d hc⟩

theorem State.clusterFault_ids (c : Nat) : (s.clusterFault c).ids = { s.ids with
    clusterLive := s.ids.clusterLive.modify (c / 24) fun v => v &&& ~~~(BitVec.twoPow 24 (c % 24)) } :=
  ((State.frame_tearResident _ _).ids (by decide)).trans rfl

end Parts

theorem nth_modify_same {α : Type} (l : List α) {i : Nat} (f : α → α) (d : α) (hi : i < l.length) : nth (l.modify i f) i d = f (nth l i d) := by
  simp [nth, hi]

theorem nth_set_default {α : Type} (l : List α) (i : Nat) (d : α) : nth (l.set i d) i d = d := by
  by_cases hi : i < l.length
  · simp [nth, hi]
  · simp [nth, Nat.le_of_not_lt hi]

/-- Settles O41: a rail's fault by the part that it drops, and a path's inner dies along its fuel. -/
theorem partsFail : Obligations.PartsFail := by
  unfold Obligations.PartsFail
  intro s
  refine ⟨fun hon => ?_, fun hon hup r hr hex => ?_, fun a b l h => s.diePath_inner h, fun c hc hlen => ?_⟩
  · exact onEvent_of_true (c := railExists .standby && s.conn.phase != .off && (s.conn.railsUp || Rail.standby == .standby))
      (by rw [bne_iff_ne.mpr hon]; simp [railExists]) (fun s => s.railFault .standby) s
  · refine ⟨s.railFault r, onEvent_of_true (c := railExists r && s.conn.phase != .off && (s.conn.railsUp || r == .standby))
      (by rw [hex, bne_iff_ne.mpr hon, hup]; rfl) (fun s => s.railFault r) s, ?_⟩
    obtain ⟨hevents, hnext, hfault⟩ := s.railFault_conn hr hex
    have hframe := s.frame_railNoted r
    have hids : (s.railNoted r).ids = s.ids := hframe.ids (by decide)
    refine ⟨hevents, hnext, ?_, ?_, ?_, ?_, ?_⟩
    · rintro (rfl | rfl)
      · exact ⟨rfl, rfl, rfl⟩
      · exact ⟨rfl, rfl, rfl⟩
    · rintro d rfl
      have hdrop : (s.railFault (.compute d)).ids = _ := (s.railNoted (.compute d)).dropCompute_ids d
      rw [hids] at hdrop
      rw [hdrop]
      exact ⟨hfault nofun nofun, getLsbD_clear _, rfl, rfl, nth_set_default _ _ _⟩
    · intro d hrail
      have hlinks : (s.railNoted r).linkInUse = s.linkInUse := by
        unfold State.linkInUse
        rw [hframe.dies (by decide)]
      have hdrop := (s.railNoted r).dropBase_leaves d
      rw [hlinks] at hdrop
      have hin : r ∈ (s.railFault r).conn.faulted := by rcases hrail with rfl | rfl <;> exact hfault nofun nofun
      have heq : s.railFault r = (s.railNoted r).dropBase d := by
        rcases hrail with rfl | rfl
        · exact s.railFault_base d
        · exact s.railFault_memory d
      rw [heq] at hin ⊢
      exact ⟨hin, hdrop⟩
    · rintro p rfl
      have hdrop : (s.railFault (.proc p)).ids = { (s.railNoted (.proc p)).ids with
        procLive := (s.railNoted (.proc p)).ids.procLive &&& ~~~(BitVec.twoPow 2 p) } := rfl
      rw [hids] at hdrop
      rw [hdrop]
      exact ⟨hfault nofun nofun, getLsbD_clear _, rfl, hframe.ctxs (by decide)⟩
    · rintro k rfl hlen
      have hdrop := ((s.railNoted (.optical k)).frame_dropOptical k).ids (by decide)
      have hin : Rail.optical k ∈ (s.railFault (.optical k)).conn.faulted := hfault nofun nofun
      rw [s.railFault_optical] at hin ⊢
      rw [hdrop]
      refine ⟨hin, getLsbD_clear _, fun i hi => (s.railNoted (.optical k)).dropOptical_port ?_ (of_decide_eq_true hex) hi⟩
      rw [hframe.fab (by decide)]
      exact hlen
  · have hids := s.clusterFault_ids c
    refine ⟨s.clusterFault c, onEvent_of_true (c := decide (c < 192)) (decide_eq_true hc) (fun s => s.clusterFault c) s, ?_⟩
    have hcluster : nth (s.clusterFault c).ids.clusterLive (c / 24) 0
        = nth s.ids.clusterLive (c / 24) 0 &&& ~~~(BitVec.twoPow 24 (c % 24)) := by
      rw [hids]
      exact nth_modify_same _ _ _ (by omega)
    rw [hcluster, hids]
    refine ⟨getLsbD_clear _, fun k hk => getLsbD_clear_other _ hk, rfl, fun hfree => ?_⟩
    have hnone := (s.setIds { s.ids with
      clusterLive := s.ids.clusterLive.modify (c / 24) fun v => v &&& ~~~(BitVec.twoPow 24 (c % 24)) }).tearResident_none
        (on := (· == c)) fun b hb => beq_eq_false_iff_ne.mpr (hfree b hb)
    unfold State.clusterFault
    rw [hnone]
    exact ⟨rfl, rfl, rfl⟩

end Sys2Proof.Machine
end

section
/-!
PROOF. O59: recovery by fetch, the hub's firewall and the TAP (R747, R759, R761 to R763, R774 to R777).
-/

namespace Sys2Proof.Machine

set_option Elab.async false

/-! ### Bytes of a number -/

theorem length_leBytes (n v : Nat) : (leBytes n v).length = n := by
  induction n generalizing v with
  | zero => rfl
  | succ n ih => rw [leBytes, List.length_cons, ih]

theorem length_beBytes (n v : Nat) : (beBytes n v).length = n := by
  rw [beBytes, List.length_reverse, length_leBytes]

/-- The number of some bytes of a number is what they can hold of it. -/
theorem leNat_leBytes (n v : Nat) : leNat (leBytes n v) = v % 256 ^ n := by
  induction n generalizing v with
  | zero => rw [leBytes, leNat, Nat.pow_zero, Nat.mod_one]
  | succ n ih =>
    have hsplit : v % 256 ^ (n + 1) = v % 256 + 256 * (v / 256 % 256 ^ n) := by
      rw [Nat.pow_succ']
      exact Nat.mod_mul
    rw [leBytes, leNat, ih, BitVec.toNat_ofNat, hsplit]

theorem beNat_beBytes (n v : Nat) : beNat (beBytes n v) = v % 256 ^ n := by
  rw [beNat, beBytes, List.reverse_reverse, leNat_leBytes]

theorem length_fetchWords (op len off : Nat) : (fetchWords op len off).length = 16 := by
  rw [fetchWords, List.length_append, length_beBytes, length_beBytes]

/-- The words of a fetch request, read back. -/
theorem fetchWords_fields {len off : Nat} (hlen : len ≤ 1024) (hoff : off ≤ 4194304) :
    beNat ((fetchWords 1 len off).take 8) = 0x5246 * 2 ^ 48 + 2 ^ 32 + len ∧ beNat (((fetchWords 1 len off).drop 8).take 8) = off := by
  have hhead : (beBytes 8 (placed 0x5246 48 + placed 1 32 + len)).length = 8 := length_beBytes _ _
  have htail : (beBytes 8 off).length = 8 := length_beBytes _ _
  rw [fetchWords, List.take_left' hhead, List.drop_left' hhead, List.take_of_length_le (Nat.le_of_eq htail), beNat_beBytes, beNat_beBytes,
    placed_eq_mul, placed_eq_mul]
  omega

section Recovery

variable (s : State)

/-! ### The fetch (R759, R761, R762) -/

theorem State.askFetch_of_source {r : Recovery} {node : Nat} (h : s.trust.sources[r.source]? = some node) : s.askFetch r =
    (s.setTrust { s.trust with recovery := some { r with sent := s.mt, attempts := r.attempts + 1 } }).emit
      (.datagram (fabricAddress s.trust.sourcePfx node) 0xB2E6 (fetchWords 1 r.length r.offset)) := by
  rw [State.askFetch, h]

theorem State.turnTo_past {r : Recovery} {source : Nat} (h : s.trust.sources.length ≤ source) : s.turnTo r source =
    s.setTrust { s.trust with recovery := some { r with fetching := false, since := s.mt, source := 0, attempts := 0 } } :=
  if_neg (Nat.not_lt.mpr h)

theorem State.turnTo_first {r : Recovery} {node : Nat} {l : List Nat} (h : s.trust.sources = node :: l) : s.turnTo r 0 =
    (s.setTrust { s.trust with staging := [] }).askFetch
      { r with fetching := true, source := 0, turned := s.mt, offset := 0, attempts := 0, want := 1024 } :=
  if_pos (by rw [h]; exact Nat.succ_pos _)

/-- The fetch, by whether it is due (R759). -/
theorem exec_recoveryFetch {s : State} {r : Recovery} (hr : s.trust.recovery = some r) (hphase : s.conn.phase = .recovering) :
    exec .recoveryFetch s = .next (if r.fetching = false ∧ s.trust.session = none ∧ r.since + 480000000000 ≤ s.time.mt then s.turnTo r 0 else s) := by
  have hmt : s.mt = s.time.mt := rfl
  show execRecoveryFetch s = _
  unfold execRecoveryFetch
  simp [hr, hphase, hmt, and_assoc]

/-- A request's repetition, by whether it is due (R762). -/
theorem exec_fetchRetry {s : State} {r : Recovery} (hr : s.trust.recovery = some r) (hphase : s.conn.phase = .recovering)
    (hfetch : r.fetching = true) (hsent : r.sent + 8000000 ≤ s.time.mt) :
    exec .fetchRetry s = .next (if 8 ≤ r.attempts ∨ r.turned + 160000000000 ≤ s.time.mt then s.turnTo r (r.source + 1) else s.askFetch r) := by
  have hmt : s.mt = s.time.mt := rfl
  show execFetchRetry s = _
  unfold execFetchRetry
  simp [hr, hphase, hfetch, hmt, hsent]

/-! ### The TAP (R774 to R777) -/

theorem State.tapUp_of_phase (h : s.conn.phase ≠ .off) : s.tapUp = true := bne_iff_ne.mpr h

/-- An instruction that no token has opened acts as BYPASS. -/
theorem State.tapBypass_eq {code : Nat} (h : code < 256) :
    s.tapBypass code = (s.setTrust { s.trust with ir := code }).emit (.tdo [false]) := by
  rw [State.tapBypass, State.setIr, Nat.mod_eq_of_lt h]

theorem exec_bypass {code : Nat} (hup : s.tapUp = true) (hcode : code < 256) (hacts : actsAsBypass s.trust.scope code = true) :
    exec (.bypass code) s = .next ((s.setTrust { s.trust with ir := code }).emit (.tdo [false])) := by
  refine (onEvent_of_true (c := s.tapUp && decide (code < 256) && actsAsBypass s.trust.scope code) ?_ (fun s => s.tapBypass code) s).trans ?_
  · rw [hup, decide_eq_true hcode, hacts]
    rfl
  · rw [s.tapBypass_eq hcode]

theorem actsAsBypass_unassigned {scope code : Nat} (hassigned : code ∉ [0x01, 0x02, 0x03, 0x10, 0x11]) (hvendor : ¬ (0x20 ≤ code ∧ code < 0x30)) :
    actsAsBypass scope code = true := by
  simp only [List.mem_cons, List.not_mem_nil, or_false, not_or] at hassigned
  obtain ⟨h1, h2, h3, h4, h5⟩ := hassigned
  simp [actsAsBypass, h1, h2, h3, h4, h5]
  omega

theorem actsAsBypass_vendor {scope code : Nat} (hlow : 0x20 ≤ code) (hhigh : code < 0x30) (hscope : scope ≠ 2) :
    actsAsBypass scope code = true := by
  simp [actsAsBypass, hscope]
  omega

/-- Vendor debug that no token has opened acts as BYPASS. -/
theorem exec_vendorDebug_closed {code : Nat} (hup : s.tapUp = true) (hlow : 0x20 ≤ code) (hhigh : code < 0x30) (hscope : s.trust.scope ≠ 2) :
    exec (.vendorDebug code) s = .next ((s.setTrust { s.trust with ir := code }).emit (.tdo [false])) := by
  have hclosed : s.trust.invasive = false := beq_eq_false_iff_ne.mpr hscope
  show execVendorDebug code s = _
  unfold execVendorDebug
  rw [hclosed, hup, decide_eq_true hlow, decide_eq_true hhigh]
  exact congrArg Host.Outcome.next (s.tapBypass_eq (by omega))

/-- The machine with a challenge drawn (R776). -/
def State.challenged : State :=
  (s.drawChallenge.2.setTrust { s.drawChallenge.2.trust with challenge := s.drawChallenge.1, spent := false }).setIr 0x10

theorem State.challenged_leaves : s.challenged.trust.challenge = s.drawChallenge.1 ∧ s.challenged.trust.spent = false
    ∧ s.challenged.trust.ir = 0x10 ∧ s.challenged.trust.scope = s.trust.scope := by
  have htrust : s.drawChallenge.2.trust = s.trust := rfl
  rw [State.challenged, State.setIr, State.setTrust_trust, State.setTrust_trust, htrust]
  exact ⟨rfl, rfl, rfl, rfl⟩

theorem exec_authChal (hup : s.tapUp = true) :
    exec .authChal s = .next (s.challenged.emit (.tdo (bitsOf 256 s.drawChallenge.1))) :=
  onEvent_of_true (c := s.tapUp) hup (fun s =>
    let r := s.drawChallenge
    ((r.2.setTrust { r.2.trust with challenge := r.1, spent := false }).setIr 0x10).emit (.tdo (bitsOf 256 r.1))) s

/-- A token that is accepted opens its scope, and is logged (R763, R776). -/
theorem State.authResp_leaves (token : List Byte) : (s.authResp token).trust.spent = true ∧ (s.authResp token).trust.ir = 0x11
    ∧ (s.tokenOk token = false → (s.authResp token).trust.scope = s.trust.scope ∧ (s.authResp token).trust.log = s.trust.log)
    ∧ (s.tokenOk token = true → (s.authResp token).trust.scope = max s.trust.scope (imageWord token 0 % 4)
        ∧ (s.authResp token).trust.log.length = s.trust.log.length + 1) := by
  cases h : s.tokenOk token with
  | false =>
    have heq : s.authResp token = (s.setTrust { s.trust with spent := true }).setIr 0x11 := by
      rw [State.authResp, h]
      rfl
    rw [heq]
    exact ⟨rfl, rfl, fun _ => ⟨rfl, rfl⟩, nofun⟩
  | true =>
    have hroom : s.trust.log.length < 64 := by
      unfold State.tokenOk at h
      exact of_decide_eq_true (Bool.and_eq_true_iff.mp h).2
    let u := (s.setTrust { s.trust with spent := true }).setIr 0x11
    have hlog : u.logEvent 5 0 0 (shake256 (token.take 256)) = _ := if_neg (Nat.not_le.mpr hroom)
    have heq : s.authResp token = (u.logEvent 5 0 0 (shake256 (token.take 256))).setTrust
        { (u.logEvent 5 0 0 (shake256 (token.take 256))).trust with
          scope := max (u.logEvent 5 0 0 (shake256 (token.take 256))).trust.scope (imageWord token 0 % 4) } := by
      rw [State.authResp, h]
      rfl
    rw [heq, hlog]
    exact ⟨rfl, rfl, nofun, fun _ => ⟨rfl, List.length_append⟩⟩

end Recovery

/-- Settles O59: each command by its condition, with the words of a request read back, and the TAP by what its scope opens. -/
theorem recoveryAndDebug : Obligations.RecoveryAndDebug := by
  unfold Obligations.RecoveryAndDebug
  intro s
  refine ⟨fun r hr hphase => ⟨fun hidle hsession hdue => ⟨fun node l hsources => ?_, fun hnone => ?_⟩, fun hearly => ?_,
    fun hfetch hsent hattempts hturn node hnode => ?_, fun hfetch hsent hattempts => ?_, fun node data hfetch hnode hdata verified => ?_⟩,
    fun addr port off len hrun hboot hwriting hpos hlen hin => ?_, fun k hk => ?_, fun hon => ?_⟩
  · rw [exec_recoveryFetch hr hphase, if_pos ⟨hidle, hsession, hdue⟩, s.turnTo_first hsources,
      State.askFetch_of_source _ (node := node) (by simp [hsources])]
    rfl
  · rw [exec_recoveryFetch hr hphase, if_pos ⟨hidle, hsession, hdue⟩, s.turnTo_past (by rw [hnone]; exact Nat.le_refl 0)]
    rfl
  · rw [exec_recoveryFetch hr hphase, if_neg fun h => absurd h.2.2 (Nat.not_le.mpr hearly)]
  · rw [exec_fetchRetry hr hphase hfetch hsent, if_neg (by omega), s.askFetch_of_source hnode]
    rfl
  · rw [exec_fetchRetry hr hphase hfetch hsent, if_pos (.inl hattempts)]
  · have hwords := length_fetchWords 2 r.length r.offset
    show execNeighbourFetchReply _ _ verified s = _
    unfold execNeighbourFetchReply
    simp [hr, hphase, hfetch, hnode, hdata, hwords, List.take_left' hwords, List.drop_left' hwords]
  · obtain ⟨hw, hoff⟩ := fetchWords_fields (len := len) (off := off) hlen (by omega)
    have hbytes := length_fetchWords 1 len off
    have hop : (0x5246 * 2 ^ 48 + 2 ^ 32 + len) / 2 ^ 32 = 0x52460001 := by omega
    have hfield : (0x5246 * 2 ^ 48 + 2 ^ 32 + len) % 2 ^ 32 = len := by omega
    show execRecoveryFetchRequest addr port _ s = _
    unfold execRecoveryFetchRequest
    dsimp only
    rw [hw, hoff, hop, hfield, hbytes]
    refine onEvent_of_true ?_ _ s
    rw [hrun, hboot, hwriting, decide_eq_true hpos, decide_eq_true hlen, decide_eq_true hin]
    rfl
  · exact onEvent_of_true (c := decide (k < 4)) (decide_eq_true hk) (fun s => s.setTrust { s.trust with
      optDrops := s.trust.optDrops.modify k fun v => min (v + 1) 0xFFFF }) s
  · have hup := s.tapUp_of_phase hon
    have hdrawn := s.challenged_leaves
    dsimp only
    refine ⟨fun code hcode hassigned hvendor => exec_bypass s hup hcode (actsAsBypass_unassigned hassigned hvendor),
      fun code hlow hhigh hscope => ⟨exec_bypass s hup (by omega) (actsAsBypass_vendor hlow hhigh hscope), exec_vendorDebug_closed s hup hlow hhigh hscope⟩,
      onEvent_of_true (c := s.tapUp) hup (fun s => (s.setIr 0x01).emit (.tdo (bitsOf 32 0x2010856B))) s,
      ⟨s.challenged, s.drawChallenge.1, exec_authChal s hup, hdrawn.1, hdrawn.2.1, hdrawn.2.2.1, hdrawn.2.2.2⟩,
      fun token => ⟨s.authResp token, onEvent_of_true (c := s.tapUp) hup (fun s => s.authResp token) s, ?_⟩,
      fun levels cells => ⟨fun hscope => ⟨?_, ?_⟩, fun hscope => ⟨?_, ?_⟩⟩⟩
    · obtain ⟨hspent, hir, hrefused, hopened⟩ := s.authResp_leaves token
      exact ⟨hspent, hir, hrefused, hopened⟩
    · refine (onEvent_of_true (c := s.tapUp) hup (fun s =>
        if s.trust.scope = 0 then s.tapBypass 0x02
        else ((s.setTrust { s.trust with boundary := cells }).setIr 0x02).emit (.tdo levels)) s).trans (congrArg Host.Outcome.next ?_)
      rw [if_pos hscope, s.tapBypass_eq (by decide)]
    · refine (onEvent_of_true (c := s.tapUp) hup (fun s =>
        if s.trust.scope = 0 then s.tapBypass 0x03
        else
          let t := ((s.setIr 0x03).emit (.pins s.trust.boundary)).emit (.tdo levels)
          (t.setTrust { t.trust with boundary := cells }).emit (.pins cells)) s).trans (congrArg Host.Outcome.next ?_)
      rw [if_pos hscope, s.tapBypass_eq (by decide)]
    · exact (onEvent_of_true (c := s.tapUp) hup (fun s =>
        if s.trust.scope = 0 then s.tapBypass 0x02
        else ((s.setTrust { s.trust with boundary := cells }).setIr 0x02).emit (.tdo levels)) s).trans
          (congrArg Host.Outcome.next (if_neg hscope))
    · exact ⟨_, (onEvent_of_true (c := s.tapUp) hup (fun s =>
        if s.trust.scope = 0 then s.tapBypass 0x03
        else
          let t := ((s.setIr 0x03).emit (.pins s.trust.boundary)).emit (.tdo levels)
          (t.setTrust { t.trust with boundary := cells }).emit (.pins cells)) s).trans
            (congrArg Host.Outcome.next (if_neg hscope)), rfl, rfl, rfl⟩

end Sys2Proof.Machine
end

section
/-!
PROOF. O58: firmware update and attestation (R145, R148, R197, R753, R759, R760, R763 to R773).
-/

namespace Sys2Proof.Machine

set_option Elab.async false

section Update

variable (s : State)

/-! ### Sessions (R764, R765) -/

theorem State.frame_setSession (x : Option FwSession) : s.Within [.trust, .outbox] (s.setSession x) :=
  ((s.frame_setTrust _).mono (by decide)).trans ((State.frame_alertSince _ s).mono (by decide))

theorem State.setSession_trust (x : Option FwSession) : (s.setSession x).trust = { s.trust with session := x } :=
  ((State.frame_alertSince _ s).trust (by decide)).trans rfl

theorem State.sessionOf_some {x : FwSession} {n : Nat} (h : s.trust.session = some x) (hn : x.mbx = n) : s.sessionOf n = some x := by
  rw [State.sessionOf, h, Option.filter_some, if_pos (beq_iff_eq.mpr hn)]

theorem State.sessionOf_none {n : Nat} (h : ∀ x, s.trust.session = some x → x.mbx ≠ n) : s.sessionOf n = none := by
  cases hx : s.trust.session with
  | none => rw [State.sessionOf, hx]; rfl
  | some x => rw [State.sessionOf, hx, Option.filter_some, if_neg (by simpa using h x hx)]

/-- A session opened, before its command ends. -/
def State.sessionOpened (n : Nat) : State :=
  (s.setTrust { s.trust with staging := [], recovery := s.trust.recovery.map fun r => { r with fetching := false } }).setSession
    (some ⟨n, s.arg n 0, s.arg n 1 % 2 == 1, s.mt⟩)

theorem State.sessionOpened_leaves (n : Nat) : (s.sessionOpened n).trust.session = some ⟨n, s.arg n 0, decide (s.arg n 1 % 2 = 1), s.time.mt⟩
    ∧ (s.sessionOpened n).trust.staging = [] ∧ (s.sessionOpened n).trust.slot = s.trust.slot ∧ (s.sessionOpened n).mbxs = s.mbxs
    ∧ (s.sessionOpened n).mem = s.mem := by
  have hframe := ((s.frame_setTrust { s.trust with staging := [], recovery := s.trust.recovery.map fun r => { r with fetching := false } }).mono
    (m := [.trust, .outbox]) (by decide)).trans (State.frame_setSession _ (some ⟨n, s.arg n 0, s.arg n 1 % 2 == 1, s.mt⟩))
  refine ⟨?_, ?_, ?_, hframe.mbxs (by decide), hframe.mem (by decide)⟩
  all_goals rw [State.sessionOpened, State.setSession_trust]
  all_goals rfl

theorem exec_fwBegin {n : Nat} (h : s.has n 0x0B01 = true) : exec (.fwBegin n) s = .next (s.fwBegin n) :=
  runCommand_of_has h fun s => s.fwBegin n

theorem exec_fwChunk {n : Nat} (h : s.has n 0x0B02 = true) : exec (.fwChunk n) s = .next (s.fwChunk n) :=
  runCommand_of_has h fun s => s.fwChunk n

theorem exec_fwCommit_none {n : Nat} (h : s.has n 0x0B03 = true) (verified : Bool) (hnone : s.sessionOf n = none) :
    exec (.fwCommit n verified) s = .next (s.complete n stBadState []) := by
  refine (runCommand_of_has h fun s => match s.sessionOf n with
    | none => s.complete n stBadState []
    | some x => s.fwCommit n x verified).trans ?_
  rw [hnone]

theorem exec_fwCommit_some {n : Nat} (h : s.has n 0x0B03 = true) (verified : Bool) {x : FwSession} (hx : s.sessionOf n = some x) :
    exec (.fwCommit n verified) s = .next (s.fwCommit n x verified) := by
  refine (runCommand_of_has h fun s => match s.sessionOf n with
    | none => s.complete n stBadState []
    | some x => s.fwCommit n x verified).trans ?_
  rw [hx]

/-! ### The commit (R765, R766) -/

theorem State.fwCommit_bad {n : Nat} {x : FwSession} (verified : Bool)
    (h : s.imageCheck s.staged false ≠ none ∨ x.size ≠ (imageHead (s.staged 0 256)).bodyBytes + 2820) :
    s.fwCommit n x verified = (s.complete n stSigInvalid []).setSession none := by
  have hbad : ((s.imageCheck s.staged false).isSome || x.size != (imageHead (s.staged 0 256)).bodyBytes + 2820) = true := by
    rw [Bool.or_eq_true, Option.isSome_iff_ne_none, bne_iff_ne]
    exact h
  exact if_pos hbad

/-- The machine once an image that verified is in the slot, and its command has ended. -/
def State.committed (n : Nat) : State :=
  (s.programSlot.complete n stOk (digestWords (shake256 (s.staged 0 (imageHead (s.staged 0 256)).bodyBytes)))).setSession none

/-- A session's image goes live: both sides ask for it, and the interface stays what it is (R766). -/
def State.goesLive (x : FwSession) : Bool :=
  x.live && (imageHead (s.staged 0 256)).liveOk && some (imageHead (s.staged 0 256)).abaom == s.trust.image.map (·.abaom)
    && decide (s.trust.log.length < 64)

theorem State.committed_trust (n : Nat) : (s.committed n).trust = { s.trust with
    slot := s.trust.staging, slotBad := false, session := none,
    minSvn := if (imageHead (s.staged 0 256)).raiseSvn then max s.trust.minSvn (imageHead (s.staged 0 256)).svn else s.trust.minSvn } := by
  rw [State.committed, State.setSession_trust, (State.frame_complete _ _ _ _).trust (by decide)]
  rfl

theorem State.committed_phase (n : Nat) : (s.committed n).conn.phase = s.conn.phase := by
  have hconn : (s.committed n).conn = _ := (State.frame_setSession _ none).conn (by decide)
  rw [hconn]
  exact (congrArg ModuleState.phase ((State.frame_complete _ _ _ _).connCore (by decide))).trans rfl

theorem State.fwCommit_good {n : Nat} {x : FwSession} (hcheck : s.imageCheck s.staged false = none)
    (hsize : x.size = (imageHead (s.staged 0 256)).bodyBytes + 2820) (hphase : s.conn.phase ≠ .recovering) :
    s.fwCommit n x true = if s.goesLive x = true then (s.committed n).setTrust { (s.committed n).trust with pause := .asked }
      else (s.committed n).setTrust { (s.committed n).trust with activeOwed := true } := by
  have hgood : ((s.imageCheck s.staged false).isSome || x.size != (imageHead (s.staged 0 256)).bodyBytes + 2820) = false := by
    rw [hcheck, hsize]
    simp
  have hrun : ((s.committed n).conn.phase == .recovering) = false := by
    rw [s.committed_phase]
    exact beq_eq_false_iff_ne.mpr hphase
  unfold State.fwCommit
  dsimp only
  rw [hgood]
  exact (if_neg (by decide)).trans ((if_neg (by decide)).trans (if_neg (by rw [Bool.not_eq_true]; exact hrun)))

/-! ### Live activation (R148, R197, R766) -/

/-- The pause begins, for a free length of at most 20 ms. -/
theorem State.beginPause_leaves (len : Nat) : (s.beginPause len).trust.pause = .until_ (s.time.mt + len)
    ∧ (s.beginPause len).abaom.beat = if s.abaom.beat.live = true ∧ s.time.mt ≤ s.abaom.beat.deadline
        ∧ s.abaom.beat.deadline < s.time.mt + len then { s.abaom.beat with deadline := s.abaom.beat.deadline + len } else s.abaom.beat := by
  let c := s.abaom.beat.live = true ∧ s.time.mt ≤ s.abaom.beat.deadline ∧ s.abaom.beat.deadline < s.time.mt + len
  let u := s.setTrust { s.trust with pause := .until_ (s.mt + len) }
  by_cases h : c
  · have heq : s.beginPause len = u.setAbaom { s.abaom with beat := { s.abaom.beat with deadline := s.abaom.beat.deadline + len } } := if_pos h
    rw [heq, if_pos h]
    exact ⟨rfl, rfl⟩
  · have heq : s.beginPause len = u := if_neg h
    rw [heq, if_neg h]
    exact ⟨rfl, rfl⟩

theorem State.pauseTick_asked (h : s.trust.pause = .asked) (hfree : ∀ k < 64, (s.mbx k).st ≠ .busy) :
    s.pauseTick = s.fresh.2.beginPause (s.fresh.1.toNat % 160000001) := by
  have hany : ((List.range 64).any fun n => (s.mbx n).st == .busy) = false :=
    List.any_eq_false.mpr fun k hk => by simpa using hfree k (List.mem_range.mp hk)
  rw [State.pauseTick, h]
  dsimp only
  rw [hany]
  rfl

theorem State.pauseTick_busy (h : s.trust.pause = .asked) {k : Nat} (hk : k < 64) (hbusy : (s.mbx k).st = .busy) : s.pauseTick = s := by
  have hany : ((List.range 64).any fun n => (s.mbx n).st == .busy) = true :=
    List.any_eq_true.mpr ⟨k, List.mem_range.mpr hk, beq_iff_eq.mpr hbusy⟩
  rw [State.pauseTick, h]
  exact if_pos hany

theorem State.frame_activate : s.Within [.trust, .conn, .mbxs, .freeCtr, .outbox, .obs] s.activate := by
  unfold State.activate
  exact ((((s.frame_logEvent _ _ _ _).step (State.frame_setTrust _ _)).mono (by decide)).step (State.frame_notify _ _ _ _ _ _ _ _))

/-- Live activation runs the image that the slot holds, and changes the log with it alone. -/
theorem State.activate_trust : ∃ im log chain, s.activate.trust = { s.trust with image := some im, log, chain } := by
  let im := runImage fun off n => cellRead s.trust.slot off n
  have hlog : ∃ log chain, (s.logEvent 4 im.svn 0 im.measurement).trust = { s.trust with log, chain } := by
    unfold State.logEvent
    split_ifs
    · exact ⟨_, _, rfl⟩
    · exact ⟨_, _, rfl⟩
  obtain ⟨log, chain, hlog⟩ := hlog
  refine ⟨im, log, chain, ?_⟩
  unfold State.activate
  dsimp only
  rw [(State.frame_notify _ _ _ _ _ _ _ _).trust (by decide), State.setTrust_trust, hlog]

/-! ### Attestation (R767 to R773) -/

theorem State.attestTaken_mbx (n : Nat) : (s.attestTaken n).mbx = n := by
  unfold State.attestTaken
  cases h : s.trust.taken.find? fun a => a.mbx == n with
  | none => rfl
  | some a =>
    have hmbx : (a.mbx == n) = true := List.find?_some (p := fun (a : WaitingAttest) => a.mbx == n) h
    exact beq_iff_eq.mp hmbx

theorem exec_attest {n : Nat} (h : s.has n 0x0B00 = true) : exec (.attest n) s = .next (s.attest n) :=
  runCommand_of_has h fun s => s.attest n

theorem State.attest_rebuilt (n : Nat) (h : s.trust.rebuilt = true) : s.attest n = s.sign (s.attestTaken n) := if_pos h

theorem State.attest_waiting (n : Nat) (h : s.trust.rebuilt = false) :
    s.attest n = (s.begin_ n).setTrust { s.trust with attests := s.trust.attests ++ [s.attestTaken n] } :=
  if_neg (by rw [h]; decide)

/-- A signing that has neither run out of indices nor met invasive debug. -/
theorem State.sign_open {a : WaitingAttest} (hidx : s.trust.idx < 2 ^ 28) (hscope : s.trust.scope ≠ 2) : s.sign a =
    match s.storeReport a.mbx (s.arg a.mbx 4) (s.reportBody a ++ signature s.trust.nextIndex (s.reportBody a)) with
    | none => s.complete a.mbx stBadArg []
    | some t => if (t.setTrust t.trust.useIndex).reportOut a.mbx then (t.setTrust t.trust.useIndex).begin_ a.mbx
        else (t.setTrust t.trust.useIndex).complete a.mbx stOk [14373] := by
  have hclosed : ¬ (2 ^ 28 ≤ s.trust.idx ∨ s.trust.invasive = true) := by
    rw [TrustState.invasive, beq_iff_eq]
    omega
  exact if_neg hclosed

theorem State.sign_closed {a : WaitingAttest} (h : 2 ^ 28 ≤ s.trust.idx ∨ s.trust.scope = 2) : s.sign a = s.complete a.mbx stAuthFail [] := by
  refine if_pos ?_
  rw [TrustState.invasive, beq_iff_eq]
  exact h

theorem State.frame_enginePiece (ctx : Nat) (op : FlowOp) (p : Piece) (bytes : List Byte) :
    s.Within (.abaom :: storeParts) (s.enginePiece ctx op p bytes).1 := by
  unfold State.enginePiece
  split
  · exact (s.frame_hbmWrite _ _).mono (by decide)
  · split
    · split
      · exact .refl _ s
      · exact (s.frame_hbmWrite _ _).mono (by decide)
    · split
      · next h => exact (s.frame_tieSend h).mono (by decide)
      · exact .refl _ s

theorem State.frame_engineStore (ctx : Nat) (op : FlowOp) (l : List Piece) (bytes : List Byte) :
    s.Within (.abaom :: storeParts) (State.engineStore ctx op l bytes s).1 := by
  induction l generalizing s bytes with
  | nil => exact .refl _ s
  | cons p l ih =>
    have hp := s.frame_enginePiece ctx op p (bytes.take p.size)
    rw [State.engineStore]
    split
    · next t hstore => rw [hstore] at hp; exact hp.trans (ih t _)
    · exact hp

theorem State.frame_storeReport {n addr : Nat} {bytes : List Byte} {t : State} (h : s.storeReport n addr bytes = some t) :
    s.Within (.abaom :: storeParts) t := by
  unfold State.storeReport at h
  split at h
  · split_ifs at h
    injection h with h
    exact h ▸ (s.frame_hubWrite _ _).mono (by decide)
  · next c _ =>
    split at h
    · next l _ =>
      have hstore := s.frame_engineStore c (.report n) l bytes
      split at h
      · next u hdone =>
        injection h with h
        rw [hdone] at hstore
        exact h ▸ hstore
      · exact nomatch h
    · exact nomatch h

/-- A signing leaves the identity state there, and no ATTEST waiting that did not. -/
theorem State.sign_keeps (a : WaitingAttest) : (s.sign a).trust.rebuilt = s.trust.rebuilt ∧ (s.sign a).trust.attests = s.trust.attests := by
  have hends (t : State) (st : Nat) (res : List Nat) : (t.complete a.mbx st res).trust = t.trust := (t.frame_complete _ _ _).trust (by decide)
  by_cases hopen : 2 ^ 28 ≤ s.trust.idx ∨ s.trust.scope = 2
  · rw [s.sign_closed hopen, hends]
    exact ⟨rfl, rfl⟩
  · rw [not_or] at hopen
    rw [s.sign_open (Nat.not_le.mp hopen.1) hopen.2]
    cases hstore : s.storeReport a.mbx (s.arg a.mbx 4) (s.reportBody a ++ signature s.trust.nextIndex (s.reportBody a)) with
    | none => exact ⟨congrArg _ (hends _ _ _), congrArg _ (hends _ _ _)⟩
    | some t =>
      have htrust := (s.frame_storeReport hstore).trust (by decide)
      have hused : (t.setTrust t.trust.useIndex).trust.rebuilt = s.trust.rebuilt
          ∧ (t.setTrust t.trust.useIndex).trust.attests = s.trust.attests := 
        ⟨(congrArg TrustState.rebuilt htrust : t.trust.rebuilt = _), (congrArg TrustState.attests htrust : t.trust.attests = _)⟩
      dsimp only
      split_ifs
      · exact hused
      · rw [hends]
        exact hused

theorem State.sign_foldl (l : List WaitingAttest) (t : State) : (l.foldl State.sign t).trust.rebuilt = t.trust.rebuilt
    ∧ (l.foldl State.sign t).trust.attests = t.trust.attests := by
  induction l generalizing t with
  | nil => exact ⟨rfl, rfl⟩
  | cons a l ih =>
    obtain ⟨hrebuilt, hattests⟩ := t.sign_keeps a
    obtain ⟨irebuilt, iattests⟩ := ih (t.sign a)
    exact ⟨irebuilt.trans hrebuilt, iattests.trans hattests⟩

/-- The identity state as it is found again: at the recorded index, else in a new block (R768, R769). -/
def TrustState.reindexed (t : TrustState) : TrustState :=
  if t.idxCopy = some t.idx then t else { t with nextIndex := 4096 * t.idx, idx := t.idx + 1, idxCopy := some (t.idx + 1) }

theorem State.rebuild_eq : s.rebuild =
    s.trust.reindexed.attests.foldl State.sign (s.setTrust { s.trust.reindexed with rebuilt := true, attests := [] }) := rfl

theorem TrustState.reindexed_attests (t : TrustState) : t.reindexed.attests = t.attests := by
  unfold TrustState.reindexed
  split_ifs <;> rfl

end Update

/-- Settles O58: a session by its open, chunk and commit; the pause by its state; a report by its signing. -/
theorem updateAndAttestation : Obligations.UpdateAndAttestation := by
  unfold Obligations.UpdateAndAttestation
  intro s n
  refine ⟨fun hbegin => ⟨fun x hx hother => ?_, fun hmine => ?_⟩, fun hchunk => ⟨fun hnone => ?_, fun x hx hn => ⟨fun hout => ?_, fun hin => ?_⟩⟩,
    fun hcommit verified => ⟨fun hnone => ?_, fun x hx hn => ⟨fun hbad => ?_, fun hcheck hsize hverified hphase => ?_⟩⟩,
    fun hasked => ⟨fun hbusy => ?_, fun hfree => ?_⟩, fun m hm => ⟨fun hdue => ?_, fun hearly => ?_⟩,
    fun x hx => ⟨fun hdue => ?_, fun hearly => ?_⟩,
    fun hattest => ⟨fun hwait => ?_, fun hrebuilt hclosed => ?_, fun hrebuilt hidx hscope => ⟨fun hstore => ?_, fun t hstore => ?_⟩⟩,
    fun himage hwait => ?_⟩
  · rw [exec_fwBegin s hbegin, State.fwBegin, hx]
    exact congrArg Host.Outcome.next (if_neg hother)
  · refine ⟨s.sessionOpened n, ?_, s.sessionOpened_leaves n⟩
    rw [exec_fwBegin s hbegin, State.fwBegin]
    cases hx : s.trust.session with
    | none => rfl
    | some x => exact congrArg Host.Outcome.next (if_pos (hmine x hx))
  · rw [exec_fwChunk s hchunk, State.fwChunk, s.sessionOf_none hnone]
    rfl
  · rw [exec_fwChunk s hchunk, State.fwChunk, s.sessionOf_some hx hn]
    exact congrArg Host.Outcome.next (if_pos hout)
  · rw [exec_fwChunk s hchunk, State.fwChunk, s.sessionOf_some hx hn]
    exact congrArg Host.Outcome.next (if_neg (Nat.not_lt.mpr hin))
  · exact exec_fwCommit_none s hcommit verified (s.sessionOf_none hnone)
  · obtain ⟨c, hc⟩ := State.cmd_of_has hcommit
    have hkept := (s.frame_complete n stSigInvalid []).trust (by decide)
    refine ⟨_, (exec_fwCommit_some s hcommit verified (s.sessionOf_some hx hn)).trans (congrArg Host.Outcome.next (s.fwCommit_bad verified hbad)), ?_⟩
    rw [State.setSession_trust, hkept]
    refine ⟨rfl, rfl, rfl, fun hlen => ?_⟩
    have hmbx : ((s.complete n stSigInvalid []).setSession none).mbx n = (s.complete n stSigInvalid []).mbx n := by
      rw [State.mbx, (State.frame_setSession _ none).mbxs (by decide)]
      rfl
    rw [hmbx]
    exact State.complete_ended hlen hc stSigInvalid []
  · subst hverified
    have htrust := s.committed_trust n
    refine ⟨_, (exec_fwCommit_some s hcommit true (s.sessionOf_some hx hn)).trans (congrArg Host.Outcome.next (s.fwCommit_good hcheck hsize hphase)), ?_⟩
    by_cases hlive : s.goesLive x = true
    · rw [if_pos hlive, State.setTrust_trust, htrust]
      refine ⟨rfl, rfl, rfl, rfl, fun hno => ?_, fun _ _ _ _ _ _ => ⟨rfl, rfl⟩⟩
      unfold State.goesLive at hlive
      rcases hno with hno | hno <;> simp [hno] at hlive
    · rw [if_neg hlive, State.setTrust_trust, htrust]
      refine ⟨rfl, rfl, rfl, rfl, fun _ => ⟨rfl, rfl⟩, fun im him hask hok habaom hlog => absurd ?_ hlive⟩
      unfold State.goesLive
      rw [hask, hok, habaom, him, decide_eq_true hlog]
      simp
  · obtain ⟨k, hk, hst⟩ := hbusy
    exact s.pauseTick_busy hasked hk hst
  · obtain ⟨hpause, hbeat⟩ := s.fresh.2.beginPause_leaves (s.fresh.1.toNat % 160000001)
    rw [s.pauseTick_asked hasked hfree]
    exact ⟨s.fresh.1.toNat % 160000001, Nat.le_of_lt_succ (Nat.mod_lt _ (by decide)), hpause, hbeat⟩
  · have htick : s.pauseTick = (s.setTrust { s.trust with pause := .off }).activate := by
      rw [State.pauseTick, hm]
      exact if_pos hdue
    obtain ⟨im, log, chain, htrust⟩ := (s.setTrust { s.trust with pause := .off }).activate_trust
    rw [htick, htrust]
    exact ⟨rfl, im, rfl⟩
  · rw [State.pauseTick, hm]
    exact if_neg (Nat.not_le.mpr hearly)
  · have hexec : exec .fwSessionTimeout s = .next (if x.last + 80000000000 ≤ s.mt then s.setSession none else s) := by
      show execFwSessionTimeout s = _
      rw [execFwSessionTimeout, hx]
    exact ⟨_, hexec.trans (congrArg Host.Outcome.next (if_pos hdue)), s.setSession_trust none⟩
  · have hexec : exec .fwSessionTimeout s = .next (if x.last + 80000000000 ≤ s.mt then s.setSession none else s) := by
      show execFwSessionTimeout s = _
      rw [execFwSessionTimeout, hx]
    exact hexec.trans (congrArg Host.Outcome.next (if_neg (Nat.not_le.mpr hearly)))
  · rw [exec_attest s hattest, s.attest_waiting n hwait]
  · rw [exec_attest s hattest, s.attest_rebuilt n hrebuilt, s.sign_closed hclosed, s.attestTaken_mbx]
    rfl
  · rw [exec_attest s hattest, s.attest_rebuilt n hrebuilt, s.sign_open hidx hscope, s.attestTaken_mbx, hstore]
    rfl
  · rw [exec_attest s hattest, s.attest_rebuilt n hrebuilt, s.sign_open hidx hscope, s.attestTaken_mbx, hstore]
    dsimp only
    split_ifs <;> rfl
  · have hsome : (s.trust.image.isSome && !s.trust.rebuilt) = true := by
      rw [Option.isSome_iff_ne_none.mpr himage, hwait]
      rfl
    obtain ⟨hrebuilt, hattests⟩ := State.sign_foldl s.trust.reindexed.attests (s.setTrust { s.trust.reindexed with rebuilt := true, attests := [] })
    refine ⟨s.rebuild, onEvent_of_true (c := s.trust.image.isSome && !s.trust.rebuilt) hsome State.rebuild s, ?_⟩
    rw [s.rebuild_eq]
    refine ⟨hrebuilt, hattests, fun hnone => ?_⟩
    rw [TrustState.reindexed_attests, hnone, TrustState.reindexed]
    refine ⟨fun hidx => ?_, fun hidx => ?_⟩
    · rw [if_pos hidx]
      exact ⟨rfl, rfl⟩
    · rw [if_neg hidx]
      exact ⟨rfl, rfl⟩

end Sys2Proof.Machine
end

section
/-!
PROOF. O48: accesses of the control space (R16, R36 to R38, R44, R56 to R59, R136, R600, R601, R724).
-/

namespace Sys2Proof.Machine

set_option Elab.async false

section Registers

variable (s : State)

/-! ### Bad accesses (R56 to R58) -/

/-- What a bad access sends: a read value of zero to a read, and the fault to its hart. -/
def badAnswer (a : CtrlAccess) : List Out := if a.write = true then [.hartFault a.hart] else [.hartFault a.hart, .readValue a.hart 0]

theorem State.badAccess_outbox (a : CtrlAccess) :
    s.badAccess a = (s.setIds (s.ids.takeBad (s.badNote a))).setOutbox (badAnswer a ++ s.outbox) := by
  by_cases hwrite : a.write = true
  · simp only [State.badAccess, badAnswer, if_pos hwrite]
    rfl
  · simp only [State.badAccess, badAnswer, if_neg hwrite]
    rfl

theorem fromHost_of {a : CtrlAccess} (hhart : a.hart < 144) (hoff : a.offset < 2 ^ 32) : fromHost a = true := by
  simp only [fromHost, Bool.and_eq_true, decide_eq_true_eq]
  exact ⟨hhart, hoff⟩

theorem exec_badAccess_one (hup : s.hostUp = true) {a : CtrlAccess} (hhart : a.hart < 144) (hoff : a.offset < 2 ^ 32)
    (hbad : s.accessKind a ≠ 0) : exec (.badAccess [a] false) s = .next (s.badAccess a) := by
  show execBadAccess [a] false s = _
  simp [execBadAccess, onEvent, fromHost_of hhart hoff, hbad, byHart, hup]

theorem exec_badAccess_two (hup : s.hostUp = true) {a b : CtrlAccess} (hab : a.hart < b.hart) (hhart : b.hart < 144)
    (hoffa : a.offset < 2 ^ 32) (hoffb : b.offset < 2 ^ 32) (hbada : s.accessKind a ≠ 0) (hbadb : s.accessKind b ≠ 0) :
    exec (.badAccess [b, a] false) s = .next ((s.badAccess a).badAccess b) := by
  show execBadAccess [b, a] false s = _
  simp [execBadAccess, onEvent, fromHost_of (hab.trans hhart) hoffa, fromHost_of hhart hoffb, hbada, hbadb, byHart, hup, hab]

/-- With no other bad access in the cycle, one is captured, or the register overruns. -/
theorem IdState.takeBad_first {i : IdState} (h : i.badNow = []) (e : Nat × Nat × Nat) : i.takeBad e =
    if i.badValid = true then { i with badOverrun := true, badNow := [e] }
    else { i with badValid := true, badKind := e.1, badHart := e.2.1, badOffset := e.2.2, badNow := [e] } := by
  by_cases hvalid : i.badValid = true
  · have hstays : ¬ i.DisplacedBy e := fun hd => by
      unfold IdState.DisplacedBy at hd
      rw [h] at hd
      exact absurd hd.1 List.not_mem_nil
    rw [if_pos hvalid, IdState.takeBad_of_not_displacedBy hvalid hstays, h]
    rfl
  · rw [if_neg hvalid, IdState.takeBad_of_clear (Bool.eq_false_of_not_eq_true hvalid), h]
    rfl

/-- Of two bad accesses of a cycle the lower hart's is captured (R58). -/
theorem IdState.takeBad_two {i : IdState} (h : i.badValid = false) {e f : Nat × Nat × Nat} (hlow : e.2.1 < f.2.1) :
    (i.takeBad e).takeBad f = { i with
      badValid := true, badOverrun := true, badKind := e.1, badHart := e.2.1, badOffset := e.2.2, badNow := i.badNow ++ [e, f] } := by
  rw [IdState.takeBad_of_clear h, IdState.takeBad_of_not_displacedBy rfl (fun hd => absurd hd.2 (Nat.not_lt.mpr hlow.le))]
  simp [IdState.capture]

/-! ### Writes of registers (R16, R36, R44) -/

/-- A register that answers reads lies on a whole word of the hub's space. -/
theorem State.ctrlRead_in {off w : Nat} (h : s.ctrlRead off = some w) : off % 8 = 0 ∧ off < 0x700000 := by
  unfold State.ctrlRead at h
  split_ifs at h
  all_goals omega

theorem exec_registerWrite_good (hup : s.hostUp = true) {hart off : Nat} {w : Nat} (hhart : hart < 144) (hread : s.ctrlRead off = some w)
    (v : Word) : exec (.registerWrite hart off v) s = .next (s.ctrlWrite off v) := by
  obtain ⟨halign, hin⟩ := s.ctrlRead_in hread
  have hhost : fromHost ⟨hart, off, 8, true⟩ = true := fromHost_of hhart (by dsimp only; omega)
  have hgood : s.accessKind ⟨hart, off, 8, true⟩ = 0 := by
    rw [State.accessKind, hread, if_neg (by dsimp only; omega)]
    rfl
  rw [exec_registerWrite]
  simp only [execRegisterWrite, onEvent, hup, hhost, hgood, Bool.and_self, if_true]

theorem exec_registerWrite_bad (hup : s.hostUp = true) {a : CtrlAccess} (hhart : a.hart < 144) (hoff : a.offset < 2 ^ 32)
    (hbad : s.accessKind a ≠ 0) (hsize : a.size = 8) (hwrite : a.write = true) (v : Word) :
    exec (.registerWrite a.hart a.offset v) s = .next (s.badAccess a) := by
  have ha : (⟨a.hart, a.offset, 8, true⟩ : CtrlAccess) = a := by rw [← hsize, ← hwrite]
  have hhost := fromHost_of hhart hoff
  rw [exec_registerWrite]
  simp only [execRegisterWrite, ha, onEvent, hup, hhost, Bool.and_self, if_true, if_neg hbad]

/-! ### The pages of the mailboxes (R42, R136) -/

theorem State.ctrlRead_page {n k : Nat} (hn : n < 64) (hk : k < 0x1000) (halign : k % 8 = 0) :
    s.ctrlRead (0x10000 + 0x1000 * n + k) = s.mbxPage n k := by
  have hpage : (0x10000 + 0x1000 * n + k - 0x10000) / 0x1000 = n := by omega
  have hoff : (0x10000 + 0x1000 * n + k) % 0x1000 = k := by omega
  rw [State.ctrlRead, if_neg (by omega), if_neg (by omega), if_pos (by omega), hpage, hoff]

theorem State.ctrlWrite_page {n k : Nat} (hn : n < 64) (hk : k < 0x1000) (v : Word) :
    s.ctrlWrite (0x10000 + 0x1000 * n + k) v = if n = 63 then s else s.writePage n k v := by
  have hpage : (0x10000 + 0x1000 * n + k - 0x10000) / 0x1000 = n := by omega
  have hoff : (0x10000 + 0x1000 * n + k) % 0x1000 = k := by omega
  rw [State.ctrlWrite, if_neg (by omega), if_pos (by omega), hpage, hoff]

/-- The word of an argument of a mailbox. -/
theorem State.mbxPage_arg (n : Nat) {i : Nat} (hi : i < 224) : ∃ w, s.mbxPage n (0x100 + 8 * i) = some w := by
  rw [State.mbxPage]
  rw [if_neg (by omega), if_neg (by omega), if_neg (by omega), if_neg (by omega), if_neg (by omega), if_neg (by omega),
    if_neg (by omega), if_pos (by omega)]
  exact ⟨_, rfl⟩

theorem State.writePage_arg (n : Nat) {i : Nat} (hi : i < 224) (v : Word) : s.writePage n (0x100 + 8 * i) v =
    if (s.mbx n).st = .busy then s else s.putMbx n { s.mbx n with args := (s.mbx n).args.set i v } := by
  have hword : (0x100 + 8 * i - 0x100) / 8 = i := by omega
  rw [State.writePage, if_neg (by omega), if_neg (by omega), if_neg (by omega), if_neg (by omega), if_pos (by omega), hword,
    State.writeArg]
  simp

/-! ### The error registers (R57, R59, R553) -/

theorem State.writeBadacc_quiet (h : s.ids.badNow = []) (v : Word) : s.writeBadacc v = s.setIds { s.ids with
    badValid := s.ids.badValid && !(v.getLsbD 63), badOverrun := s.ids.badOverrun && !(v.getLsbD 62) } := by
  unfold State.writeBadacc bitAt
  dsimp only
  rw [h]
  cases hv : v.getLsbD 63 <;> simp [lowestHart]

theorem State.writeBadacc_one {kind by_ off : Nat} (h : s.ids.badNow = [(kind, by_, off)]) {v : Word} (hv : v.getLsbD 63 = true) :
    s.writeBadacc v = s.setIds { s.ids with
      badValid := true, badOverrun := false, badKind := kind, badHart := by_, badOffset := off } := by
  unfold State.writeBadacc
  dsimp only
  rw [h]
  simp [bitAt, hv, lowestHart, IdState.capture]

theorem MemState.writeErrlog_quiet {m : MemState} (h : m.errNow = []) (v : Word) : m.writeErrlog v = { m with
    errValid := m.errValid && !(v.getLsbD 63), errOverrun := m.errOverrun && !(v.getLsbD 62) } := by
  unfold MemState.writeErrlog bitAt
  dsimp only
  rw [h]
  cases hv : v.getLsbD 63 <;> simp [firstError]

end Registers

/-! ### The registers that are only read (R16) -/

/-- Registers of the hub that ignore a write. -/
theorem State.ctrlWrite_readOnly (s : State) (v : Word) :
    ∀ off ∈ [0x0, 0x8, 0x10, 0x40, 0x100000, 0x100008, 0x200000, 0x300000, 0x490018],
      (∃ w, s.ctrlRead off = some w) ∧ s.ctrlWrite off v = s := by
  intro off hoff
  simp only [List.mem_cons, List.not_mem_nil, or_false] at hoff
  rcases hoff with rfl | rfl | rfl | rfl | rfl | rfl | rfl | rfl | rfl
  all_goals simp [State.ctrlRead, State.ctrlWrite, State.idRead, State.mtRead, State.flagwRead, State.pwrRead, State.cntRead, State.fabRead,
    State.writeCnt]

/-- Settles O48: bad accesses by the capture that they make, and each register's write by its place in the space. -/
theorem registerAccess : Obligations.RegisterAccess := by
  unfold Obligations.RegisterAccess
  intro s hup
  refine ⟨fun a hhart hoff hbad hquiet => ?_, fun a hhart hoff hbad hsize hwrite v => ?_,
    fun a b hab hhart hoffa hoffb hbada hbadb hclear => ?_, fun a => ?_, fun hart addr hhart hpast hplat hctrl => ?_,
    fun p hp hhot => ?_, fun p hp hlen hhot => ?_, fun hart v hhart => ?_⟩
  · rw [exec_badAccess_one s hup hhart hoff hbad, s.badAccess_outbox, IdState.takeBad_first hquiet]
    rfl
  · rw [exec_registerWrite_bad s hup hhart hoff hbad hsize hwrite, exec_badAccess_one s hup hhart hoff hbad]
  · refine ⟨_, exec_badAccess_two s hup hab hhart hoffa hoffb hbada hbadb, ?_, ?_⟩
    · rw [State.badAccess_ids, State.badAccess_ids, State.badNote_badAccess]
      exact IdState.takeBad_two hclear hab
    · rw [State.badAccess_outbox, State.badAccess_outbox, List.append_assoc]
      rfl
  · rw [State.accessKind]
    simp [Option.isNone_iff_eq_none]
  · have hres : s.reservedForHost addr = true := by
      have hout : s.inHbm addr 1 = false := by
        simp [State.inHbm]
        omega
      rw [State.reservedForHost, State.regionAt, hout, if_neg (by decide), if_neg hplat, if_neg hctrl]
      rfl
    refine onEvent_of_true (c := s.hostUp && decide (hart < 144) && s.reservedForHost addr) ?_ (fun s => s.emit (.hartFault hart)) s
    rw [hup, decide_eq_true hhart, hres]
    rfl
  · refine (onEvent_of_true (c := s.hostUp && decide (p < 32)) (by rw [hup, decide_eq_true hp]; rfl)
      (fun s => if s.ids.hot.contains (0x490100 + 8 * p, 60) then s else s.releasePort p) s).trans (congrArg Host.Outcome.next (if_pos ?_))
    exact List.contains_iff_mem.mpr hhot
  · refine ⟨s.releasePort p, (onEvent_of_true (c := s.hostUp && decide (p < 32)) (by rw [hup, decide_eq_true hp]; rfl)
      (fun s => if s.ids.hot.contains (0x490100 + 8 * p, 60) then s else s.releasePort p) s).trans (congrArg Host.Outcome.next (if_neg ?_)), ?_⟩
    · exact fun h => hhot (List.contains_iff_mem.mp h)
    · have hport (q : Nat) := s.putPort_port p q { s.port p with quar := false, viol := 0 }
      unfold State.releasePort
      cases hq : (s.port p).quar with
      | true =>
        rw [if_pos rfl]
        refine ⟨?_, fun _ => ?_, nofun, fun q hne => ?_⟩
        · rw [hport, if_pos ⟨rfl, by omega⟩]
        · rw [hport, if_pos ⟨rfl, by omega⟩]
        · rw [hport, if_neg fun h => hne h.1.symm]
      | false =>
        rw [if_neg (by decide)]
        exact ⟨hq, nofun, fun _ => rfl, fun _ _ => rfl⟩
  · have hput {off w : Nat} (hread : s.ctrlRead off = some w) := exec_registerWrite_good s hup hhart hread v
    have hpage {n k w : Nat} (hn : n < 64) (hk : k < 0x1000) (halign : k % 8 = 0) (hread : s.mbxPage n k = some w) :
        exec (.registerWrite hart (0x10000 + 0x1000 * n + k) v) s = .next (if n = 63 then s else s.writePage n k v) := by
      rw [hput ((s.ctrlRead_page hn hk halign).trans hread), s.ctrlWrite_page hn hk]
    have hw : v.toNat < 2 ^ 64 := v.isLt
    have hbadacc : exec (.registerWrite hart 0x18 v) s = .next (s.writeBadacc v) := hput (w := s.idBadacc) (by simp [State.ctrlRead, State.idRead])
    dsimp only
    refine ⟨fun hquiet => ?_, fun kind by_ off hone hv => ?_, fun off hoff => ?_, fun n hn => ⟨?_, ?_, fun i hi => ?_⟩, fun i hi => ?_,
      ?_, ?_, ?_, fun hquiet => ?_, ?_⟩
    · rw [hbadacc, s.writeBadacc_quiet hquiet]
    · rw [hbadacc, s.writeBadacc_one hone hv]
    · obtain ⟨⟨w, hread⟩, hkeeps⟩ := s.ctrlWrite_readOnly v off hoff
      rw [hput hread, hkeeps]
    · exact exec_registerWrite_hdr hup hhart hn v
    · have h := hpage (n := n) (k := 0x10) (by omega) (by decide) (by decide) (rfl : s.mbxPage n 0x10 = some (s.mbx n).noteWord)
      have hoff : 0x10010 + 0x1000 * n = 0x10000 + 0x1000 * n + 0x10 := by omega
      rw [hoff, h, if_neg (by omega)]
      have hfield : fieldNat v 3 0 = v.toNat % 16 := by simp [fieldNat_eq_div_mod]
      rw [← hfield]
      rfl
    · obtain ⟨w, hread⟩ := s.mbxPage_arg n hi
      have h := hpage (n := n) (k := 0x100 + 8 * i) (by omega) (by omega) (by omega) hread
      have hoff : 0x10100 + 0x1000 * n + 8 * i = 0x10000 + 0x1000 * n + (0x100 + 8 * i) := by omega
      rw [hoff, h, if_neg (by omega), s.writePage_arg n hi]
    · obtain ⟨w, hread⟩ := s.mbxPage_arg 63 hi
      have h := hpage (n := 63) (k := 0x100 + 8 * i) (by omega) (by omega) (by omega) hread
      have hoff : 0x4F100 + 8 * i = 0x10000 + 0x1000 * 63 + (0x100 + 8 * i) := by omega
      rw [hoff, h, if_pos rfl]
    · rw [hput (w := s.pwr.noncrit) (by simp [State.ctrlRead, State.pwrRead])]
      have hfield : fieldNat v 15 0 = v.toNat % 2 ^ 16 := by rw [fieldNat_eq_div_mod, Nat.pow_zero, Nat.div_one]
      simp [State.ctrlWrite, State.writeNoncrit, hfield]
    · rw [hput (w := s.fab.cfgWord) (by simp [State.ctrlRead, State.cntRead, State.fabRead])]
      have hether : fieldNat v 63 48 = v.toNat / 2 ^ 48 := by
        rw [fieldNat_eq_div_mod]
        omega
      simp [State.ctrlWrite, State.writeCnt, hether, fieldNat_eq_div_mod]
    · rw [hput (w := s.fab.v6pfx) (by simp [State.ctrlRead, State.cntRead, State.fabRead])]
      simp [State.ctrlWrite, State.writeCnt]
    · rw [hput s.ctrlRead_errlog]
      simp [State.ctrlWrite, State.writeCnt, MemState.writeErrlog_quiet hquiet]
    · rw [hput (w := placed (flagNat s.xlat.svcWrite) 1 + flagNat s.xlat.svcEnable) (by simp [State.ctrlRead, State.svcRead])]
      simp [State.ctrlWrite, bitAt]

end Sys2Proof.Machine
end

section
/-!
SUPPORT AND PROOF. O51 and O52: frames as they arrive, those that are performed and the others (R565, R579, R587 to R603, R608, R609).
-/

namespace Sys2Proof.Machine

set_option Elab.async false

section Arrivals

variable (s : State) (p : Nat) (f : Frame) (stamp : Nat)

/-! ### The arrival at a port (R602, R603) -/

/-- A frame that arrives changes its port alone among the fabric's. -/
theorem State.hear_port : ∃ near, (s.hear p f stamp).fab =
    (s.putPort p { s.port p with lastGood := max (s.port p).lastGood stamp, near }).fab := by
  let near := !(s.port p).modeNow && s.meets (s.port p).deadline stamp
  let u := if near then s.nearMissed (s.port p).deadline stamp else s
  have hu : u.fab = s.fab := by
    have hmiss : (s.nearMissed (s.port p).deadline stamp).fab = s.fab := by
      unfold State.nearMissed
      split_ifs <;> rfl
    show (if near then s.nearMissed (s.port p).deadline stamp else s).fab = s.fab
    split_ifs
    · exact hmiss
    · rfl
  refine ⟨near, ?_⟩
  show { u.fab with ports := u.fab.ports.set p { s.port p with lastGood := max (s.port p).lastGood stamp, near } } = _
  rw [hu]
  rfl

theorem State.hear_fab : (s.hear p f stamp).fab = { s.fab with ports := (s.hear p f stamp).fab.ports } := by
  obtain ⟨near, h⟩ := s.hear_port p f stamp
  rw [h]
  rfl

theorem State.frame_nearMissed (deadline : Nat) : s.Within [.time, .obs] (s.nearMissed deadline stamp) :=
  .ite (((s.frame_setTime _).mono (by decide)).step (State.frame_count _ _ _)) (.refl _ s)

theorem State.frame_hear : s.Within [.time, .obs, .fab, .fabCore] (s.hear p f stamp) := by
  unfold State.hear
  dsimp only
  have hmiss (c : Prop) [Decidable c] (d : Nat) : s.Within [.time, .obs, .fab, .fabCore] (if c then s.nearMissed d stamp else s) :=
    .ite ((s.frame_nearMissed _ _).mono (by decide)) (.refl _ s)
  exact (((hmiss _ _).step (State.frame_putPort _ _ _)).step (State.frame_count _ _ _)).step (State.frame_count _ _ _)

/-- Meridian time's runs of exchanges stay where a frame arrives. -/
theorem State.hear_time : (s.hear p f stamp).time.run = s.time.run ∧ (s.hear p f stamp).time.meas = s.time.meas := by
  have hmiss : (s.nearMissed (s.port p).deadline stamp).time.run = s.time.run ∧ (s.nearMissed (s.port p).deadline stamp).time.meas = s.time.meas := by
    unfold State.nearMissed
    split_ifs <;> exact ⟨rfl, rfl⟩
  unfold State.hear
  dsimp only
  split_ifs
  · exact hmiss
  · exact ⟨rfl, rfl⟩

/-- A port takes frames: it is UP, and the frame is not late for it (R603). -/
def Port.Open (x : Port) (stamp : Nat) : Prop := x.st = .up ∧ (x.modeNow = true ∨ stamp < x.lastGood + 32052)

theorem Port.closed_iff (x : Port) : (x.st != .up || x.lateFor stamp) = true ↔ ¬ x.Open stamp := by
  have hlate : x.lateFor stamp = true ↔ x.modeNow = false ∧ x.lastGood + 32052 ≤ stamp := by
    rw [Port.lateFor, Bool.and_eq_true, decide_eq_true_iff, Bool.not_eq_true']
    rfl
  rw [Bool.or_eq_true, bne_iff_ne, hlate, Port.Open, not_and_or, not_or, Nat.not_lt, Bool.not_eq_true]

theorem Port.not_closed {x : Port} (h : x.Open stamp) : ¬ (x.st != .up || x.lateFor stamp) = true := fun hc => (x.closed_iff stamp).mp hc h

theorem State.arrive_closed (perform : Nat → Frame → Nat → State → Performed) (h : ¬ (s.port p).Open stamp) :
    State.arrive perform p f stamp s = s := if_pos (((s.port p).closed_iff stamp).mpr h)

theorem State.arrive_open (perform : Nat → Frame → Nat → State → Performed) (h : (s.port p).Open stamp) :
    State.arrive perform p f stamp s = if (s.fab.fenced || (s.port p).quar) = true then s.hear p f stamp
      else State.atDevice perform p f stamp (s.hear p f stamp) := by
  have hfenced : (s.hear p f stamp).fab.fenced = s.fab.fenced := by rw [s.hear_fab]
  unfold State.arrive
  dsimp only
  rw [if_neg (Port.not_closed stamp h), hfenced]

theorem State.heartbeat_open (h : (s.port p).Open stamp) (hgood : malformed f = false) : s.heartbeat p f stamp =
    (s.hear p f stamp).putPort p { (s.hear p f stamp).port p with peerValid := true, peer := f.src, peerEpoch := f.sepoch } := by
  unfold State.heartbeat
  dsimp only
  rw [if_neg (Port.not_closed stamp h), hgood]
  exact if_neg (by decide)

theorem State.bsxFrame_open (h : (s.port p).Open stamp) (hquar : (s.port p).quar = false) (hfenced : s.fab.fenced = false)
    (hgood : malformed f = false) : s.bsxFrame p f stamp = (s.hear p f stamp).takeBsx p (unpadded f) stamp := by
  have hopen : (s.hear p f stamp).fab.fenced = false := by rw [s.hear_fab]; exact hfenced
  unfold State.bsxFrame
  dsimp only
  rw [if_neg (Port.not_closed stamp h), hopen, hquar, hgood]
  exact (if_neg (by decide)).trans (if_neg (by decide))

/-! ### The row that brings a frame (log 4) -/

theorem onFrame_of {mine : Frame → Bool} (perform : Nat → Frame → Nat → State → Performed) (hp : p < 32) (hmine : mine f = true) :
    onFrame mine perform p f stamp s = .next (State.arrive perform p f stamp s) :=
  onEvent_of_true (c := decide (p < 32) && mine f) (by rw [decide_eq_true hp, hmine]; rfl) (State.arrive perform p f stamp) s

/-! ### The checks at the device (R579, R593) -/

/-- A port that passes its frames on to the device (R600, R603, R609). -/
def State.Passes : Prop := (s.port p).Open stamp ∧ (s.port p).quar = false ∧ s.fab.fenced = false

theorem State.arrive_passes (perform : Nat → Frame → Nat → State → Performed) (h : s.Passes p stamp) :
    State.arrive perform p f stamp s = State.atDevice perform p f stamp (s.hear p f stamp) := by
  obtain ⟨hopen, hquar, hfenced⟩ := h
  rw [s.arrive_open p f stamp perform hopen, hquar, hfenced]
  exact if_neg (by decide)

/-- A frame is addressed to this device, which holds a logical ID (R579). -/
theorem State.hear_addressed (hdst : f.dst = s.fab.node) (hepoch : s.fab.epoch ≠ 0) :
    ¬ (f.dst ≠ (s.hear p f stamp).fab.node ∨ (s.hear p f stamp).fab.epoch = 0) := by
  rw [s.hear_fab]
  exact not_or.mpr ⟨not_not_intro hdst, hepoch⟩

theorem State.atDevice_malformed (perform : Nat → Frame → Nat → State → Performed) (hdst : f.dst = s.fab.node) (hepoch : s.fab.epoch ≠ 0)
    (hbad : malformed f = true) : State.atDevice perform p f stamp s = s.refuse p f stamp nMalformed 0 0 := by
  unfold State.atDevice
  rw [if_neg (not_or.mpr ⟨not_not_intro hdst, hepoch⟩), if_pos hbad]

theorem State.atDevice_good (perform : Nat → Frame → Nat → State → Performed) (hdst : f.dst = s.fab.node) (hepoch : s.fab.epoch ≠ 0)
    (hgood : malformed f = false) : State.atDevice perform p f stamp s =
      if (!(opAssigned f.op) || (f.op == opCtrl && !(ctrlAssigned (ctrlType (unpadded f))))) = true then
        s.refuse p (unpadded f) stamp nUnsupported 0 0
      else if f.op = opAck then s.takeAck f.src f.kind f.context f.ack
      else if f.op = opNak then s.takeNak p (unpadded f) stamp
      else State.inSequence perform p (unpadded f) stamp s := by
  unfold State.atDevice
  rw [if_neg (not_or.mpr ⟨not_not_intro hdst, hepoch⟩), if_neg (by rw [hgood]; decide)]
  rfl

/-! ### Flows as a frame finds them (R587, R591, R594) -/

/-- The flow that a frame belongs to. -/
def RecvFlow.isOf (r : RecvFlow) (src kind ctx : Nat) : Bool := r.src == src && r.kind == kind && r.ctx == ctx

theorem State.recvFlow_isOf {src kind ctx : Nat} {r : RecvFlow} (h : s.recvFlow src kind ctx = some r) :
    r.src = src ∧ r.kind = kind ∧ r.ctx = ctx := by
  have hof : (r.src == src && r.kind == kind && r.ctx == ctx) = true :=
    List.find?_some (p := fun (r : RecvFlow) => r.src == src && r.kind == kind && r.ctx == ctx) h
  simp only [Bool.and_eq_true, beq_iff_eq] at hof
  exact ⟨hof.1.1, hof.1.2, hof.2⟩

/-- The flows with one put in the place of those of its key. -/
def putFlow (l : List RecvFlow) (r : RecvFlow) : List RecvFlow :=
  if l.any (fun g => g.isOf r.src r.kind r.ctx) then l.map fun g => if g.isOf r.src r.kind r.ctx then r else g else l ++ [r]

theorem State.putRecv_eq (r : RecvFlow) : s.putRecv r = s.setFab { s.fab with recvs := putFlow s.fab.recvs r } := rfl

theorem RecvFlow.isOf_self (r : RecvFlow) : r.isOf r.src r.kind r.ctx = true := by
  simp [RecvFlow.isOf]

theorem find_putFlow (l : List RecvFlow) (r : RecvFlow) : (putFlow l r).find? (fun g => g.isOf r.src r.kind r.ctx) = some r := by
  unfold putFlow
  split_ifs with hany
  · induction l with
    | nil => exact absurd hany (by simp)
    | cons g l ih =>
      by_cases hg : g.isOf r.src r.kind r.ctx = true
      · rw [List.map_cons, if_pos hg, List.find?_cons, r.isOf_self]
      · rw [List.map_cons, if_neg hg, List.find?_cons, Bool.eq_false_of_not_eq_true hg]
        exact ih (by simpa [hg] using hany)
  · rw [List.find?_append, List.find?_eq_none.mpr (fun g hg => by simpa using List.any_eq_false.mp (by simpa using hany) g hg)]
    simp [r.isOf_self]

theorem State.recvFlow_putRecv (r : RecvFlow) : (s.putRecv r).recvFlow r.src r.kind r.ctx = some r := find_putFlow _ r

/-- Of two flows of one key, put one after the other, the later stays. -/
theorem putFlow_putFlow (l : List RecvFlow) {q r : RecvFlow} (hsrc : q.src = r.src) (hkind : q.kind = r.kind) (hctx : q.ctx = r.ctx) :
    putFlow (putFlow l q) r = putFlow l r := by
  have hq : q.isOf r.src r.kind r.ctx = true := by rw [← hsrc, ← hkind, ← hctx]; exact q.isOf_self
  unfold putFlow
  rw [hsrc, hkind, hctx]
  by_cases hany : l.any (fun g => g.isOf r.src r.kind r.ctx) = true
  · rw [if_pos hany, if_pos hany]
    have hmore : (l.map fun g => if g.isOf r.src r.kind r.ctx then q else g).any (fun g => g.isOf r.src r.kind r.ctx) = true := by
      obtain ⟨g, hg, hof⟩ := List.any_eq_true.mp hany
      exact List.any_eq_true.mpr ⟨q, List.mem_map.mpr ⟨g, hg, if_pos hof⟩, hq⟩
    rw [if_pos hmore, List.map_map]
    refine List.map_congr_left fun g _ => ?_
    by_cases hg : g.isOf r.src r.kind r.ctx = true
    · simp [hg, hq]
    · simp [hg]
  · rw [if_neg hany, if_neg hany]
    have hmore : (l ++ [q]).any (fun g => g.isOf r.src r.kind r.ctx) = true := by simp [hq]
    rw [if_pos hmore, List.map_append]
    have hsame : (l.map fun g => if g.isOf r.src r.kind r.ctx then r else g) = l := by
      refine (List.map_congr_left fun g hg => ?_).trans (List.map_id l)
      exact if_neg (by simpa using List.any_eq_false.mp (by simpa using hany) g hg)
    rw [hsame]
    simp [hq]

theorem State.putRecv_putRecv {q r : RecvFlow} (hsrc : q.src = r.src) (hkind : q.kind = r.kind) (hctx : q.ctx = r.ctx) :
    (s.putRecv q).putRecv r = s.putRecv r := by
  rw [State.putRecv_eq, State.putRecv_eq, State.putRecv_eq, State.setFab_fab]
  dsimp only
  rw [putFlow_putFlow _ hsrc hkind hctx]
  rfl

/-- A frame that its flow expects. -/
def State.Expected : Prop :=
  (∃ r, s.recvFlow f.src f.kind f.context = some r ∧ r.expect = f.seq ∧ (f.first = true → f.seq = 0 → stamp < r.last + 8000000))
    ∨ (s.recvFlow f.src f.kind f.context = none ∧ f.first = true ∧ f.seq = 0 ∧ s.fab.recvs.length < 65536)

theorem State.findFlow_expected (h : s.Expected f stamp) :
    ∃ t, s.findFlow f stamp = .expects t f.seq ∧ t.acceptSeq p f stamp = s.acceptSeq p f stamp := by
  rcases h with ⟨r, hflow, hexpect, hfresh⟩ | ⟨hflow, hfirst, hseq, hroom⟩
  · obtain ⟨hsrc, hkind, hctx⟩ := s.recvFlow_isOf hflow
    have hold : ((f.first && f.seq == 0) && decide (r.last + 8000000 ≤ stamp)) = false := by
      cases hfirst : f.first with
      | false => rfl
      | true =>
        by_cases hseq : f.seq = 0
        · rw [decide_eq_false (Nat.not_le.mpr (hfresh hfirst hseq)), Bool.and_false]
        · rw [beq_eq_false_iff_ne.mpr hseq]
          rfl
    refine ⟨s.putRecv { r with last := stamp }, ?_, ?_⟩
    · unfold State.findFlow
      dsimp only
      rw [hflow]
      dsimp only
      rw [hold, hexpect]
      exact if_neg (by decide)
    · have hagain : (s.putRecv { r with last := stamp }).recvFlow f.src f.kind f.context = some { r with last := stamp } := by
        rw [← hsrc, ← hkind, ← hctx]
        exact s.recvFlow_putRecv { r with last := stamp }
      unfold State.acceptSeq
      rw [hagain, hflow]
      exact s.putRecv_putRecv hsrc hkind hctx
  · refine ⟨s, ?_, rfl⟩
    unfold State.findFlow
    dsimp only
    rw [hflow, hfirst, hseq]
    dsimp only
    rw [if_neg (by decide), if_pos hroom]

theorem State.epochCheck_known (hsrc : f.sepoch = s.epochOf f.src) (hown : f.epoch = s.fab.epoch) : s.epochCheck p f stamp = (s, true) := by
  unfold State.epochCheck
  dsimp only
  rw [if_neg (not_not_intro hsrc), if_neg (not_not_intro hown)]

/-- A frame in its place of its flow, from both known epochs, is performed, and its ACK goes where it is due. -/
theorem State.inSequence_expected (perform : Nat → Frame → Nat → State → Performed) (hsrc : f.sepoch = s.epochOf f.src)
    (hown : f.epoch = s.fab.epoch)
    (h : (if f.ackv then s.takeAck f.src f.kind f.context f.ack else s).Expected f stamp) :
    State.inSequence perform p f stamp s =
      (let r := perform p f stamp ((if f.ackv then s.takeAck f.src f.kind f.context f.ack else s).acceptSeq p f stamp)
       (if r.reason = 0 then r.state else r.state.refuse p f stamp r.reason 0 0).ackIfDue f) := by
  obtain ⟨t, hfind, haccept⟩ := (if f.ackv then s.takeAck f.src f.kind f.context f.ack else s).findFlow_expected p f stamp h
  unfold State.inSequence
  rw [s.epochCheck_known p f stamp hsrc hown]
  dsimp only
  rw [hfind]
  dsimp only
  rw [if_neg (not_not_intro rfl), haccept]

/-! ### A frame that is performed -/

variable {s p f stamp}

theorem State.passes_of_takes (h : s.takes p f stamp) : p < 32 ∧ s.Passes p stamp := by
  obtain ⟨hp, hup, hlate, hquar, hfenced, -⟩ := h
  exact ⟨hp, ⟨hup, hlate⟩, hquar, hfenced⟩

/-- A frame that passes every check is performed in hand. -/
theorem State.arrive_takes (h : s.takes p f stamp) (perform : Nat → Frame → Nat → State → Performed) :
    State.arrive perform p f stamp s =
      (let r := perform p (unpadded f) stamp (s.inHand p f stamp)
       (if r.reason = 0 then r.state else r.state.refuse p (unpadded f) stamp r.reason 0 0).ackIfDue (unpadded f)) := by
  have hpasses := (State.passes_of_takes h).2
  obtain ⟨-, -, -, -, -, hdst, hepoch, hgood, hassigned, hctrl, hseq, hsrc, hown, hflow⟩ := h
  let t := s.hear p f stamp
  have hfab : t.fab = { s.fab with ports := t.fab.ports } := s.hear_fab p f stamp
  have hnode : f.dst = t.fab.node := by rw [hfab]; exact hdst
  have hid : t.fab.epoch ≠ 0 := by rw [hfab]; exact hepoch
  have hknown : f.sepoch = t.epochOf f.src := by unfold State.epochOf; rw [hfab]; exact hsrc
  have hours : f.epoch = t.fab.epoch := by rw [hfab]; exact hown
  have hops : ¬ (!(opAssigned f.op) || (f.op == opCtrl && !(ctrlAssigned (ctrlType (unpadded f))))) = true := by
    rw [hassigned]
    by_cases hop : f.op = opCtrl
    · rw [hctrl hop]
      simp
    · simp [hop]
  have hack : f.op ≠ opAck := fun heq => by simp [Frame.unsequenced, heq] at hseq
  have hnak : f.op ≠ opNak := fun heq => by simp [Frame.unsequenced, heq] at hseq
  rw [s.arrive_passes p f stamp perform hpasses, t.atDevice_good p f stamp perform hnode hid hgood, if_neg hops, if_neg hack, if_neg hnak]
  exact t.inSequence_expected p (unpadded f) stamp perform hknown hours hflow

/-- The row of a frame that passes every check: performed, or refused with its reason. -/
theorem exec_takes (h : s.takes p f stamp) {mine : Frame → Bool} (hmine : mine f = true) (perform : Nat → Frame → Nat → State → Performed)
    {t : State} {reason : Nat} (hperform : perform p (unpadded f) stamp (s.inHand p f stamp) = ⟨t, reason⟩) :
    onFrame mine perform p f stamp s =
      .next ((if reason = 0 then t else t.refuse p (unpadded f) stamp reason 0 0).ackIfDue (unpadded f)) := by
  rw [onFrame_of s p f stamp perform (State.passes_of_takes h).1 hmine, State.arrive_takes h perform, hperform]

end Arrivals

end Sys2Proof.Machine
end

section
/-!
PROOF. O51 and O52: sequenced frames that are performed (R484, R485, R520, R551, R582 to R594), and the other frames (R565, R579, R593 to
R603, R608, R609).
-/

namespace Sys2Proof.Machine

set_option Elab.async false

section Performed

variable {s : State} {p : Nat} {f : Frame} {stamp : Nat}

/-- A frame that is performed and not refused. -/
theorem exec_performs (h : s.takes p f stamp) {mine : Frame → Bool} (hmine : mine f = true) (perform : Nat → Frame → Nat → State → Performed)
    {t : State} (hperform : perform p (unpadded f) stamp (s.inHand p f stamp) = ⟨t, 0⟩) :
    onFrame mine perform p f stamp s = .next (t.ackIfDue (unpadded f)) := by
  rw [exec_takes h hmine perform hperform, if_pos rfl]

/-- A window refuses an access for a reason (R484, R597). -/
theorem State.tieCheck_reason {src window offset n r : Nat} {k : AccKind} {u : State} (h : u.tieCheck src window offset n k = .inl r) : r ≠ 0 := by
  unfold State.tieCheck at h
  split at h
  · injection h with h
    exact h ▸ (by decide)
  · split_ifs at h
    all_goals
      injection h with h
      exact h ▸ (by decide)

theorem State.poisoned_chargeRx (u : State) (c m pa n : Nat) : (u.chargeRx c m).poisoned pa n = u.poisoned pa n := by
  unfold State.chargeRx
  dsimp only
  split_ifs <;> rfl

/-- A tie access: refused by its window, refused for the poison that it meets where it reads, or performed (R484, R485, R551). -/
theorem exec_window (h : s.takes p f stamp) {mine : Frame → Bool} (hmine : mine f = true) (perform : Nat → Frame → Nat → State → Performed)
    {n : Nat} {k : AccKind} (poisons : Bool) (go : Nat → TieWindow → State → State)
    (hperform : perform p (unpadded f) stamp (s.inHand p f stamp) = (s.inHand p f stamp).throughWindow (unpadded f) n k fun pa w t =>
      if (poisons && t.poisoned pa n) = true then ⟨t, nPoisoned⟩ else ⟨go pa w t, 0⟩) :
    (∀ r, (s.inHand p f stamp).tieCheck f.src f.window f.offset n k = .inl r → onFrame mine perform p f stamp s =
      .next (((s.inHand p f stamp).refuse p (unpadded f) stamp r 0 0).ackIfDue (unpadded f)))
    ∧ (∀ pa w, (s.inHand p f stamp).tieCheck f.src f.window f.offset n k = .inr (pa, w) →
        ((poisons = false ∨ (s.inHand p f stamp).poisoned pa n = false) → onFrame mine perform p f stamp s =
          .next ((go pa w ((s.inHand p f stamp).chargeRx w.ctx (unpadded f).bytes)).ackIfDue (unpadded f)))
        ∧ (poisons = true → (s.inHand p f stamp).poisoned pa n = true → onFrame mine perform p f stamp s =
          .next ((((s.inHand p f stamp).chargeRx w.ctx (unpadded f).bytes).refuse p (unpadded f) stamp nPoisoned 0 0).ackIfDue
            (unpadded f)))) := by
  let u := s.inHand p f stamp
  refine ⟨fun r hcheck => ?_, fun pa w hcheck => ?_⟩
  · have hrefused : perform p (unpadded f) stamp u = ⟨u, r⟩ := by
      rw [hperform, State.throughWindow]
      exact (congrArg (fun x => match x with
        | .inl r => (⟨u, r⟩ : Performed)
        | .inr (pa, w) => if (poisons && (u.chargeRx w.ctx (unpadded f).bytes).poisoned pa n) = true then
            ⟨u.chargeRx w.ctx (unpadded f).bytes, nPoisoned⟩ else ⟨go pa w (u.chargeRx w.ctx (unpadded f).bytes), 0⟩) hcheck)
    rw [exec_takes h hmine perform hrefused, if_neg (State.tieCheck_reason hcheck)]
  · have hgo : perform p (unpadded f) stamp u = if (poisons && u.poisoned pa n) = true then
        ⟨u.chargeRx w.ctx (unpadded f).bytes, nPoisoned⟩ else ⟨go pa w (u.chargeRx w.ctx (unpadded f).bytes), 0⟩ := by
      rw [hperform, State.throughWindow, ← u.poisoned_chargeRx w.ctx (unpadded f).bytes]
      exact (congrArg (fun x => match x with
        | .inl r => (⟨u, r⟩ : Performed)
        | .inr (pa, w) => if (poisons && (u.chargeRx w.ctx (unpadded f).bytes).poisoned pa n) = true then
            ⟨u.chargeRx w.ctx (unpadded f).bytes, nPoisoned⟩ else ⟨go pa w (u.chargeRx w.ctx (unpadded f).bytes), 0⟩) hcheck)
    refine ⟨fun hclean => ?_, fun hpoisons hbad => ?_⟩
    · have hno : ¬ (poisons && u.poisoned pa n) = true := by
        rcases hclean with hc | hc
        · rw [hc, Bool.false_and]
          exact Bool.false_ne_true
        · rw [hc, Bool.and_false]
          exact Bool.false_ne_true
      exact exec_performs h hmine perform (hgo.trans (if_neg hno))
    · rw [exec_takes h hmine perform (hgo.trans (if_pos (by rw [hpoisons, hbad]; rfl))), if_neg (by decide)]

/-- An atomic through a window: the old value goes back (R525, R582). -/
def State.atomicThrough (t : State) (g : Frame) (pa : Nat) (w : TieWindow) : State :=
  let r := (t.atomHolders 10 pa w.memClass (some w.ctx)).rmw pa (g.word 0 / 2 ^ 56) (g.word 0 / 2 ^ 48 % 256) (g.word 1) (g.word 2)
  r.1.respond g opAtomicRsp w.ctx (beBytes 8 r.2)

/-- What a message about a fill source does, by its kind (R671). -/
def State.takeFill (u : State) (f : Frame) (sub : Nat) : State :=
  match sub with
  | 1 => u.takeClaim f
  | 2 => u.takeGrant f
  | 3 => u.takeRelease f
  | 4 => u.takeStage f
  | 5 => u.takeProgress f
  | 6 => u.takeFillFail f
  | _ => u

theorem performFill_of (u : State) {k : Nat} (hk : fillSub f = k) : performFill p f stamp u = ⟨u.takeFill f k, 0⟩ := by
  subst hk
  rfl

end Performed

/-- Settles O51: each frame by what it is performed as, in its place of its flow. -/
theorem framesPerformed : Obligations.FramesPerformed := by
  unfold Obligations.FramesPerformed
  intro s p f stamp h
  have hctrl {type : Nat} (hop : f.op = opCtrl) (htype : ctrlType f = type) : isCtrl type f = true :=
    Bool.and_eq_true_iff.mpr ⟨beq_iff_eq.mpr hop, beq_iff_eq.mpr htype⟩
  have hcoll {phase : Nat} (hop : f.op = opColl) (hphase : collPhase f = phase) : isColl phase f = true :=
    Bool.and_eq_true_iff.mpr ⟨beq_iff_eq.mpr hop, beq_iff_eq.mpr hphase⟩
  have hfill {k : Nat} (hop : f.op = opCtrl) (htype : ctrlType f = 0x30) (hk : fillSub f = k) : isFill k f = true :=
    Bool.and_eq_true_iff.mpr ⟨hctrl hop htype, beq_iff_eq.mpr hk⟩
  refine ⟨fun hop => exec_window h (mine := fun f => f.op == opWrite) (beq_iff_eq.mpr hop) performWrite false _ rfl,
    fun hop => exec_window h (mine := fun f => f.op == opReadReq) (beq_iff_eq.mpr hop) performRead true _ rfl,
    fun hop => exec_window h (mine := fun f => f.op == opAtomic) (beq_iff_eq.mpr hop) performAtomic
      (n := (unpadded f).word 0 / 2 ^ 48 % 256) (k := .atomic) true (fun pa w t => t.atomicThrough (unpadded f) pa w) rfl,
    fun hop => exec_window h (mine := fun f => f.op == opXadd) (beq_iff_eq.mpr hop) performXadd true _ rfl,
    fun hop => exec_performs h (mine := fun f => f.op == opAtomicRsp) (beq_iff_eq.mpr hop) performAtomicRsp rfl,
    fun hop => exec_performs h (mine := fun f => f.op == opReadRsp) (beq_iff_eq.mpr hop) performReadRsp rfl,
    fun hop => ⟨fun htype => exec_performs h (hctrl hop htype) performAligned rfl,
      fun htype => exec_performs h (hctrl hop htype) performHall rfl,
      fun htype => exec_performs h (hctrl hop htype) performOffer rfl,
      fun htype => exec_performs h (hctrl hop htype) performLaunchAck rfl,
      fun htype => exec_performs h (hctrl hop htype) performCommit rfl,
      fun htype => exec_performs h (hctrl hop htype) performAbort rfl,
      fun htype => exec_performs h (hctrl hop htype) performThrottle rfl,
      fun htype hsame => ⟨fun hk => exec_performs h (hfill hop htype hk) performFill (performFill_of _ (hsame.trans hk)),
        fun hk => exec_performs h (hfill hop htype hk) performFill (performFill_of _ (hsame.trans hk)),
        fun hk => exec_performs h (hfill hop htype hk) performFill (performFill_of _ (hsame.trans hk)),
        fun hk => exec_performs h (hfill hop htype hk) performFill (performFill_of _ (hsame.trans hk)),
        fun hk => exec_performs h (hfill hop htype hk) performFill (performFill_of _ (hsame.trans hk)),
        fun hk => exec_performs h (hfill hop htype hk) performFill (performFill_of _ (hsame.trans hk))⟩⟩,
    fun hop => ⟨fun hphase => exec_performs h (hcoll hop hphase) performColl rfl,
      fun hphase => exec_performs h (hcoll hop hphase) performColl rfl,
      fun hphase => exec_performs h (hcoll hop hphase) performColl rfl,
      fun hphase => exec_performs h (hcoll hop hphase) performColl rfl⟩,
    State.recvFlow_putRecv _ _⟩

/-! ### Frames that are refused (R595 to R600) -/

section Refused

variable (s : State) (p : Nat) (f : Frame) (stamp : Nat)

/-- What a frame's NAK sends. -/
def State.nakked (out : Option Nat) (nak : Frame) : State :=
  match out with
  | some q => (s.sendOn q nak).count 14 1
  | none => s

theorem State.frame_nakked (out : Option Nat) (nak : Frame) : s.Within [.fab, .obs, .outbox] (s.nakked out nak) := by
  cases out with
  | none => exact .refl _ s
  | some q => exact (s.frame_sendOn _ _).step (State.frame_count _ _ _)

/-- A NAK that goes back counts no violation. -/
theorem State.nakked_counts (out : Option Nat) (nak : Frame) : (s.nakked out nak).fab.vTotal = s.fab.vTotal
    ∧ (s.nakked out nak).fab.vHead = s.fab.vHead ∧ (s.nakked out nak).fab.ring = s.fab.ring := by
  have hcore := (s.frame_nakked out nak).fabCore (by decide)
  have htotal : (coreFab (s.nakked out nak).fab).vTotal = (coreFab s.fab).vTotal := by rw [hcore]
  have hhead : (coreFab (s.nakked out nak).fab).vHead = (coreFab s.fab).vHead := by rw [hcore]
  have hring : (coreFab (s.nakked out nak).fab).ring = (coreFab s.fab).ring := by rw [hcore]
  exact ⟨htotal, hhead, hring⟩

theorem State.refuse_eq (reason seen expect : Nat) : ∃ out nak, s.refuse p f stamp reason seen expect =
    if nakViolation reason = true then (s.nakked out nak).violation p f stamp reason out.isSome else s.nakked out nak :=
  ⟨_, _, rfl⟩

theorem State.violWindow_fab : s.violWindow.fab = { s.fab with violMs := s.violWindow.fab.violMs, ports := s.violWindow.fab.ports } := by
  unfold State.violWindow
  split_ifs <;> rfl

theorem State.frame_violWindow : s.Within [.fab, .fabCore] s.violWindow := .ite (.refl _ s) (s.frame_setFab _)

/-- A violation is counted, and takes the next slot of the ring (R598). -/
theorem State.violation_counts (reason : Nat) (answered : Bool) :
    (s.violation p f stamp reason answered).fab.vTotal = (s.fab.vTotal + 1) % 2 ^ 32
      ∧ (s.violation p f stamp reason answered).fab.vHead = (s.fab.vHead + 1) % 256 := by
  have htotal : s.violWindow.fab.vTotal = s.fab.vTotal := by rw [s.violWindow_fab]
  have hhead : s.violWindow.fab.vHead = s.fab.vHead := by rw [s.violWindow_fab]
  unfold State.violation
  dsimp only
  split_ifs
  · exact ⟨congrArg (fun n => (n + 1) % 2 ^ 32) htotal, congrArg (fun n => (n + 1) % 256) hhead⟩
  · exact ⟨congrArg (fun n => (n + 1) % 2 ^ 32) htotal, congrArg (fun n => (n + 1) % 256) hhead⟩

theorem State.frame_violation (reason : Nat) (answered : Bool) : s.Within [.fab, .fabCore, .ids] (s.violation p f stamp reason answered) := by
  have hhot (c : Prop) [Decidable c] (off bit : Nat) : s.Within [.fab, .fabCore, .ids]
      (if c then s.violWindow.setHot off bit else s.violWindow) :=
    .ite ((s.frame_violWindow.mono (by decide)).step (State.frame_setHot _ _ _)) (s.frame_violWindow.mono (by decide))
  unfold State.violation
  dsimp only
  exact ((hhot _ _ _).step (State.frame_setFab _ _)).step (State.frame_putPort _ _ _)

theorem State.frame_refuse (reason seen expect : Nat) :
    s.Within [.fab, .fabCore, .ids, .obs, .outbox] (s.refuse p f stamp reason seen expect) := by
  obtain ⟨out, nak, h⟩ := s.refuse_eq p f stamp reason seen expect
  rw [h]
  exact .ite (((s.frame_nakked _ _).mono (by decide)).step (State.frame_violation _ _ _ _ _ _)) ((s.frame_nakked _ _).mono (by decide))

/-- The sample that a frame brings joins a run of exchanges at its port. -/
theorem BsRun.answered_eq (x : BsSample) : (fun r : BsRun => r.answered x) = fun r =>
    if r.phase = .exchanging ∧ x.port ∈ r.ports then { r with samples := r.samples ++ [x] } else r := by
  funext r
  unfold BsRun.answered
  simp

end Refused

/-- Settles O52: an arrival by its port's state, its checks in their order, and a refusal by what it counts. -/
theorem otherFrames : Obligations.OtherFrames := by
  unfold Obligations.OtherFrames
  intro s p f stamp hp
  have hrow {mine : Frame → Bool} (perform : Nat → Frame → Nat → State → Performed) (hmine : mine f = true) :=
    onFrame_of s p f stamp perform hp hmine
  have hbsx (hpasses : s.Passes p stamp) (hop : f.op = opBsx) (hgood : malformed f = false) :
      exec (.rxBsx p f stamp) s = .next ((s.hear p f stamp).takeBsx p (unpadded f) stamp) := by
    refine (onEvent_of_true (c := decide (p < 32) && f.op == opBsx) (by rw [decide_eq_true hp, beq_iff_eq.mpr hop]; rfl)
      (fun s => s.bsxFrame p f stamp) s).trans (congrArg Host.Outcome.next ?_)
    exact s.bsxFrame_open p f stamp hpasses.1 hpasses.2.1 hpasses.2.2 hgood
  have hbeat : f.op = opHeartbeat → exec (.rxHeartbeat p f stamp) s = .next (s.heartbeat p f stamp) := fun hop =>
    onEvent_of_true (c := decide (p < 32) && f.op == opHeartbeat) (by rw [decide_eq_true hp, beq_iff_eq.mpr hop]; rfl)
      (fun s => s.heartbeat p f stamp) s
  refine ⟨onEvent_of_true (c := decide (p < 32)) (decide_eq_true hp)
      (fun s => s.putPort p { s.port p with linkErrors := (s.port p).linkErrors + 1 }) s,
    fun hclosed hop => ?_, fun hclosed hop => ?_, fun hopen hshut hop => ?_, fun hopen hop hgood => ?_,
    fun hpasses hop hgood => ⟨hbsx hpasses hop hgood, fun hreply => ?_⟩, fun hpasses hdst hepoch => ?_, ?_⟩
  · exact (hbeat hop).trans (congrArg Host.Outcome.next (if_pos (((s.port p).closed_iff stamp).mpr hclosed)))
  · exact (hrow (mine := fun f => f.op == opWrite) performWrite (beq_iff_eq.mpr hop)).trans (congrArg Host.Outcome.next (s.arrive_closed p f stamp performWrite hclosed))
  · refine (hrow (mine := fun f => f.op == opWrite) performWrite (beq_iff_eq.mpr hop)).trans (congrArg Host.Outcome.next ?_)
    rw [s.arrive_open p f stamp performWrite hopen]
    exact if_pos (by rcases hshut with h | h <;> simp [h])
  · exact (hbeat hop).trans (congrArg Host.Outcome.next (s.heartbeat_open p f stamp hopen hgood))
  · obtain ⟨hrun, hmeas⟩ := s.hear_time p f stamp
    refine ⟨_, hbsx hpasses hop hgood, ?_⟩
    have htake : (s.hear p f stamp).takeBsx p (unpadded f) stamp = _ := if_neg hreply
    rw [htake, State.setTime_time]
    dsimp only
    rw [hrun, hmeas, BsRun.answered_eq]
    exact ⟨rfl, rfl⟩
  · have hnode : f.dst = (s.hear p f stamp).fab.node := by rw [s.hear_fab]; exact hdst
    have hid : (s.hear p f stamp).fab.epoch ≠ 0 := by rw [s.hear_fab]; exact hepoch
    have harrive {mine : Frame → Bool} (perform : Nat → Frame → Nat → State → Performed) (hmine : mine f = true) :
        onFrame mine perform p f stamp s = .next (State.atDevice perform p f stamp (s.hear p f stamp)) :=
      (hrow perform hmine).trans (congrArg Host.Outcome.next (s.arrive_passes p f stamp perform hpasses))
    have hatDevice (perform : Nat → Frame → Nat → State → Performed) (hgood : malformed f = false) :=
      (s.hear p f stamp).atDevice_good p f stamp perform hnode hid hgood
    refine ⟨fun hbad hop => ?_, fun hgood hnone => ?_, fun hgood hop => ?_, fun hgood hop => ?_⟩
    · exact (harrive (mine := fun f => f.op == opWrite) performWrite (beq_iff_eq.mpr hop)).trans
        (congrArg Host.Outcome.next ((s.hear p f stamp).atDevice_malformed p f stamp performWrite hnode hid hbad))
    · refine (harrive (mine := fun f => !(opAssigned f.op) || (f.op == opCtrl && !(ctrlAssigned (ctrlType f)))) performNone (by rw [hnone]; rfl)).trans (congrArg Host.Outcome.next ?_)
      rw [hatDevice performNone hgood, hnone]
      rfl
    · refine (harrive (mine := fun f => f.op == opAck) performNone (beq_iff_eq.mpr hop)).trans (congrArg Host.Outcome.next ?_)
      rw [hatDevice performNone hgood, hop]
      rfl
    · refine (harrive (mine := fun f => f.op == opNak) performNone (beq_iff_eq.mpr hop)).trans (congrArg Host.Outcome.next ?_)
      rw [hatDevice performNone hgood, hop]
      rfl
  · rintro reason seen expect v rfl
    have hframe := s.frame_refuse p f stamp reason seen expect
    obtain ⟨out, nak, hrefuse⟩ := s.refuse_eq p f stamp reason seen expect
    obtain ⟨htotal, hhead, hring⟩ := s.nakked_counts out nak
    refine ⟨fun hreason => ?_, fun hreason => ?_, hframe.mem (by decide), hframe.mbxs (by decide), hframe.compute (by decide),
      hframe.xlat (by decide)⟩
    · obtain ⟨htot, hhd⟩ := (s.nakked out nak).violation_counts p f stamp reason out.isSome
      rw [hrefuse, if_pos (by simp [nakViolation, hreason]), htot, hhd, htotal, hhead]
      exact ⟨rfl, rfl⟩
    · rw [hrefuse, if_neg (by rcases hreason with rfl | rfl | rfl <;> decide), hring, htotal]
      exact ⟨rfl, rfl⟩

end Sys2Proof.Machine
end

section
/-!
PROOF. O57: monuments and restores (R651 to R673).
-/

namespace Sys2Proof.Machine

set_option Elab.async false

section Monuments

variable (s : State)

/-! ### The monuments held (R659) -/

theorem items_of_core {x y : MonumentState} (h : coreMonu y = coreMonu x) : y.items = x.items ∧ y.fills = x.fills ∧ y.nextId = x.nextId := by
  have hitems : (coreMonu y).items = (coreMonu x).items := by rw [h]
  have hfills : (coreMonu y).fills = (coreMonu x).fills := by rw [h]
  have hnext : (coreMonu y).nextId = (coreMonu x).nextId := by rw [h]
  exact ⟨hitems, hfills, hnext⟩

theorem State.monument_id {id : Nat} {m : Monument} (h : s.monument id = some m) : m.id = id := by
  have hid : (m.id == id) = true := List.find?_some (p := fun (m : Monument) => m.id == id) h
  exact beq_iff_eq.mp hid

/-- Of the monuments with another in the place of those of its ID, that one is found. -/
theorem find_put {l : List Monument} {m x : Monument} (h : l.find? (fun y => y.id == m.id) = some x) :
    (l.map fun y => if y.id = m.id then m else y).find? (fun y => y.id == m.id) = some m := by
  induction l with
  | nil => exact nomatch h
  | cons y l ih =>
    by_cases hy : y.id = m.id
    · simp [hy]
    · have hrest : l.find? (fun y => y.id == m.id) = some x := by simpa [List.find?_cons, hy] using h
      simp [hy, ih hrest]

/-- A monument as it is published: with the moment, and the flags, of its last change. -/
def State.stamped (m : Monument) : Monument := { m with endMt := s.mt, endFlags := s.hubFlags false }

theorem State.publish_items (m : Monument) : (s.publish m).monu.items = s.monu.items.map (fun x => if x.id = m.id then s.stamped m else x)
    ∧ (s.publish m).monu.nextId = s.monu.nextId := by
  let u := s.putMonument (s.stamped m)
  have hcore : coreMonu (s.publish m).monu = coreMonu u.monu :=
    (((u.frame_monuStore (s.stamped m) _ _).trans (State.frame_monuStore _ (s.stamped m) _ _)).monuCore (by decide))
  obtain ⟨hitems, -, hnext⟩ := items_of_core hcore
  exact ⟨hitems, hnext⟩

/-- A monument that is over: its state and its status stand among the others (R660). -/
theorem State.finishMonument_items (m : Monument) (st : MonState) (status : Nat) : (s.finishMonument m st status).monu.items =
    s.monu.items.map fun x => if x.id = m.id then s.stamped { m with st, status, alloc := none, broken := none, buffer := [] } else x := by
  let u := s.publish { m with st, status, alloc := none, broken := none, buffer := [] }
  let v := u.setMonu { u.monu with reads := u.monu.reads.filter fun r => r.id != m.id }
  have hcore : coreMonu (s.finishMonument m st status).monu = coreMonu v.monu := (v.frame_releaseClaim m).monuCore (by decide)
  obtain ⟨hitems, -, -⟩ := items_of_core hcore
  exact hitems.trans (s.publish_items _).1

theorem State.finishMonument_monument {m x : Monument} (h : s.monument m.id = some x) (st : MonState) (status : Nat) :
    ∃ y, (s.finishMonument m st status).monument m.id = some y ∧ y.st = st ∧ y.status = status := by
  refine ⟨s.stamped { m with st, status, alloc := none, broken := none, buffer := [] }, ?_, rfl, rfl⟩
  rw [State.monument, s.finishMonument_items]
  exact find_put (m := s.stamped { m with st, status, alloc := none, broken := none, buffer := [] }) h

/-! ### The issue of a monument (R659, R667) -/

/-- A manifest that was read makes an operation of its kind that waits for its stake. -/
theorem State.readManifest_ok {restore : Bool} {ctx : Option Nat} {addr stake layer : Nat} {layers : BitVec 3} {m : Monument}
    (h : s.readManifest restore ctx addr stake layers layer = .ok m) : m.isRestore = restore ∧ m.st = .waiting ∧ m.stake = stake := by
  have hok (c : Prop) [Decidable c] (st : Nat) (g : Got Monument) (hg : (if c then .status st else g) = .ok m) : g = .ok m := by
    by_cases hc : c
    · rw [if_pos hc] at hg
      exact nomatch hg
    · rwa [if_neg hc] at hg
  unfold State.readManifest at h
  have hhead := hok _ _ _ h
  split at hhead
  · exact nomatch hhead
  · have hlists := hok _ _ _ hhead
    split at hlists
    · exact nomatch hlists
    · have hmade := hok _ _ _ hlists
      injection hmade with hmade
      subst hmade
      exact ⟨rfl, rfl, rfl⟩

/-- The operation as it joins the others. -/
def issued (m : Monument) (id a : Nat) : Monument :=
  { m with id, alloc := some a, phase := if m.isRestore then .claiming else .over_ }

/-- The event of the stake at which an operation is issued. -/
def monuEvent (m : Monument) (id : Nat) : StakeEvent := if m.isRestore then .restore id else .capture id

theorem State.issueMonument_granted {n : Nat} {m : Monument} {t : State} {a : Nat}
    (h : s.allocate 8 1 m.stake (s.mailboxOwner n) (monuEvent m s.monu.nextId) = (t, .granted a)) :
    ∃ v : State, s.issueMonument n m = v.complete n stOk [s.monu.nextId] ∧ v.monu.nextId = (s.monu.nextId + 1) % 2 ^ 16
      ∧ ∃ x ∈ v.monu.items, x.id = s.monu.nextId ∧ x.isRestore = m.isRestore ∧ x.st = m.st ∧ x.stake = m.stake := by
  let keep := fun (x : Monument) => !x.st.terminal || decide ((s.monu.nextId + 2 ^ 16 - x.id) % 2 ^ 16 < 64)
  let u := t.setMonu { t.monu with
    items := t.monu.items.filter keep ++ [issued m s.monu.nextId a], nextId := (s.monu.nextId + 1) % 2 ^ 16 }
  obtain ⟨hitems, hnext⟩ := u.publish_items (issued m s.monu.nextId a)
  refine ⟨u.publish (issued m s.monu.nextId a), ?_, hnext, u.stamped (issued m s.monu.nextId a), ?_, rfl, rfl, rfl, rfl⟩
  · unfold State.issueMonument
    unfold monuEvent at h
    dsimp only
    rw [h]
    rfl
  · rw [hitems]
    exact List.mem_map.mpr ⟨issued m s.monu.nextId a, List.mem_append.mpr (.inr (List.mem_singleton.mpr rfl)), if_pos rfl⟩

theorem State.startMonument_issued {n layer : Nat} {restore : Bool} {layers : BitVec 3} {m : Monument}
    (hread : s.readManifest restore (s.monuCtx n) (s.arg n 0) (s.arg n 2) layers layer = .ok m) (hok : s.monuRefusal m = none) :
    s.startMonument n restore layers layer = s.issueMonument n m := by
  unfold State.startMonument
  rw [hread]
  dsimp only
  rw [hok]

/-- What MONUMENT_START does (R659). -/
def State.monumentStart (n : Nat) : State :=
  let layers := BitVec.ofNat 3 (s.arg n 1)
  if layers = 0 then s.complete n stBadArg []
  else if s.fab.fenced && (layers.getLsbD 0 || layers.getLsbD 2) then s.complete n stEpochFenced []
  else s.startMonument n false layers 0

theorem exec_monumentStart {n : Nat} (h : s.has n 0x0800 = true) : exec (.monumentStart n) s = .next (s.monumentStart n) :=
  runCommand_of_has h fun s => s.monumentStart n

/-- What RESTORE does (R667). -/
def State.restoreStart (n : Nat) : State :=
  let layer := s.arg n 1 % 4
  if layer = 3 then s.complete n stBadArg []
  else if s.fab.fenced && layer != 1 then s.complete n stEpochFenced []
  else s.startMonument n true 0 layer

theorem exec_restore {n : Nat} (h : s.has n 0x0802 = true) : exec (.restore n) s = .next (s.restoreStart n) :=
  runCommand_of_has h fun s => s.restoreStart n

/-- The bit that marks a restore (R666). -/
theorem placed_flag (b : Bool) : placed (flagNat b) 47 = if b = true then 2 ^ 47 else 0 := by
  cases b <;> rfl

/-- What MONUMENT_QUERY does (R666). -/
def State.monumentQuery (n : Nat) : State :=
  match s.monument (s.arg n 0 % 2 ^ 16) with
  | some m => s.complete n stOk ((m.stateWord + placed (flagNat m.isRestore) 47) :: (List.range 3).map (s.layerBytes m))
  | none => s.complete n stBadArg []

theorem exec_monumentQuery {n : Nat} (h : s.has n 0x0801 = true) : exec (.monumentQuery n) s = .next (s.monumentQuery n) :=
  runCommand_of_has h fun s => s.monumentQuery n

/-! ### Layers that are sealed, and that fail (R657, R661, R664) -/

theorem exec_monumentSeal {id : Nat} {m : Monument} (h : s.monument id = some m) (hst : m.st = .capturing ∨ m.st = .draining) :
    exec (.monumentSeal id m.layer) s =
      .next (if m.written = true ∧ m.broken = none ∧ s.monuBusy id = false then s.sealLayer m else s) := by
  have hlive : (m.st == .capturing || m.st == .draining) = true := by rcases hst with hst | hst <;> rw [hst] <;> rfl
  show execMonumentSeal id m.layer s = _
  unfold execMonumentSeal
  rw [h]
  dsimp only
  rw [hlive]
  simp [and_assoc]

theorem exec_layerFailure {id layer : Nat} {m : Monument} (h : s.monument id = some m) (hst : m.st = .capturing ∨ m.st = .draining)
    (hmon : m.isRestore = false) (k : Nat) : exec (.layerFailure id layer k) s = .next
      (match (match m.broken with
        | some b => if b.1 = layer then some b.2 else none
        | none => if layer = 1 ∧ k = stHwFault then some k else none) with
      | none => s
      | some st => if layer = m.layer then s.failLayer m st else if m.source = some layer then s.failSource m layer st else s) := by
  have hlive : (m.isRestore || m.st.terminal || !(m.st == .capturing || m.st == .draining)) = false := by
    rw [hmon]
    rcases hst with hst | hst <;> rw [hst] <;> rfl
  show execLayerFailure id layer k s = _
  unfold execLayerFailure
  rw [h]
  dsimp only
  rw [hlive]
  rfl

theorem State.sealLayer_flash {m : Monument} (hlayer : m.layer = 1) : s.sealLayer m =
    if layerOffset m.header 1 + m.imageBytes + 256 ≤ 2 ^ 44 then
      (s.layerWrite m m.imageBytes m.seal).layerEnds { m with sealedLayers := m.sealedLayers ||| BitVec.ofNat 3 (2 ^ m.layer), sealOut := true }
    else s.breakMonument m.id none stHwFault := by
  refine (if_pos hlayer).trans ?_
  simp only [inFlash, decide_eq_true_eq]

theorem State.sealLayer_far {m : Monument} (hlayer : m.layer ≠ 1) : s.sealLayer m =
    if m.sealOut = true then s.layerEnds { m with sealedLayers := m.sealedLayers ||| BitVec.ofNat 3 (2 ^ m.layer), sealOut := true }
    else (s.putMonument { m with sealOut := true }).layerWrite m m.imageBytes m.seal := if_neg hlayer

theorem State.layerWrite_flash {m : Monument} {off : Nat} {bytes : List Byte} (hlayer : m.layer = 1)
    (hin : layerOffset m.header 1 + off + bytes.length ≤ 2 ^ 44) : s.layerWrite m off bytes =
      s.setMonu { s.monu with flash := cellWrite s.monu.flash (layerOffset m.header 1 + off) bytes } :=
  (if_pos hlayer).trans (if_pos (decide_eq_true hin))

/-! ### The end of a restore (R669) -/

theorem exec_restoreComplete {id : Nat} {m : Monument} (h : s.monument id = some m) (hrestore : m.isRestore = true) (hst : m.st = .reading)
    (hphase : m.phase = .over_) : exec (.restoreComplete id) s = .next (s.completeRestore m) := by
  show execRestoreComplete id s = _
  unfold execRestoreComplete
  rw [h]
  dsimp only
  rw [hrestore, hst, hphase]
  rfl

theorem State.endMonument_live {m : Monument} (h : s.monument m.id = some m) (hst : m.st.terminal = false) (status : Nat) :
    s.endMonument m.id status = s.finishMonument m .failed status := by
  rw [State.endMonument, h]
  exact if_neg (by rw [hst]; decide)

/-! ### Fill sources (R672) -/

theorem State.fill_place {w off : Nat} {g : Fill} (h : s.fill w off = some g) : g.window = w ∧ g.offset = off := by
  have hplace : (g.window == w && g.offset == off) = true :=
    List.find?_some (p := fun (g : Fill) => g.window == w && g.offset == off) h
  simpa using hplace

/-- The fill sources with another value at a place. -/
def fillsWith (l : List Fill) (w off : Nat) (f : Fill → Fill) : List Fill := l.map fun h => if h.window = w ∧ h.offset = off then f h else h

theorem find_fill {l : List Fill} {w off : Nat} {g : Fill} (h : l.find? (fun g => g.window == w && g.offset == off) = some g) (f : Fill → Fill)
    (hw : ∀ h, (f h).window = h.window) (ho : ∀ h, (f h).offset = h.offset) :
    (fillsWith l w off f).find? (fun g => g.window == w && g.offset == off) = some (f g) := by
  unfold fillsWith
  induction l with
  | nil => exact nomatch h
  | cons x l ih =>
    by_cases hx : x.window = w ∧ x.offset = off
    · have hg : x = g := by simpa [List.find?_cons, hx.1, hx.2] using h
      simp [hx, hw, ho, ← hg]
    · have hcond : (x.window == w && x.offset == off) = false := by
        rw [Bool.eq_false_iff]
        simpa using hx
      rw [List.find?_cons, hcond] at h
      rw [List.map_cons, if_neg hx, List.find?_cons, hcond]
      exact ih h

theorem State.fill_fillMessage (dst sub id : Nat) (ws : List Nat) (op : FlowOp) (w off : Nat) :
    (s.fillMessage dst sub id ws op).fill w off = s.fill w off := by
  obtain ⟨-, hfills, -⟩ := items_of_core ((s.frame_fillMessage dst sub id ws op).monuCore (by decide))
  rw [State.fill, hfills]
  rfl

/-- The first to claim a source holds it, and each other waits behind it, up to 16 of them (R672). -/
theorem State.takeClaim_first (f : Frame) (hnone : s.fill (f.word 1 % 2 ^ 12) (f.word 2) = none) :
    (s.takeClaim f).fill (f.word 1 % 2 ^ 12) (f.word 2) = some ⟨f.word 1 % 2 ^ 12, f.word 2, some (f.src, fillId f), []⟩ := by
  have hclaim : s.takeClaim f = (s.setMonu { s.monu with
      fills := s.monu.fills ++ [⟨f.word 1 % 2 ^ 12, f.word 2, some (f.src, fillId f), []⟩] }).fillMessage f.src 2 (fillId f)
        [f.word 1 % 2 ^ 12, f.word 2] .none := by
    unfold State.takeClaim
    dsimp only
    rw [hnone]
  have hfind : s.monu.fills.find? (fun g => g.window == f.word 1 % 2 ^ 12 && g.offset == f.word 2) = none := hnone
  rw [hclaim, State.fill_fillMessage, State.fill, State.setMonu_monu, List.find?_append, hfind]
  simp

theorem State.takeClaim_queued (f : Frame) {g : Fill} (hg : s.fill (f.word 1 % 2 ^ 12) (f.word 2) = some g) (hroom : g.queue.length < 16) :
    (s.takeClaim f).fill (f.word 1 % 2 ^ 12) (f.word 2) = some { g with queue := g.queue ++ [(f.src, fillId f)] } := by
  have hclaim : s.takeClaim f = s.setMonu { s.monu with
      fills := fillsWith s.monu.fills (f.word 1 % 2 ^ 12) (f.word 2) fun h => { h with queue := h.queue ++ [(f.src, fillId f)] } } := by
    unfold State.takeClaim
    dsimp only
    rw [hg]
    exact if_neg (Nat.not_le.mpr hroom)
  rw [hclaim]
  exact find_fill hg (fun h => { h with queue := h.queue ++ [(f.src, fillId f)] }) (fun _ => rfl) fun _ => rfl

theorem State.takeClaim_full (f : Frame) {g : Fill} (hg : s.fill (f.word 1 % 2 ^ 12) (f.word 2) = some g) (hfull : 16 ≤ g.queue.length) :
    s.takeClaim f = s.fillMessage f.src 6 (fillId f) [stNoResource * 2 ^ 48] .none := by
  have hword : placed stNoResource 48 = stNoResource * 2 ^ 48 := placed_eq_mul _ _
  unfold State.takeClaim
  dsimp only
  rw [hg, ← hword]
  exact if_pos hfull

/-- One that waits for a source and lets go of it waits no more. -/
theorem State.takeRelease_queued (f : Frame) {g : Fill} (hg : s.fill (f.word 1 % 2 ^ 12) (f.word 2) = some g)
    (hholder : g.holder ≠ some (f.src, fillId f)) : (s.takeRelease f).fill (f.word 1 % 2 ^ 12) (f.word 2) =
      some { g with queue := g.queue.filter (· != (f.src, fillId f)) } := by
  have hrelease : s.takeRelease f = s.setMonu { s.monu with
      fills := fillsWith s.monu.fills (f.word 1 % 2 ^ 12) (f.word 2) fun h => { h with
        queue := h.queue.filter (· != (f.src, fillId f)) } } := by
    unfold State.takeRelease
    dsimp only
    rw [hg]
    exact if_neg hholder
  rw [hrelease]
  exact find_fill hg (fun h => { h with queue := h.queue.filter (· != (f.src, fillId f)) }) (fun _ => rfl) fun _ => rfl

end Monuments

/-- Settles O57: an operation by its issue, a layer by its seal or failure, a restore by its digest, a fill by its queue. -/
theorem monuments : Obligations.Monuments := by
  unfold Obligations.Monuments
  intro s n
  refine ⟨fun hstart hnone => ?_, fun m t al hstart hlayers hopen hread hok halloc => ?_, fun m t al hstart hlayer hopen hread hok halloc => ?_,
    fun hquery => ⟨fun hnone => ?_, fun m hm => ?_⟩, fun id m hm hst hmon => ?_, fun id m hm hrestore hst hphase => ?_, fun f => ?_⟩
  · rw [exec_monumentStart s hstart, State.monumentStart]
    exact congrArg Host.Outcome.next (if_pos hnone)
  · obtain ⟨hkind, hwait, hstake⟩ := s.readManifest_ok hread
    have hevent : monuEvent m s.monu.nextId = .capture s.monu.nextId := if_neg (by rw [hkind]; decide)
    obtain ⟨v, hissue, hnext, x, hx, hid, hxkind, hxst, hxstake⟩ := s.issueMonument_granted (by rw [hevent]; exact halloc)
    refine ⟨v, ?_, hnext, x, hx, hid, hxkind.trans hkind, hxst.trans hwait, hxstake.trans hstake⟩
    rw [exec_monumentStart s hstart, State.monumentStart]
    rw [if_neg hlayers, hopen, if_neg (by simp), s.startMonument_issued hread hok, hissue]
    rfl
  · obtain ⟨hkind, hwait, hstake⟩ := s.readManifest_ok hread
    have hevent : monuEvent m s.monu.nextId = .restore s.monu.nextId := if_pos hkind
    obtain ⟨v, hissue, hnext, x, hx, hid, hxkind, hxst, hxstake⟩ := s.issueMonument_granted (by rw [hevent]; exact halloc)
    refine ⟨v, ?_, hnext, x, hx, hid, hxkind.trans hkind, hxst.trans hwait, hxstake.trans hstake⟩
    rw [exec_restore s hstart, State.restoreStart]
    rw [if_neg hlayer, hopen, if_neg (by simp), s.startMonument_issued hread hok, hissue]
    rfl
  · rw [exec_monumentQuery s hquery, State.monumentQuery, hnone]
    rfl
  · rw [exec_monumentQuery s hquery, State.monumentQuery, hm]
    dsimp only
    rw [placed_flag]
    rfl
  · dsimp only
    have hseal := exec_monumentSeal s hm hst
    refine ⟨fun hwritten hbroken hbusy => ?_, fun hnot => ?_, fun st k hbroken => ?_, fun hbroken hlayer => ?_, fun hbroken hlayer => ?_⟩
    · rw [if_pos ⟨hwritten, hbroken, hbusy⟩] at hseal
      refine ⟨fun hlayer hout => ?_, fun hlayer hin hlen => ?_, fun hlayer hout => ?_, fun hlayer hout => ?_⟩
      · rw [hseal, s.sealLayer_flash hlayer, if_neg (Nat.not_le.mpr hout)]
      · rw [hseal, s.sealLayer_flash hlayer, if_pos hin, s.layerWrite_flash hlayer (by omega)]
      · rw [hseal, s.sealLayer_far hlayer, if_pos hout]
      · rw [hseal, s.sealLayer_far hlayer, if_neg (by rw [hout]; decide)]
    · rw [hseal, if_neg]
      rintro ⟨hwritten, hbroken, hbusy⟩
      rcases hnot with h | h | h
      · exact absurd (hwritten.symm.trans h) (by decide)
      · exact h hbroken
      · exact absurd (hbusy.symm.trans h) (by decide)
    · rw [exec_layerFailure s hm hst hmon, hbroken]
      dsimp only
      rw [if_pos rfl]
      exact congrArg Host.Outcome.next (if_pos rfl)
    · rw [exec_layerFailure s hm hst hmon, hbroken]
      dsimp only
      rw [if_neg fun h => hlayer h.1]
    · rw [exec_layerFailure s hm hst hmon, hbroken]
      dsimp only
      rw [if_pos ⟨rfl, rfl⟩]
      exact congrArg Host.Outcome.next (if_pos hlayer.symm)
  · obtain rfl := s.monument_id hm
    have hexec := exec_restoreComplete s hm hrestore hst hphase
    refine ⟨fun hdigest => ?_, fun hdigest t hcursor hmonu => ?_⟩
    · obtain ⟨x, hx, hxst, hxstatus⟩ := s.finishMonument_monument hm .failed stHwFault
      refine ⟨s.finishMonument m .failed stHwFault, x, ?_, hx, hxst, hxstatus⟩
      rw [hexec, State.completeRestore, if_pos hdigest, s.endMonument_live hm (by rw [hst]; rfl)]
    · have ht : t.monument m.id = some m := by
        rw [State.monument, hmonu]
        exact hm
      obtain ⟨x, hx, hxst, hxstatus⟩ := t.finishMonument_monument ht .restored stOk
      refine ⟨t.finishMonument m .restored stOk, x, ?_, hx, hxst, hxstatus⟩
      rw [hexec, State.completeRestore, if_neg (not_not_intro hdigest), hcursor]
  · exact ⟨fun hnone => ⟨_, rfl, s.takeClaim_first f hnone⟩, fun g hg hroom => s.takeClaim_queued f hg hroom,
      fun g hg hfull => s.takeClaim_full f hg hfull, fun g hg hholder => s.takeRelease_queued f hg hholder⟩

end Sys2Proof.Machine
end

section
/-!
REFUTATION. O53: a port that comes UP and whose peer is a recovery source already (R605, R761).
-/

namespace Sys2Proof.Machine

set_option Elab.async false

/-- A machine whose port 0 trains toward a peer that the recovery source list holds, while FAB_V6PFX has been written since its own
was recorded. -/
def State.newPrefix : State :=
  { State.reset with
    conn := { State.reset.conn with lasers := true }
    trust := { State.reset.trust with sources := [7], sourcePfx := 0 }
    fab := { State.reset.fab with
      v6pfx := 1, ports := { Port.reset with st := .training, peerValid := true, peer := 7 } :: List.replicate 31 Port.reset } }

/-- The port's peer is recorded anew, with the V6PFX of now. -/
theorem State.portUp_newPrefix : (State.newPrefix.portUp 0).trust.sourcePfx = 1 := rfl

/-- Refutes O53: PORT_UP of a peer that is a recovery source already records the present V6PFX with it, so the boot's state changes where
FAB_V6PFX has been written since. -/
theorem not_fabricTimers : ¬ Obligations.FabricTimers := by
  unfold Obligations.FabricTimers
  intro h
  obtain ⟨-, -, -, -, -, -, -, -, -, hup⟩ := h State.newPrefix
  obtain ⟨t, hexec, -, -, -, -, htrust⟩ := hup 0 (by decide) rfl (.inl rfl) rfl
  have hrun : exec (.portUp 0) State.newPrefix = .next (State.newPrefix.portUp 0) := rfl
  have ht : State.newPrefix.portUp 0 = t := Host.Outcome.next.inj (hrun.symm.trans hexec)
  have hsame : (State.newPrefix.portUp 0).trust = State.newPrefix.trust := by
    rw [ht]
    exact htrust (.inr (.inr (by decide)))
  have hprefix := congrArg TrustState.sourcePfx hsame
  rw [State.portUp_newPrefix] at hprefix
  exact absurd hprefix (by decide)

end Sys2Proof.Machine
end

section
/-!
REFUTATION. O56: the result words of a LAUNCH_OFFER that no child has to acknowledge (R623).
-/

namespace Sys2Proof.Machine

set_option Elab.async false

/-- A root whose context 0 is open behind mailbox 1, which has a LAUNCH_OFFER in hand; its tables map the second GiB onto stacked memory. -/
def State.launchRoot : State :=
  { State.reset with
    ids := { State.reset.ids with hbmGib := 1, stackLive := BitVec.allOnes 16 }
    mbxs := Mailbox.reset :: { Mailbox.reset with st := .busy, cmd := some ⟨0x700, 0, false, [], 0, true, 0⟩ }
      :: List.replicate 62 Mailbox.reset
    ctxs := { Context.reset with st := .opened, mbx := 1 } :: List.replicate 63 Context.reset
    mem := { State.reset.mem with hbm := [(0, 1), (8, 7)], poison := [], repairs := [] } }

/-- The offer of a tree that is the root alone. -/
def loneOffer : Offer :=
  { job := 0, attempt := 0, from_ := none, deadline := 0, desc := ⟨1, 0, 2 ^ 30, 0, 0⟩, own := 0, tree := [⟨0, 0⟩], frags := 0, got := [],
    held := false, acks := [], acked := false, missed := false, neg := none, alloc := none, abort := none, acknowledged := false,
    mbx := some 1 }

/-- The root with the comparator of the lone offer's expiry. -/
def State.launchArmed : State := (State.launchRoot.allocate 8 0 800000000 .device (.offerExpiry 0)).1

/-- The offer's expiry gets the first comparator ID. -/
theorem State.allocate_launchRoot :
    State.launchRoot.allocate 8 0 800000000 .device (.offerExpiry 0) = (State.launchArmed, .granted 1) :=
  Prod.ext rfl (by decide +kernel)

/-- The offer's own checks pass: its record lies on a leaf that may be written. -/
theorem State.offerCheck_launchRoot : State.launchRoot.offerCheck loneOffer = none := by decide +kernel

/-- The model ends the command with two result words: the mask of the children and the count. -/
theorem State.holdOffer_launchRoot : ((State.launchRoot.holdOffer loneOffer).mbx 1).resWords = 2 := by decide +kernel

/-- The machine in which the offer is acknowledged, its command still in hand. -/
def State.launchAcked : State :=
  State.launchArmed.setJoined { State.launchArmed.joined with
    offers := State.launchArmed.joined.offers
      ++ [{ loneOffer with held := true, alloc := some 1, acked := true, acknowledged := true, mbx := none }] }

/-- A command that ends with one result word says so. -/
theorem State.complete_launchAcked : ((State.launchAcked.complete 1 stOk [0]).mbx 1).resWords = 1 := by decide +kernel

/-- Refutes O56: the LAUNCH_OFFER of a tree without children ends with two result words, the statement has it end with one. -/
theorem not_joinedWork : ¬ Obligations.JoinedWork := by
  unfold Obligations.JoinedWork
  intro h
  obtain ⟨-, hhold, -⟩ := h State.launchRoot 1
  have hsame : State.launchRoot.holdOffer loneOffer = State.launchAcked.complete 1 stOk [0] :=
    hhold loneOffer State.launchArmed 1 rfl State.offerCheck_launchRoot rfl (by decide) rfl rfl rfl rfl rfl rfl rfl
      State.allocate_launchRoot rfl
  have hwords := State.holdOffer_launchRoot
  rw [hsame, State.complete_launchAcked] at hwords
  exact absurd hwords (by decide)

end Sys2Proof.Machine
end

section
/-!
SUPPORT. What a home's work on caches, directories and requests to the stacks leaves alone (R505 to R508, R525 to R528, R535).
-/

namespace Sys2Proof.Machine

set_option Elab.async false

/-! ### The bytes of stacked memory -/

/-- The bytes of stacked memory, and what decides whether a store reaches them. -/
def memBytes (m : MemState) : List (Nat × Byte) × List Nat × List RowRepair × List Region := (m.hbm, m.poison, m.repairs, m.regions)

/-- `t` has the stacked memory of `s`. -/
structure State.SameBytes (s t : State) : Prop where
  ids : t.ids = s.ids
  bytes : memBytes t.mem = memBytes s.mem

namespace State.SameBytes

variable {s t u : State}

theorem refl (s : State) : s.SameBytes s := ⟨rfl, rfl⟩

theorem trans (h : s.SameBytes t) (k : t.SameBytes u) : s.SameBytes u := ⟨k.ids.trans h.ids, k.bytes.trans h.bytes⟩

theorem hbm (h : s.SameBytes t) : t.mem.hbm = s.mem.hbm := congrArg (·.1) h.bytes

theorem poison (h : s.SameBytes t) : t.mem.poison = s.mem.poison := congrArg (·.2.1) h.bytes

theorem sectorLost (h : s.SameBytes t) (k : Nat) : t.sectorLost k = s.sectorLost k := by
  have hrepairs : t.mem.repairs = s.mem.repairs := congrArg (·.2.2.1) h.bytes
  have hregions : t.mem.regions = s.mem.regions := congrArg (·.2.2.2) h.bytes
  unfold State.sectorLost
  rw [h.ids, hrepairs, hregions]

theorem of_within {l : List Part} (h : s.Within l t) (hids : .ids ∉ l) (hmem : .mem ∉ l) : s.SameBytes t :=
  ⟨h.ids hids, congrArg memBytes (h.mem hmem)⟩

theorem setBytes (h : s.SameBytes t) (hbm : List (Nat × Byte)) (poison : List Nat) :
    (s.setMem { s.mem with hbm, poison }).SameBytes (t.setMem { t.mem with hbm, poison }) :=
  ⟨h.ids, congrArg (fun b => (hbm, poison, b.2.2)) h.bytes⟩

theorem sectorWrite (h : s.SameBytes t) (k pa : Nat) (b : List Byte) : (s.sectorWrite k pa b).SameBytes (t.sectorWrite k pa b) := by
  have hput := h.setBytes (cellWrite s.mem.hbm (max pa (k * 64))
    ((b.drop (max pa (k * 64) - pa)).take (min (pa + b.length) (k * 64 + 64) - max pa (k * 64))))
  unfold State.sectorWrite
  dsimp only
  rw [h.sectorLost, h.poison, h.hbm]
  split_ifs
  · exact h
  · exact hput _
  · exact h
  · exact hput _

theorem foldl {α : Type} {f : State → α → State} (hf : ∀ u v x, State.SameBytes u v → (f u x).SameBytes (f v x)) (h : s.SameBytes t)
    (xs : List α) : (xs.foldl f s).SameBytes (xs.foldl f t) := by
  induction xs generalizing s t with
  | nil => exact h
  | cons x xs ih => exact ih (hf _ _ x h)

theorem hbmWrite (h : s.SameBytes t) (pa : Nat) (b : List Byte) : (s.hbmWrite pa b).SameBytes (t.hbmWrite pa b) := by
  have hwake (u : State) : u.SameBytes (u.wakeLines pa b.length) := of_within (u.frame_wakeLines pa b.length) (by decide) (by decide)
  have hhub : (s.hubWrite pa b).SameBytes (t.hubWrite pa b) := h.foldl (fun _ _ k hk => hk.sectorWrite k pa b) _
  have hback : (s.hbmWrite pa b).SameBytes (s.hubWrite pa b) := ⟨(hwake _).ids.symm, (hwake _).bytes.symm⟩
  exact hback.trans (hhub.trans (hwake _))

theorem rmw (h : s.SameBytes t) (pa op size a c : Nat) :
    (s.rmw pa op size a c).1.SameBytes (t.rmw pa op size a c).1 ∧ (t.rmw pa op size a c).2 = leNat (s.hbmRead pa size) := by
  have hread : t.hbmRead pa size = s.hbmRead pa size := congrArg (fun l => cellRead l pa size) h.hbm
  unfold State.rmw
  dsimp only
  rw [hread]
  exact ⟨h.hbmWrite _ _, rfl⟩

end State.SameBytes

/-! ### Requests to the stacks -/

/-- What a home asks of a stack: the line and its sectors, a write or a read, and for whom. -/
def MemReq.asks (r : MemReq) : Nat × BitVec 4 × Bool × Option Nat := (r.line, r.sectors, r.write, r.agent)

/-- Every request of `s` to the stacks is still there in `t`. -/
def State.Asked (s t : State) : Prop := s.mem.reqs.map MemReq.asks ⊆ t.mem.reqs.map MemReq.asks

theorem State.Asked.refl (s : State) : s.Asked s := fun _ h => h

theorem State.Asked.trans {s t u : State} (h : s.Asked t) (k : t.Asked u) : s.Asked u := fun _ hx => k (h hx)

theorem State.Asked.of_mem {s t : State} (h : t.mem = s.mem) : s.Asked t := by
  unfold State.Asked
  rw [h]
  exact fun _ hx => hx

/-- What the protocol's requests, transactions, messages and reservations are. -/
def cohTalk (c : CohState) : List CohTxn × List AgentReq × List CohMsg × List Reserve := (c.txns, c.reqs, c.msgs, c.reserves)

/-- From `s` to `t` a home has worked on its caches, directories and requests to the stacks alone. -/
structure State.HomeWork (s t : State) : Prop where
  same : s.SameBytes t
  talk : cohTalk t.coh = cohTalk s.coh
  asked : s.Asked t

namespace State.HomeWork

variable {s t u : State}

theorem refl (s : State) : s.HomeWork s := ⟨.refl s, rfl, .refl s⟩

theorem trans (h : s.HomeWork t) (k : t.HomeWork u) : s.HomeWork u :=
  ⟨h.same.trans k.same, k.talk.trans h.talk, h.asked.trans k.asked⟩

/-- What goes before is found once what follows is known. -/
theorem after (k : t.HomeWork u) (h : s.HomeWork t) : s.HomeWork u := h.trans k

theorem txns (h : s.HomeWork t) : t.coh.txns = s.coh.txns := congrArg (·.1) h.talk

theorem msgs (h : s.HomeWork t) : t.coh.msgs = s.coh.msgs := congrArg (·.2.2.1) h.talk

theorem foldl {α : Type} {f : State → α → State} (hf : ∀ u x, State.HomeWork u (f u x)) (h : s.HomeWork t) (xs : List α) :
    s.HomeWork (xs.foldl f t) := by
  induction xs generalizing t with
  | nil => exact h
  | cons x xs ih => exact ih (h.trans (hf t x))

theorem of_within {l : List Part} (h : s.Within l t) (hids : .ids ∉ l) (hmem : .mem ∉ l) (hcoh : .coh ∉ l) : s.HomeWork t :=
  ⟨.of_within h hids hmem, congrArg cohTalk (h.coh hcoh), .of_mem (h.mem hmem)⟩

theorem setCoh (s : State) {v : CohState} (h : cohTalk v = cohTalk s.coh) : s.HomeWork (s.setCoh v) := ⟨⟨rfl, rfl⟩, h, .refl s⟩

theorem setMem (s : State) {v : MemState} (h : memBytes v = memBytes s.mem) (hreqs : s.mem.reqs.map MemReq.asks ⊆ v.reqs.map MemReq.asks) :
    s.HomeWork (s.setMem v) := ⟨⟨rfl, h⟩, rfl, hreqs⟩

end State.HomeWork

section Work

variable (s : State)

theorem State.work_putPseudo (x : PseudoChannel) : s.HomeWork (s.putPseudo x) := .setMem s rfl fun _ h => h

theorem State.work_markDrain (p : StackPlace) : s.HomeWork (s.markDrain p) := by
  unfold State.markDrain
  dsimp only
  split_ifs
  · exact .refl s
  · exact s.work_putPseudo _

theorem State.work_admitTracked : s.HomeWork s.admitTracked := by
  refine .foldl (fun u r => ?_) (.refl s) _
  dsimp only
  split_ifs
  · refine .after (State.work_markDrain _ _) (.setMem u rfl fun x hx => ?_)
    rw [List.map_map]
    convert hx using 2
    funext q
    by_cases hq : q.id = r.id <;> simp [hq, MemReq.asks]
  · exact .refl u

/-- The machine with one request more in line at its stack. -/
def State.requested (r : MemReq) : State :=
  s.setMem { s.mem with
    reqs := s.mem.reqs ++ [{ r with id := s.mem.nextReq, tracked := false, since := s.mt }], nextReq := s.mem.nextReq + 1 }

/-- A request goes to its stack: it is in line, and the regulators and trackers do the rest. -/
theorem State.work_memAsk_of_requested (r : MemReq) : (s.requested r).HomeWork (s.memAsk r) := by
  have hshare (u : State) (v : ShareState) : u.HomeWork (u.setShare v) := .of_within (u.frame_setShare v) (by decide) (by decide) (by decide)
  unfold State.memAsk
  dsimp only
  split
  · exact State.work_admitTracked _
  · split
    · split_ifs
      · exact hshare (s.requested r) _
      · exact (hshare (s.requested r) _).trans (State.work_admitTracked _)
    · exact hshare (s.requested r) _

theorem State.work_memAsk (r : MemReq) : s.HomeWork (s.memAsk r) :=
  .after (s.work_memAsk_of_requested r) (.setMem s rfl fun x hx => by rw [List.map_append]; exact List.mem_append_left _ hx)

/-- A request that a home asks is there. -/
theorem State.memAsk_asks (r : MemReq) : r.asks ∈ (s.memAsk r).mem.reqs.map MemReq.asks := by
  refine (s.work_memAsk_of_requested r).asked ?_
  have hlast : r.asks ∈ (s.mem.reqs ++ [{ r with id := s.mem.nextReq, tracked := false, since := s.mt }]).map MemReq.asks := by
    rw [List.map_append]
    exact List.mem_append_right _ (List.mem_singleton.mpr rfl)
  exact hlast

theorem State.frame_markDrain (p : StackPlace) : s.Within [.mem, .memCore] (s.markDrain p) := by
  unfold State.markDrain
  dsimp only
  exact .ite (.refl _ _) (State.frame_setMem _ _)

theorem State.frame_admitTracked : s.Within [.mem, .memCore] s.admitTracked := by
  refine .foldl (fun u r => ?_) (.refl _ s) _
  dsimp only
  split_ifs
  · exact .trans (u.frame_setMem _) (State.frame_markDrain _ _)
  · exact .refl _ u

theorem State.frame_memAsk (r : MemReq) : s.Within [.mem, .memCore, .share] (s.memAsk r) := by
  have hasked : s.Within [.mem, .memCore, .share] (s.requested r) := (s.frame_setMem _).mono (by decide)
  unfold State.memAsk
  dsimp only
  split
  · exact hasked.step (State.frame_admitTracked _)
  · split
    · exact .ite (hasked.step (State.frame_setShare _ _)) ((hasked.step (State.frame_setShare _ _)).step (State.frame_admitTracked _))
    · exact hasked.step (State.frame_setShare _ _)

theorem State.work_memRequest (line : Nat) (sectors : BitVec 4) (write : Bool) (cls : MemClass) (agent partition ctx : Option Nat) :
    s.HomeWork (s.memRequest line sectors write cls agent partition ctx) := s.work_memAsk _

theorem State.frame_memRequest (line : Nat) (sectors : BitVec 4) (write : Bool) (cls : MemClass) (agent partition ctx : Option Nat) :
    s.Within [.mem, .memCore, .share] (s.memRequest line sectors write cls agent partition ctx) := s.frame_memAsk _

theorem State.memRequest_asks (line : Nat) (sectors : BitVec 4) (write : Bool) (cls : MemClass) (agent partition ctx : Option Nat) :
    (line, sectors, write, agent) ∈ (s.memRequest line sectors write cls agent partition ctx).mem.reqs.map MemReq.asks :=
  s.memAsk_asks { id := 0, line, sectors, write, part := 0, alu := 0, cls, tracked := false, agent, partition, ctx, since := 0 }

/-! ### Copies and directories -/

theorem CohState.dropLine_talk (c : CohState) (agent line : Nat) : cohTalk (c.dropLine agent line) = cohTalk c := by
  unfold CohState.dropLine
  dsimp only
  split_ifs <;> rfl

theorem State.work_dropCopies (line : Nat) : s.HomeWork (s.dropCopies line) := by
  have htalk (l : List AgentLine) (c : CohState) : cohTalk (l.foldl (fun c l => c.dropLine l.agent line) c) = cohTalk c := by
    induction l generalizing c with
    | nil => rfl
    | cons x l ih => exact (ih _).trans (c.dropLine_talk _ _)
  exact .foldl (fun u l => u.work_memRequest _ _ _ _ _ _ _) (.setCoh s (htalk _ _)) _

theorem State.work_putDir (d : DirEntry) : s.HomeWork (s.putDir d) := by
  unfold State.putDir
  dsimp only
  split_ifs
  · exact .setCoh s rfl
  · exact .setCoh s rfl
  · split
    · exact .after (State.work_dropCopies _ _) (.setCoh s rfl)
    · exact .setCoh s rfl

theorem State.work_evict (l : AgentLine) : s.HomeWork (s.evict l) := .setCoh s (s.coh.dropLine_talk l.agent l.line)

theorem State.work_install (l : AgentLine) : s.HomeWork (s.install l) := by
  unfold State.install
  split
  · exact .setCoh s rfl
  · dsimp only
    split
    · exact .after (State.work_evict _ _) (.setCoh s rfl)
    · exact .setCoh s rfl

theorem State.work_removeWatch (line : Nat) : s.HomeWork (s.removeWatch line) :=
  .of_within (s.frame_wakeLines _ _) (by decide) (by decide) (by decide)

theorem State.work_homeLine (line : Nat) (ctx : Option Nat) : s.HomeWork (s.homeLine line ctx) :=
  (((s.work_dropCopies line).trans (State.work_removeWatch _ _)).trans (State.work_putDir _ _)).trans (State.work_install _ _)

theorem State.work_farLine (line cells atomics : Nat) (cls : MemClass) (partition ctx : Option Nat) :
    s.HomeWork (s.farLine line cells atomics cls partition ctx) := by
  have hcount (u : State) : u.HomeWork (u.countFar line cells atomics) := .setMem u rfl fun _ h => h
  exact ((((s.work_dropCopies line).trans (State.work_removeWatch _ _)).trans (State.work_putDir _ _)).trans (hcount _)).trans
    (State.work_memAsk _ _)

theorem State.work_atomPlace (agent line : Nat) : s.HomeWork (s.atomPlace agent line).1 := by
  unfold State.atomPlace
  dsimp only
  split_ifs
  · exact .refl s
  · unfold State.predict
    dsimp only
    split
    · exact .setCoh s rfl
    · exact .setCoh s rfl

end Work

end Sys2Proof.Machine
end

section
/-!
SUPPORT. The transactions of a home: how it accepts a request for an idle line, and how it goes on with it once nothing is awaited
(R505, R508, R509, R511, R513, R516).
-/

namespace Sys2Proof.Machine

set_option Elab.async false

/-! ### A request that goes out -/

/-- A request as its agent first sends it. -/
def newReq (agent line : Nat) (sectors : BitVec 4) (ctx : Option Nat) (age : Nat) (kind : AskKind) : AgentReq :=
  { agent, line, kind, sectors, retries := 0, starving := false, reserved := false, backing := false, accepted := false,
    granted := false, got := 0, ctx, age }

/-- No transaction and no reservation holds the line (R511, R514). -/
def State.Idle (s : State) (line : Nat) : Prop := s.txnOf line = none ∧ ∀ v ∈ s.coh.reserves, v.line ≠ line

section Accept

variable (s : State) (r : AgentReq)

/-- The machine in which the agent has one request more outstanding. -/
def State.issued : State := s.setCoh { s.coh with reqs := s.coh.reqs ++ [r] }

/-- An agent's request that is put back is the one it has. -/
theorem State.agentReq_putReq {s : State} {r o : AgentReq} (h : s.agentReq r.agent r.line = some o) :
    (s.putReq r).agentReq r.agent r.line = some r := by
  have hfind : s.coh.reqs.find? (fun q => q.agent == r.agent && q.line == r.line) = some o := h
  have hsame : (fun q : AgentReq => q.agent == r.agent && q.line == r.line) ∘ (fun q => if q.agent = r.agent ∧ q.line = r.line then r else q)
      = fun q => q.agent == r.agent && q.line == r.line := by
    funext q
    by_cases hq : q.agent = r.agent ∧ q.line = r.line <;> simp [hq]
  have ho : o.agent = r.agent ∧ o.line = r.line := by
    simpa using List.find?_some (p := fun (q : AgentReq) => q.agent == r.agent && q.line == r.line) hfind
  unfold State.agentReq State.putReq
  rw [State.setCoh_coh]
  dsimp only
  rw [List.find?_map, hsame, hfind, Option.map_some, if_pos ho]

theorem State.agentReq_issued (h : s.agentReq r.agent r.line = none) : (s.issued r).agentReq r.agent r.line = some r := by
  have hfind : s.coh.reqs.find? (fun q => q.agent == r.agent && q.line == r.line) = none := h
  rw [State.agentReq, State.issued, State.setCoh_coh, List.find?_append, hfind]
  simp

/-- An agent without a request for the line sends a new one (R511, R513). -/
theorem State.ask_new {agent line : Nat} {sectors : BitVec 4} {ctx : Option Nat} {age : Nat} {kind : AskKind}
    (hok : s.cohOk agent line = true) (hnone : s.agentReq agent line = none) :
    s.ask agent line sectors ctx age kind
      = (s.issued (newReq agent line sectors ctx age kind)).askHome (newReq agent line sectors ctx age kind) := by
  unfold State.ask
  rw [hok, hnone]
  rfl

/-- A home accepts a request for an idle line, and goes on with it if it can (R511). -/
theorem State.askHome_idle (h : s.Idle r.line) : s.askHome r = (s.acceptAsk r).settleTxn r.line := by
  have hfree : (s.coh.reserves.any fun v => v.line == r.line) = false := by
    simpa only [List.any_eq_false, beq_iff_eq] using h.2
  unfold State.askHome
  rw [h.1, hfree]
  rfl

/-! ### The transaction of a request -/

/-- A claim of an agent that holds nothing is a GETX (R516). -/
def State.askKind : AskKind :=
  match r.kind with
  | .claim => if (s.dirEntry r.line).holders.contains r.agent then .claim else .getX
  | k => k

/-- The request leaves the other holders their copies. -/
def askShared (k : AskKind) : Bool := k == .getS || k == .glance

/-- The holder that supplies the line (R504, R505). -/
def State.askSource : Option Nat := ((s.dirEntry r.line).owner <|> (s.dirEntry r.line).provider).filter (· != r.agent)

/-- The holders that the home probes. -/
def State.askProbed : List Nat :=
  if askShared (s.askKind r) then (s.askSource r).toList
  else if (s.askKind r).installs then (s.dirEntry r.line).holders.filter (· != r.agent) else (s.dirEntry r.line).holders

/-- The sectors that the home supplies from stacked memory. -/
def State.askSupply : BitVec 4 :=
  match s.askKind r with
  | .claim => 0
  | .zero => 0
  | .place _ _ => 0
  | .atom _ => 0
  | _ => if askShared (s.askKind r) && (s.askSource r).isSome then 0 else r.sectors

/-- The state that the requester is granted (R505, R508). -/
def State.askGranted : LineSt :=
  let now := ((s.held r.agent r.line).map (·.st)).getD .s
  if !(s.askKind r).installs then .i
  else if !(askShared (s.askKind r)) then (if (s.dirEntry r.line).holders.contains r.agent && now == .m then .m else .e)
  else if (s.dirEntry r.line).holders.contains r.agent then now
  else if (s.askSource r).isSome then .s
  else if ((s.dirEntry r.line).holders.filter (· != r.agent)).isEmpty && !(s.watchHolds r.line) then .e
  else .p

/-- The transaction that a home begins for a request. -/
def State.askTxn : CohTxn :=
  { line := r.line, agent := r.agent, kind := s.askKind r, sectors := r.sectors, granted := s.askGranted r, probed := s.askProbed r,
    spills := [], reading := s.askSupply r != 0, supply := s.askSupply r, grantSent := false, ctx := r.ctx }

/-- The message that a probed holder gets. -/
def State.askProbe : MsgKind := if askShared (s.askKind r) then .probeGive else .probeKill

/-- The machine in which the transaction has begun and its probes are out. -/
def State.begun : State :=
  let u := if askShared (s.askKind r) then s else s.removeWatch r.line
  (s.askProbed r).foldl (fun u a => u.sendCoh (s.askProbe r) a r.line r.sectors)
    ((u.setCoh { u.coh with txns := u.coh.txns ++ [s.askTxn r] }).putReq { r with accepted := true, kind := s.askKind r })

theorem State.acceptAsk_eq : s.acceptAsk r = if s.askSupply r != 0 then
    (s.begun r).memRequest r.line (s.askSupply r) false (agentClass r.agent r.age) (some r.agent)
      ((s.begun r).agentPartition r.agent r.ctx) r.ctx
    else s.begun r := rfl

/-- The messages of a run of probes. -/
theorem State.probes_eq (k : MsgKind) (line : Nat) (sectors : BitVec 4) (l : List Nat) (u : State) :
    l.foldl (fun u a => u.sendCoh k a line sectors) u
      = u.setCoh { u.coh with msgs := u.coh.msgs ++ l.map fun a => ⟨k, a, line, sectors⟩ } := by
  induction l generalizing u with
  | nil => simp [State.setCoh]
  | cons a l ih =>
    rw [List.foldl_cons, ih]
    simp [State.sendCoh, State.setCoh]

/-- What the start of a transaction may change. -/
theorem State.frame_begun : s.Within [.abaom, .coh] (s.begun r) := by
  unfold State.begun
  dsimp only
  rw [State.probes_eq]
  exact .trans (.ite (.refl _ s) ((s.frame_wakeLines _ _).mono (by decide)))
    (((State.frame_setCoh _ _).trans (State.frame_setCoh _ _)).trans (State.frame_setCoh _ _) |>.mono (by decide))

/-- The caches' state once a transaction has begun. -/
theorem State.begun_coh : (s.begun r).coh = { s.coh with
    txns := s.coh.txns ++ [s.askTxn r]
    reqs := s.coh.reqs.map fun q => if q.agent = r.agent ∧ q.line = r.line then { r with accepted := true, kind := s.askKind r } else q
    msgs := s.coh.msgs ++ (s.askProbed r).map fun a => ⟨s.askProbe r, a, r.line, r.sectors⟩ } := by
  have hwatch : (if askShared (s.askKind r) then s else s.removeWatch r.line).coh = s.coh := by
    split
    · rfl
    · exact (s.frame_wakeLines _ _).coh (by decide)
  unfold State.begun
  dsimp only
  rw [State.probes_eq]
  simp [State.putReq, hwatch]

/-- The watches once a transaction has begun: the home removes the watcher's copy where it removes every other (R508). -/
theorem State.begun_abaom : (s.begun r).abaom = if askShared (s.askKind r) then s.abaom else (s.removeWatch r.line).abaom := by
  unfold State.begun
  dsimp only
  rw [State.probes_eq, State.setCoh_abaom]
  split <;> rfl

theorem State.work_acceptAsk : (s.begun r).HomeWork (s.acceptAsk r) := by
  rw [s.acceptAsk_eq r]
  split
  · exact State.work_memRequest _ _ _ _ _ _ _ _
  · exact .refl _

theorem State.frame_acceptAsk : (s.begun r).Within [.mem, .memCore, .share] (s.acceptAsk r) := by
  rw [s.acceptAsk_eq r]
  exact .ite (State.frame_memRequest _ _ _ _ _ _ _ _) (.refl _ _)

/-- A home that supplies nothing asks no stack. -/
theorem State.acceptAsk_quiet (h : s.askSupply r = 0) : s.acceptAsk r = s.begun r := by
  rw [s.acceptAsk_eq r, h]
  rfl

/-- A home that supplies sectors reads them. -/
theorem State.acceptAsk_reads (h : s.askSupply r ≠ 0) :
    (r.line, s.askSupply r, false, some r.agent) ∈ (s.acceptAsk r).mem.reqs.map MemReq.asks := by
  rw [s.acceptAsk_eq r, if_pos (by simpa using h)]
  exact State.memRequest_asks _ _ _ _ _ _ _ _

theorem State.acceptAsk_coh : (s.acceptAsk r).coh = (s.begun r).coh := (s.frame_acceptAsk r).coh (by decide)

theorem State.acceptAsk_abaom : (s.acceptAsk r).abaom = (s.begun r).abaom := (s.frame_acceptAsk r).abaom (by decide)

theorem State.acceptAsk_same : s.SameBytes (s.acceptAsk r) :=
  (State.SameBytes.of_within (s.frame_begun r) (by decide) (by decide)).trans (s.work_acceptAsk r).same

theorem State.acceptAsk_asked : s.Asked (s.acceptAsk r) :=
  (State.Asked.of_mem ((s.frame_begun r).mem (by decide))).trans (s.work_acceptAsk r).asked

/-- The line is busy with the request's transaction. -/
theorem State.acceptAsk_txnOf (h : s.txnOf r.line = none) : (s.acceptAsk r).txnOf r.line = some (s.askTxn r) := by
  have hnone : s.coh.txns.find? (fun t => t.line == r.line) = none := h
  have htxn : (s.askTxn r).line = r.line := rfl
  rw [State.txnOf, s.acceptAsk_coh, s.begun_coh r, List.find?_append, hnone]
  simp [htxn]

end Accept

/-! ### A transaction that goes on -/

section Settle

variable (s : State) {line : Nat} {x : CohTxn}

/-- A transaction awaits something yet. -/
def CohTxn.waits (x : CohTxn) : Bool := x.grantSent || !x.probed.isEmpty || !x.spills.isEmpty || x.reading

theorem State.settleTxn_waits (h : s.txnOf line = some x) (hw : x.waits = true) : s.settleTxn line = s := by
  unfold State.settleTxn
  rw [h]
  exact if_pos hw

/-- The machine in which a transaction's effect is done and its answer is out. -/
def State.replied (x : CohTxn) (line : Nat) : State :=
  let r := s.performAsk x
  (if x.supply = 0 then r.1 else r.1.sendCoh .cargo x.agent line x.supply).sendCoh r.2 x.agent line x.sectors

theorem State.settleTxn_goes (h : s.txnOf line = some x) (hw : x.waits = false) : s.settleTxn line =
    if x.kind.installs then (s.replied x line).putTxn { x with grantSent := true } else (s.replied x line).endTxn line := by
  unfold State.settleTxn
  rw [h]
  exact if_neg (fun hx => absurd (hw.symm.trans hx) (by decide))

/-- The messages of a transaction's answer. -/
def CohTxn.answer (x : CohTxn) (line : Nat) (grant : MsgKind) : List CohMsg :=
  (if x.supply = 0 then [] else [⟨.cargo, x.agent, line, x.supply⟩]) ++ [⟨grant, x.agent, line, x.sectors⟩]

theorem State.replied_mem : (s.replied x line).mem = (s.performAsk x).1.mem := by
  unfold State.replied
  dsimp only
  split <;> rfl

theorem State.replied_ids : (s.replied x line).ids = (s.performAsk x).1.ids := by
  unfold State.replied
  dsimp only
  split <;> rfl

theorem State.replied_coh : (s.replied x line).coh = { (s.performAsk x).1.coh with
    msgs := (s.performAsk x).1.coh.msgs ++ x.answer line (s.performAsk x).2 } := by
  unfold State.replied CohTxn.answer
  dsimp only
  split <;> simp [State.sendCoh]

/-- A request that installs the line takes its place in the directory (R503, R504). -/
theorem State.performAsk_installs (h : x.kind.installs = true) :
    s.performAsk x = (s.putDir ((s.dirEntry x.line).take x.agent x.granted), .grant x.granted) := by
  unfold State.performAsk
  cases hk : x.kind with
  | getS => rfl
  | getX => rfl
  | claim => rfl
  | zero => rfl
  | glance => exact absurd (hk ▸ h) (by decide)
  | place off bytes => exact nomatch (hk ▸ h : (AskKind.place off bytes).installs = true)
  | atom a => exact nomatch (hk ▸ h : (AskKind.atom a).installs = true)

/-- An atomic is performed on the machine in which its line's holders are gone (R525 to R527). -/
theorem State.performAsk_atom {a : AtomReq} (h : x.kind = .atom a) :
    ∃ u, s.HomeWork u ∧ s.performAsk x = ((u.rmw a.addr a.op a.width a.a a.c).1, .grantOld (u.rmw a.addr a.op a.width a.a a.c).2) := by
  unfold State.performAsk
  rw [h]
  refine ⟨_, ?_, rfl⟩
  split
  · exact (s.work_atomPlace _ _).trans (State.work_homeLine _ _ _)
  · exact (s.work_atomPlace _ _).trans (State.work_farLine _ _ _ _ _ _ _)

/-- What a transaction's effect leaves of the protocol's own state. -/
theorem State.performAsk_talk : cohTalk (s.performAsk x).1.coh = cohTalk s.coh := by
  have hstore (u : State) (pa : Nat) (b : List Byte) : (u.hbmWrite pa b).coh = u.coh := (u.frame_hbmWrite pa b).coh (by decide)
  by_cases hi : x.kind.installs = true
  · rw [s.performAsk_installs hi]
    exact (s.work_putDir _).talk
  · unfold State.performAsk
    cases hk : x.kind with
    | glance => rfl
    | place off bytes => exact (State.work_memAsk _ _).talk.trans (congrArg cohTalk (hstore _ _ _))
    | atom a =>
      obtain ⟨u, hu, hperform⟩ := s.performAsk_atom hk
      rw [State.performAsk, hk] at hperform
      rw [hperform]
      exact (congrArg cohTalk (hstore _ _ _)).trans hu.talk
    | getS => exact absurd (by rw [hk]; rfl) hi
    | getX => exact absurd (by rw [hk]; rfl) hi
    | claim => exact absurd (by rw [hk]; rfl) hi
    | zero => exact absurd (by rw [hk]; rfl) hi

/-- A line's transaction that is put back is the one it has. -/
theorem State.txnOf_putTxn (h : s.txnOf line = some x) {y : CohTxn} (hy : y.line = line) : (s.putTxn y).txnOf line = some y := by
  subst hy
  have hfind : s.coh.txns.find? (fun t => t.line == y.line) = some x := h
  have hx : x.line = y.line := beq_iff_eq.mp (List.find?_some (p := fun (t : CohTxn) => t.line == y.line) h)
  have hsame : (fun t : CohTxn => t.line == y.line) ∘ (fun q => if q.line = y.line then y else q) = fun t => t.line == y.line := by
    funext q
    by_cases hq : q.line = y.line <;> simp [hq]
  unfold State.txnOf State.putTxn
  rw [State.setCoh_coh]
  dsimp only
  rw [List.find?_map, hsame, hfind, Option.map_some, if_pos hx]

/-- A transaction that installs the line grants it, and awaits the Seated (R509, R511). -/
theorem State.settleTxn_grants (h : s.txnOf line = some x) (hi : x.kind.installs = true) (hw : x.waits = false) :
    (s.settleTxn line).txnOf line = some { x with grantSent := true }
      ∧ (s.settleTxn line).coh.msgs = s.coh.msgs ++ x.answer line (.grant x.granted) ∧ s.SameBytes (s.settleTxn line) := by
  have hline : x.line = line := beq_iff_eq.mp (List.find?_some (p := fun (t : CohTxn) => t.line == line) h)
  have hwork := s.work_putDir ((s.dirEntry x.line).take x.agent x.granted)
  have hperform := s.performAsk_installs hi
  have htxns : (s.replied x line).coh.txns = s.coh.txns := by
    rw [s.replied_coh, hperform]
    exact hwork.txns
  rw [s.settleTxn_goes h hw, if_pos hi]
  refine ⟨?_, ?_, ?_, ?_⟩
  · refine State.txnOf_putTxn (s.replied x line) (x := x) ?_ hline
    rw [State.txnOf, htxns]
    exact h
  · refine (congrArg CohState.msgs s.replied_coh).trans ?_
    rw [hperform]
    exact congrArg (· ++ x.answer line (.grant x.granted)) hwork.msgs
  · refine s.replied_ids.trans ?_
    rw [hperform]
    exact hwork.same.ids
  · refine (congrArg memBytes s.replied_mem).trans ?_
    rw [hperform]
    exact hwork.same.bytes

/-- A line that nobody has reserved is free once its transaction ends (R511). -/
theorem State.endTxn_free (h : ∀ v ∈ s.coh.reserves, v.line ≠ line) :
    s.endTxn line = s.setCoh { s.coh with txns := s.coh.txns.filter fun t => t.line != line } := by
  have hnone : s.coh.reserves.find? (fun r => r.line == line) = none := by
    simpa only [List.find?_eq_none, beq_iff_eq] using h
  unfold State.endTxn
  dsimp only [State.setCoh_coh]
  rw [hnone]

theorem State.txnOf_ended (s : State) (line k : Nat) : (s.setCoh { s.coh with txns := s.coh.txns.filter fun t => t.line != line }).txnOf k
    = if k = line then none else s.txnOf k := by
  unfold State.txnOf
  rw [State.setCoh_coh]
  dsimp only
  rw [List.find?_filter]
  by_cases hk : k = line
  · rw [if_pos hk, List.find?_eq_none]
    intro t _
    simp [hk]
  · rw [if_neg hk]
    refine congrArg (fun p => s.coh.txns.find? p) (funext fun t => ?_)
    by_cases ht : t.line = k <;> simp [ht, hk]

/-- A transaction that installs nothing is over with its answer (R509, R511). -/
theorem State.settleTxn_ends (h : s.txnOf line = some x) (hi : x.kind.installs = false) (hw : x.waits = false)
    (hfree : ∀ v ∈ s.coh.reserves, v.line ≠ line) :
    (s.settleTxn line).txnOf line = none ∧ (s.settleTxn line).coh.msgs = s.coh.msgs ++ x.answer line (s.performAsk x).2
      ∧ (s.settleTxn line).mem = (s.performAsk x).1.mem := by
  have hmsgs : (s.performAsk x).1.coh.msgs = s.coh.msgs := congrArg (·.2.2.1) s.performAsk_talk
  have hreserves : (s.performAsk x).1.coh.reserves = s.coh.reserves := congrArg (·.2.2.2) s.performAsk_talk
  have hend := State.endTxn_free (line := line) (s.replied x line) (by rw [s.replied_coh]; exact hreserves ▸ hfree)
  rw [s.settleTxn_goes h hw, hi, if_neg (by decide), hend]
  refine ⟨(State.txnOf_ended _ _ _).trans (if_pos rfl), ?_, s.replied_mem⟩
  exact (congrArg CohState.msgs s.replied_coh).trans (congrArg (· ++ x.answer line (s.performAsk x).2) hmsgs)

/-! ### Requests to the stacks stay through a transaction -/

theorem State.performAsk_asked : s.Asked (s.performAsk x).1 := by
  have hstore (u : State) (pa : Nat) (b : List Byte) : u.Asked (u.hbmWrite pa b) := by
    have hcore : coreMem (u.hbmWrite pa b).mem = coreMem u.mem := (u.frame_hbmWrite pa b).memCore (by decide)
    have hreqs : (u.hbmWrite pa b).mem.reqs = u.mem.reqs := (congrArg MemState.reqs hcore : _)
    unfold State.Asked
    rw [hreqs]
    exact fun _ h => h
  by_cases hi : x.kind.installs = true
  · rw [s.performAsk_installs hi]
    exact (s.work_putDir _).asked
  · cases hk : x.kind with
    | glance =>
      unfold State.performAsk
      rw [hk]
      exact .refl s
    | place off bytes =>
      unfold State.performAsk
      rw [hk]
      exact (hstore _ _ _).trans (State.work_memAsk _ _).asked
    | atom a =>
      obtain ⟨u, hu, hperform⟩ := s.performAsk_atom hk
      rw [hperform]
      exact hu.asked.trans (hstore _ _ _)
    | getS => exact absurd (by rw [hk]; rfl) hi
    | getX => exact absurd (by rw [hk]; rfl) hi
    | claim => exact absurd (by rw [hk]; rfl) hi
    | zero => exact absurd (by rw [hk]; rfl) hi

theorem State.endTxn_asked (line : Nat) : s.Asked (s.endTxn line) := by
  unfold State.endTxn
  dsimp only
  split
  · exact .of_mem rfl
  · split
    · refine State.Asked.trans ?_ (State.acceptAsk_asked _ _)
      exact .of_mem rfl
    · exact .of_mem rfl

theorem State.settleTxn_asked (line : Nat) : s.Asked (s.settleTxn line) := by
  cases h : s.txnOf line with
  | none =>
    unfold State.settleTxn
    rw [h]
    exact .refl s
  | some x =>
    cases hw : x.waits with
    | true =>
      rw [s.settleTxn_waits h hw]
      exact .refl s
    | false =>
      have hreplied : s.Asked (s.replied x line) := s.performAsk_asked.trans (.of_mem s.replied_mem)
      rw [s.settleTxn_goes h hw]
      split
      · exact hreplied.trans (.of_mem rfl)
      · exact hreplied.trans (State.endTxn_asked _ _)

end Settle

end Sys2Proof.Machine
end

section
/-!
PROOF. O54: the requests of the coherence protocol at a home (R505, R508, R509, R511, R513, R516, R525).
-/

namespace Sys2Proof.Machine

set_option Elab.async false

section Requests

variable {s : State} {r : AgentReq}

/-- The machine in which a new request for an idle line is accepted. -/
def State.taken (s : State) (r : AgentReq) : State := (s.issued r).acceptAsk r

theorem State.ask_idle {agent line : Nat} {sectors : BitVec 4} {ctx : Option Nat} {age : Nat} {kind : AskKind}
    (hok : s.cohOk agent line = true) (hnone : s.agentReq agent line = none) (hidle : s.Idle line) :
    s.ask agent line sectors ctx age kind = (s.taken (newReq agent line sectors ctx age kind)).settleTxn line :=
  (s.ask_new hok hnone).trans ((s.issued _).askHome_idle (newReq agent line sectors ctx age kind) hidle)

theorem State.taken_txnOf (hidle : s.Idle r.line) : (s.taken r).txnOf r.line = some (s.askTxn r) := (s.issued r).acceptAsk_txnOf r hidle.1

theorem State.taken_same : s.SameBytes (s.taken r) :=
  .trans (.of_within (s.frame_setCoh _) (by decide) (by decide)) ((s.issued r).acceptAsk_same r)

theorem State.taken_reserves : (s.taken r).coh.reserves = s.coh.reserves := by
  rw [State.taken, State.acceptAsk_coh, State.begun_coh]
  rfl

theorem State.taken_dir : (s.taken r).coh.dir = s.coh.dir := by
  rw [State.taken, State.acceptAsk_coh, State.begun_coh]
  rfl

theorem State.taken_msgs : (s.taken r).coh.msgs = s.coh.msgs ++ (s.askProbed r).map fun a => ⟨s.askProbe r, a, r.line, r.sectors⟩ := by
  rw [State.taken, State.acceptAsk_coh, State.begun_coh]
  rfl

theorem State.taken_abaom : (s.taken r).abaom = if askShared (s.askKind r) then s.abaom else (s.removeWatch r.line).abaom := by
  rw [State.taken, State.acceptAsk_abaom, State.begun_abaom]
  rfl

theorem State.taken_mem (h : s.askSupply r = 0) : (s.taken r).mem = s.mem := by
  rw [State.taken, (s.issued r).acceptAsk_quiet r h]
  exact ((s.issued r).frame_begun r).mem (by decide)

theorem State.taken_reads (h : s.askSupply r ≠ 0) :
    ∃ q ∈ (s.taken r).mem.reqs, q.line = r.line ∧ q.sectors = s.askSupply r ∧ q.write = false ∧ q.agent = some r.agent := by
  obtain ⟨q, hq, hasks⟩ := List.mem_map.mp ((s.issued r).acceptAsk_reads r h)
  simp only [MemReq.asks, Prod.mk.injEq] at hasks
  exact ⟨q, hq, hasks⟩

/-- A transaction that awaits something leaves the machine as it was accepted. -/
theorem State.ask_waits {agent line : Nat} {sectors : BitVec 4} {ctx : Option Nat} {age : Nat} {kind : AskKind}
    (hok : s.cohOk agent line = true) (hnone : s.agentReq agent line = none) (hidle : s.Idle line)
    (hw : (s.askTxn (newReq agent line sectors ctx age kind)).waits = true) :
    s.ask agent line sectors ctx age kind = s.taken (newReq agent line sectors ctx age kind) :=
  (State.ask_idle hok hnone hidle).trans
    (State.settleTxn_waits _ (State.taken_txnOf (r := newReq agent line sectors ctx age kind) hidle) hw)

/-- The watches of a line after the home has removed the watcher's copy (R508). -/
theorem State.removeWatch_watches (line : Nat) :
    ∀ w ∈ (s.removeWatch line).abaom.watches, w.line = line → w.held = false ∧ w.wake = true := by
  intro w hw hline
  unfold State.removeWatch State.wakeLines at hw
  rw [State.setAbaom_abaom] at hw
  obtain ⟨v, -, rfl⟩ := List.mem_map.mp hw
  by_cases hv : v.line = line
  · have hhit : (decide (v.line * 256 < line * 256 + 1) && decide (line * 256 < v.line * 256 + 256) && decide (0 < 1)) = true := by
      simp [hv]
    rw [if_pos hhit]
    exact ⟨rfl, rfl⟩
  · split at hline
    · exact absurd hline hv
    · exact absurd hline hv

/-- The transaction of an agent that is to be a line's only holder, with the line read from stacked memory. -/
def exclusiveTxn (agent line : Nat) (sectors : BitVec 4) (ctx : Option Nat) (probed : List Nat) : CohTxn :=
  { line, agent, kind := .getX, sectors, granted := .e, probed, spills := [], reading := sectors != 0, supply := sectors,
    grantSent := false, ctx }

/-- A request for exclusive use of an agent that holds nothing: the holders are probed and the home reads the line (R509, R516). -/
theorem State.askTxn_exclusive (hkind : r.kind = .getX ∨ r.kind = .claim) (hnot : r.agent ∉ (s.dirEntry r.line).holders) :
    s.askTxn r = exclusiveTxn r.agent r.line r.sectors r.ctx (s.dirEntry r.line).holders := by
  have hall : (s.dirEntry r.line).holders.filter (· != r.agent) = (s.dirEntry r.line).holders :=
    List.filter_eq_self.mpr fun a ha => by
      have hne : a ≠ r.agent := fun h => hnot (h ▸ ha)
      simpa using hne
  have hask : s.askKind r = .getX := by
    rcases hkind with h | h
    · simp [State.askKind, h]
    · simp [State.askKind, h, hnot]
  unfold State.askTxn State.askGranted State.askProbed State.askSupply
  rw [hask]
  simp [askShared, AskKind.installs, hall, hnot, exclusiveTxn]

/-- A request that leaves the holders their copies, where nobody supplies the line: the home reads it. -/
theorem State.askTxn_read (hkind : r.kind = .getS ∨ r.kind = .glance) (hsource : s.askSource r = none) :
    (s.askTxn r).kind = r.kind ∧ (s.askTxn r).probed = [] ∧ s.askSupply r = r.sectors := by
  have hask : s.askKind r = r.kind := by
    rcases hkind with h | h <;> simp [State.askKind, h]
  simp only [State.askTxn, State.askProbed, State.askSupply, hask, hsource]
  rcases hkind with h | h <;> simp [h, askShared]

/-- A GETS of a line that another agent owns or provides: that agent is probed, and no stack is asked (R505). -/
theorem State.askTxn_give {a : Nat} (hkind : r.kind = .getS) (hsource : s.askSource r = some a) :
    (s.askTxn r).kind = .getS ∧ (s.askTxn r).probed = [a] ∧ s.askSupply r = 0 := by
  have hask : s.askKind r = .getS := by simp [State.askKind, hkind]
  simp [State.askTxn, State.askProbed, State.askSupply, hask, hsource, askShared]

/-- A GETS of a line that nobody holds: the line is granted in E, or in P where the watcher has it (R508). -/
theorem State.askGranted_free (hkind : r.kind = .getS) (hnone : (s.dirEntry r.line).holders = []) (hsource : s.askSource r = none) :
    s.askGranted r = if s.watchHolds r.line = true then .p else .e := by
  have hask : s.askKind r = .getS := by simp [State.askKind, hkind]
  simp only [State.askGranted, hask, hsource, hnone]
  cases s.watchHolds r.line <;> rfl

/-- A claim of a line's only holder, which has it not in M: it is granted without data (R513, R516). -/
theorem State.askTxn_claim (hkind : r.kind = .claim) (hsole : (s.dirEntry r.line).holders = [r.agent])
    (hclean : ∀ l, s.held r.agent r.line = some l → l.st ≠ .m) :
    (s.askTxn r).kind = .claim ∧ (s.askTxn r).waits = false ∧ s.askSupply r = 0 ∧ s.askGranted r = .e := by
  have hask : s.askKind r = .claim := by simp [State.askKind, hkind, hsole]
  have hnow : (((s.held r.agent r.line).map (·.st)).getD .s == .m) = false := by
    cases hl : s.held r.agent r.line with
    | none => rfl
    | some l => simpa using hclean l hl
  simp only [State.askTxn, State.askGranted, State.askProbed, State.askSupply, hask, hsole, hnow]
  simp [CohTxn.waits, askShared, AskKind.installs]

/-- What installs nothing probes every holder and has nothing to read: PLACE and ATOM (R509, R525). -/
theorem State.askTxn_direct (hkind : (∃ off bytes, r.kind = .place off bytes) ∨ ∃ a, r.kind = .atom a)
    (hnone : (s.dirEntry r.line).holders = []) :
    (s.askTxn r).kind = r.kind ∧ (s.askTxn r).waits = false ∧ s.askSupply r = 0 ∧ r.kind.installs = false := by
  rcases hkind with ⟨off, bytes, h⟩ | ⟨a, h⟩
  · have hask : s.askKind r = .place off bytes := by simp [State.askKind, h]
    simp [State.askTxn, State.askProbed, State.askSupply, hask, hnone, h, CohTxn.waits, askShared, AskKind.installs]
  · have hask : s.askKind r = .atom a := by simp [State.askKind, h]
    simp [State.askTxn, State.askProbed, State.askSupply, hask, hnone, h, CohTxn.waits, askShared, AskKind.installs]

end Requests

section Obligation

variable {s : State} {q : CohReq}

/-- The request of a message of the protocol. -/
abbrev askOf (q : CohReq) (kind : AskKind) : AgentReq := newReq q.agent q.line q.sectors q.ctx q.age kind

/-- A transaction that reads awaits its data. -/
theorem State.askTxn_reading (h : s.askSupply r ≠ 0) : (s.askTxn r).reading = true ∧ (s.askTxn r).waits = true := by
  have hread : (s.askTxn r).reading = true := bne_iff_ne.mpr h
  exact ⟨hread, by unfold CohTxn.waits; rw [hread, Bool.or_true]⟩

section

variable (hok : s.cohOk q.agent q.line = true) (hnone : s.agentReq q.agent q.line = none) (hidle : s.Idle q.line)
include hok hnone hidle

theorem State.gets_reads (hfree : (s.dirEntry q.line).holders = []) (hsource : s.askSource (askOf q .getS) = none) (hsectors : q.sectors ≠ 0) :
    ∃ t x, exec (.gets q) s = .next t ∧ t.txnOf q.line = some x ∧ x.agent = q.agent ∧ x.kind = .getS ∧ x.probed = [] ∧ x.reading = true
      ∧ x.supply = q.sectors ∧ x.granted = (if s.watchHolds q.line = true then .p else .e)
      ∧ (∃ r ∈ t.mem.reqs, r.line = q.line ∧ r.sectors = q.sectors ∧ r.write = false ∧ r.agent = some q.agent)
      ∧ t.mem.hbm = s.mem.hbm ∧ t.abaom = s.abaom := by
  obtain ⟨hkind, hprobed, hsupply⟩ := State.askTxn_read (r := askOf q .getS) (.inl rfl) hsource
  obtain ⟨hread, hwaits⟩ := State.askTxn_reading (s := s) (r := askOf q .getS) (by rw [hsupply]; exact hsectors)
  have hasked := State.taken_reads (s := s) (r := askOf q .getS) (by rw [hsupply]; exact hsectors)
  rw [hsupply] at hasked
  exact ⟨_, _, congrArg Host.Outcome.next (State.ask_waits hok hnone hidle hwaits), State.taken_txnOf (r := askOf q .getS) hidle, rfl, hkind,
    hprobed, hread, hsupply, State.askGranted_free (r := askOf q .getS) rfl hfree hsource, hasked, State.taken_same.hbm,
    State.taken_abaom⟩

theorem State.gets_probes {a : Nat} (hsource : s.askSource (askOf q .getS) = some a) :
    ∃ t x, exec (.gets q) s = .next t ∧ t.txnOf q.line = some x ∧ x.kind = .getS ∧ x.probed = [a] ∧ x.reading = false
      ∧ ⟨.probeGive, a, q.line, q.sectors⟩ ∈ t.coh.msgs ∧ t.mem = s.mem := by
  obtain ⟨hkind, hprobed, hsupply⟩ := State.askTxn_give (r := askOf q .getS) rfl hsource
  have hwaits : (s.askTxn (askOf q .getS)).waits = true := by
    unfold CohTxn.waits
    rw [hprobed]
    rfl
  refine ⟨_, _, congrArg Host.Outcome.next (State.ask_waits hok hnone hidle hwaits), State.taken_txnOf (r := askOf q .getS) hidle, hkind,
    hprobed, bne_eq_false_iff_eq.mpr hsupply, ?_, State.taken_mem hsupply⟩
  rw [State.taken_msgs, show s.askProbed (askOf q .getS) = [a] from hprobed]
  exact List.mem_append_right _ (List.mem_singleton.mpr rfl)

theorem State.getx_probes (hzero : q.zero = false) (hnot : q.agent ∉ (s.dirEntry q.line).holders) (hsectors : q.sectors ≠ 0) :
    ∃ t x, exec (.getx q) s = .next t ∧ t.txnOf q.line = some x
      ∧ x.kind = .getX ∧ x.probed = (s.dirEntry q.line).holders ∧ x.granted = .e ∧ x.reading = true
      ∧ (∀ a ∈ (s.dirEntry q.line).holders, ⟨.probeKill, a, q.line, q.sectors⟩ ∈ t.coh.msgs)
      ∧ (∀ w ∈ t.abaom.watches, w.line = q.line → w.held = false ∧ w.wake = true) ∧ t.mem.hbm = s.mem.hbm := by
  have htxn := State.askTxn_exclusive (s := s) (r := askOf q .getX) (.inl rfl) hnot
  have hsupply : s.askSupply (askOf q .getX) = q.sectors := congrArg CohTxn.supply htxn
  obtain ⟨hread, hwaits⟩ := State.askTxn_reading (s := s) (r := askOf q .getX) (by rw [hsupply]; exact hsectors)
  have hrun : exec (.getx q) s = .next (s.taken (askOf q .getX)) :=
    congrArg Host.Outcome.next ((if_neg (by rw [hzero]; exact Bool.false_ne_true)).trans (State.ask_waits hok hnone hidle hwaits))
  refine ⟨_, _, hrun, State.taken_txnOf (r := askOf q .getX) hidle, congrArg CohTxn.kind htxn, congrArg CohTxn.probed htxn,
    congrArg CohTxn.granted htxn, hread, fun a ha => ?_, ?_, State.taken_same.hbm⟩
  · rw [State.taken_msgs, show s.askProbed (askOf q .getX) = _ from congrArg CohTxn.probed htxn]
    exact List.mem_append_right _ (List.mem_map.mpr ⟨a, ha, rfl⟩)
  · rw [State.taken_abaom]
    exact State.removeWatch_watches _

theorem State.claim_probes (hnot : q.agent ∉ (s.dirEntry q.line).holders) (hsectors : q.sectors ≠ 0) :
    ∃ t x, exec (.coherenceClaim q) s = .next t ∧ t.txnOf q.line = some x ∧ x.kind = .getX ∧ x.probed = (s.dirEntry q.line).holders
      ∧ x.reading = true := by
  have htxn := State.askTxn_exclusive (s := s) (r := askOf q .claim) (.inr rfl) hnot
  have hsupply : s.askSupply (askOf q .claim) = q.sectors := congrArg CohTxn.supply htxn
  obtain ⟨hread, hwaits⟩ := State.askTxn_reading (s := s) (r := askOf q .claim) (by rw [hsupply]; exact hsectors)
  exact ⟨_, _, congrArg Host.Outcome.next (State.ask_waits hok hnone hidle hwaits), State.taken_txnOf (r := askOf q .claim) hidle,
    congrArg CohTxn.kind htxn, congrArg CohTxn.probed htxn, hread⟩

theorem State.claim_granted (hsole : (s.dirEntry q.line).holders = [q.agent]) (hclean : ∀ l, s.held q.agent q.line = some l → l.st ≠ .m) :
    ∃ t x, exec (.coherenceClaim q) s = .next t ∧ t.txnOf q.line = some x ∧ x.grantSent = true
      ∧ ⟨.grant .e, q.agent, q.line, q.sectors⟩ ∈ t.coh.msgs ∧ t.mem.hbm = s.mem.hbm := by
  obtain ⟨hkind, hwaits, hsupply, hgranted⟩ := State.askTxn_claim (r := askOf q .claim) rfl hsole hclean
  obtain ⟨htxn, hmsgs, hsame⟩ := State.settleTxn_grants (s.taken (askOf q .claim)) (line := q.line)
    (State.taken_txnOf (r := askOf q .claim) hidle) (by rw [hkind]; rfl) hwaits
  refine ⟨_, _, congrArg Host.Outcome.next (State.ask_idle hok hnone hidle), htxn, rfl, ?_, (State.taken_same.trans hsame).hbm⟩
  rw [hmsgs, show (s.askTxn (askOf q .claim)).granted = .e from hgranted]
  exact List.mem_append_right _ (List.mem_append_right _ (List.mem_singleton.mpr rfl))

theorem State.glance_reads (hsource : s.askSource (askOf q .glance) = none) (hsectors : q.sectors ≠ 0) :
    ∃ t x, exec (.glance q) s = .next t ∧ t.txnOf q.line = some x ∧ x.kind = .glance ∧ x.granted = .i ∧ x.reading = true
      ∧ t.coh.dir = s.coh.dir ∧ t.mem.hbm = s.mem.hbm := by
  obtain ⟨hkind, -, hsupply⟩ := State.askTxn_read (r := askOf q .glance) (.inr rfl) hsource
  obtain ⟨hread, hwaits⟩ := State.askTxn_reading (s := s) (r := askOf q .glance) (by rw [hsupply]; exact hsectors)
  exact ⟨_, _, congrArg Host.Outcome.next (State.ask_waits hok hnone hidle hwaits), State.taken_txnOf (r := askOf q .glance) hidle, hkind, rfl,
    hread, State.taken_dir, State.taken_same.hbm⟩

/-- A hart's cbo.zero of a line that it does not hold asks for the line without its data (R493, R502). -/
theorem State.zero_asks (hzero : q.zero = true) (hagent : q.agent = 8 ∨ q.agent = 9) (hheld : s.held q.agent q.line = none) :
    ∃ t x, exec (.getx q) s = .next t ∧ t.txnOf q.line = some x ∧ x.kind = .zero ∧ x.reading = false ∧ x.supply = 0
      ∧ t.mem.hbm = s.mem.hbm := by
  have hcbo : s.cboZero q.agent q.line q.ctx q.age = s.ask q.agent q.line 0 q.ctx q.age .zero := by
    unfold State.cboZero
    rw [hheld]
  have hhart : (q.zero && (q.agent == 8 || q.agent == 9)) = true := by
    rcases hagent with h | h <;> simp [hzero, h]
  have hrun : exec (.getx q) s = .next (s.ask q.agent q.line 0 q.ctx q.age .zero) :=
    congrArg Host.Outcome.next ((if_pos hhart).trans hcbo)
  have htxn := State.taken_txnOf (r := newReq q.agent q.line 0 q.ctx q.age .zero) hidle
  cases hw : (s.askTxn (newReq q.agent q.line 0 q.ctx q.age .zero)).waits with
  | true =>
    rw [State.ask_waits hok hnone hidle hw] at hrun
    exact ⟨_, _, hrun, htxn, rfl, rfl, rfl, State.taken_same.hbm⟩
  | false =>
    obtain ⟨hsettled, -, hsame⟩ := State.settleTxn_grants _ htxn rfl hw
    rw [State.ask_idle hok hnone hidle] at hrun
    exact ⟨_, _, hrun, hsettled, rfl, rfl, rfl, (State.taken_same.trans hsame).hbm⟩

theorem State.place_performs {off : Nat} {bytes : List Byte} (hfree : (s.dirEntry q.line).holders = []) (hfits : off + bytes.length ≤ 256) :
    ∃ t, exec (.place q off bytes) s = .next t ∧ t.mem.hbm = (s.hbmWrite (q.line * 256 + off) bytes).mem.hbm ∧ t.txnOf q.line = none
      ∧ ⟨.grant .i, q.agent, q.line, q.sectors⟩ ∈ t.coh.msgs := by
  obtain ⟨hkind, hwaits, hsupply, hinstalls⟩ := State.askTxn_direct (r := askOf q (.place off bytes)) (.inl ⟨off, bytes, rfl⟩) hfree
  obtain ⟨htxn, hmsgs, hmem⟩ := State.settleTxn_ends (s.taken (askOf q (.place off bytes))) (line := q.line)
    (State.taken_txnOf (r := askOf q (.place off bytes)) hidle) (by rw [hkind]; exact hinstalls) hwaits
    (by rw [State.taken_reserves]; exact hidle.2)
  refine ⟨_, (onEvent_of_true (decide_eq_true hfits) (fun s => s.ask q.agent q.line q.sectors q.ctx q.age (.place off bytes)) s).trans
    (congrArg Host.Outcome.next (State.ask_idle hok hnone hidle)), ?_, htxn, ?_⟩
  · refine (congrArg MemState.hbm hmem).trans ?_
    exact ((State.taken_same.hbmWrite _ _).trans (State.work_memAsk _ _).same).hbm
  · rw [hmsgs]
    exact List.mem_append_right _ (List.mem_append_right _ (List.mem_singleton.mpr rfl))

end

/-- The request of an ATOM. -/
abbrev atomReq (a : AtomReq) : AgentReq := newReq a.agent (a.addr / 256) (1#4 <<< (a.addr / 64 % 4)) a.ctx 0 (.atom a)

/-- An atomic of a line that nobody holds is performed at once, with the old value in its answer (R525, R528). -/
theorem State.atom_performs {a : AtomReq} {agent line : Nat} (hagent : a.agent = agent) (hline : a.addr / 256 = line)
    (hok : s.cohOk agent line = true) (hnone : s.agentReq agent line = none) (hidle : s.Idle line) (hfree : (s.dirEntry line).holders = [])
    (hwidth : a.width = 4 ∨ a.width = 8) (haligned : a.addr % a.width = 0) (hop : a.op % 16 ≤ 10) :
    ∃ t, exec (.atom a) s = .next t ∧ t.mem.hbm = (s.rmw a.addr a.op a.width a.a a.c).1.mem.hbm ∧ t.txnOf line = none
      ∧ ∃ m ∈ t.coh.msgs, m.agent = agent ∧ m.line = line ∧ m.kind = .grantOld (leNat (s.hbmRead a.addr a.width)) := by
  subst hagent hline
  have hgood : ((a.width == 4 || a.width == 8) && a.addr % a.width == 0 && decide (a.op % 16 ≤ 10)) = true := by
    rcases hwidth with h | h <;> simp [h, hop, h ▸ haligned]
  obtain ⟨hkind, hwaits, hsupply, hinstalls⟩ := State.askTxn_direct (r := atomReq a) (.inr ⟨a, rfl⟩) hfree
  obtain ⟨htxn, hmsgs, hmem⟩ := State.settleTxn_ends (s.taken (atomReq a)) (line := a.addr / 256) (State.taken_txnOf (r := atomReq a) hidle)
    (by rw [hkind]; exact hinstalls) hwaits (by rw [State.taken_reserves]; exact hidle.2)
  obtain ⟨u, hsame, hperform⟩ := (s.taken (atomReq a)).performAsk_atom (x := s.askTxn (atomReq a)) hkind
  obtain ⟨hstored, hold⟩ := (State.taken_same.trans hsame.same).rmw a.addr a.op a.width a.a a.c
  refine ⟨_, (onEvent_of_true hgood (fun s => s.ask a.agent (a.addr / 256) (1#4 <<< (a.addr / 64 % 4)) a.ctx 0 (.atom a)) s).trans
    (congrArg Host.Outcome.next (State.ask_idle hok hnone hidle)), ?_, htxn, ?_⟩
  · refine (congrArg MemState.hbm hmem).trans ?_
    rw [hperform]
    exact hstored.hbm
  · rw [hmsgs, hperform]
    exact ⟨_, List.mem_append_right _ (List.mem_append_right _ (List.mem_singleton.mpr rfl)), rfl, rfl, congrArg MsgKind.grantOld hold⟩

/-- A busy line, or one that a reservation waits for, answers a new GETS with Retry (R511, R513). -/
theorem State.gets_retries (hok : s.cohOk q.agent q.line = true) (hnone : s.agentReq q.agent q.line = none) (hbusy : ¬ s.Idle q.line) :
    ∃ t, exec (.gets q) s = .next t ∧ t.coh.txns = s.coh.txns ∧ t.mem = s.mem ∧ ⟨.retry false, q.agent, q.line, 0⟩ ∈ t.coh.msgs
      ∧ ∃ r, t.agentReq q.agent q.line = some r ∧ r.kind = .getS ∧ r.backing = true ∧ r.accepted = false := by
  have hasks : ¬ ((s.issued (askOf q .getS)).txnOf q.line).isNone = true
      ∨ ((s.issued (askOf q .getS)).coh.reserves.any fun v => v.line == q.line) = true := by
    by_contra hall
    obtain ⟨htxn, hres⟩ := not_or.mp hall
    refine hbusy ⟨Option.isNone_iff_eq_none.mp (not_not.mp htxn), fun v hv hline => hres ?_⟩
    exact List.any_eq_true.mpr ⟨v, hv, beq_iff_eq.mpr hline⟩
  have hcond : ¬ (((s.issued (askOf q .getS)).txnOf q.line).isNone
      && !((s.issued (askOf q .getS)).coh.reserves.any fun v => v.line == q.line)) = true := by
    rcases hasks with h | h <;> simp [h]
  have hrun : (s.issued (askOf q .getS)).askHome (askOf q .getS) = _ := if_neg hcond
  refine ⟨_, congrArg Host.Outcome.next ((s.ask_new hok hnone).trans hrun), rfl, rfl, ?_, { askOf q .getS with backing := true }, ?_, rfl, rfl,
    rfl⟩
  · exact List.mem_append_right _ (List.mem_singleton.mpr rfl)
  · exact State.agentReq_putReq (s := (s.issued (askOf q .getS)).count 15 1) (r := { askOf q .getS with backing := true })
      (s.agentReq_issued (askOf q .getS) hnone)

end Obligation

/-- Settles O54: a request by its kind and by what its line's directory entry says, from the transaction that the home begins. -/
theorem coherenceRequests : Obligations.CoherenceRequests := by
  unfold Obligations.CoherenceRequests
  intro s q hnone
  refine ⟨fun hbad => ?_, fun hagent hmem hpath => ?_⟩
  · have hstay (sectors : BitVec 4) (ctx : Option Nat) (age : Nat) (kind : AskKind) : s.ask q.agent q.line sectors ctx age kind = s := by
      unfold State.ask
      rw [hbad]
      rfl
    exact ⟨congrArg Host.Outcome.next (hstay _ _ _ _), congrArg Host.Outcome.next (hstay _ _ _ _), congrArg Host.Outcome.next (hstay _ _ _ _)⟩
  · have hok : s.cohOk q.agent q.line = true := by simp [State.cohOk, hagent, hmem, hpath]
    refine ⟨fun hidle => State.gets_reads hok hnone hidle, fun a hidle => State.gets_probes hok hnone hidle,
      fun hzero hhart => ⟨fun l hheld hst => ?_, fun hidle => State.zero_asks hok hnone hidle hzero hhart⟩,
      fun hidle => State.getx_probes hok hnone hidle, fun hidle => State.claim_probes hok hnone hidle,
      fun hidle => State.claim_granted hok hnone hidle, fun hidle _ => State.glance_reads hok hnone hidle,
      fun off bytes hidle => State.place_performs hok hnone hidle, fun a hidle hfree hagent hline hwidth haligned hop => ?_,
      State.gets_retries hok hnone⟩
    · have hcbo : s.cboZero q.agent q.line q.ctx q.age = s.zeroLine q.agent q.line := by
        unfold State.cboZero
        rw [hheld, hnone]
        exact if_pos (by rcases hst with h | h <;> simp [h])
      exact congrArg Host.Outcome.next ((if_pos (by rcases hhart with h | h <;> simp [hzero, h])).trans hcbo)
    · exact State.atom_performs hagent hline hok hnone hidle hfree hwidth haligned hop

end Sys2Proof.Machine
end

section
/-!
PROOF. O55: the messages of the coherence protocol other than requests (R499, R503, R506, R509 to R516, R528, R535, R540).
-/

namespace Sys2Proof.Machine

set_option Elab.async false

section Lines

variable {s : State} {agent line : Nat}

/-! ### Holders and messages -/

/-- A line as an agent holds it names the two. -/
theorem State.held_names {l : AgentLine} (h : s.held agent line = some l) : l.agent = agent ∧ l.line = line := by
  simpa using List.find?_some (p := fun (l : AgentLine) => l.agent == agent && l.line == line) h

/-- What changes lines but not whose they are changes what an agent holds likewise. -/
theorem State.held_mapLines (s : State) {f : AgentLine → AgentLine} (hf : ∀ x, (f x).agent = x.agent ∧ (f x).line = x.line) (agent line : Nat) :
    (s.setCoh { s.coh with lines := s.coh.lines.map f }).held agent line = (s.held agent line).map f := by
  have hsame : (fun l : AgentLine => l.agent == agent && l.line == line) ∘ f = fun l => l.agent == agent && l.line == line := by
    funext x
    obtain ⟨ha, hl⟩ := hf x
    simp [ha, hl]
  unfold State.held
  rw [State.setCoh_coh]
  dsimp only
  rw [List.find?_map, hsame]

theorem CohState.dropLine_lines (c : CohState) (agent line : Nat) :
    (c.dropLine agent line).lines = c.lines.filter fun l => !(l.agent == agent && l.line == line) := by
  unfold CohState.dropLine
  dsimp only
  split <;> rfl

/-- An agent whose copies of a line are gone holds none. -/
theorem State.held_dropped {s t : State} (h : t.coh.lines = s.coh.lines.filter fun l => !(l.agent == agent && l.line == line)) :
    t.held agent line = none := by
  rw [State.held, h, List.find?_eq_none]
  intro x hx
  have hout := (List.mem_filter.mp hx).2
  simpa [imp_iff_not_or] using hout

/-- A message that is taken is the agent's of the line, and one message fewer is in flight. -/
theorem State.takeMsg_takes {p : MsgKind → Bool} {u : State} {m : CohMsg} (h : s.takeMsg agent line p = some (u, m)) :
    u = s.setCoh { s.coh with msgs := s.coh.msgs.erase m } := by
  obtain ⟨m', -, hm⟩ := Option.map_eq_some_iff.mp h
  obtain ⟨hu, rfl⟩ := Prod.mk.injEq .. ▸ hm
  exact hu.symm

theorem mem_last {α : Type} (l : List α) (x : α) : x ∈ l ++ [x] := List.mem_append_right _ (List.mem_singleton.mpr rfl)

/-! ### An agent that leaves the directory (R506, R507) -/

/-- An agent that has left an entry is no holder. -/
theorem DirEntry.holders_without (d : DirEntry) (agent age : Nat) : agent ∉ ({ d.without agent with age } : DirEntry).holders := by
  simp [DirEntry.holders, DirEntry.without]

/-- A line's entry is the line's. -/
theorem State.dirEntry_line (s : State) (line : Nat) : (s.dirEntry line).line = line := by
  unfold State.dirEntry
  cases h : s.dirOf line with
  | none => rfl
  | some d => exact beq_iff_eq.mp (List.find?_some (p := fun (d : DirEntry) => d.line == line) h)

/-- A line without an entry has no holder, and no FAR mark. -/
theorem State.dirEntry_none (h : s.dirOf line = none) :
    (s.dirEntry line).sharers = 0 ∧ (s.dirEntry line).far = false ∧ (s.dirEntry line).holders = [] := by
  unfold State.dirEntry
  rw [h]
  exact ⟨rfl, rfl, by simp [DirEntry.holders]⟩

/-- The directory once an agent has left a line's entry: no copy of another line is given up for it. -/
theorem State.putDir_without (s : State) (agent line : Nat) :
    ∃ dir, s.putDir ((s.dirEntry line).without agent) = s.setCoh { s.coh with dir } ∧
      ∀ t : State, t.coh.dir = dir → agent ∉ (t.dirEntry line).holders := by
  have hline : ((s.dirEntry line).without agent).line = line := s.dirEntry_line line
  by_cases hgone : ((s.dirEntry line).without agent).sharers = 0 ∧ !((s.dirEntry line).without agent).far
  · refine ⟨_, if_pos hgone, fun t ht => ?_⟩
    have hnone : t.dirOf line = none := by
      rw [State.dirOf, ht, List.find?_eq_none]
      intro d hd
      simpa [hline] using (List.mem_filter.mp hd).2
    rw [(State.dirEntry_none hnone).2.2]
    exact List.not_mem_nil
  · cases hdir : s.dirOf line with
    | none =>
      obtain ⟨hsharers, hfar, -⟩ := State.dirEntry_none hdir
      exact absurd ⟨by simp [DirEntry.without, hsharers], by simp [DirEntry.without, hfar]⟩ hgone
    | some d =>
      have hfind : s.coh.dir.find? (fun d => d.line == line) = some d := hdir
      refine ⟨_, (if_neg hgone).trans (if_pos (by rw [hline, hdir]; rfl)), fun t ht => ?_⟩
      have hsame : (fun e : DirEntry => e.line == line) ∘ (fun e => if e.line = ((s.dirEntry line).without agent).line then
          { (s.dirEntry line).without agent with age := 0 } else e) = fun e => e.line == line := by
        funext e
        by_cases he : e.line = line <;> simp [he, hline]
      have hd : d.line = ((s.dirEntry line).without agent).line :=
        (beq_iff_eq.mp (List.find?_some (p := fun (d : DirEntry) => d.line == line) hdir)).trans hline.symm
      have hof : t.dirOf line = some { (s.dirEntry line).without agent with age := 0 } := by
        rw [State.dirOf, ht, List.find?_map, hsame, hfind, Option.map_some, if_pos hd]
      have hentry : t.dirEntry line = { (s.dirEntry line).without agent with age := 0 } :=
        congrArg (fun o => o.getD { line, owned := false, sharers := 0, provider := none, owner := none, far := false, age := 0, way := 0 }) hof
      rw [hentry]
      exact DirEntry.holders_without _ _ _

/-! ### Evictions (R499, R506, R512) -/

/-- The eviction of a line as its agent sends it. -/
def AgentLine.leaves (l : AgentLine) : Evict :=
  { agent := l.agent, line := l.line, dirty := l.dirty, dirtyBy := l.dirtyBy, taken := false, way := l.way }

/-- An agent that gives up its copy now sends its eviction, and no other of it was on its way. -/
theorem State.evictNow_held {l : AgentLine} {dirty : Bool} (hheld : s.held agent line = some l) (hdirty : (l.dirty != 0) = dirty)
    (hnone : s.eviction agent line dirty = none) :
    s.evictNow agent line dirty = (s.evict l, some l.leaves) ∧ l.leaves ∉ s.coh.evicts
      ∧ (s.evict l).coh.evicts = s.coh.evicts ++ [l.leaves] := by
  obtain ⟨rfl, rfl⟩ := State.held_names hheld
  have hmine : (l.leaves.agent == l.agent && l.leaves.line == l.line && (l.leaves.dirty != 0) == dirty) = true := by
    simpa [AgentLine.leaves] using hdirty
  have hnot : l.leaves ∉ s.coh.evicts := fun hmem => List.find?_eq_none.mp hnone _ hmem hmine
  have hevicts : (s.evict l).coh.evicts = s.coh.evicts ++ [l.leaves] := by
    rfl
  have hsent : (s.evict l).eviction l.agent l.line dirty = some l.leaves := by
    have hold : s.coh.evicts.find? (fun e => e.agent == l.agent && e.line == l.line && (e.dirty != 0) == dirty) = none := hnone
    rw [State.eviction, hevicts, List.find?_append, hold, List.find?_cons, hmine]
    rfl
  refine ⟨?_, hnot, hevicts⟩
  unfold State.evictNow
  rw [hnone, hheld]
  refine (if_pos (by rw [hdirty]; exact beq_self_eq_true _)).trans ?_
  rw [← hsent]

/-! ### Answers of probed holders (R505, R509, R516) -/

/-- The machine in which a holder's dirty sectors, if it has any, are on their way to the home. -/
def State.spilled (s : State) (agent line : Nat) (dirty : BitVec 4) : State :=
  if dirty = 0 then s else s.sendCoh .spillCargo agent line dirty

theorem State.spilled_eq (s : State) (agent line : Nat) (dirty : BitVec 4) : s.spilled agent line dirty
    = s.setCoh { s.coh with msgs := s.coh.msgs ++ if dirty = 0 then [] else [⟨.spillCargo, agent, line, dirty⟩] } := by
  unfold State.spilled
  split <;> simp [State.sendCoh, State.setCoh]

theorem State.spilled_msgs (s : State) (agent line : Nat) {dirty : BitVec 4} (h : dirty ≠ 0) :
    ⟨.spillCargo, agent, line, dirty⟩ ∈ (s.spilled agent line dirty).coh.msgs := by
  rw [State.spilled, if_neg h]
  exact mem_last _ _

/-- The machine in which a holder keeps a line clean, in P. -/
def State.provides (s : State) (l : AgentLine) : State :=
  s.setCoh { s.coh with lines := s.coh.lines.map fun x => if x = l then { l with st := .p, dirty := 0, dirtyBy := none } else x }

end Lines

section Obligation

variable {s : State} {q : CohReq} {agent line : Nat}

/-- A VACATE that the agent sends now is taken at once (R506). -/
theorem State.vacate_leaves {l : AgentLine} (hheld : s.held q.agent q.line = some l) (hclean : l.dirty = 0)
    (hnone : s.eviction q.agent q.line false = none) : ∃ t, exec (.vacate q) s = .next t
      ∧ (t.held q.agent q.line = none ∧ q.agent ∉ (t.dirEntry q.line).holders) ∧ t.coh.evicts = s.coh.evicts ∧ t.mem = s.mem := by
  obtain ⟨hnow, hnot, hevicts⟩ := State.evictNow_held hheld (dirty := false) (by simp [hclean]) hnone
  obtain ⟨ha, hl⟩ := State.held_names hheld
  let u := (s.evict l).setCoh { (s.evict l).coh with evicts := (s.evict l).coh.evicts.erase l.leaves }
  obtain ⟨dir, hput, hout⟩ := u.putDir_without q.agent q.line
  have hrun : exec (.vacate q) s = .next (u.putDir ((u.dirEntry q.line).without q.agent)) := by
    show Host.Outcome.next _ = _
    rw [hnow]
  rw [hput] at hrun
  refine ⟨_, hrun, ⟨?_, hout _ rfl⟩, ?_, rfl⟩
  · rw [← ha, ← hl]
    exact State.held_dropped (s := s) (s.coh.dropLine_lines l.agent l.line)
  · show (s.evict l).coh.evicts.erase l.leaves = _
    rw [hevicts, List.erase_append_right _ hnot]
    simp

/-- A SPILL that the agent sends now is taken, and its sectors follow (R506). -/
theorem State.spill_leaves {l : AgentLine} (hheld : s.held q.agent q.line = some l) (hdirty : l.dirty ≠ 0)
    (hnone : s.eviction q.agent q.line true = none) : ∃ t, exec (.spill q) s = .next t
      ∧ (t.held q.agent q.line = none ∧ q.agent ∉ (t.dirEntry q.line).holders)
      ∧ ⟨.spillCargo, q.agent, q.line, l.dirty⟩ ∈ t.coh.msgs ∧ t.mem = s.mem := by
  obtain ⟨hnow, -, -⟩ := State.evictNow_held hheld (dirty := true) (bne_iff_ne.mpr hdirty) hnone
  obtain ⟨ha, hl⟩ := State.held_names hheld
  obtain ⟨u, hu⟩ : ∃ u, u = (s.evict l).setCoh { (s.evict l).coh with
    evicts := (s.evict l).coh.evicts.map fun x => if x = l.leaves then { l.leaves with taken := true } else x } := ⟨_, rfl⟩
  have hmem : u.mem = s.mem := by rw [hu]; rfl
  have hlines : u.coh.lines = (s.coh.dropLine l.agent l.line).lines := by rw [hu]; rfl
  obtain ⟨dir, hput, hout⟩ := u.putDir_without q.agent q.line
  have hrun : exec (.spill q) s = .next ((u.putDir ((u.dirEntry q.line).without q.agent)).sendCoh .spillCargo q.agent q.line l.dirty) := by
    show Host.Outcome.next _ = _
    rw [hnow, hu]
    rfl
  rw [hput] at hrun
  refine ⟨_, hrun, ⟨?_, hout _ rfl⟩, mem_last _ _, hmem⟩
  rw [← ha, ← hl]
  exact State.held_dropped (s := s) (hlines.trans (s.coh.dropLine_lines l.agent l.line))

/-- A holder that is probed for a line supplies it and keeps it in P (R505). -/
theorem State.probeGive_supplies {u : State} {m : CohMsg} {l : AgentLine} (hmsg : s.takeMsg q.agent q.line (· == .probeGive) = some (u, m))
    (hheld : s.held q.agent q.line = some l) : ∃ t, exec (.probeGive q) s = .next t
      ∧ t.held q.agent q.line = some { l with st := .p, dirty := 0, dirtyBy := none }
      ∧ ⟨.reply .p false, q.agent, q.line, l.dirty⟩ ∈ t.coh.msgs
      ∧ ⟨.cargo, ((s.txnOf q.line).map (·.agent)).getD q.agent, q.line, m.sectors⟩ ∈ t.coh.msgs
      ∧ (l.dirty ≠ 0 → ⟨.spillCargo, q.agent, q.line, l.dirty⟩ ∈ t.coh.msgs) ∧ t.mem = s.mem := by
  have hu := State.takeMsg_takes hmsg
  have hmine : u.held q.agent q.line = some l := by rw [hu]; exact hheld
  have hkept := u.held_mapLines (f := fun x => if x = l then { l with st := .p, dirty := 0, dirtyBy := none } else x)
    (fun x => by by_cases hx : x = l <;> simp [hx]) q.agent q.line
  rw [hmine, Option.map_some, if_pos rfl] at hkept
  have hrun : exec (.probeGive q) s = .next ((((u.provides l).spilled q.agent q.line l.dirty).sendCoh .cargo
      (((u.txnOf q.line).map (·.agent)).getD q.agent) q.line m.sectors).sendCoh (.reply .p false) q.agent q.line l.dirty) := by
    show Host.Outcome.next _ = _
    rw [hmsg]
    dsimp only
    rw [hmine]
    unfold State.spilled State.provides
    rfl
  have htxn : u.txnOf q.line = s.txnOf q.line := by rw [hu]; rfl
  have hmem : u.mem = s.mem := by rw [hu]; rfl
  rw [htxn] at hrun
  refine ⟨_, hrun, ?_, mem_last _ _, List.mem_append_left _ (mem_last _ _), fun hdirty => ?_, ?_⟩
  · rw [State.spilled_eq]
    exact hkept
  · exact List.mem_append_left _ (List.mem_append_left _ (State.spilled_msgs _ _ _ hdirty))
  · rw [State.spilled_eq]
    exact hmem

/-- A holder that is probed gives its line up (R509, R516). -/
theorem State.probeKill_gives {u : State} {m : CohMsg} (hmsg : s.takeMsg q.agent q.line (· == .probeKill) = some (u, m)) :
    ∃ t, exec (.probeKill q) s = .next t ∧ t.held q.agent q.line = none ∧ t.mem = s.mem
      ∧ (∀ l, s.held q.agent q.line = some l → ⟨.reply .i false, q.agent, q.line, l.dirty⟩ ∈ t.coh.msgs
          ∧ (l.dirty ≠ 0 → ⟨.spillCargo, q.agent, q.line, l.dirty⟩ ∈ t.coh.msgs))
      ∧ (s.held q.agent q.line = none → ⟨.reply .i (s.eviction q.agent q.line true).isSome, q.agent, q.line, 0⟩ ∈ t.coh.msgs) := by
  have hu := State.takeMsg_takes hmsg
  have hheld : u.held q.agent q.line = s.held q.agent q.line := by rw [hu]; rfl
  cases hl : s.held q.agent q.line with
  | none =>
    have hrun : exec (.probeKill q) s = .next (u.absentReply q.agent q.line) := by
      show Host.Outcome.next _ = _
      rw [hmsg]
      dsimp only
      rw [hheld, hl]
    subst hu
    refine ⟨_, hrun, hheld.trans hl, rfl, ?_, fun _ => mem_last _ _⟩
    intro l h
    exact nomatch h
  | some l =>
    have hrun : exec (.probeKill q) s = .next (((u.setCoh (u.coh.dropLine q.agent q.line)).spilled q.agent q.line l.dirty).sendCoh
        (.reply .i false) q.agent q.line l.dirty) := by
      show Host.Outcome.next _ = _
      rw [hmsg]
      dsimp only
      rw [hheld, hl]
      rfl
    subst hu
    refine ⟨_, hrun, ?_, ?_, fun l' h => ?_, fun h => nomatch h⟩
    · rw [State.spilled_eq]
      exact State.held_dropped (s := s) (CohState.dropLine_lines _ q.agent q.line)
    · rw [State.spilled_eq]
      rfl
    · obtain rfl := Option.some.inj h
      exact ⟨mem_last _ _, fun hdirty => List.mem_append_left _ (State.spilled_msgs _ _ _ hdirty)⟩

/-- The last probe's answer lets a GETX go on: its grant goes out, with the sectors that the home supplies (R509, R516). -/
theorem State.reply_grants {u : State} {m : CohMsg} {x : CohTxn}
    (hmsg : s.takeMsg q.agent q.line (fun k => match k with | .reply _ _ => true | _ => false) = some (u, m))
    (hkind : m.kind = .reply .i false) (hclean : m.sectors = 0) (htxn : s.txnOf q.line = some x) (hgetx : x.kind = .getX)
    (hprobed : x.probed = [q.agent]) (hspills : x.spills = []) (hread : x.reading = false) (hsent : x.grantSent = false) :
    ∃ t, exec (.reply q) s = .next t ∧ ⟨.grant x.granted, x.agent, q.line, x.sectors⟩ ∈ t.coh.msgs ∧ t.mem.hbm = s.mem.hbm
      ∧ (x.supply ≠ 0 → ⟨.cargo, x.agent, q.line, x.supply⟩ ∈ t.coh.msgs) ∧ ∃ y, t.txnOf q.line = some y ∧ y.grantSent = true := by
  have hu := State.takeMsg_takes hmsg
  have hutxn : u.txnOf q.line = some x := by rw [hu]; exact htxn
  have hline : x.line = q.line := beq_iff_eq.mp (List.find?_some (p := fun (t : CohTxn) => t.line == q.line) htxn)
  let d := (u.dirEntry q.line).replied q.agent .i
  let v := (u.putDir d).putTxn { x with probed := [] }
  have hwork := u.work_putDir d
  have hvtxn : v.txnOf q.line = some { x with probed := [] } := by
    refine State.txnOf_putTxn (u.putDir d) (x := x) ?_ hline
    rw [State.txnOf, hwork.txns]
    exact hutxn
  have hrun : exec (.reply q) s = .next (v.settleTxn q.line) := by
    have hask : ((x.kind == .getS || x.kind == .glance) && (LineSt.i == .i)) = false := by
      rw [hgetx]
      rfl
    show Host.Outcome.next _ = _
    split
    · next h => exact nomatch hmsg.symm.trans h
    · next h =>
      obtain ⟨rfl, rfl⟩ := Prod.mk.inj (Option.some.inj (hmsg.symm.trans h))
      rw [hutxn, hkind]
      simp only [hask, hclean, hprobed, List.erase_cons_head, Bool.or_false]
      rfl
  obtain ⟨hgranted, hmsgs, hsame⟩ := v.settleTxn_grants hvtxn (by rw [hgetx]; rfl) (by simp [CohTxn.waits, hsent, hspills, hread])
  refine ⟨_, hrun, ?_, ?_, fun hsupply => ?_, _, hgranted, rfl⟩
  · rw [hmsgs]
    exact List.mem_append_right _ (mem_last _ _)
  · refine hsame.hbm.trans (hwork.same.hbm.trans ?_)
    rw [hu]
    rfl
  · rw [hmsgs, CohTxn.answer, if_neg hsupply]
    exact List.mem_append_right _ (List.mem_append_left _ (List.mem_singleton.mpr rfl))

/-- The context whose stores the dirty sectors of an eviction, or of a probed holder, carry. -/
def State.spillBy (u : State) (q : CohReq) : Option Nat := ((u.eviction q.agent q.line true).bind (·.dirtyBy)) <|> q.ctx

/-- The machine in which an eviction whose sectors have come is over. -/
def State.spillOver (u : State) (q : CohReq) : State :=
  u.setCoh { u.coh with evicts := u.coh.evicts.filter fun e => !(e.agent == q.agent && e.line == q.line && e.taken) }

/-- The machine in which the sectors of a SpillCargo are on their way to their stack. -/
def State.spillStored (u : State) (q : CohReq) (sectors : BitVec 4) : State :=
  (u.spillOver q).memRequest q.line sectors true
    (if (u.txnOf q.line).any fun x => x.spills.contains q.agent then .crit else agentClass q.agent 0) none
    ((u.spillOver q).agentPartition q.agent (u.spillBy q)) (u.spillBy q)

/-- A home that awaited the sectors goes on. -/
def State.spillHeard (w : State) (q : CohReq) : State :=
  match w.txnOf q.line with
  | some x => (w.putTxn { x with spills := x.spills.erase q.agent }).settleTxn q.line
  | none => w

theorem State.spillHeard_asked (w : State) (q : CohReq) : w.Asked (w.spillHeard q) := by
  unfold State.spillHeard
  split
  · refine State.Asked.trans ?_ (State.settleTxn_asked _ _)
    exact .of_mem rfl
  · exact .refl w

/-- Dirty sectors that reach the home go to their stack, and the eviction that they ended is over (R499). -/
theorem State.spillCargo_writes {u : State} {m : CohMsg} (hmsg : s.takeMsg q.agent q.line (· == .spillCargo) = some (u, m)) :
    ∃ t, exec (.spillCargo q) s = .next t ∧ (∃ r ∈ t.mem.reqs, r.line = q.line ∧ r.sectors = m.sectors ∧ r.write = true)
      ∧ (s.txnOf q.line = none → t.coh.evicts = s.coh.evicts.filter fun e => !(e.agent == q.agent && e.line == q.line && e.taken)) := by
  have hu := State.takeMsg_takes hmsg
  have hrun : exec (.spillCargo q) s = .next ((u.spillStored q m.sectors).spillHeard q) := by
    show Host.Outcome.next _ = _
    rw [hmsg]
    rfl
  have hcoh : (u.spillStored q m.sectors).coh = (u.spillOver q).coh := (State.frame_memRequest _ _ _ _ _ _ _ _).coh (by decide)
  refine ⟨_, hrun, ?_, fun hnone => ?_⟩
  · obtain ⟨r, hr, hasks⟩ := List.mem_map.mp
      (State.spillHeard_asked (u.spillStored q m.sectors) q (State.memRequest_asks _ q.line m.sectors true _ none _ _))
    simp only [MemReq.asks, Prod.mk.injEq] at hasks
    exact ⟨r, hr, hasks.1, hasks.2.1, hasks.2.2.1⟩
  · have hquiet : (u.spillStored q m.sectors).txnOf q.line = none := by
      rw [State.txnOf, hcoh, hu]
      exact hnone
    rw [State.spillHeard, hquiet]
    dsimp only
    rw [hcoh, hu]
    rfl

/-- Sectors that come before the grant are noted with the request (R509). -/
theorem State.cargo_comes {u : State} {m : CohMsg} {r : AgentReq} (hmsg : s.takeMsg q.agent q.line (· == .cargo) = some (u, m))
    (hreq : s.agentReq q.agent q.line = some r) (hgranted : r.granted = false) :
    ∃ t, exec (.cargo q) s = .next t ∧ t.agentReq q.agent q.line = some { r with got := r.got ||| m.sectors }
      ∧ t.coh.lines = s.coh.lines ∧ t.mem = s.mem := by
  have hu := State.takeMsg_takes hmsg
  have hureq : u.agentReq q.agent q.line = some r := by rw [hu]; exact hreq
  have hnames : r.agent = q.agent ∧ r.line = q.line := by
    simpa using List.find?_some (p := fun (r : AgentReq) => r.agent == q.agent && r.line == q.line) hreq
  have hlines (l : List AgentLine) (f : AgentLine → AgentLine) :
      l.map (fun x => if x.agent = r.agent ∧ x.line = r.line ∧ r.granted = true then f x else x) = l := by
    refine (List.map_congr_left fun x _ => if_neg ?_).trans (List.map_id l)
    rw [hgranted]
    exact fun h => nomatch h.2.2
  have hrun : exec (.cargo q) s = .next (u.putReq { r with got := r.got ||| m.sectors }) := by
    show Host.Outcome.next _ = _
    rw [hmsg]
    dsimp only
    rw [hureq]
    dsimp only
    rw [hlines, State.finishReq, hgranted]
    rfl
  refine ⟨_, hrun, ?_, by rw [hu]; rfl, by rw [hu]; rfl⟩
  rw [← hnames.1, ← hnames.2] at hureq ⊢
  exact State.agentReq_putReq (r := { r with got := r.got ||| m.sectors }) hureq

/-- A Seated frees its line (R511). -/
theorem State.seated_frees {u : State} {m : CohMsg} (hmsg : s.takeMsg q.agent q.line (· == .seated) = some (u, m))
    (hfree : ∀ v ∈ s.coh.reserves, v.line ≠ q.line) :
    ∃ t, exec (.seated q) s = .next t ∧ t.txnOf q.line = none ∧ (∀ k, k ≠ q.line → t.txnOf k = s.txnOf k) ∧ t.mem = s.mem := by
  have hu := State.takeMsg_takes hmsg
  have hend := u.endTxn_free (line := q.line) (by rw [hu]; exact hfree)
  have hnone : (u.endTxn q.line).txnOf q.line = none := by rw [hend, State.txnOf_ended, if_pos rfl]
  have hsettle : (u.endTxn q.line).settleTxn q.line = u.endTxn q.line := by
    unfold State.settleTxn
    rw [hnone]
  have hrun : exec (.seated q) s = .next (u.endTxn q.line) := by
    show Host.Outcome.next _ = _
    rw [hmsg]
    dsimp only
    rw [hsettle]
  refine ⟨_, hrun, hnone, fun k hk => ?_, ?_⟩
  · rw [hend, State.txnOf_ended, if_neg hk, hu]
    rfl
  · rw [hend, hu]
    rfl

/-- A Retry counts, and after eight a request starves while fewer than 16 of its agent do (R513 to R515). -/
theorem State.retry_counts {u : State} {m : CohMsg} {r : AgentReq}
    (hmsg : s.takeMsg q.agent q.line (fun k => match k with | .retry _ => true | _ => false) = some (u, m))
    (hreq : s.agentReq q.agent q.line = some r) : ∃ t, exec (.retry q) s = .next t
      ∧ t.agentReq q.agent q.line = some { r with
        retries := r.retries + 1,
        starving := decide (8 ≤ r.retries + 1)
          && decide (s.coh.reqs.countP (fun x => x.agent == r.agent && x.line != r.line && x.starving) < 16) } := by
  have hu := State.takeMsg_takes hmsg
  have hureq : u.agentReq q.agent q.line = some r := by rw [hu]; exact hreq
  have hnames : r.agent = q.agent ∧ r.line = q.line := by
    simpa using List.find?_some (p := fun (r : AgentReq) => r.agent == q.agent && r.line == q.line) hreq
  have hrun : exec (.retry q) s = .next (u.putReq { r with
      retries := r.retries + 1,
      starving := decide (8 ≤ r.retries + 1)
        && decide (u.coh.reqs.countP (fun x => x.agent == r.agent && x.line != r.line && x.starving) < 16) }) := by
    show Host.Outcome.next _ = _
    split
    · next h => exact nomatch hmsg.symm.trans h
    · next h =>
      obtain ⟨rfl, rfl⟩ := Prod.mk.inj (Option.some.inj (hmsg.symm.trans h))
      rw [hureq]
  refine ⟨_, hrun, ?_⟩
  have hreqs : u.coh.reqs = s.coh.reqs := by rw [hu]; rfl
  rw [← hnames.1, ← hnames.2] at hureq ⊢
  rw [hreqs]
  exact State.agentReq_putReq (r := { r with
    retries := r.retries + 1,
    starving := decide (8 ≤ r.retries + 1)
      && decide (s.coh.reqs.countP (fun x => x.agent == r.agent && x.line != r.line && x.starving) < 16) }) hureq

/-- A refused request whose backoff is over is on its way again (R513). -/
theorem State.retryResend_goes {r : AgentReq} (hreq : s.agentReq q.agent q.line = some r) (hback : r.backing = true)
    (hfree : r.reserved = false) (hquiet : ∀ m ∈ s.coh.msgs, ¬ (m.agent = r.agent ∧ m.line = r.line)) :
    exec (.retryResend q) s = .next (s.putReq { r with backing := false }) := by
  have hnone : (s.coh.msgs.any fun m => m.agent == r.agent && m.line == r.line) = false := by
    simpa only [List.any_eq_false, Bool.and_eq_true, beq_iff_eq] using hquiet
  show Host.Outcome.next _ = _
  rw [hreq]
  dsimp only
  rw [hback, hfree, hnone]
  rfl

/-! ### Grants (R509, R511) -/

/-- A line that the agent has is installed anew in its place (R497, R503). -/
theorem State.install_held {l o : AgentLine} (h : s.held l.agent l.line = some o) : s.install l = s.setCoh { s.coh with
    lines := s.coh.lines.map fun x => if x = o then { o with st := l.st, valid := o.valid ||| l.valid, age := l.age } else x } := by
  unfold State.install
  rw [h]

/-- The end of a request leaves lines, memory and other messages as they are. -/
theorem State.finishReq_keeps (s : State) (r : AgentReq) : (s.finishReq r).coh.lines = s.coh.lines ∧ (s.finishReq r).mem = s.mem := by
  unfold State.finishReq
  split
  · split <;> exact ⟨rfl, rfl⟩
  · exact ⟨rfl, rfl⟩

/-- A request whose grant and data have come sends its Seated (R511). -/
theorem State.finishReq_seated {r : AgentReq} (hgranted : r.granted = true) (hinstalls : r.kind.installs = true)
    (hcome : ∀ n ∈ s.coh.msgs, n.agent = r.agent → n.line = r.line → n.kind ≠ .cargo) :
    ⟨.seated, r.agent, r.line, 0⟩ ∈ (s.finishReq r).coh.msgs := by
  have hnone : (s.coh.msgs.any fun m => m.agent == r.agent && m.line == r.line && m.kind == .cargo) = false := by
    rw [List.any_eq_false]
    intro n hn hall
    simp only [Bool.and_eq_true, beq_iff_eq] at hall
    exact hcome n hn hall.1.1 hall.1.2 hall.2
  unfold State.finishReq
  rw [hgranted, hnone, if_pos (by rfl), if_pos hinstalls]
  exact mem_last _ _

/-- A line that is zeroed whole is the agent's in M, and its bytes are 0 (R502). -/
theorem State.zeroLine_held {o : AgentLine} (h : s.held agent line = some o) :
    (s.zeroLine agent line).held agent line = some { o with st := .m, valid := 0xF, dirty := 0xF, dirtyBy := none, age := 0 }
      ∧ (s.zeroLine agent line).mem = (s.hbmWrite (line * 256) (List.replicate 256 0)).mem ∧ (s.zeroLine agent line).coh.msgs = s.coh.msgs := by
  have hcoh : (s.hbmWrite (line * 256) (List.replicate 256 0)).coh = s.coh := (s.frame_hbmWrite _ _).coh (by decide)
  unfold State.zeroLine
  generalize s.hbmWrite (line * 256) (List.replicate 256 0) = w at hcoh ⊢
  have hw : w.held agent line = some o := by rw [State.held, hcoh]; exact h
  refine ⟨?_, rfl, (congrArg CohState.msgs hcoh :)⟩
  refine (w.held_mapLines (fun x => by split <;> exact ⟨rfl, rfl⟩) _ _).trans ?_
  rw [hw, Option.map_some, if_pos (State.held_names h)]

/-- The line that a grant installs. -/
def AgentReq.granting (r : AgentReq) (st : LineSt) : AgentLine :=
  { agent := r.agent, line := r.line, st, valid := r.got, dirty := 0, age := r.age, clusters := 0, dirtyBy := none, way := 0 }

theorem State.seat_eq (s : State) (r : AgentReq) (st : LineSt) : s.seat r st =
    if r.kind == .zero then (s.install (r.granting st)).zeroLine r.agent r.line else s.install (r.granting st) := rfl

/-- What seats a line that the agent has: the granted state, or a line that is zeroed whole (R502). -/
theorem State.seat_held {r : AgentReq} {o : AgentLine} {st : LineSt} (ha : r.agent = agent) (hl : r.line = line)
    (h : s.held agent line = some o) :
    (r.kind ≠ .zero → (s.seat r st).held agent line = some { o with st, valid := o.valid ||| r.got, age := r.age }
        ∧ (s.seat r st).mem = s.mem)
      ∧ (r.kind = .zero → (s.seat r st).held agent line = some { o with st := .m, valid := 0xF, dirty := 0xF, dirtyBy := none, age := 0 }
        ∧ (s.seat r st).mem.hbm = (s.hbmWrite (line * 256) (List.replicate 256 0)).mem.hbm)
      ∧ (s.seat r st).coh.msgs = s.coh.msgs := by
  subst ha hl
  let f : AgentLine → AgentLine := fun x => if x = o then { o with st, valid := o.valid ||| r.got, age := r.age } else x
  let v := s.setCoh { s.coh with lines := s.coh.lines.map f }
  have hinstall : s.install (r.granting st) = v := State.install_held h
  have hv : v.held r.agent r.line = some { o with st, valid := o.valid ||| r.got, age := r.age } := by
    refine (s.held_mapLines (fun x => by by_cases hx : x = o <;> simp [f, hx]) _ _).trans ?_
    rw [h, Option.map_some]
    exact congrArg some (if_pos rfl)
  obtain ⟨hzheld, hzmem, hzmsgs⟩ := State.zeroLine_held hv
  by_cases hkind : r.kind = .zero
  · rw [State.seat_eq, if_pos (by simpa using hkind), hinstall]
    have hsame : s.SameBytes v := .of_within (s.frame_setCoh _) (by decide) (by decide)
    have hstored (b : List Byte) := (hsame.hbmWrite (r.line * 256) b).hbm
    exact ⟨fun hk => absurd hkind hk, fun _ => ⟨hzheld, (congrArg MemState.hbm hzmem).trans (hstored _)⟩, hzmsgs⟩
  · rw [State.seat_eq, if_neg (by simpa using hkind), hinstall]
    exact ⟨fun _ => ⟨hv, rfl⟩, fun hk => absurd hk hkind, rfl⟩

/-- A Grant to an agent that has the line installs the granted state, and the requester is seated once its data are there too (R509, R511). -/
theorem State.grant_seats {u : State} {m : CohMsg} {st : LineSt} {r : AgentReq} {o : AgentLine}
    (hmsg : s.takeMsg q.agent q.line (fun k => match k with | .grant _ => true | .grantOld _ => true | _ => false) = some (u, m))
    (hkind : m.kind = .grant st) (hreq : s.agentReq q.agent q.line = some r) (hinstalls : r.kind.installs = true)
    (hheld : s.held q.agent q.line = some o) : ∃ t, exec (.grant q) s = .next t
      ∧ (r.kind ≠ .zero → t.held q.agent q.line = some { o with st, valid := o.valid ||| r.got, age := r.age } ∧ t.mem = s.mem)
      ∧ (r.kind = .zero → t.held q.agent q.line = some { o with st := .m, valid := 0xF, dirty := 0xF, dirtyBy := none, age := 0 }
          ∧ t.mem.hbm = (s.hbmWrite (q.line * 256) (List.replicate 256 0)).mem.hbm)
      ∧ ((∀ n ∈ s.coh.msgs, n.agent = q.agent → n.line = q.line → n.kind ≠ .cargo) →
          ⟨.seated, q.agent, q.line, 0⟩ ∈ t.coh.msgs) := by
  have hu := State.takeMsg_takes hmsg
  obtain ⟨ha, hl⟩ : r.agent = q.agent ∧ r.line = q.line := by
    simpa using List.find?_some (p := fun (r : AgentReq) => r.agent == q.agent && r.line == q.line) hreq
  have hureq : u.agentReq q.agent q.line = some r := by rw [hu]; exact hreq
  let r' : AgentReq := { r with granted := true }
  let v := u.putReq r'
  have hvheld : v.held q.agent q.line = some o := by
    show u.held q.agent q.line = some o
    rw [hu]
    exact hheld
  have hrun : exec (.grant q) s = .next ((v.seat r' st).finishReq r') := by
    show Host.Outcome.next _ = _
    split
    · next h => exact nomatch hmsg.symm.trans h
    · next h =>
      obtain ⟨rfl, rfl⟩ := Prod.mk.inj (Option.some.inj (hmsg.symm.trans h))
      rw [hureq, hkind]
      dsimp only
      rw [show u.held r.agent r.line = some o by rw [ha, hl]; exact hvheld, hinstalls]
      rfl
  obtain ⟨hlines, hmem⟩ := (v.seat r' st).finishReq_keeps r'
  obtain ⟨hseat, hzero, hmsgs⟩ := State.seat_held (r := r') (st := st) ha hl hvheld
  have hkept : ((v.seat r' st).finishReq r').held q.agent q.line = (v.seat r' st).held q.agent q.line :=
    congrArg (fun l => l.find? fun (x : AgentLine) => x.agent == q.agent && x.line == q.line) hlines
  have hsame : s.SameBytes v := by
    rw [show v = u.putReq r' from rfl, hu]
    exact ⟨rfl, rfl⟩
  have hvmem : v.mem = s.mem := by
    rw [show v = u.putReq r' from rfl, hu]
    rfl
  refine ⟨_, hrun, fun hk => ?_, fun hk => ?_, fun hcome => ?_⟩
  · obtain ⟨hline, hstay⟩ := hseat hk
    rw [hkept]
    exact ⟨hline, hmem.trans (hstay.trans hvmem)⟩
  · obtain ⟨hline, hstored⟩ := hzero hk
    rw [hkept]
    have hbytes (b : List Byte) := (hsame.hbmWrite (q.line * 256) b).hbm
    exact ⟨hline, (congrArg MemState.hbm hmem).trans (hstored.trans (hbytes _))⟩
  · rw [← ha, ← hl]
    refine State.finishReq_seated (r := r') rfl hinstalls fun n hn hna hnl => ?_
    rw [hmsgs, show v.coh.msgs = s.coh.msgs.erase m from by rw [show v = u.putReq r' from rfl, hu]; rfl] at hn
    exact hcome n (List.mem_of_mem_erase hn) (hna.trans ha) (hnl.trans hl)

/-- A request whose read has come lets its GETS go on: the data and the grant go out (R505, R535). -/
theorem State.readDone_grants {t : State} {line : Nat} {x : CohTxn} (htxn : t.txnOf line = some x) (hkind : x.kind = .getS)
    (hprobed : x.probed = []) (hspills : x.spills = []) (hsent : x.grantSent = false) (hsupply : x.supply ≠ 0) :
    ⟨.cargo, x.agent, line, x.supply⟩ ∈ ((t.putTxn { x with reading := false }).settleTxn line).coh.msgs
      ∧ ⟨.grant x.granted, x.agent, line, x.sectors⟩ ∈ ((t.putTxn { x with reading := false }).settleTxn line).coh.msgs := by
  have hline : x.line = line := beq_iff_eq.mp (List.find?_some (p := fun (t : CohTxn) => t.line == line) htxn)
  have hput := State.txnOf_putTxn t htxn (y := { x with reading := false }) hline
  obtain ⟨-, hmsgs, -⟩ := State.settleTxn_grants _ hput (by rw [hkind]; rfl) (by simp [CohTxn.waits, hprobed, hspills, hsent])
  rw [hmsgs, CohTxn.answer, if_neg hsupply]
  exact ⟨List.mem_append_right _ (List.mem_append_left _ (List.mem_singleton.mpr rfl)), List.mem_append_right _ (mem_last _ _)⟩

end Obligation

/-! ### Requests that complete at a stack (R535, R540) -/

/-- From `s` to `t` requests have been admitted, and accesses counted; none has come or gone. -/
structure State.Serves (s t : State) : Prop where
  hbm : t.mem.hbm = s.mem.hbm
  coh : t.coh = s.coh
  ids : t.mem.reqs.map (·.id) = s.mem.reqs.map (·.id)

namespace State.Serves

variable {s t u : State}

theorem refl (s : State) : s.Serves s := ⟨rfl, rfl, rfl⟩

theorem trans (h : s.Serves t) (k : t.Serves u) : s.Serves u := ⟨k.hbm.trans h.hbm, k.coh.trans h.coh, k.ids.trans h.ids⟩

theorem of_within {l : List Part} (h : s.Within l t) (hmem : .mem ∉ l) (hcoh : .coh ∉ l) : s.Serves t := by
  have hsame := h.mem hmem
  exact ⟨by rw [hsame], h.coh hcoh, by rw [hsame]⟩

theorem foldl {α : Type} {f : State → α → State} (hf : ∀ u x, State.Serves u (f u x)) (h : s.Serves t) (xs : List α) :
    s.Serves (xs.foldl f t) := by
  induction xs generalizing t with
  | nil => exact h
  | cons x xs ih => exact ih (h.trans (hf t x))

theorem putPseudo (s : State) (x : PseudoChannel) : s.Serves (s.putPseudo x) := ⟨rfl, rfl, rfl⟩

theorem markDrain (s : State) (p : StackPlace) : s.Serves (s.markDrain p) := by
  unfold State.markDrain
  dsimp only
  split_ifs
  · exact .refl s
  · exact putPseudo s _

theorem countActivation (s : State) (p : StackPlace) : s.Serves (s.countActivation p) := ⟨rfl, rfl, rfl⟩

theorem visitRow (s : State) (p : StackPlace) (read : Bool) : s.Serves (s.visitRow p read) := by
  unfold State.visitRow
  dsimp only
  split
  · exact putPseudo s _
  · exact (putPseudo s _).trans (countActivation _ p)

theorem countMoved (s : State) (stack bytes : Nat) (write scrub : Bool) : s.Serves (s.countMoved stack bytes write scrub) := by
  unfold State.countMoved
  dsimp only
  split_ifs <;> exact ⟨rfl, rfl, rfl⟩

theorem chargeHbm (s : State) (ctx : Option Nat) (write : Bool) (bytes : Nat) : s.Serves (s.chargeHbm ctx write bytes) := by
  unfold State.chargeHbm
  split
  · exact .refl s
  · dsimp only
    split_ifs
    · exact .refl s
    · exact ⟨rfl, rfl, rfl⟩
    · exact ⟨rfl, rfl, rfl⟩

theorem countRequest (s : State) (r : MemReq) : s.Serves (s.countRequest r) := by
  unfold State.countRequest
  dsimp only
  split_ifs
  · exact (countMoved s _ _ _ _).trans (chargeHbm _ _ _ _)
  · exact (((countMoved s _ _ _ _).trans (chargeHbm _ _ _ _)).trans (countMoved _ _ _ _ _)).trans (chargeHbm _ _ _ _)

theorem admitTracked (s : State) : s.Serves s.admitTracked := by
  refine .foldl (fun u r => ?_) (.refl s) _
  dsimp only
  split_ifs
  · refine State.Serves.trans ?_ (markDrain _ _)
    refine ⟨rfl, rfl, ?_⟩
    rw [State.setMem_mem, List.map_map]
    refine List.map_congr_left fun q _ => ?_
    by_cases hq : q.id = r.id <;> simp [hq]
  · exact .refl u

end State.Serves

/-- The machine in which a request has left its tracker. -/
def State.untracked (s : State) (r : MemReq) : State := s.setMem { s.mem with reqs := s.mem.reqs.filter fun q => q.id != r.id }

/-- A request without errors completes: beside its own tracker entry nothing leaves. -/
theorem State.endRequest_serves (s : State) (r : MemReq) : (s.untracked r).Serves (s.endRequest r []) := by
  have hvisit := State.Serves.visitRow (s.untracked r) (s.linePlace r.line) (!r.write)
  unfold State.endRequest
  dsimp only [List.filter_nil, List.foldl_nil]
  refine State.Serves.trans ?_ (State.Serves.admitTracked _)
  refine State.Serves.trans ?_ (State.Serves.countRequest _ _)
  split
  · exact hvisit.trans (State.Serves.markDrain _ _)
  · exact hvisit

theorem State.endRequest_ids (s : State) (r : MemReq) : ∀ k ∈ (s.endRequest r []).mem.reqs, k.id ≠ r.id := by
  intro k hk
  have hmem : k.id ∈ (s.untracked r).mem.reqs.map (·.id) := by
    rw [← (s.endRequest_serves r).ids]
    exact List.mem_map_of_mem hk
  obtain ⟨q, hq, hid⟩ := List.mem_map.mp hmem
  rw [← hid]
  simpa using (List.mem_filter.mp hq).2

/-- The machine in which a request has completed, and the home that waited for its data has gone on. -/
def State.requestDone (s : State) (r : MemReq) : State :=
  match r.agent, (s.endRequest r []).txnOf r.line with
  | some _, some x => if r.write then s.endRequest r [] else ((s.endRequest r []).putTxn { x with reading := false }).settleTxn r.line
  | _, _ => s.endRequest r []

theorem State.requestDone_write (s : State) {r : MemReq} (h : r.write = true) : s.requestDone r = s.endRequest r [] := by
  unfold State.requestDone
  rw [h]
  split <;> rfl

theorem State.requestDone_read (s : State) {r : MemReq} {a : Nat} {x : CohTxn} (h : r.write = false) (hagent : r.agent = some a)
    (htxn : (s.endRequest r []).txnOf r.line = some x) :
    s.requestDone r = ((s.endRequest r []).putTxn { x with reading := false }).settleTxn r.line := by
  unfold State.requestDone
  rw [hagent, htxn, h]
  rfl

/-- The request that its pseudo-channel serves next completes, and no other. -/
theorem execMemoryRequestComplete_eq {s : State} {id : Nat} {held : List Nat} {r : MemReq}
    (h : s.mem.reqs.find? (fun r => r.id == id && r.tracked) = some r) :
    exec (.memoryRequestComplete id [] held) s = .next (if !(s.servedNext r held) then s else s.requestDone r) := by
  show Host.Outcome.next _ = _
  rw [h]
  rfl

/-- Settles O55: every message by what it finds at the home or at its agent. -/
theorem coherenceMessages : Obligations.CoherenceMessages := by
  unfold Obligations.CoherenceMessages
  intro s q
  refine ⟨fun l _ => State.vacate_leaves, fun l _ => State.spill_leaves, fun u m l => State.probeGive_supplies, fun u m => State.probeKill_gives,
    fun u m x => State.reply_grants, fun u m => State.spillCargo_writes, fun u m st r o => State.grant_seats, fun u m r => State.cargo_comes,
    fun u m => State.seated_frees, fun u m r => State.retry_counts, fun r => State.retryResend_goes, rfl, fun id r held hfind => ?_⟩
  have hid : r.id = id := by
    simpa using (Bool.and_eq_true_iff.mp (List.find?_some (p := fun (r : MemReq) => r.id == id && r.tracked) hfind)).1
  have hserves := s.endRequest_serves r
  refine ⟨fun hnot => ?_, fun hnext => ⟨_, execMemoryRequestComplete_eq hfind, ?_⟩⟩
  · rw [execMemoryRequestComplete_eq hfind, hnot]
    rfl
  · rw [if_neg (by rw [hnext]; decide)]
    refine ⟨fun hwrite => ?_, fun x a hread hagent htxn hkind hprobed hspills hsent hsupply => ?_⟩
    · rw [s.requestDone_write hwrite, ← hid]
      exact ⟨s.endRequest_ids r, hserves.hbm, hserves.coh⟩
    · have hdone : (s.endRequest r []).txnOf r.line = some x := by
        rw [State.txnOf, hserves.coh]
        exact htxn
      rw [s.requestDone_read hread hagent hdone]
      exact State.readDone_grants hdone hkind hprobed hspills hsent hsupply

end Sys2Proof.Machine
end

section
/-!
SUPPORT. What the memory controllers and the regulators do of themselves (R538, R539, R549, R550, R698, R699): promotion, scheduling,
patrol reads and the buckets.
-/

namespace Sys2Proof.Machine

set_option Elab.async false

/-! ### What a controller's bookkeeping leaves alone -/

/-- A request's name, line, direction and class. -/
def MemReq.naming (r : MemReq) : Nat × Nat × Bool × MemClass := (r.id, r.line, r.write, r.cls)

/-- `t` has the contents of `s`, its poison, the error it has captured and its contexts. -/
structure State.SameStore (s t : State) : Prop where
  hbm : t.mem.hbm = s.mem.hbm
  poison : t.mem.poison = s.mem.poison
  errValid : t.mem.errValid = s.mem.errValid
  errKind : t.mem.errKind = s.mem.errKind
  ctxs : t.ctxs = s.ctxs

theorem State.SameStore.refl (s : State) : s.SameStore s := ⟨rfl, rfl, rfl, rfl, rfl⟩

theorem State.SameStore.trans {s t u : State} (h : s.SameStore t) (k : t.SameStore u) : s.SameStore u :=
  ⟨k.hbm.trans h.hbm, k.poison.trans h.poison, k.errValid.trans h.errValid, k.errKind.trans h.errKind, k.ctxs.trans h.ctxs⟩

/-- From `s` to `t` requests have been admitted, rows opened and bytes counted. -/
structure State.Booked (s t : State) : Prop where
  store : s.SameStore t
  reqs : t.mem.reqs.map MemReq.naming = s.mem.reqs.map MemReq.naming
  mbxs : t.mbxs = s.mbxs

namespace State.Booked

variable {s t u : State}

theorem refl (s : State) : s.Booked s := ⟨.refl s, rfl, rfl⟩

theorem trans (h : s.Booked t) (k : t.Booked u) : s.Booked u :=
  ⟨h.store.trans k.store, k.reqs.trans h.reqs, k.mbxs.trans h.mbxs⟩

/-- A request of `s` is there in `t`, under its name. -/
theorem mem_reqs (h : s.Booked t) {r : MemReq} (hr : r ∈ s.mem.reqs) : ∃ q ∈ t.mem.reqs, q.naming = r.naming := by
  have hname : r.naming ∈ t.mem.reqs.map MemReq.naming := h.reqs ▸ List.mem_map_of_mem hr
  exact List.mem_map.mp hname

theorem foldl {α : Type} {f : State → α → State} (hf : ∀ u x, State.Booked u (f u x)) (h : s.Booked t) (xs : List α) :
    s.Booked (xs.foldl f t) := by
  induction xs generalizing t with
  | nil => exact h
  | cons x xs ih => exact ih (h.trans (hf t x))

theorem putPseudo (s : State) (x : PseudoChannel) : s.Booked (s.putPseudo x) := ⟨⟨rfl, rfl, rfl, rfl, rfl⟩, rfl, rfl⟩

theorem markDrain (s : State) (p : StackPlace) : s.Booked (s.markDrain p) := by
  unfold State.markDrain
  dsimp only
  split_ifs
  · exact .refl s
  · exact putPseudo s _

theorem visitRow (s : State) (p : StackPlace) (read : Bool) : s.Booked (s.visitRow p read) := by
  unfold State.visitRow
  dsimp only
  split_ifs <;> exact ⟨⟨rfl, rfl, rfl, rfl, rfl⟩, rfl, rfl⟩

theorem countMoved (s : State) (stack bytes : Nat) (write scrub : Bool) : s.Booked (s.countMoved stack bytes write scrub) := by
  unfold State.countMoved
  dsimp only
  split_ifs <;> exact ⟨⟨rfl, rfl, rfl, rfl, rfl⟩, rfl, rfl⟩

theorem admitTracked (s : State) : s.Booked s.admitTracked := by
  refine .foldl (fun u r => ?_) (.refl s) _
  dsimp only
  split_ifs
  · refine State.Booked.trans ?_ (markDrain _ _)
    refine ⟨⟨rfl, rfl, rfl, rfl, rfl⟩, ?_, rfl⟩
    rw [State.setMem_mem, List.map_map]
    refine List.map_congr_left fun q _ => ?_
    by_cases hq : q.id = r.id <;> simp [hq, MemReq.naming]
  · exact .refl u

theorem codeword (s : State) (symbols : List Nat) : s.Booked (s.codeword symbols).1 := by
  unfold State.codeword
  split <;> exact ⟨⟨rfl, rfl, rfl, rfl, rfl⟩, rfl, rfl⟩

theorem readSector (s : State) (e : SectorErrors) : s.Booked (s.readSector e).1 := (codeword s _).trans (codeword _ _)

end State.Booked

/-! ### Promotion (R539) -/

/-- A request of this name is a read below HIGH that has waited 8 µs. -/
def State.promotes (s : State) (id : Nat) (r : MemReq) : Bool :=
  r.id == id && !r.write && (r.cls == .bulk || r.cls == .background) && decide (r.since + 64000 ≤ s.mt)

/-- The machine in which the requests that are due are critical. -/
def State.promoted (s : State) (id : Nat) : State :=
  s.setMem { s.mem with reqs := s.mem.reqs.map fun r => if s.promotes id r then { r with cls := .crit } else r }

theorem execReadAgePromote_eq {s : State} {id : Nat} (h : s.mem.reqs.any (s.promotes id) = true) :
    exec (.readAgePromote id) s = .next (s.promoted id).admitTracked :=
  onEvent_of_true (c := s.mem.reqs.any (s.promotes id)) h (fun t =>
    (t.setMem { t.mem with reqs := t.mem.reqs.map fun r => if s.promotes id r then { r with cls := .crit } else r }).admitTracked) s

/-- A read that has waited 8 µs becomes critical, and keeps its line. -/
theorem execReadAgePromote_promotes {s : State} {r : MemReq} (hr : r ∈ s.mem.reqs) (hread : r.write = false)
    (hcls : r.cls = .bulk ∨ r.cls = .background) (hwait : r.since + 64000 ≤ s.time.mt) :
    ∃ t, exec (.readAgePromote r.id) s = .next t
      ∧ (∃ q ∈ t.mem.reqs, q.id = r.id ∧ q.line = r.line ∧ q.cls = .crit) ∧ t.mem.hbm = s.mem.hbm ∧ t.mbxs = s.mbxs := by
  have hdue : s.promotes r.id r = true := by simp [State.promotes, State.mt, hread, hcls, hwait]
  have hbooked := State.Booked.admitTracked (s.promoted r.id)
  obtain ⟨q, hq, hname⟩ := hbooked.mem_reqs (r := { r with cls := .crit }) (List.mem_map.mpr ⟨r, hr, if_pos hdue⟩)
  simp only [MemReq.naming, Prod.mk.injEq] at hname
  obtain ⟨hid, hline, -, hcrit⟩ := hname
  exact ⟨_, execReadAgePromote_eq (List.any_eq_true.mpr ⟨r, hr, hdue⟩), ⟨q, hq, hid, hline, hcrit⟩, hbooked.store.hbm, hbooked.mbxs⟩

/-! ### Scheduling (R538) -/

theorem MemClass.rank_pos (c : MemClass) : 1 ≤ c.rank := by cases c <;> decide

theorem MemClass.rank_le (c : MemClass) : c.rank ≤ 4 := by cases c <;> decide

theorem MemClass.rank_injective {c d : MemClass} (h : c.rank = d.rank) : c = d := by
  cases c <;> cases d <;> simp_all [MemClass.rank]

/-- The highest class of the requests, as its rank. -/
def topRank (l : List MemReq) : Nat := l.foldl (fun m r => min m r.cls.rank) 4

theorem foldl_min_le (l : List MemReq) (n : Nat) :
    l.foldl (fun m r => min m r.cls.rank) n ≤ n ∧ ∀ q ∈ l, l.foldl (fun m r => min m r.cls.rank) n ≤ q.cls.rank := by
  induction l generalizing n with
  | nil => simp
  | cons r l ih =>
    obtain ⟨hle, hall⟩ := ih (min n r.cls.rank)
    refine ⟨hle.trans (min_le_left _ _), fun q hq => ?_⟩
    obtain rfl | hq := List.mem_cons.mp hq
    · exact hle.trans (min_le_right _ _)
    · exact hall q hq

theorem topRank_le {l : List MemReq} {q : MemReq} (hq : q ∈ l) : topRank l ≤ q.cls.rank := (foldl_min_le l 4).2 q hq

theorem topRank_pos (l : List MemReq) : 1 ≤ topRank l := by
  unfold topRank
  generalize hn : 4 = n
  have hpos : 1 ≤ n := by omega
  clear hn
  induction l generalizing n with
  | nil => exact hpos
  | cons r l ih => exact ih _ (le_min hpos r.cls.rank_pos)

theorem topRank_of_crit {l : List MemReq} {r : MemReq} (hr : r ∈ l) (hcrit : r.cls = .crit) : topRank l = 1 :=
  le_antisymm ((topRank_le hr).trans (by rw [hcrit]; decide)) (topRank_pos l)

/-- The requests of the highest class there is, oldest first. -/
def topReads (l : List MemReq) : List MemReq := l.filter fun r => r.cls.rank == topRank l

theorem filter_eq_topReads (l : List MemReq) :
    (l.filter fun r => r.cls.rank == l.foldl (fun m r => min m r.cls.rank) 4) = topReads l := rfl

theorem mem_topReads {l : List MemReq} {q : MemReq} : q ∈ topReads l ↔ q ∈ l ∧ q.cls.rank = topRank l := by
  simp [topReads]

section Scheduler

variable (s : State) (x : PseudoChannel) (l : List MemReq)

/-- With no open row among them, the oldest of the highest class goes. -/
theorem State.nextRead_closed (h : ∀ q ∈ topReads l, s.rowOpen x q.line = false) : s.nextRead x l = (topReads l).head? := by
  have hnone : (topReads l).find? (fun r => s.rowOpen x r.line) = none := List.find?_eq_none.mpr fun q hq => by simp [h q hq]
  unfold State.nextRead
  dsimp only
  rw [filter_eq_topReads, hnone]

/-- In a run below 16 the oldest of the highest class with an open row goes. -/
theorem State.nextRead_open {r : MemReq} (h : (topReads l).find? (fun r => s.rowOpen x r.line) = some r) (hrun : x.run < 16) :
    s.nextRead x l = some r := by
  unfold State.nextRead
  dsimp only
  rw [filter_eq_topReads, h]
  exact if_neg (by omega)

/-- After a run of 16, one of the highest class goes all the same. -/
theorem State.nextRead_run {r q : MemReq} (h : (topReads l).find? (fun r => s.rowOpen x r.line) = some q) (hrun : 16 ≤ x.run)
    (hnext : s.nextRead x l = some r) : r ∈ topReads l := by
  unfold State.nextRead at hnext
  dsimp only at hnext
  rw [filter_eq_topReads, h] at hnext
  dsimp only at hnext
  rw [if_pos hrun] at hnext
  cases holder : ((topReads l).takeWhile fun k => k.id != q.id).find? (fun k => !(s.rowOpen x k.line)) with
  | none =>
    rw [holder] at hnext
    exact Option.some.inj hnext ▸ List.mem_of_find?_eq_some h
  | some k =>
    rw [holder] at hnext
    exact Option.some.inj hnext ▸ List.takeWhile_subset _ (List.mem_of_find?_eq_some holder)

end Scheduler

/-- What the scheduler issues is of the highest class, and of a closed row in a run below 16 only where all of that class are. -/
theorem State.nextRead_spec {s : State} {x : PseudoChannel} {l : List MemReq} {r : MemReq} (h : s.nextRead x l = some r) :
    r ∈ topReads l ∧ (x.run < 16 → s.rowOpen x r.line = false → ∀ q ∈ topReads l, s.rowOpen x q.line = false) := by
  cases hfind : (topReads l).find? fun r => s.rowOpen x r.line with
  | none =>
    have hclosed : ∀ q ∈ topReads l, s.rowOpen x q.line = false := fun q hq => by simpa using List.find?_eq_none.mp hfind q hq
    rw [s.nextRead_closed x l hclosed] at h
    exact ⟨List.mem_of_mem_head? h, fun _ _ => hclosed⟩
  | some q =>
    by_cases hrun : x.run < 16
    · obtain rfl : q = r := Option.some.inj ((s.nextRead_open x l hfind hrun).symm.trans h)
      have hopen : s.rowOpen x q.line = true := List.find?_some (p := fun (r : MemReq) => s.rowOpen x r.line) hfind
      exact ⟨List.mem_of_find?_eq_some hfind, fun _ hclosed => absurd hopen (by simp [hclosed])⟩
    · exact ⟨s.nextRead_run x l hfind (by omega) h, fun hlow => absurd hlow hrun⟩

/-- A critical read, the oldest there is, goes where its row is open or no critical read has one. -/
theorem State.nextRead_crit {s : State} {x : PseudoChannel} {r : MemReq} {l : List MemReq} (hrun : x.run < 16) (hcrit : r.cls = .crit)
    (h : s.rowOpen x r.line = true ∨ ∀ q ∈ l, q.cls = .crit → s.rowOpen x q.line = false) : s.nextRead x (r :: l) = some r := by
  have htop : topRank (r :: l) = 1 := topRank_of_crit List.mem_cons_self hcrit
  have hhead : topReads (r :: l) = r :: l.filter fun q => q.cls.rank == 1 := by
    rw [topReads, htop]
    exact List.filter_cons_of_pos (by simp [hcrit, MemClass.rank])
  cases hopen : s.rowOpen x r.line with
  | true => exact s.nextRead_open x _ (by rw [hhead]; exact List.find?_cons_of_pos hopen) hrun
  | false =>
    have hclosed : ∀ q ∈ topReads (r :: l), s.rowOpen x q.line = false := by
      intro q hq
      obtain ⟨hmem, hrank⟩ := mem_topReads.mp hq
      obtain rfl | hmem := List.mem_cons.mp hmem
      · exact hopen
      · exact (h.resolve_left (by simp [hopen])) q hmem (MemClass.rank_injective (hrank.trans htop))
    rw [s.nextRead_closed x _ hclosed, hhead]
    rfl

/-! ### Buckets (R698, R699) -/

theorem Bucket.spend_short {b : Bucket} {size : Nat} (hrate : b.rate ≠ 0) (h : b.level < 5 * size) : b.spend false size = none := by
  simp [Bucket.spend, hrate, h]

theorem Bucket.spend_enough {b : Bucket} {size : Nat} (hrate : b.rate ≠ 0) (h : 5 * size ≤ b.level) :
    b.spend false size = some { b with level := b.level - 5 * size } := by
  simp [Bucket.spend, hrate, not_lt.mpr h]

section Admission

variable {s : State} {w : BucketWait} {l : List BucketWait}

theorem State.firstWait (h : s.share.waits = w :: l) :
    s.share.waits.find? (fun v => v.partition == w.partition && v.point == w.point) = some w := by
  rw [h]
  exact List.find?_cons_of_pos (by simp)

/-- The oldest waiter stays while the level is below its size. -/
theorem execBucketAdmission_short (h : s.share.waits = w :: l)
    (hspend : (s.bucket w.partition w.point).spend false w.size = none) : exec (.bucketAdmission w.partition w.point) s = .next s := by
  show execBucketAdmission _ _ s = _
  unfold execBucketAdmission
  rw [s.firstWait h]
  dsimp only
  rw [hspend]

/-- The machine in which the oldest waiter has left its bucket `b`. -/
def State.admitted (s : State) (w : BucketWait) (l : List BucketWait) (b : Bucket) : State :=
  (s.setShare { s.share with waits := l }).putBucket w.partition w.point b

/-- The oldest waiter goes, a frame to its port and a request to its tracker, once the level reaches its size. -/
theorem execBucketAdmission_enough {b : Bucket} (h : s.share.waits = w :: l)
    (hspend : (s.bucket w.partition w.point).spend false w.size = some b) :
    (∀ f, w.frame = some f → exec (.bucketAdmission w.partition w.point) s = .next ((s.admitted w l b).sendOn (w.point - 16) f))
    ∧ (w.frame = none → exec (.bucketAdmission w.partition w.point) s = .next (s.admitted w l b).admitTracked) := by
  have herase : s.share.waits.erase w = l := by
    rw [h]
    exact List.erase_cons_head w l
  have hexec : exec (.bucketAdmission w.partition w.point) s = execBucketAdmission w.partition w.point s := rfl
  rw [hexec]
  unfold execBucketAdmission
  rw [State.firstWait h]
  dsimp only
  rw [hspend, herase]
  exact ⟨fun f hf => by rw [hf]; rfl, fun hf => by rw [hf]; rfl⟩

end Admission

/-! ### The code on a sector (R549) -/

/-- Symbols in error of a codeword. -/
def badSymbols (l : List Nat) : Nat := (l.filter (· < 36)).eraseDups.length

section Code

variable (s : State) {l : List Nat} {e : SectorErrors}

theorem State.codeword_clean (h : badSymbols l = 0) : s.codeword l = (s, .clean) := by
  unfold State.codeword
  rw [show (l.filter (· < 36)).eraseDups.length = 0 from h]
  rfl

theorem State.codeword_corrected (h : badSymbols l = 1) : s.codeword l = (s, .corrected) := by
  unfold State.codeword
  rw [show (l.filter (· < 36)).eraseDups.length = 1 from h]
  rfl

theorem State.codeword_uncorrectable (h : badSymbols l = 2 ∨ badSymbols l = 3) : s.codeword l = (s, .uncorrectable) := by
  unfold State.codeword
  obtain h | h := h
  · rw [show (l.filter (· < 36)).eraseDups.length = 2 from h]
    rfl
  · rw [show (l.filter (· < 36)).eraseDups.length = 3 from h]
    rfl

/-- A codeword with more bad symbols than the code detects takes a free value. -/
theorem State.codeword_free (h : 4 ≤ badSymbols l) :
    s.codeword l = (s.fresh.2, if s.fresh.1.getLsbD 0 then .unnoticed else .uncorrectable) := by
  obtain ⟨n, hn⟩ : ∃ n, (l.filter (· < 36)).eraseDups.length = n + 4 := ⟨badSymbols l - 4, by unfold badSymbols at *; omega⟩
  unfold State.codeword
  rw [hn]
  rfl

theorem Verdict.worse_left_uncorrectable (v : Verdict) : Verdict.worse .uncorrectable v = .uncorrectable := by cases v <;> rfl

theorem Verdict.worse_right_uncorrectable (v : Verdict) : Verdict.worse v .uncorrectable = .uncorrectable := by cases v <;> rfl

theorem State.readSector_clean (h : badSymbols e.first = 0) (k : badSymbols e.second = 0) : s.readSector e = (s, .clean) := by
  simp only [State.readSector, s.codeword_clean h, s.codeword_clean k]
  rfl

/-- One bad symbol in a codeword or in each is corrected. -/
theorem State.readSector_corrected (h : badSymbols e.first ≤ 1) (k : badSymbols e.second ≤ 1)
    (hsum : 1 ≤ badSymbols e.first + badSymbols e.second) : s.readSector e = (s, .corrected) := by
  obtain ⟨h, k⟩ | ⟨h, k⟩ | ⟨h, k⟩ : badSymbols e.first = 0 ∧ badSymbols e.second = 1 ∨ badSymbols e.first = 1 ∧ badSymbols e.second = 0
      ∨ badSymbols e.first = 1 ∧ badSymbols e.second = 1 := by omega
  · simp only [State.readSector, s.codeword_clean h, s.codeword_corrected k, Verdict.worse]
  · simp only [State.readSector, s.codeword_corrected h, s.codeword_clean k, Verdict.worse]
  · simp only [State.readSector, s.codeword_corrected h, s.codeword_corrected k, Verdict.worse]

/-- Two or three bad symbols of a codeword make the sector uncorrectable. -/
theorem State.readSector_uncorrectable (h : badSymbols e.first ≤ 3) (k : badSymbols e.second ≤ 3)
    (hbad : 2 ≤ badSymbols e.first ∨ 2 ≤ badSymbols e.second) : (s.readSector e).2 = .uncorrectable := by
  unfold State.readSector
  dsimp only
  obtain hbad | hbad := hbad
  · rw [s.codeword_uncorrectable (by omega)]
    exact Verdict.worse_left_uncorrectable _
  · rw [State.codeword_uncorrectable _ (l := e.second) (by omega)]
    exact Verdict.worse_right_uncorrectable _

theorem State.readSector_noticed (h : badSymbols e.first ≤ 3) (k : badSymbols e.second ≤ 3) : (s.readSector e).2 ≠ .unnoticed :=
  Verdict.worse_noticed (s.codeword_noticed h) (State.codeword_noticed _ k)

end Code

/-! ### What a patrol read leaves behind (R549, R550, R554) -/

/-- The first error there is gets captured (R554). -/
theorem State.memError_first {s : State} (kind : Nat) (place : StackPlace) (h : s.mem.errValid = false) :
    (s.memError kind place).mem.errValid = true ∧ (s.memError kind place).mem.errKind = kind := by
  unfold State.memError
  dsimp only
  rw [if_pos (by rw [h]; rfl)]
  exact ⟨rfl, rfl⟩

theorem State.memError_poison (s : State) (kind : Nat) (place : StackPlace) : (s.memError kind place).mem.poison = s.mem.poison := by
  unfold State.memError
  dsimp only
  split_ifs <;> rfl

/-- The free bytes that a sector passed wrong takes (log 131). -/
def freeBytes (n : Nat) : List Byte := (List.range 64).map fun i => (Config.freeWord (n + i)).truncate 8

theorem freeBytes_length (n : Nat) : (freeBytes n).length = 64 := by simp [freeBytes]

theorem freeBytes_eq (n : Nat) : freeBytes n = (Config.freeWord n).truncate 8 :: (freeBytes n).tail := by
  rw [freeBytes, List.range_succ_eq_map]
  rfl

section Errors

variable (s : State) (sector : Nat)

theorem State.corrupt_eq : s.corrupt sector = (s.setFreeCtr (s.freeCtr + 64)).setMem
    { s.mem with hbm := cellWrite s.mem.hbm (64 * sector) (freeBytes s.freeCtr) } := by
  unfold State.corrupt freeBytes
  rfl

theorem State.corrupt_hbm : (s.corrupt sector).mem.hbm = cellWrite s.mem.hbm (64 * sector) (freeBytes s.freeCtr) := by
  rw [s.corrupt_eq, State.setMem_mem]

theorem State.corrupt_poison : (s.corrupt sector).mem.poison = s.mem.poison := by rw [s.corrupt_eq, State.setMem_mem]

theorem State.frame_corrupt : s.Within [.freeCtr, .mem, .memCore] (s.corrupt sector) := by
  rw [s.corrupt_eq]
  exact ((s.frame_setFreeCtr _).mono (by decide)).step (State.frame_setMem _ _)

theorem State.sectorError_unnoticed :
    s.sectorError sector .unnoticed = if s.mem.poison.contains sector then s else s.corrupt sector := by
  unfold State.sectorError
  dsimp only

theorem State.frame_sectorError (v : Verdict) : s.Within [.obs, .mem, .memCore, .freeCtr] (s.sectorError sector v) := by
  cases v with
  | clean => exact .refl _ s
  | corrected => exact ((s.frame_count 9 1).mono (by decide)).step (State.frame_memError _ _ _)
  | uncorrectable =>
    unfold State.sectorError
    dsimp only
    split_ifs
    · exact .refl _ s
    · exact (((s.frame_setMem _).mono (by decide)).step (State.frame_count _ 10 1)).step (State.frame_memError _ _ _)
  | unnoticed =>
    rw [s.sectorError_unnoticed]
    split_ifs
    · exact .refl _ s
    · exact (s.frame_corrupt sector).mono (by decide)

/-- An uncorrectable sector is poisoned, and no other. -/
theorem State.mem_poison_sectorError (v : Verdict) (k : Nat) :
    k ∈ (s.sectorError sector v).mem.poison ↔ k ∈ s.mem.poison ∨ v = .uncorrectable ∧ k = sector := by
  cases v with
  | clean => simp [State.sectorError]
  | corrected =>
    have hpoison : (s.sectorError sector .corrected).mem.poison = s.mem.poison := State.memError_poison _ _ _
    simp [hpoison]
  | unnoticed =>
    have hpoison : (s.sectorError sector .unnoticed).mem.poison = s.mem.poison := by
      rw [s.sectorError_unnoticed]
      split_ifs
      · rfl
      · exact s.corrupt_poison sector
    simp [hpoison]
  | uncorrectable =>
    unfold State.sectorError
    dsimp only
    split_ifs with hheld
    · have hmem : sector ∈ s.mem.poison := by simpa using hheld
      exact ⟨.inl, fun h => h.elim id fun hk => hk.2 ▸ hmem⟩
    · rw [State.memError_poison]
      show k ∈ (s.mem.poison ++ [sector]).mergeSort _ ↔ _
      rw [List.mem_mergeSort]
      simp

theorem State.sectorError_corrected (h : s.mem.errValid = false) :
    (s.sectorError sector .corrected).mem.errValid = true ∧ (s.sectorError sector .corrected).mem.errKind = 1 :=
  State.memError_first (s := s.count 9 1) 1 _ h

theorem State.sectorError_uncorrectable (hpoison : sector ∉ s.mem.poison) (h : s.mem.errValid = false) :
    (s.sectorError sector .uncorrectable).mem.errValid = true ∧ (s.sectorError sector .uncorrectable).mem.errKind = 2 := by
  unfold State.sectorError
  dsimp only
  rw [if_neg (by simpa using hpoison)]
  exact State.memError_first 2 _ h

/-- The write of a corrected sector. -/
def writeBack (sector : Nat) : MemReq :=
  { id := 0, line := sector / 4, sectors := 1#4 <<< (sector % 4), write := true, part := 0, alu := 0, cls := .background, tracked := false,
    agent := none, partition := none, ctx := none, since := 0 }

theorem State.correctBack_corrected : s.correctBack sector .corrected = (s.requested (writeBack sector)).admitTracked := rfl

theorem State.correctBack_store (v : Verdict) : s.SameStore (s.correctBack sector v) := by
  by_cases hv : v = .corrected
  · subst hv
    have hasked : s.SameStore (s.requested (writeBack sector)) := ⟨rfl, rfl, rfl, rfl, rfl⟩
    rw [s.correctBack_corrected]
    exact hasked.trans (State.Booked.admitTracked _).store
  · rw [State.correctBack, if_neg hv]
    exact .refl s

/-- What was corrected is on its way back to the stack. -/
theorem State.correctBack_asks :
    ∃ q ∈ (s.correctBack sector .corrected).mem.reqs, q.line = sector / 4 ∧ q.write = true ∧ q.cls = .background := by
  obtain ⟨q, hq, hname⟩ := (State.Booked.admitTracked (s.requested (writeBack sector))).mem_reqs
    (List.mem_append_right s.mem.reqs (List.mem_singleton.mpr rfl))
  simp only [MemReq.naming, Prod.mk.injEq] at hname
  obtain ⟨-, hline, hwrite, hcls⟩ := hname
  exact ⟨q, hq, hline, hwrite, hcls⟩

end Errors

/-- The machine in which a patrol read has moved a sector. -/
def State.patrolled (s : State) (sector : Nat) : State :=
  (s.countMoved (s.stackOf (sector * 64)) 64 false true).visitRow (s.linePlace (sector / 4)) true

/-- The machine in which it has read the sector through the code. -/
def State.patrolRead (s : State) (e : SectorErrors) : State := ((s.patrolled e.sector).readSector e).1

/-- What the code makes of a sector that a patrol read finds so. -/
def State.patrolVerdict (s : State) (e : SectorErrors) : Verdict := ((s.patrolled e.sector).readSector e).2

/-- The machine after the patrol read. -/
def State.scrubbed (s : State) (e : SectorErrors) : State :=
  ((s.patrolRead e).sectorError e.sector (s.patrolVerdict e)).correctBack e.sector (s.patrolVerdict e)

theorem execPatrolScrub_eq {s : State} (e : SectorErrors) (h : s.inHbm (e.sector * 64) 64 = true) :
    exec (.patrolScrub e.sector ⟨e.first, e.second⟩) s = .next (s.scrubbed e) := by
  show onEvent (s.inHbm (e.sector * 64) 64) (fun t => (t.patrolled e.sector).checkSector false e) s = _
  rw [onEvent_of_true h]
  rfl

section Patrol

variable (s : State) (e : SectorErrors)

theorem State.patrolRead_booked : s.Booked (s.patrolRead e) :=
  ((State.Booked.countMoved s _ _ _ _).trans (.visitRow _ _ _)).trans (.readSector _ e)

theorem State.visitRow_freeCtr (p : StackPlace) (read : Bool) : (s.visitRow p read).freeCtr = s.freeCtr := by
  unfold State.visitRow
  dsimp only
  split_ifs <;> rfl

theorem State.patrolled_freeCtr (sector : Nat) : (s.patrolled sector).freeCtr = s.freeCtr := by
  rw [State.patrolled, State.visitRow_freeCtr]
  rfl

theorem State.scrubbed_store : ((s.patrolRead e).sectorError e.sector (s.patrolVerdict e)).SameStore (s.scrubbed e) := by
  unfold State.scrubbed
  exact State.correctBack_store _ _ _

theorem State.scrubbed_ctxs : (s.scrubbed e).ctxs = s.ctxs :=
  (s.scrubbed_store e).ctxs.trans (((State.frame_sectorError _ _ _).ctxs (by decide)).trans (s.patrolRead_booked e).store.ctxs)

/-- A patrol read poisons its sector where the code finds it uncorrectable, and nothing else. -/
theorem State.mem_poison_scrubbed (k : Nat) :
    k ∈ (s.scrubbed e).mem.poison ↔ k ∈ s.mem.poison ∨ s.patrolVerdict e = .uncorrectable ∧ k = e.sector := by
  rw [(s.scrubbed_store e).poison, State.mem_poison_sectorError, (s.patrolRead_booked e).store.poison]

/-- The contents stay where the code passes nothing wrong. -/
theorem State.scrubbed_hbm (h : s.patrolVerdict e ≠ .unnoticed) : (s.scrubbed e).mem.hbm = s.mem.hbm :=
  (s.scrubbed_store e).hbm.trans (((State.sectorError_spares _ _ _).hbm h).trans (s.patrolRead_booked e).store.hbm)

variable {s e}

/-- The verdict on a sector of at most three bad symbols in each codeword. -/
theorem State.patrolVerdict_uncorrectable_iff (h : badSymbols e.first ≤ 3) (k : badSymbols e.second ≤ 3) :
    s.patrolVerdict e = .uncorrectable ↔ 2 ≤ badSymbols e.first ∨ 2 ≤ badSymbols e.second := by
  refine ⟨fun hv => ?_, State.readSector_uncorrectable _ h k⟩
  by_contra hfew
  obtain hsum | hsum : badSymbols e.first = 0 ∧ badSymbols e.second = 0 ∨ 1 ≤ badSymbols e.first + badSymbols e.second := by omega
  · rw [State.patrolVerdict, State.readSector_clean _ hsum.1 hsum.2] at hv
    exact Verdict.noConfusion hv
  · rw [State.patrolVerdict, State.readSector_corrected _ (by omega) (by omega) hsum] at hv
    exact Verdict.noConfusion hv

/-- With at most one bad symbol in each codeword, and one at least, the error is logged and the sector written back (R550). -/
theorem State.scrubbed_corrects (h : badSymbols e.first ≤ 1) (k : badSymbols e.second ≤ 1)
    (hsum : 1 ≤ badSymbols e.first + badSymbols e.second) :
    (s.mem.errValid = false → (s.scrubbed e).mem.errValid = true ∧ (s.scrubbed e).mem.errKind = 1)
    ∧ ∃ q ∈ (s.scrubbed e).mem.reqs, q.line = e.sector / 4 ∧ q.write = true ∧ q.cls = .background := by
  have hv : s.patrolVerdict e = .corrected := by rw [State.patrolVerdict, State.readSector_corrected _ h k hsum]
  have hstore := s.scrubbed_store e
  refine ⟨fun hclear => ?_, ?_⟩
  · rw [hstore.errValid, hstore.errKind, hv]
    exact State.sectorError_corrected _ _ ((s.patrolRead_booked e).store.errValid.trans hclear)
  · rw [State.scrubbed, hv]
    exact State.correctBack_asks _ _

/-- A sector that turns out uncorrectable is logged so. -/
theorem State.scrubbed_poisons (hv : s.patrolVerdict e = .uncorrectable) (hpoison : e.sector ∉ s.mem.poison)
    (hclear : s.mem.errValid = false) : (s.scrubbed e).mem.errValid = true ∧ (s.scrubbed e).mem.errKind = 2 := by
  have hstore := s.scrubbed_store e
  have hbooked := (s.patrolRead_booked e).store
  rw [hstore.errValid, hstore.errKind, hv]
  exact State.sectorError_uncorrectable _ _ (by rwa [hbooked.poison]) (hbooked.errValid.trans hclear)

end Patrol

/-! ### The bytes around a sector that the code passes wrong (log 131) -/

/-- The first entry at `a` or above is the one of `a`. -/
def Guarded (a : Nat) : List Host.Cell → Prop
  | [] => False
  | (k, _) :: m => k = a ∨ k < a ∧ Guarded a m

/-- A write above an address leaves it as it reads, in whatever order the entries stand. -/
theorem cellGet_cellPut_above (m : List Host.Cell) {a c : Nat} (b : Byte) (h : a < c) : cellGet (cellPut m a b) c = cellGet m c := by
  have hcons (m : List Host.Cell) : cellGet (cellCons a b m) c = cellGet m c := by
    unfold cellCons
    split_ifs
    · rfl
    · simp only [cellGet, if_neg (show ¬ a = c by omega), if_neg (show ¬ c < a by omega)]
  induction m with
  | nil => exact hcons []
  | cons e m ih =>
    obtain ⟨k, v⟩ := e
    unfold cellPut
    split_ifs with hk hlt
    · rw [hcons]
      simp only [cellGet, if_neg (show ¬ k = c by omega), if_neg (show ¬ c < k by omega)]
    · exact hcons _
    · simp only [cellGet, ih]

/-- So does one of a byte other than 0 below it. -/
theorem cellGet_cellPut_nonzero (m : List Host.Cell) {a c : Nat} {b : Byte} (hb : b ≠ 0) (h : c ≠ a) :
    cellGet (cellPut m a b) c = cellGet m c := by
  obtain hc | hc : a < c ∨ c < a := by omega
  · exact cellGet_cellPut_above m b hc
  · induction m with
    | nil =>
      rw [cellPut, cellCons, if_neg hb]
      simp only [cellGet, if_neg h.symm, if_pos hc]
    | cons e m ih =>
      obtain ⟨k, v⟩ := e
      unfold cellPut cellCons
      split_ifs with hk hlt
      · simp only [cellGet, if_neg (show ¬ a = c by omega), if_neg (show ¬ k = c by omega), if_pos hc, if_pos (show c < k by omega)]
      · simp only [cellGet, if_neg (show ¬ a = c by omega), if_neg (show ¬ k = c by omega), if_pos hc, if_pos (show c < k by omega)]
      · simp only [cellGet, ih]

theorem guarded_cellPut (m : List Host.Cell) {a : Nat} {b : Byte} (hb : b ≠ 0) : Guarded a (cellPut m a b) := by
  induction m with
  | nil =>
    rw [cellPut, cellCons, if_neg hb]
    exact .inl rfl
  | cons e m ih =>
    obtain ⟨k, v⟩ := e
    unfold cellPut cellCons
    split_ifs with hk hlt
    · exact .inl rfl
    · exact .inl rfl
    · exact .inr ⟨by omega, ih⟩

/-- A write above a guard leaves it in its place, and what lies below it as it reads. -/
theorem Guarded.put {m : List Host.Cell} {g a : Nat} (b : Byte) (h : Guarded g m) (hg : g < a) :
    Guarded g (cellPut m a b) ∧ ∀ c < g, cellGet (cellPut m a b) c = cellGet m c := by
  induction m with
  | nil => exact h.elim
  | cons e m ih =>
    obtain ⟨k, v⟩ := e
    have hput : cellPut ((k, v) :: m) a b = (k, v) :: cellPut m a b := by
      have hk : k < a := h.elim (fun hk => hk ▸ hg) fun hk => hk.1.trans hg
      rw [cellPut, if_neg (by omega), if_neg (by omega)]
    rw [hput]
    obtain rfl | ⟨hk, hm⟩ := h
    · exact ⟨.inl rfl, fun c hc => by simp only [cellGet, if_neg (show ¬ k = c by omega), if_pos hc]⟩
    · obtain ⟨hguard, hget⟩ := ih hm
      exact ⟨.inr ⟨hk, hguard⟩, fun c hc => by simp only [cellGet, hget c hc]⟩

theorem Guarded.cellGet_cellWrite {m : List Host.Cell} {g a c : Nat} (bs : List Byte) (h : Guarded g m) (hg : g < a) (hc : c < g) :
    cellGet (cellWrite m a bs) c = cellGet m c := by
  induction bs generalizing m a with
  | nil => rfl
  | cons b bs ih =>
    obtain ⟨hguard, hget⟩ := h.put b hg
    exact (ih hguard (by omega)).trans (hget c hc)

theorem cellGet_cellWrite_above (m : List Host.Cell) {a c : Nat} (bs : List Byte) (h : a + bs.length ≤ c) :
    cellGet (cellWrite m a bs) c = cellGet m c := by
  induction bs generalizing m a with
  | nil => rfl
  | cons b bs ih =>
    rw [List.length_cons] at h
    exact (ih _ (by omega)).trans (cellGet_cellPut_above m b (by omega))

/-- A run that begins with a byte other than 0 leaves all outside it as it reads, even where the entries are out of order. -/
theorem cellGet_cellWrite_nonzero (m : List Host.Cell) {a c : Nat} {b : Byte} (bs : List Byte) (hb : b ≠ 0)
    (hc : c < a ∨ a + (bs.length + 1) ≤ c) : cellGet (cellWrite m a (b :: bs)) c = cellGet m c := by
  have hput : cellGet (cellPut m a b) c = cellGet m c := cellGet_cellPut_nonzero m hb (by omega)
  obtain hc | hc := hc
  · exact ((guarded_cellPut m hb).cellGet_cellWrite bs (Nat.lt_succ_self a) hc).trans hput
  · exact (cellGet_cellWrite_above _ bs (by omega)).trans hput

theorem State.corrupt_outside_of_nonzero (s : State) {sector a : Nat} (h : (Config.freeWord s.freeCtr).truncate 8 ≠ (0 : Byte))
    (ha : a / 64 ≠ sector) : cellGet (s.corrupt sector).mem.hbm a = cellGet s.mem.hbm a := by
  have hlen := freeBytes_length s.freeCtr
  rw [freeBytes_eq, List.length_cons] at hlen
  rw [s.corrupt_hbm, freeBytes_eq]
  exact cellGet_cellWrite_nonzero _ _ h (by omega)

theorem State.corrupt_outside_of_wf (s : State) {sector a : Nat} (h : s.hbmWf) (ha : a / 64 ≠ sector) :
    cellGet (s.corrupt sector).mem.hbm a = cellGet s.mem.hbm a := by
  rw [s.corrupt_hbm, cellGet_cellWrite _ _ _ h, freeBytes_length, if_neg (by omega)]

/-! ### When a sector passes wrong (log 131) -/

/-- A codeword that the code does not find uncorrectable passes, wrong on a free value alone. -/
theorem State.codeword_passes (s : State) {l : List Nat} (h : (s.codeword l).2 ≠ .uncorrectable) :
    (s.codeword l).1 = s ∧ (s.codeword l).2 ≠ .unnoticed
    ∨ (s.codeword l).1.freeCtr = s.freeCtr + 1 ∧ (Config.freeWord s.freeCtr).getLsbD 0 = true := by
  obtain hfew | hmany : badSymbols l ≤ 3 ∨ 4 ≤ badSymbols l := by omega
  · refine .inl ⟨?_, s.codeword_noticed hfew⟩
    obtain hl | hl | hl : badSymbols l = 0 ∨ badSymbols l = 1 ∨ (badSymbols l = 2 ∨ badSymbols l = 3) := by omega
    · rw [s.codeword_clean hl]
    · rw [s.codeword_corrected hl]
    · rw [s.codeword_uncorrectable hl]
  · rw [s.codeword_free hmany] at h ⊢
    refine .inr ⟨rfl, ?_⟩
    by_contra hbit
    exact h (if_neg hbit)

/-- A sector passes wrong only where the free value before the present one is odd. -/
theorem State.readSector_unnoticed (s : State) {e : SectorErrors} (h : (s.readSector e).2 = .unnoticed) :
    ∃ n, (s.readSector e).1.freeCtr = n + 1 ∧ (Config.freeWord n).getLsbD 0 = true := by
  have hfirst : (s.codeword e.first).2 ≠ .uncorrectable := fun hv => by
    rw [State.readSector, hv, Verdict.worse_left_uncorrectable] at h
    exact Verdict.noConfusion h
  have hsecond : ((s.codeword e.first).1.codeword e.second).2 ≠ .uncorrectable := fun hv => by
    rw [State.readSector, hv, Verdict.worse_right_uncorrectable] at h
    exact Verdict.noConfusion h
  obtain ⟨hkept, hnoticed⟩ | ⟨hctr, hbit⟩ := State.codeword_passes _ hsecond
  · obtain ⟨-, hclear⟩ | ⟨hctr, hbit⟩ := s.codeword_passes hfirst
    · exact absurd h (Verdict.worse_noticed hclear hnoticed)
    · exact ⟨_, (congrArg State.freeCtr hkept).trans hctr, hbit⟩
  · exact ⟨_, hctr, hbit⟩

/-- After a free value that lets a codeword pass wrong, the next gives a first byte other than 0. -/
def FreeHeadsNonzero : Prop :=
  ∀ n, (Config.freeWord n).getLsbD 0 = true → (Config.freeWord (n + 1)).truncate 8 ≠ (0 : Byte)

section Outside

variable {s : State} {e : SectorErrors} {a : Nat}

/-- The bytes outside a patrolled sector stay where the corruption of the sector leaves them. -/
theorem State.scrubbed_outside (h : s.patrolVerdict e = .unnoticed →
      cellGet ((s.patrolRead e).corrupt e.sector).mem.hbm a = cellGet (s.patrolRead e).mem.hbm a) :
    cellGet (s.scrubbed e).mem.hbm a = cellGet s.mem.hbm a := by
  by_cases hv : s.patrolVerdict e = .unnoticed
  · rw [(s.scrubbed_store e).hbm, hv, State.sectorError_unnoticed]
    have hread := (s.patrolRead_booked e).store.hbm
    split_ifs
    · rw [hread]
    · rw [h hv, hread]
  · rw [s.scrubbed_hbm e hv]

/-- In a memory in canonical form a patrol read touches no byte outside its sector, whatever the free values are. -/
theorem State.scrubbed_outside_of_wf (hwf : s.hbmWf) (ha : a / 64 ≠ e.sector) :
    cellGet (s.scrubbed e).mem.hbm a = cellGet s.mem.hbm a := by
  refine State.scrubbed_outside fun _ => State.corrupt_outside_of_wf _ ?_ ha
  rwa [State.hbmWf, (s.patrolRead_booked e).store.hbm]

/-- In any memory it touches none where the free values are so. -/
theorem State.scrubbed_outside_of_freeHeads (hfree : FreeHeadsNonzero) (ha : a / 64 ≠ e.sector) :
    cellGet (s.scrubbed e).mem.hbm a = cellGet s.mem.hbm a := by
  refine State.scrubbed_outside fun hv => State.corrupt_outside_of_nonzero _ ?_ ha
  obtain ⟨n, hctr, hbit⟩ := State.readSector_unnoticed _ hv
  rw [State.patrolRead, hctr]
  exact hfree n hbit

end Outside

/-! ### Refresh (R553) -/

/-- The machine in which a bank's row is closed. -/
def State.rowClosed (s : State) (stack channel pseudo bank : Nat) : State :=
  let x := s.pseudoOf ⟨stack, channel, pseudo, bank, 0, 0⟩
  s.putPseudo { x with rows := x.rows.filter fun b => b.1 != bank }

/-- The machine in which a bank's activations are no longer counted. -/
def State.activationsCleared (s : State) (stack channel pseudo bank : Nat) : State :=
  s.setMem { s.mem with
    activations := s.mem.activations.filter fun a => !(a.1 == stack && a.2.1 == (channel * 2 + pseudo) * 32 + bank) }

/-- A refresh of a bank of a live stack closes its row; a refresh-management command also clears its count. -/
theorem execRefresh_live {s : State} {stack channel pseudo bank : Nat} (hlive : s.ids.stackLive.getLsbD stack = true)
    (hchannel : channel < 32) (hpseudo : pseudo < 2) (hbank : bank < 32) (manage : Bool) :
    exec (.refresh stack channel pseudo bank manage) s = .next (if manage
      then (s.rowClosed stack channel pseudo bank).activationsCleared stack channel pseudo bank
      else s.rowClosed stack channel pseudo bank) := by
  have hdue : (s.ids.stackLive.getLsbD stack && decide (channel < 32) && decide (pseudo < 2) && decide (bank < 32)) = true := by
    simp [hlive, hchannel, hpseudo, hbank]
  show execRefresh _ _ _ _ _ s = _
  unfold execRefresh
  dsimp only
  rw [onEvent_of_true hdue]
  rfl

/-! ### What the statement about these events comes to -/

/-- Where the free values are so, every event is as stated, even in a memory whose entries are out of order. -/
theorem memoryEvents_of_freeHeads (hfree : FreeHeadsNonzero) : Obligations.MemoryEvents := by
  unfold Obligations.MemoryEvents
  intro s
  refine ⟨fun r hr hread hcls hwait => execReadAgePromote_promotes hr hread hcls hwait, fun e hin => ⟨_, execPatrolScrub_eq e hin, ?_⟩, ?_,
    fun x r l hrun hcrit => ⟨fun h => State.nextRead_crit hrun hcrit (.inl h), fun h => State.nextRead_crit hrun hcrit (.inr h)⟩, ?_, ?_⟩
  · refine ⟨⟨fun h k => ⟨?_, fun a => ?_⟩, fun h k hsum => State.scrubbed_corrects h k hsum, fun h k hbad hpoison hclear => ?_⟩,
      fun k hk => ?_, fun a ha => State.scrubbed_outside_of_freeHeads hfree ha, s.scrubbed_ctxs e⟩
    · rw [s.mem_poison_scrubbed e, State.patrolVerdict_uncorrectable_iff h k, and_iff_left rfl]
      rfl
    · rw [s.scrubbed_hbm e (State.readSector_noticed _ h k)]
    · exact State.scrubbed_poisons (State.readSector_uncorrectable _ h k hbad) hpoison hclear
    · rw [s.mem_poison_scrubbed e, or_iff_left fun h => hk h.2]
  · intro stack channel pseudo bank hlive hchannel hpseudo hbank
    exact ⟨execRefresh_live hlive hchannel hpseudo hbank false, execRefresh_live hlive hchannel hpseudo hbank true⟩
  · intro x l r hnext
    obtain ⟨hmem, hclosed⟩ := State.nextRead_spec hnext
    obtain ⟨hr, htop⟩ := mem_topReads.mp hmem
    exact ⟨hr, fun q hq => htop ▸ topRank_le hq,
      fun hrun hr q hq hcls => hclosed hrun hr q (mem_topReads.mpr ⟨hq, (congrArg MemClass.rank hcls).trans htop⟩)⟩
  · rintro _ _ w l hwaits rfl rfl
    exact ⟨fun hrate hlow => execBucketAdmission_short hwaits (Bucket.spend_short hrate hlow),
      fun hrate hlevel => (execBucketAdmission_enough hwaits (Bucket.spend_enough hrate hlevel)).1,
      fun hrate hlevel => (execBucketAdmission_enough hwaits (Bucket.spend_enough hrate hlevel)).2⟩

/-- Sector 1 with four bad symbols in a codeword. -/
def manyBad : SectorErrors := ⟨1, [0, 1, 2, 3], []⟩

/-- A memory whose second entry lies below the first, which hides it. -/
def hiddenCell (n : Nat) : State :=
  { State.reset with
    ids := { State.reset.ids with hbmGib := 1 }
    mem := { State.reset.mem with hbm := [(64, 1), (0, 7)] }
    freeCtr := n }

theorem hiddenCell_inHbm (n : Nat) : (hiddenCell n).inHbm (manyBad.sector * 64) 64 = true := by
  show decide (manyBad.sector * 64 + 64 ≤ 1 * 2 ^ 30) = true
  decide

theorem hiddenCell_readSector {n : Nat} (s : State) (hctr : s.freeCtr = n) (hbit : (Config.freeWord n).getLsbD 0 = true) :
    s.readSector manyBad = (s.setFreeCtr (n + 1), .unnoticed) := by
  have hfirst : s.codeword manyBad.first = (s.setFreeCtr (n + 1), .unnoticed) := by
    rw [s.codeword_free (l := manyBad.first) (by decide), State.fresh, hctr]
    simp only [hbit, if_true]
  rw [State.readSector, hfirst, State.codeword_clean _ (l := manyBad.second) (by decide)]
  rfl

/-- A first byte of 0 takes the entry in front out of that memory, and the hidden one comes to light. -/
theorem hiddenCell_scrubbed {n : Nat} (hbit : (Config.freeWord n).getLsbD 0 = true)
    (hzero : (Config.freeWord (n + 1)).truncate 8 = (0 : Byte)) : cellGet ((hiddenCell n).scrubbed manyBad).mem.hbm 0 = 7 := by
  have hread := hiddenCell_readSector ((hiddenCell n).patrolled 1) (State.patrolled_freeCtr _ 1) hbit
  have hverdict : (hiddenCell n).patrolVerdict manyBad = .unnoticed := congrArg Prod.snd hread
  have hctr : ((hiddenCell n).patrolRead manyBad).freeCtr = n + 1 := congrArg (·.1.freeCtr) hread
  have hstore := ((hiddenCell n).patrolRead_booked manyBad).store
  have hhbm : ((hiddenCell n).patrolRead manyBad).mem.hbm = [(64, 1), (0, 7)] := hstore.hbm
  have hpoison : ((hiddenCell n).patrolRead manyBad).mem.poison = [] := hstore.poison
  rw [((hiddenCell n).scrubbed_store manyBad).hbm, hverdict, State.sectorError_unnoticed, hpoison, if_neg (by decide), State.corrupt_hbm,
    hctr, hhbm, freeBytes_eq, hzero]
  have hout (bs : List Byte) : cellWrite [(64, 1), (0, 7)] (64 * manyBad.sector) (0 :: bs) = cellWrite [(0, 7)] 65 bs := rfl
  rw [hout]
  rw [cellGet_cellWrite _ _ _ (by decide), if_neg (by omega)]
  rfl

/-- What O43 comes to, which stays unsettled. It takes memories whose entries stand in any order, and in one of these a sector that the
code passes wrong can bring a hidden entry to light, where its first free byte is 0. So the statement holds if and only if the free
values are never so, and they are opaque: nothing can be proved of them (log 2, log 131). With `hbmWf`, which every step keeps, a patrol
read leaves the bytes outside its sector alone whatever they are (`State.scrubbed_outside_of_wf`). -/
theorem memoryEvents_iff_freeHeads : Obligations.MemoryEvents ↔ FreeHeadsNonzero := by
  refine ⟨fun h n hbit hzero => ?_, memoryEvents_of_freeHeads⟩
  obtain ⟨-, hpatrol, -⟩ := h (hiddenCell n)
  obtain ⟨t, hexec, -, -, houtside, -⟩ := hpatrol manyBad (hiddenCell_inHbm n)
  obtain rfl : (hiddenCell n).scrubbed manyBad = t := Host.Outcome.next.inj ((execPatrolScrub_eq manyBad (hiddenCell_inHbm n)).symm.trans hexec)
  have hget := houtside 0 (by decide)
  have hhidden : cellGet (hiddenCell n).mem.hbm 0 = 0 := rfl
  rw [hiddenCell_scrubbed hbit hzero, hhidden] at hget
  exact absurd hget (by decide)

end Sys2Proof.Machine
end
